-- ==== Sys2Proof/Word.lean ====
section
/-! DEFINITION. The word types of the KT1024 (R11, R255, R305) and their plainest arithmetic. -/

namespace Sys2Proof

/-- A 32-bit register (R11, level 5). -/
abbrev Word := BitVec 32
/-- A 16-bit Weevil word (R255). -/
abbrev Half := BitVec 16
/-- One byte of Comb, flash or a byte port. -/
abbrev Byte := BitVec 8
/-- A queue item (R305). -/
abbrev Item := BitVec 64

/-- Add one, saturating at `2^w - 1` (the saturating counters of the register tables). -/
def satInc (w n : Nat) : Nat := if n + 1 < 2 ^ w then n + 1 else 2 ^ w - 1

/-- Limit `x` to `[lo, hi]`. -/
def clampInt (lo hi x : Int) : Int := if x < lo then lo else if hi < x then hi else x

/-- Round `n / d` to the nearest integer, halves away from zero (the "round" of R236, R252). -/
def roundDiv (n d : Int) : Int :=
  if 0 ≤ n then (2 * n + d) / (2 * d) else - ((2 * (-n) + d) / (2 * d))

end Sys2Proof
end

