-- ==== Sys2Proof/Syntax.lean ====
section
/-! DEFINITION. The commands and events of the KT1024: one constructor of `Instr` per row of the
opcode table. The table gives its rows no operand bits, so the operands are the ones the rule of each
row names: the port that writes, the slot or channel, the words carried, and, for an event that
comes from outside the digital block (samples, edges, comparators, the estimator's arithmetic), what
was measured there (log entry 3). -/

namespace Sys2Proof

/-- A Weevil core: a Hive Weevil, the Warden or Glowworm (R254). -/
inductive Core where
  | hive (n : Fin 16)
  | warden
  | glow
  deriving DecidableEq, Repr

/-- The client through which a register access reaches the fabric (R24, R35, R327). -/
inductive Via where
  /-- the Warden for itself -/
  | warden
  /-- PCIe BAR0, written as the tenant in WTENANT -/
  | pcie
  /-- PCIe BAR2, which holds WTENANT and the MSI-X table (R329): page and offset make its byte offset -/
  | bar2
  /-- USB REGWR naming a write tenant -/
  | usb (t : Fin 4096)
  /-- SPI RWR, written as the tenant in SPI_WT -/
  | spi
  /-- the Warden on behalf of a tenant (REGWR of R321, Lenlis POKE) -/
  | behalf (t : Fin 4096)
  /-- a Hive Weevil -/
  | hive (n : Fin 16)
  /-- Glowworm, directly on the AON page and else through its bridge -/
  | glow
  deriving DecidableEq, Repr

/-- A holder of a register read latch (R38): each port and each Weevil. -/
inductive Reader where
  | pcie
  | usb
  | spi
  | core (c : Core)
  deriving DecidableEq, Repr

/-- The port a tenant is bound to (TN_STAT.PORT, R301). -/
inductive Port where
  | pcie
  | usb
  | spi
  | uart (n : Fin 4)
  | penEast
  | penWest
  deriving DecidableEq, Repr

/-- The two forms of a Weevil instruction without its op field (R261). -/
inductive Enc where
  | short (b : Byte)
  | long (mode : Byte) (w : Half)
  deriving DecidableEq, Repr

/-- Scarab's clock estimate (R191, R43): offset of the Sky Clock from GPS time in 2^-48 s, drift in
10^-15 s/s, standard deviation in ps. -/
structure ClockEst where
  offset : Int
  drift  : Int
  sdPs   : Nat
  deriving DecidableEq, Repr

/-- What the ephemeris and the estimated state give for one channel at an epoch (R187): elevation in 0.1 degree, geometric range
and its rate in 2^-20 m (per s), satellite clock in 2^-48 s and its drift in 10^-15 s/s, wet mapping in 2^-16, dry delay, slant
ionosphere at L1 and bias state in 2^-20 m, ambiguity in 2^-24 cycle. -/
structure SatGeo where
  ch : Fin 1024
  el : Int
  range : Int
  rate : Int
  satClk : Int
  satDrift : Int
  mapT : Int
  dry : Int
  iono : Int
  bias : Int
  amb : Int
  deriving DecidableEq, Repr

/-- A subset solution (R208): the satellite or whole system (PRN 0xFF) it leaves out; its separation from the full solution and its
deviation, horizontal and vertical in mm and on the clock in ps; the deviations of the separations; whether it passes its own tests. -/
structure SubsetIn where
  sys : Fin 8
  prn : Byte
  sep : Nat × Nat × Nat
  sd : Nat × Nat × Nat
  sepSd : Nat × Nat × Nat
  passes : Bool
  deriving DecidableEq, Repr

/-- The results of one full-filter update that only the estimator's arithmetic gives (R190 to R192, R206 to R208). -/
structure FullIn where
  geo       : List SatGeo
  clk       : ClockEst
  /-- system offsets, states 12 to 16, in 2^-48 s; wet zenith delay in 2^-20 m -/
  offs      : List Int
  wet       : Int
  posSdM    : Nat
  residOk   : Bool
  subs      : List SubsetIn
  /-- ambiguity sets in the order of R207: channels held, best residual, second best; fixed channels whose residual is above 0.25 cycle -/
  ambSets   : List (List (Fin 1024) × Nat × Nat)
  ambOff    : List (Fin 1024)
  headSd    : Nat
  att       : List Word
  /-- words of the solution record (R220): position and velocity, 0x14 to 0x37, and the deviations at 0x44 and 0x48 -/
  sol       : List Word
  latencyUs : Nat
  /-- on a follower: the master's solution record as it came (R210, R220), 32 words -/
  master    : List Word := []
  deriving DecidableEq, Repr

/-- What the core's state and the ephemeris give for one channel at a tick (R193, R194, R197, R209): range rate at the middle of the
next window in 2^-20 m/s, rate of the system offset and satellite clock drift in 10^-15 s/s, predicted code-phase error in 2^-40 chip,
the deviations of its two innovations in 2^-20 m, and the angle between measured and predicted arrival in 0.1 degree. -/
structure VecChan where
  ch       : Fin 1024
  rate     : Int
  offRate  : Int
  satDrift : Int
  codeErr  : Int
  sigC     : Nat
  sigF     : Nat
  doa      : Nat
  deriving DecidableEq, Repr

/-- What the state predicts for a coasting channel at the next boundary (R202): code phase and carrier phase, range rate and clock
rates as above. -/
structure CoastSet where
  ch       : Fin 1024
  cpi      : BitVec 25
  cpf      : Word
  carP     : Word
  rate     : Int
  offRate  : Int
  satDrift : Int
  deriving DecidableEq, Repr

/-- A decoded navigation message (R129, R221): the channel, time of its first symbol, its bits, first bit first. -/
structure NavMsg where
  ch     : Fin 1024
  t      : BitVec 96
  bits   : List Bool
  /-- D29* and D30* of the word before, for LNAV (R129) -/
  star   : Bool × Bool
  /-- a new issue of data, for SIG 5 and 7 (R229) -/
  newIod : Bool
  /-- the time it carries (R39, R215): bits of its week number, the week number, and the primary code periods that lay between the
  start of that week and the channel's start -/
  time   : Option (Nat × Nat × Int)
  /-- UTC parameters: CUR, NEXT and the instant of a pending leap (R40) -/
  utc    : Option (Byte × Byte × BitVec 96 × Bool)
  deriving DecidableEq, Repr

/-- An OSNMA verification result (R422). -/
inductive Osnma where
  | none
  | tagOk (prn : Byte)
  | tagFail (prn : Byte)
  | keyFail
  deriving DecidableEq, Repr, Inhabited

/-- The comparators of AON (R392), in bit order of AON_CTL.CEN. -/
inductive AonCmp where
  | vbat
  | vmain
  | mains
  | wake
  deriving DecidableEq, Repr

/-- The commands and events, one constructor per row of the opcode table (those a write gives come first). -/
inductive Instr where
  -- register pages and Sky Clock (R30 to R46)
  /-- the access to a register that has no row of its own: a write of `v`, or with none the read that a port makes of it (R479) -/
  | registerWrite (via : Via) (page : Fin 1024) (off : BitVec 12) (v : Option Word) (be : BitVec 4)
  | commit (via : Via) (page : Fin 1024)
  | srst (via : Via) (page : Fin 1024)
  | freeze (via : Via) (page : Fin 1024) (on : Bool)
  | nowT2Read (r : Reader)
  -- reads that a domain in ENTRY can hold back (R386), from their chapters' lists below
  | regrd (t : Fin 4096) (seq arg0 : Half) (ws : List Word)
  | usbRegrd (page : Fin 1024) (off : BitVec 12) (n : Nat)
  | peek (page : Fin 1024) (off : BitVec 12) (n : Nat)
  | dumpGridBoundary
  | epochBoundary (others : List (Fin 8 × List Word))
  | gridActivate
  | estimateTimeout
  | skyStep (via : Via)
  | leapApply
  | srcReturnSample
  | aonPeriodMeasure (period : BitVec 96)
  -- schedule table (R56 to R62, R236)
  | schedRead (via : Via)
  | schedWrite (via : Via)
  | schedDisarm (via : Via)
  | schedArmDone
  | entryFire (i : Fin 512)
  | pulseHandoff (i : Fin 512)
  | scrubVote
  -- RF paths, calibration, bias, coexistence (R67 to R86)
  | rfReq (via : Via) (p : Fin 8) (req : BitVec 3)
  | pathTransitionDone (p : Fin 8) (band : BitVec 5)
  | synthUnlock (p : Fin 8)
  | relockAttemptTimeout (p : Fin 8)
  | agcBlock (p : Fin 8)
  | calGo (via : Via) (mask : Byte)
  | coexGnt (level : Bool)
  | gntwaitTimeout
  | calBlock
  | calDone (results : List (Half × Half × Half))
  | autocalStart (g : Fin 2)
  | antbCtlWrite (via : Via) (n : Fin 4) (v : Word)
  | antbBlankEnd (n : Fin 4) (ua mv : Nat)
  | antbFaultDetect (n : Fin 4) (ua mv : Nat)
  | antbTrip (n : Fin 4) (ua : Nat)
  | coexTxactAssert
  | coexTxactRelease
  | blankTailEnd
  -- clocks (R90 to R98)
  | masterUnlock
  | referenceLoss
  | forcebyp (via : Via) (on : Bool)
  | referenceReturn
  | masterLock
  | bypassReturn
  | resumePoint
  | auxUnlock
  | auxLock
  | clkoutApply
  -- Sieve (R103 to R110)
  | notchDetect (p : Fin 8)
  | notchLost (p : Fin 8) (k : Fin 8)
  | iqBlock (p : Fin 8)
  | spectrumGo (via : Via)
  | spectrumDone
  -- signals (R127 to R129)
  | codeCopy (via : Via) (h : Fin 16)
  | codeCopyDone (h : Fin 16)
  | navMessage (m : NavMsg)
  -- Dragonfly (R137 to R151)
  | jobSubmit (via : Via)
  | jobAbort (via : Via) (slot : Fin 64)
  | abortall (via : Via)
  | dfHold (via : Via) (on : Bool)
  | captureStart (slot : Fin 64)
  | captureDone (slot : Fin 64)
  | binDone
  | jobDone
  | jsDoneClear (via : Via) (slot : Fin 64)
  | channelLockTimeout (ch : Fin 1024)
  -- Hives and Gather (R162 to R182)
  | chStart (via : Via) (ch : Fin 1024)
  | chStop (via : Via) (ch : Fin 1024)
  | hvStart (via : Via) (h : Fin 16) (mask : BitVec 64)
  | dmodeWrite (via : Via) (h : Fin 16) (d : Bool)
  | ncoWordWrite (via : Via) (ch : Fin 1024) (off : BitVec 8) (v : Word)
  | codeEpochDump (ch : Fin 1024)
  | gatherBlockWrite (h : Fin 16)
  | gatherFrameDone (cycles : Nat)
  | gaClrlat (via : Via)
  | lockEstimate (ch : Fin 1024)
  | cn0Estimate (ch : Fin 1024)
  | cn0Loss (ch : Fin 1024)
  | wvLoadGo (via : Via) (h : Fin 16)
  | wvRst (via : Via) (h : Fin 16)
  | wvRun (via : Via) (h : Fin 16) (on : Bool)
  -- Scarab (R183 to R209)
  | fullUpdate (u : FullIn)
  | fixLossTimeout
  | exclusionReadmit (sys : Fin 8) (prn : Byte)
  | vectorTick (chans : List VecChan) (singular : Bool) (cycles : Nat)
  | gholdExpiry
  | resetf (via : Via)
  | relall (via : Via)
  | modelLoad (via : Via)
  | modelCheckDone
  | coastRefresh (sets : List CoastSet)
  | coastTimeout
  | beamWeights (us : List (Fin 1024 × Int × Int × Int))
  | combinerWeights (g : Fin 2)
  -- measurements and frames (R225 to R232)
  | frameReceive (port : Port) (client : Fin 8) (bytes : List Byte)
  | rtcmInput (t : Fin 4096) (msg : List Byte)
  | baseEpochClose
  | authTimeout (prn : Byte)
  -- time pulses, stamps, mains, steering (R236 to R253)
  | tpEdge (n : Fin 2) (eAct eStb : Int) (switching : Bool)
  | tpTrailingEdge (n : Fin 2)
  | tpFltRelease (n : Fin 2)
  | rearm (via : Via) (n : Fin 2)
  | tpCtlWrite (via : Via) (n : Fin 2) (off : BitVec 4) (v : Word)
  | eventEdge (n : Fin 8) (rise : Bool) (j : Byte) (held since : Nat)
  | evPop (c : Core)
  | mainsCrossing (j : Byte) (high : Nat)
  | mnCtlWrite (via : Via) (v : Word)
  | steerUpdate
  | stampSend
  -- PCIe (R326 to R336)
  | windowPush (t : Fin 4096) (x : Item)
  | windowPop (t : Fin 4096)
  | outopMark (t : Fin 4096)
  | outopRewind (t : Fin 4096)
  | outopRelease (t : Fin 4096)
  | pcieQuench (t : Fin 4096) (on discard : Bool)
  | pcieGq (on : Bool)
  | openpush (x : Item)
  | openpop
  | dmaGo (via : Via) (n : Fin 4)
  | dmaDone (n : Fin 4) (host : List Byte)
  | pcieLinkDown (flr : Bool)
  -- SPI and xSPI (R343 to R348)
  | rwr (mode3 : Bool) (addr : BitVec 24) (ws : List Word) (cut : Bool)
  | rrd (mode3 : Bool) (addr : BitVec 24) (n : Nat)
  | fwr (mode3 : Bool) (bytes : List Byte)
  | frd (mode3 : Bool) (n : Nat)
  | spiQuench (via : Via) (v : Word)
  | xspiRead (via : Via)
  | xspiProgram (via : Via)
  | xspiErase4k (via : Via)
  | xspiErase64k (via : Via)
  | xspiDone (err : Bool)
  -- serial ports (R356 to R368)
  | uartCharReceived (u : Fin 4) (line : List Bool)
  | uartBreak (u : Fin 4) (low : Nat)
  | uTx (via : Via) (u : Fin 4) (data : BitVec 9)
  | uRx (c : Core) (u : Fin 4)
  | uartCharSent (u : Fin 4) (back : List Bool)
  | deRelease (u : Fin 4) (since : Nat)
  | busRetry (high : Nat)
  | uartSleepWake (u : Fin 4) (line : List Bool)
  -- power (R384 to R397)
  | pwCast (via : Via) (d : BitVec 6) (client : BitVec 13)
  | pwWithdraw (via : Via) (d : BitVec 6) (client : BitVec 13)
  | domainWakeDone (d : Fin 38)
  | entryAbortPoint (d : Fin 38)
  | thermSample (t : List Int)
  | dwellExpiry (flag : Fin 3)
  | backupEntry
  | wakeAlarm
  | wakePin
  | aonComparatorChange (k : AonCmp) (level : Bool)
  | aonGwreq
  | gwrst (via : Via)
  | gwld (via : Via)
  | gwldDone
  -- Ledger (R399 to R408)
  | meterTick (rails : List (Nat × Half × Half))
  | planningStep
  | vmainCut (j : Byte)
  | vmainReturn
  | reserveSpent
  | grantExpiry (slot : Fin 16)
  | grant (t : Fin 4096) (seq arg0 : Half) (ws : List Word)
  | shedpri (t : Fin 4096) (seq arg0 : Half) (ws : List Word)
  | sleep (t : Fin 4096) (seq arg0 : Half)
  -- Carapace (R418, R419)
  | cpSha256 (via : Via)
  | cpHmac (via : Via)
  | cpCmac (via : Via)
  | cpGcmenc (via : Via)
  | cpGcmdec (via : Via)
  | cpEcdsa256 (via : Via)
  | cpEcdsa521 (via : Via)
  | cpRandom (via : Via)
  | cpJobDone
  | cpDoneClear (via : Via) (slot : Fin 4)
  -- update and security commands (R427 to R430)
  | updopen (t : Fin 4096) (seq arg0 : Half) (ws : List Word)
  | upddata (t : Fin 4096) (seq arg0 : Half) (offset : Word) (bytes : List Byte)
  | updwrite (t : Fin 4096) (seq arg0 : Half)
  | flashWriteDone (bad : List (Nat × Byte))
  | updhover (t : Fin 4096) (seq arg0 : Half) (ws : List Word)
  | updabort (t : Fin 4096) (seq arg0 : Half)
  | handover
  | confirm (t : Fin 4096) (seq arg0 : Half)
  | crypto (t : Fin 4096) (seq arg0 : Half) (key : List Byte) (data : List Byte)
  | random (t : Fin 4096) (seq arg0 : Half)
  | osnmaroot (t : Fin 4096) (seq arg0 : Half) (root : List Byte)
  -- Archive (R432 to R439)
  | archiveRecordClose (src : Fin 25) (last : Bool) (taken : Nat)
  | extentFull (next : Option (BitVec 64 × Half))
  | arRestart (via : Via)
  | rpGo (via : Via) (n : Fin 8)
  | rpStop (via : Via) (n : Fin 8)
  -- Penholt (R441 to R452)
  | linkFrameReceive (west : Bool) (tick : Nat) (frame : List Byte)
  | trainingDone (west : Bool)
  | retrain (via : Via) (west : Bool)
  | ctrl (west : Bool) (client : Fin 8) (retrain on discard all : Bool) (t : Fin 4096)
  | time (west : Bool) (t : BitVec 96)
  | delayReq (west : Bool) (seq : Half) (t2 t3 : BitVec 96)
  | delayRsp (west : Bool) (seq : Half) (t1 t4 : BitVec 96) (turn : Int)
  | delayReqTimer
  | hello (west : Bool) (addr : Fin 8) (masteren : Bool) (role : Fin 3) (hops : List (Fin 8 × Fin 8))
  | slotdesc (west : Bool) (slot : Fin 7) (srcdev : Fin 8) (srcstr : Fin 24) (str : Word) (cald : Half) (hops : Fin 8) (tofs : Int)
  | group (west : Bool) (target src : Fin 8) (bytes : List Byte)
  | data (west : Bool) (target src : Fin 8) (bytes : List Byte)
  | peerLost (d : Fin 8)
  | masterClaim
  | syncPulse
  | masterLoss
  | synthRelock (p : Fin 8) (band : BitVec 5)
  | mainsGap
  | blockLockLoss (west : Bool)
  | uartBreakEnd (u : Fin 4)
  | pcieLinkUp (width gen : BitVec 4)
  | usbAttach
  -- Weevil instructions (R264)
  | nop (c : Core) (e : Enc)
  | wait (c : Core) (e : Enc)
  | ei (c : Core) (e : Enc)
  | di (c : Core) (e : Enc)
  | rts (c : Core) (e : Enc)
  | reti (c : Core) (e : Enc)
  | swap (c : Core) (e : Enc)
  | sex (c : Core) (e : Enc)
  | ldb (c : Core) (e : Enc)
  | mov (c : Core) (e : Enc)
  | jmpx (c : Core) (e : Enc)
  | jsrx (c : Core) (e : Enc)
  | jmp (c : Core) (e : Enc)
  | jsr (c : Core) (e : Enc)
  | fjmp (c : Core) (e : Enc)
  | fjsr (c : Core) (e : Enc)
  | lda (c : Core) (e : Enc)
  | lde (c : Core) (e : Enc)
  | ldx (c : Core) (e : Enc)
  | ldy (c : Core) (e : Enc)
  | sta (c : Core) (e : Enc)
  | ste (c : Core) (e : Enc)
  | stx (c : Core) (e : Enc)
  | sty (c : Core) (e : Enc)
  | add (c : Core) (e : Enc)
  | adc (c : Core) (e : Enc)
  | sub (c : Core) (e : Enc)
  | sbc (c : Core) (e : Enc)
  | and (c : Core) (e : Enc)
  | or (c : Core) (e : Enc)
  | xor (c : Core) (e : Enc)
  | cmp (c : Core) (e : Enc)
  | tst (c : Core) (e : Enc)
  | adx (c : Core) (e : Enc)
  | ady (c : Core) (e : Enc)
  | cpx (c : Core) (e : Enc)
  | mul (c : Core) (e : Enc)
  | mulu (c : Core) (e : Enc)
  | mac (c : Core) (e : Enc)
  | div (c : Core) (e : Enc)
  | shl (c : Core) (e : Enc)
  | shr (c : Core) (e : Enc)
  | sar (c : Core) (e : Enc)
  | rol (c : Core) (e : Enc)
  | dshl (c : Core) (e : Enc)
  | dsar (c : Core) (e : Enc)
  | sat (c : Core) (e : Enc)
  | neg (c : Core) (e : Enc)
  | btst (c : Core) (e : Enc)
  | par (c : Core) (e : Enc)
  | pare (c : Core) (e : Enc)
  | brev (c : Core) (e : Enc)
  | crcq (c : Core) (e : Enc)
  | crcc (c : Core) (e : Enc)
  | crcw (c : Core) (e : Enc)
  | abs (c : Core) (e : Enc)
  | bra (c : Core) (e : Enc)
  | bz (c : Core) (e : Enc)
  | bnz (c : Core) (e : Enc)
  | bn (c : Core) (e : Enc)
  | bnn (c : Core) (e : Enc)
  | bc (c : Core) (e : Enc)
  | bnc (c : Core) (e : Enc)
  | bv (c : Core) (e : Enc)
  | bnv (c : Core) (e : Enc)
  | bt (c : Core) (e : Enc)
  | bnt (c : Core) (e : Enc)
  | dbnz (c : Core) (e : Enc)
  | bge (c : Core) (e : Enc)
  | blt (c : Core) (e : Enc)
  | userInstruction (c : Core) (u : Fin 16) (e : Enc) (yields : Nat)
  | interruptEntry (c : Core)
  | weevilTimer (c : Core)
  | cwdWrite (v : Half)
  | ucLoad (via : Via)
  | ucLoadDone
  | ucSeal (via : Via)
  | cbClr (via : Via)
  -- tenant commands (R320): the tenant, its frame's SEQ, ARG0 and the words
  | tenantOpen (port : Port) (client : Fin 8) (t : Fin 4096) (seq arg0 : Half) (ws : List Word)
  | tenantClose (t : Fin 4096) (seq arg0 : Half)
  | tenantReset (t : Fin 4096) (seq arg0 : Half)
  | credit (t : Fin 4096) (seq arg0 : Half)
  | quench (t : Fin 4096) (seq arg0 : Half) (ws : List Word)
  | subscribe (t : Fin 4096) (seq arg0 : Half) (ws : List Word) (place : Option (Fin 1024))
  | unsub (t : Fin 4096) (seq arg0 : Half)
  | pin (t : Fin 4096) (seq arg0 : Half) (ws : List Word)
  | unpin (t : Fin 4096) (seq arg0 : Half)
  | base (t : Fin 4096) (seq arg0 : Half)
  | vote (t : Fin 4096) (seq arg0 : Half)
  | regwr (t : Fin 4096) (seq arg0 : Half) (ws : List Word)
  | search (t : Fin 4096) (seq arg0 : Half) (ws : List Word)
  | spectrum (t : Fin 4096) (seq arg0 : Half)
  | sched (t : Fin 4096) (seq arg0 : Half) (ws : List Word)
  | unsched (t : Fin 4096) (seq arg0 : Half)
  | model (t : Fin 4096) (seq arg0 : Half) (ws : List Word)
  | ucload (t : Fin 4096) (seq arg0 : Half) (ws : List Word)
  | cleanupDone (t : Fin 4096)
  | clientLoss (port : Port) (client : Fin 8)
  | tnRead (via : Via)
  | tnReset (via : Via)
  | tnClose (via : Via)
  | tnQuench (via : Via)
  | tnQuenchDiscard (via : Via)
  | tnUnquench (via : Via)
  | globalQuench (via : Via) (on : Bool)
  -- queue engine (R308 to R315)
  | queuePush (via : Via) (hi : Word)
  | queuePop (c : Core)
  | qwaitExpiry
  | mark (via : Via)
  | rewind (via : Via)
  | release (via : Via)
  | batchopen (via : Via)
  | batchclose (via : Via)
  | flush (via : Via)
  | nextinRead (r : Reader)
  -- USB (R339 to R342)
  | usbRegwr (page : Fin 1024) (off : BitVec 12) (t : Half) (ws : List Word)
  | usbRegwrCommit
  | usbQuench (v : Half) (t : Half)
  | usbOpen (frame : List Byte)
  | openrd
  | qstat (t : Half)
  | setConfiguration (v : Byte)
  | usbBusReset
  | usbDetach
  | ep1OutMessage (items : List Item) (whole : Bool)
  | ep1InAck
  -- Lenlis (R370 to R372)
  | lenId
  | poke (page : Fin 1024) (off : BitVec 12) (v : Word)
  | dq (t : Fin 4096) (outbound : Bool) (n : Nat)
  | lenLog (n : Nat)
  | dom
  | votes (d : Nat)
  | ledger
  | unlock (arg : Option (List Char))
  | load (b : Nat) (crc : Word)
  | loadImageDone
  | lenlisConfirm
  | baud (r : Nat)
  | lenFrame
  | reboot
  | unlockTimeout
  -- Cicada (R375 to R380)
  | cicadaTakeRaise
  | coalesceWindowClose (src : Fin 1152)
  | clClr (via : Via)
  -- reset and boot (R409 to R414, R473)
  | vbatPowerOn
  | por
  | strapSample (bootsel : BitVec 2) (devaddr : BitVec 3) (refsel : BitVec 2) (service : Bool)
  | boot
  | imageEntry (tms : Half)
  | devrst (via : Via)
  | wardenRestart (cause : Byte)
  | watchdogExpiry
  | wdkick (via : Via) (key : Half)
  | servicePress
  | serviceStuck
  | serviceUnstuck
  | blData (via : Via) (d : Word)
  | blGo (via : Via)
  deriving DecidableEq, Repr

end Sys2Proof
end

