-- ==== Sys2Proof/WellFormed.lean ====
section
/-! DEFINITION. What a well-formed command is beyond the types of its operands: aligned offsets, counts in range, and lists
that name a channel, path or group once. -/

namespace Sys2Proof

/-- The offset of a whole register (R24). -/
def wordOff (off : BitVec 12) : Bool := decide (off.toNat % 4 = 0)

/-- The words of a CMD frame after OP and ARG0 (R222, R319). -/
def cmdWords (ws : List Word) : Bool := decide (4 + 4 * ws.length ≤ 65535)

/-- No number stands twice. -/
def distinct : List Nat → Bool
  | [] => true
  | n :: r => !r.contains n && distinct r

/-- A well-formed command. -/
def Instr.wf : Instr → Bool
  | .registerWrite via page off _ _ => wordOff off && (via ≠ .bar2 || decide (page.val * 4096 + off.toNat < 0x80400))
  | .commit _ _ => true
  | .srst _ _ => true
  | .freeze _ _ _ => true
  | .nowT2Read _ => true
  | .regrd _ _ _ ws => cmdWords ws
  | .usbRegrd _ _ _ => true
  | .peek _ _ _ => true
  | .dumpGridBoundary => true
  | .epochBoundary others => distinct (others.map fun x => x.1.val)
  | .gridActivate => true
  | .estimateTimeout => true
  | .skyStep _ => true
  | .leapApply => true
  | .srcReturnSample => true
  | .aonPeriodMeasure _ => true
  | .schedRead _ => true
  | .schedWrite _ => true
  | .schedDisarm _ => true
  | .schedArmDone => true
  | .entryFire _ => true
  | .pulseHandoff _ => true
  | .scrubVote => true
  | .rfReq _ _ _ => true
  | .pathTransitionDone _ _ => true
  | .synthUnlock _ => true
  | .relockAttemptTimeout _ => true
  | .agcBlock _ => true
  | .calGo _ _ => true
  | .coexGnt _ => true
  | .gntwaitTimeout => true
  | .calBlock => true
  | .calDone results => decide (results.length ≤ 8)
  | .autocalStart _ => true
  | .antbCtlWrite _ _ _ => true
  | .antbBlankEnd _ _ _ => true
  | .antbFaultDetect _ _ _ => true
  | .antbTrip _ _ => true
  | .coexTxactAssert => true
  | .coexTxactRelease => true
  | .blankTailEnd => true
  | .masterUnlock => true
  | .referenceLoss => true
  | .forcebyp _ _ => true
  | .referenceReturn => true
  | .masterLock => true
  | .bypassReturn => true
  | .resumePoint => true
  | .auxUnlock => true
  | .auxLock => true
  | .clkoutApply => true
  | .notchDetect _ => true
  | .notchLost _ _ => true
  | .iqBlock _ => true
  | .spectrumGo _ => true
  | .spectrumDone => true
  | .codeCopy _ _ => true
  | .codeCopyDone _ => true
  | .navMessage _ => true
  | .jobSubmit _ => true
  | .jobAbort _ _ => true
  | .abortall _ => true
  | .dfHold _ _ => true
  | .captureStart _ => true
  | .captureDone _ => true
  | .binDone => true
  | .jobDone => true
  | .jsDoneClear _ _ => true
  | .channelLockTimeout _ => true
  | .chStart _ _ => true
  | .chStop _ _ => true
  | .hvStart _ _ _ => true
  | .dmodeWrite _ _ _ => true
  | .ncoWordWrite _ _ off _ => decide (off.toNat % 4 = 0)
  | .codeEpochDump _ => true
  | .gatherBlockWrite _ => true
  | .gatherFrameDone _ => true
  | .gaClrlat _ => true
  | .lockEstimate _ => true
  | .cn0Estimate _ => true
  | .cn0Loss _ => true
  | .wvLoadGo _ _ => true
  | .wvRst _ _ => true
  | .wvRun _ _ _ => true
  | .fullUpdate u => distinct (u.geo.map fun x => x.ch.val) && decide (u.offs.length = 5)
  | .fixLossTimeout => true
  | .exclusionReadmit _ _ => true
  | .vectorTick chans _ _ => distinct (chans.map fun x => x.ch.val)
  | .gholdExpiry => true
  | .resetf _ => true
  | .relall _ => true
  | .modelLoad _ => true
  | .modelCheckDone => true
  | .coastRefresh sets => distinct (sets.map fun x => x.ch.val)
  | .coastTimeout => true
  | .beamWeights us => distinct (us.map fun x => x.1.val)
  | .combinerWeights _ => true
  | .frameReceive _ _ _ => true
  | .rtcmInput _ _ => true
  | .baseEpochClose => true
  | .authTimeout _ => true
  | .tpEdge _ _ _ _ => true
  | .tpTrailingEdge _ => true
  | .tpFltRelease _ => true
  | .rearm _ _ => true
  | .tpCtlWrite _ _ off _ => decide (off.toNat % 4 = 0)
  | .eventEdge _ _ _ _ _ => true
  | .evPop _ => true
  | .mainsCrossing _ _ => true
  | .mnCtlWrite _ _ => true
  | .steerUpdate => true
  | .stampSend => true
  | .windowPush _ _ => true
  | .windowPop _ => true
  | .outopMark _ => true
  | .outopRewind _ => true
  | .outopRelease _ => true
  | .pcieQuench _ _ _ => true
  | .pcieGq _ => true
  | .openpush _ => true
  | .openpop => true
  | .dmaGo _ _ => true
  | .dmaDone _ _ => true
  | .pcieLinkDown _ => true
  | .rwr _ _ _ _ => true
  | .rrd _ _ _ => true
  | .fwr _ _ => true
  | .frd _ _ => true
  | .spiQuench _ _ => true
  | .xspiRead _ => true
  | .xspiProgram _ => true
  | .xspiErase4k _ => true
  | .xspiErase64k _ => true
  | .xspiDone _ => true
  | .uartCharReceived _ _ => true
  | .uartBreak _ _ => true
  | .uTx _ _ _ => true
  | .uRx _ _ => true
  | .uartCharSent _ _ => true
  | .deRelease _ _ => true
  | .busRetry _ => true
  | .uartSleepWake _ _ => true
  | .pwCast _ d _ => decide (d.toNat < 38)
  | .pwWithdraw _ d _ => decide (d.toNat < 38)
  | .domainWakeDone _ => true
  | .entryAbortPoint _ => true
  | .thermSample t => decide (t.length = 4)
  | .dwellExpiry _ => true
  | .backupEntry => true
  | .wakeAlarm => true
  | .wakePin => true
  | .aonComparatorChange _ _ => true
  | .aonGwreq => true
  | .gwrst _ => true
  | .gwld _ => true
  | .gwldDone => true
  | .meterTick rails => decide (rails.length = 7)
  | .planningStep => true
  | .vmainCut _ => true
  | .vmainReturn => true
  | .reserveSpent => true
  | .grantExpiry _ => true
  | .grant _ _ _ ws => cmdWords ws
  | .shedpri _ _ _ ws => cmdWords ws
  | .sleep _ _ _ => true
  | .cpSha256 _ => true
  | .cpHmac _ => true
  | .cpCmac _ => true
  | .cpGcmenc _ => true
  | .cpGcmdec _ => true
  | .cpEcdsa256 _ => true
  | .cpEcdsa521 _ => true
  | .cpRandom _ => true
  | .cpJobDone => true
  | .cpDoneClear _ _ => true
  | .updopen _ _ _ ws => cmdWords ws
  | .upddata _ _ _ _ bytes => decide (bytes.length ≤ 65527)
  | .updwrite _ _ _ => true
  | .flashWriteDone _ => true
  | .updhover _ _ _ ws => cmdWords ws
  | .updabort _ _ _ => true
  | .handover => true
  | .confirm _ _ _ => true
  | .crypto _ _ _ _ _ => true
  | .random _ _ _ => true
  | .osnmaroot _ _ _ root => decide (root.length = 32)
  | .archiveRecordClose _ _ _ => true
  | .extentFull _ => true
  | .arRestart _ => true
  | .rpGo _ _ => true
  | .rpStop _ _ => true
  | .linkFrameReceive _ _ _ => true
  | .trainingDone _ => true
  | .retrain _ _ => true
  | .ctrl _ _ _ _ _ _ _ => true
  | .time _ _ => true
  | .delayReq _ _ _ _ => true
  | .delayRsp _ _ _ _ _ => true
  | .delayReqTimer => true
  | .hello _ _ _ _ _ => true
  | .slotdesc _ _ _ _ _ _ _ _ => true
  | .group _ _ _ _ => true
  | .data _ _ _ _ => true
  | .peerLost _ => true
  | .masterClaim => true
  | .syncPulse => true
  | .masterLoss => true
  | .synthRelock _ _ => true
  | .mainsGap => true
  | .blockLockLoss _ => true
  | .uartBreakEnd _ => true
  | .pcieLinkUp _ _ => true
  | .usbAttach => true
  | .nop _ _ => true
  | .wait _ _ => true
  | .ei _ _ => true
  | .di _ _ => true
  | .rts _ _ => true
  | .reti _ _ => true
  | .swap _ _ => true
  | .sex _ _ => true
  | .ldb _ _ => true
  | .mov _ _ => true
  | .jmpx _ _ => true
  | .jsrx _ _ => true
  | .jmp _ _ => true
  | .jsr _ _ => true
  | .fjmp _ _ => true
  | .fjsr _ _ => true
  | .lda _ _ => true
  | .lde _ _ => true
  | .ldx _ _ => true
  | .ldy _ _ => true
  | .sta _ _ => true
  | .ste _ _ => true
  | .stx _ _ => true
  | .sty _ _ => true
  | .add _ _ => true
  | .adc _ _ => true
  | .sub _ _ => true
  | .sbc _ _ => true
  | .and _ _ => true
  | .or _ _ => true
  | .xor _ _ => true
  | .cmp _ _ => true
  | .tst _ _ => true
  | .adx _ _ => true
  | .ady _ _ => true
  | .cpx _ _ => true
  | .mul _ _ => true
  | .mulu _ _ => true
  | .mac _ _ => true
  | .div _ _ => true
  | .shl _ _ => true
  | .shr _ _ => true
  | .sar _ _ => true
  | .rol _ _ => true
  | .dshl _ _ => true
  | .dsar _ _ => true
  | .sat _ _ => true
  | .neg _ _ => true
  | .btst _ _ => true
  | .par _ _ => true
  | .pare _ _ => true
  | .brev _ _ => true
  | .crcq _ _ => true
  | .crcc _ _ => true
  | .crcw _ _ => true
  | .abs _ _ => true
  | .bra _ _ => true
  | .bz _ _ => true
  | .bnz _ _ => true
  | .bn _ _ => true
  | .bnn _ _ => true
  | .bc _ _ => true
  | .bnc _ _ => true
  | .bv _ _ => true
  | .bnv _ _ => true
  | .bt _ _ => true
  | .bnt _ _ => true
  | .dbnz _ _ => true
  | .bge _ _ => true
  | .blt _ _ => true
  | .userInstruction _ _ _ _ => true
  | .interruptEntry _ => true
  | .weevilTimer _ => true
  | .cwdWrite _ => true
  | .ucLoad _ => true
  | .ucLoadDone => true
  | .ucSeal _ => true
  | .cbClr _ => true
  | .tenantOpen _ _ _ _ _ ws => cmdWords ws
  | .tenantClose _ _ _ => true
  | .tenantReset _ _ _ => true
  | .credit _ _ _ => true
  | .quench _ _ _ ws => cmdWords ws
  | .subscribe _ _ _ ws _ => cmdWords ws
  | .unsub _ _ _ => true
  | .pin _ _ _ ws => cmdWords ws
  | .unpin _ _ _ => true
  | .base _ _ _ => true
  | .vote _ _ _ => true
  | .regwr _ _ _ ws => cmdWords ws
  | .search _ _ _ ws => cmdWords ws
  | .spectrum _ _ _ => true
  | .sched _ _ _ ws => cmdWords ws
  | .unsched _ _ _ => true
  | .model _ _ _ ws => cmdWords ws
  | .ucload _ _ _ ws => cmdWords ws
  | .cleanupDone _ => true
  | .clientLoss _ _ => true
  | .tnRead _ => true
  | .tnReset _ => true
  | .tnClose _ => true
  | .tnQuench _ => true
  | .tnQuenchDiscard _ => true
  | .tnUnquench _ => true
  | .globalQuench _ _ => true
  | .queuePush _ _ => true
  | .queuePop _ => true
  | .qwaitExpiry => true
  | .mark _ => true
  | .rewind _ => true
  | .release _ => true
  | .batchopen _ => true
  | .batchclose _ => true
  | .flush _ => true
  | .nextinRead _ => true
  | .usbRegwr _ _ _ _ => true
  | .usbRegwrCommit => true
  | .usbQuench _ _ => true
  | .usbOpen frame => decide (frame.length ≤ 128)
  | .openrd => true
  | .qstat _ => true
  | .setConfiguration _ => true
  | .usbBusReset => true
  | .usbDetach => true
  | .ep1OutMessage _ _ => true
  | .ep1InAck => true
  | .lenId => true
  | .poke _ off _ => wordOff off
  | .dq _ _ _ => true
  | .lenLog _ => true
  | .dom => true
  | .votes d => decide (d < 38)
  | .ledger => true
  | .unlock _ => true
  | .load _ _ => true
  | .loadImageDone => true
  | .lenlisConfirm => true
  | .baud _ => true
  | .lenFrame => true
  | .reboot => true
  | .unlockTimeout => true
  | .cicadaTakeRaise => true
  | .coalesceWindowClose _ => true
  | .clClr _ => true
  | .vbatPowerOn => true
  | .por => true
  | .strapSample _ _ _ _ => true
  | .boot => true
  | .imageEntry _ => true
  | .devrst _ => true
  | .wardenRestart _ => true
  | .watchdogExpiry => true
  | .wdkick _ _ => true
  | .servicePress => true
  | .serviceStuck => true
  | .serviceUnstuck => true
  | .blData _ _ => true
  | .blGo _ => true

end Sys2Proof
end

