-- ==== Sys2Proof/Config.lean ====
section
/-! DEFINITION. What the spec leaves open as a value, as uninterpreted constants (nothing in Lean knows a
value of one), and the functions of outside standards the spec names without writing out: ciphers, signatures
and logarithms. A statement about them holds for every such function. -/

namespace Sys2Proof.Config

/-- The true random number generator (R418, R420): word `n` it gives (log entry 5). -/
opaque trng : Nat → BitVec 32
/-- The micro-store of a core after power-up, which the spec leaves undefined (R288). -/
opaque microInit : Nat → Nat → BitVec 64
/-- A value the spec leaves unspecified where an instruction or engine goes on: the `n`-th such value. -/
opaque freeValue : Nat → Nat
/-- The always-on oscillators against the time base (R46): whether a sample tick is a BYPCLK cycle too, and whether a tick of the
time base is one of 32.768 kHz too, at a fabric cycle (log entry 33). -/
opaque bypEdge : Nat → Bool
opaque tick32 : Nat → Bool
/-- SHA-256 of bytes. -/
opaque sha256 : List (BitVec 8) → List (BitVec 8)
/-- HMAC-SHA-256 of bytes under a key. -/
opaque hmac : List (BitVec 8) → List (BitVec 8) → List (BitVec 8)
/-- AES-CMAC of bytes under a key. -/
opaque cmac : List (BitVec 8) → List (BitVec 8) → List (BitVec 8)
/-- AES-GCM encryption (key, nonce and data): ciphertext and tag. -/
opaque gcmEnc : List (BitVec 8) → List (BitVec 8) → List (BitVec 8)
/-- AES-GCM decryption (key, nonce, data and tag): the plaintext, none when the tag does not match. -/
opaque gcmDec : List (BitVec 8) → List (BitVec 8) → Option (List (BitVec 8))
/-- ECDSA verification on P-256 or P-521: public key, hash, signature. -/
opaque ecdsa : Nat → List (BitVec 8) → List (BitVec 8) → List (BitVec 8) → Bool
/-- What the antenna and the analogue stages give a path's converters (R67, R71, R77): path, sample tick, N of its LO, filter code,
and in TRANSMIT the injector's INJN, LVL and G2DLY: I and Q at 30 dB of conversion gain, in 2^-16 LSB. -/
opaque rf : Nat → Nat → Nat → Nat → Option (Nat × Nat × Nat) → Int × Int
/-- The record the host's memory holds at an archive address, if the host has delivered it by a sample tick (R439). -/
opaque hostRecord : Nat → Nat → Option (List (BitVec 8))
/-- The decimation filter (R116): half its length and its taps in 2^-30, by decimation and distance from the centre; the spec states
what it passes and stops, not its taps. -/
opaque decimHalf : Nat → Nat
opaque decimTap : Nat → Int → Int
/-- The codes the signals' interface specifications define, which the spec names without writing out (R123, R124): a chip of a
generated primary code and of a built-in secondary code, by signal, pilot or data component, PRN and index; true stands for -1. -/
opaque gChip : Nat → Bool → Nat → Nat → Bool
opaque secChip : Nat → Bool → Nat → Nat → Bool
/-- The preamble of a signal's navigation message as signs, true for -1, and the symbols from one to the next (R180), which the
signal's interface specification gives. -/
opaque preamble : Nat → List Bool
opaque frameSyms : Nat → Nat
/-- What the engine's power unit is worth in squared correlation units, less one, for a descriptor (R144); and the memory codes an
image's body carries, as the 1,868 units of the code table (R128, R295). -/
opaque powerUnit : List (BitVec 32) → Nat
opaque imageCodes : List (BitVec 8) → List (BitVec 8)
/-- Stands for a stream's sigma before its first block with GOOD samples, as a mean square in 2^-32 (R119). -/
opaque sigma0 : Nat → Nat
/-- Eigenvalues, greatest first, and eigenvectors of unit length in 2^-30 of a Hermitian matrix given by rows (R114). -/
opaque eigen : List (List (Int × Int)) → List (Nat × List (Int × Int))
/-- The variance of a measurement (R187), in 2^-20 m^2: sigma0 squared, and the thermal term by C/N0; the spec gives neither. -/
opaque sigma0m : Nat
opaque thermal : Nat → Nat
/-- K_fa and K_md of R208 in 2^-16, from PFA or PHMI and the number of subsets. -/
opaque kFa : Nat → Nat → Nat
opaque kMd : Nat → Nat → Nat
/-- The Mehraro P-521 key held in the ROM (R424). -/
opaque romKey : List (BitVec 8)
/-- Epochs between MSM messages, and full updates between NMEA sentences (R230, R233): the spec gives no value. -/
opaque msmEpochs : Nat
opaque nmeaUpdates : Nat
/-- An MSM7 message (RTCM 3): message number, multiple-message bit, epoch time and the entries it carries (R213 words). -/
opaque msm7 : Nat → Bool → Nat → List (List (BitVec 32)) → List (BitVec 8)
/-- NMEA 0183 sentences of a kind (R233 to R235): kind; GGA quality and RMC status, mode and navigational status; solution record; UTC
in 2^-48 s when known; age of the base epoch in s; its station ID; and the number of the update (for what only the estimator knows:
satellites in view and used). -/
opaque nmea : Nat → Nat × List (BitVec 8) → List (BitVec 32) → Option Nat → Option Nat → Option Nat → Nat → List (List (BitVec 8))
/-- What the OSNMA interface specification makes of the newest of the page pairs passed so far (R422): Merkle root; PRN, time and bits
of each pair, newest first. -/
opaque osnma : Option (List (BitVec 8)) → List (Nat × Nat × List Bool) → Osnma
/-- The boot flash on the board, as its SFDP tables describe it (R347): size in MiB, and 8D-8D-8D not described. -/
opaque flashMib : Nat
opaque flashSdr : Bool
/-- The RF paths the image configures (R415): its content is the vendor's. -/
opaque rfConfigured : Nat → Bool
/-- The SERVICE ball as the device samples it, by fabric cycle: true while it is asserted (R413). -/
opaque serviceBall : Nat → Bool
/-- Penholt control words (R444): the CWORD of a type whose layout the spec does not give, from its content; and whether the port queues a
HELLO (true) or TIMELO word (false) with its n-th frame: the spec gives no pace. -/
opaque cword : Nat → List Nat → BitVec 64
opaque wordDue : Bool → Nat → Nat → Bool
/-- The board's VIO2 stands above 2.5 V (CLKOUT_STAT.VIO2HI). -/
opaque vio2hi : Bool

end Sys2Proof.Config
end

