-- ==== Sys2Proof/Machine/Tab.lean ====
section
/-! DEFINITION. Sparse tables in one canonical form: keys strictly rising, and no entry equal to what an
unlisted key reads as. Comb, the flash, the register values and every numbered context are held so. -/

namespace Sys2Proof.Machine

/-- A sparse table: (key, value) pairs. -/
abbrev Tab (α : Type) := List (Nat × α)

variable {α : Type}

/-- The value at a key; `d` is what an unlisted key reads as. -/
def Tab.get (d : Nat → α) : Tab α → Nat → α
  | [], k => d k
  | (j, v) :: r, k => if j = k then v else Tab.get d r k

/-- Put `v` at key `k`, keeping the keys rising. -/
def Tab.insert (k : Nat) (v : α) : Tab α → Tab α
  | [] => [(k, v)]
  | (j, w) :: r => if k < j then (k, v) :: (j, w) :: r
      else if j = k then (k, v) :: r else (j, w) :: Tab.insert k v r

/-- Take every entry with key `k` out. -/
def Tab.erase (k : Nat) (t : Tab α) : Tab α := t.filter fun e => e.1 ≠ k

/-- Write `v` at key `k`; writing what an unlisted key reads as removes the entry. -/
def Tab.set [DecidableEq α] (d : Nat → α) (t : Tab α) (k : Nat) (v : α) : Tab α :=
  if v = d k then Tab.erase k t else Tab.insert k v t

/-- Take every entry out whose key satisfies `p` (they read as unlisted again). -/
def Tab.clear (p : Nat → Bool) (t : Tab α) : Tab α := t.filter fun e => !p e.1

/-- Strictly rising keys, all above `lo`. -/
def Tab.rising : Option Nat → Tab α → Bool
  | _, [] => true
  | lo, (j, _) :: r => (match lo with | none => true | some l => decide (l < j)) && Tab.rising (some j) r

/-- The canonical form. -/
def Tab.wf [DecidableEq α] (d : Nat → α) (t : Tab α) : Bool :=
  Tab.rising none t && t.all fun e => decide (e.2 ≠ d e.1)

end Sys2Proof.Machine
end

