-- ==== Sys2Proof/Machine/State.lean ====
section
/-! DEFINITION. The state of the KT1024 as plain data: the value of every register, and beside the registers
every piece of state the chapters give the part. Each structure is one chapter's; each field's default is its
value at reset, so `State.reset` is every field at its default. -/

namespace Sys2Proof.Machine

/-- Why a command stops the machine. The spec gives no command an effect that stops the part, so no meaning
raises a fault: the type has the one name it must have. -/
inductive Fault where
  /-- raised by no command (safe) -/
  | noFault
  deriving DecidableEq, Repr

/-- Why a command is refused by the model. -/
inductive Refusal where
  /-- the command has no meaning yet; raised by an arm of `exec` only (safe) -/
  | notModelled (mnemonic : String)
  deriving DecidableEq, Repr

-- 03 Sky Clock and schedule

/-- The Sky Clock beside its registers (R37 to R48, R474). -/
structure SkySt where
  /-- Sky Clock time with its 32 carried bits, in 2^-80 s, below 2^128 (R37, R41) -/
  time : Nat := 0
  /-- the 64-bit sample counter (R41) -/
  smp : Nat := 0
  /-- a sample tick has been made since PORn (R41) -/
  started : Bool := false
  /-- I_A, the holdover increment in 2^-48 s per 32.768 kHz tick (R46) -/
  iA : Nat := 2 ^ 33
  /-- the AON holdover counter, 2^-48 s (R48) -/
  aon : Nat := 0
  /-- while SRC = AON: the value at the last 32.768 kHz tick, or of the last sample tick before the first, 2^-48 s; BYPCLK
  cycles since; the first 32.768 kHz tick after the change is still to come (R46) -/
  anchor : Nat := 0
  c : Nat := 0
  first : Bool := false
  /-- BYPCLK cycles since the last 32.768 kHz tick, whether such a tick has come since MGMT powered up, and N_prev (R46) -/
  n32 : Nat := 0
  seen32 : Bool := false
  nPrev : Option Nat := none
  /-- the time before the last tick of the time base, 2^-48 s (R59) -/
  prev : Nat := 0
  /-- commanded steps waiting for the next sample tick, 2^-48 s (R44) -/
  stepReq : List Int := []
  /-- INC at the rate of the last drift estimate, in 2^-80 s (R45); nominal until there is one -/
  base : Nat := 0x1A3D7247AE2EB8
  /-- the last master time, 2^-80 s, and the sample counter then (R45) -/
  master : Option (Nat × Nat) := none
  /-- the part of a phase correction the slew has yet to make, 2^-80 s (R45) -/
  slewLeft : Int := 0
  /-- the conditions of TIMEERR (R474) -/
  ofs : Bool := false
  clip : Bool := false
  /-- a GRID value waiting, and the whole second it waits for, 2^-48 s (R51) -/
  gridPend : Option (Word × Nat) := none
  /-- UNC when HOLDOVER was entered, ns, and its growth in 10^-9 * 2^-80 s (R47) -/
  uncBase : Nat := 0xFFFFFFFF
  uncAcc : Nat := 0
  /-- the open dump and epoch windows contain a step (R52), and the steps of the epoch window, 2^-48 s (R218) -/
  stepDump : Bool := false
  stepEpoch : Bool := false
  stepSum : Int := 0
  /-- a step has been made and the windows it closes are still to be closed (R52) -/
  stepClose : Bool := false
  deriving DecidableEq, Repr

/-- One schedule table entry (R56 to R62); ARMED, FIRED, VOTEF and LATE are the bitmaps of page 0x112. -/
structure Entry where
  /-- the three copies of the compare value, 2^-48 s -/
  c0 : Nat := 0
  c1 : Nat := 0
  c2 : Nat := 0
  anchor : Nat := 0
  k : Nat := 0
  act : Word := 0
  arg : Word := 0
  per : Word := 0
  fires : Nat := 0
  outv : Nat := 0
  hold : Bool := false
  entflt : Bool := false
  /-- wrong bits in the SECDED-protected action words (R62) -/
  errs : Nat := 0
  /-- the entry takes part in comparisons (R56) -/
  inCmp : Bool := false
  /-- its compare value had passed when it began to take part (R59) -/
  tardy : Bool := false
  /-- a forward step has passed over it and its single LATE firing is due (R60) -/
  overdue : Bool := false
  /-- MAINSREL: the crossing that precedes the compare value, and the one that preceded the last firing (R249) -/
  mNext : Nat := 0
  mLast : Option Nat := none
  /-- PULSE: the present compare value has gone to the pulse generator (R58) -/
  handed : Bool := false
  deriving DecidableEq, Repr

-- 19 Cicada

/-- A raise Cicada has not taken yet (R375). -/
structure Raise where
  src : Nat
  page : Nat
  inst : Nat
  detail : Option Word
  /-- raises of the source before this one was taken -/
  reps : Nat
  cyc : Nat
  deriving DecidableEq, Repr

/-- An open coalescing window (R376) with the fields of its record (R380). -/
structure Win where
  t : Nat
  w : Nat
  cls : Nat
  count : Nat
  seq : Nat
  inst : Nat
  page : Nat
  detail : Word
  lastDt : Nat
  /-- the log slot that holds the record, none when the log does not keep it -/
  slot : Option Nat
  deriving DecidableEq, Repr

structure CicSt where
  raises : List Raise := []
  wins : Tab (Option Win) := []
  /-- log slot 1 to 8,191: class and age of its record -/
  slots : Tab (Option (Nat × Nat)) := []
  /-- losses of the summary record: per class, total; stamp of the last; SEQ of the newest written -/
  loss : List Nat := [0, 0, 0, 0]
  lossTot : Nat := 0
  lossT : Nat := 0
  newest : Nat := 0
  /-- records placed so far: the age of a record in its slot -/
  age : Nat := 0
  deriving DecidableEq, Repr

-- 16 tenants and queues

inductive TnState where
  | free | opened | fault | closing
  deriving DecidableEq, Repr

/-- A subscription (R304): kind, division, selector, handle, records since the last delivered, SHED noted (R405),
and the channel the allocator placed it on. -/
structure Sub where
  kind : Nat
  div : Nat
  sel : Nat
  handle : Nat
  cnt : Nat := 0
  shed : Bool := false
  place : Option Nat := none
  deriving DecidableEq, Repr

/-- A reply cache entry (R317). -/
structure Reply where
  seq : Nat
  op : Nat
  status : Nat
  res : List Byte
  trunc : Bool
  deriving DecidableEq, Repr

structure Tenant where
  state : TnState := .free
  port : Port := .pcie
  client : Nat := 0
  q : Bool := false
  cause : Nat := 0
  lastSeq : Option Nat := none
  outSeq : Nat := 0
  odrop : Nat := 0
  ferr : Nat := 0
  rep : Nat := 0
  gaps : Nat := 0
  cache : List Reply := []
  subs : List Sub := []
  /-- shed priority (R405) -/
  prio : Nat := 3
  /-- stamps of the frame errors of the last second (R325) -/
  ferrT : List Nat := []
  /-- OCMAX and ICMAX granted at OPEN (R310) -/
  ocmax : Nat := 0
  icmax : Nat := 0
  /-- commands still executing on hardware: OP and SEQ (R315, R316) -/
  running : List (Nat × Nat) := []
  deriving DecidableEq, Repr

/-- A queue of the queue engine (R305 to R311). -/
structure Queue where
  /-- items of the message being pushed, its END not yet in -/
  part : List Item := []
  /-- the open batch's whole messages (R311) -/
  batch : Option (List (List Item)) := none
  /-- readable messages whose first item has not been popped, in the order their END items arrived -/
  ready : List (List Item) := []
  /-- rest of the message being read -/
  cur : List Item := []
  /-- items to be delivered again after REWIND; true marks a message's first item -/
  redo : List (Bool × Item) := []
  /-- items popped since the mark, and items popped before it, not yet released -/
  popped : List (Bool × Item) := []
  kept : Nat := 0
  cred : Nat := 0
  limit : Nat := 256
  qwait : Nat := 20
  deriving DecidableEq, Repr

structure TnSt where
  tenants : Tab Tenant := []
  queues : Tab Queue := []
  /-- pool items drawn by the queues beyond what each tenant receives at OPEN (R310) -/
  drawn : Nat := 0
  /-- the queue last answered by Q_NEXTIN (R315) -/
  rr : Nat := 0
  /-- QCACHE slots: the queue held and the Sky time of its last operation, 2^-48 s (R312) -/
  slots : Tab (Option (Nat × Nat)) := []
  /-- the Warden's stalled read of Q_POPL (R314) -/
  stalled : Option Nat := none
  /-- a pop that waits up to QWAIT: reader or window, and the queue -/
  waiting : List (Nat × Nat) := []
  /-- when each such reader's wait ends (R314) -/
  waitT : Tab Nat := []
  /-- when the wait of a core's stalled read of Q_POPL ends: every such read but the Warden's of an inbound queue (R314) -/
  coreWait : Tab (Option Nat) := []
  /-- the base tenant (R232) and channels pinned by tenant 0 (R14) -/
  base : Option Nat := none
  pins : Tab (Option (Word × Word)) := []
  /-- channels lost to CRIT, until it clears (R17) -/
  lost : List Nat := []
  /-- replies of OPEN commands that were refused, kept for the port they came from -/
  openOut : List (Port × Nat × List Byte) := []
  /-- OPEN frames received whole that the Warden has not executed: port, client, bytes (R300) -/
  openIn : List (Port × Nat × List Byte) := []
  deriving DecidableEq, Repr

-- 13, 14 Weevil cores

/-- F of a Weevil: Z, N, C, V, T, IE in bits 0 to 5 (R256). -/
abbrev Flags := BitVec 6

/-- An entry of the return stack (R268). -/
structure StackEnt where
  p : Half
  k : BitVec 2
  f : Flags
  mr : Half
  deriving DecidableEq, Repr

/-- The inside of a user instruction that stands at a yield point (R279, R283): the step that follows, the steps counted
since the last interrupt point, M0 to M3, LC, MD, source S, AD, and the post-increment to come. -/
structure UserRun where
  step : Nat
  count : Nat := 0
  m0 : Half := 0
  m1 : Half := 0
  m2 : Half := 0
  m3 : Half := 0
  lc : Half := 0
  md : Half := 0
  sv : Half := 0
  bank : Byte := 0
  word : Half := 0
  inc : Option (Bool × Half) := none
  deriving DecidableEq, Repr

/-- One Weevil core (R255, R268 to R272, R276). -/
structure CoreSt where
  a : Half := 0
  e : Half := 0
  x : Half := 0
  y : Half := 0
  b : Byte := 0
  f : Flags := 0
  mr : Half := 0
  k : BitVec 2 := 0
  p : Half := 8
  stack : List StackEnt := []
  /-- a loaded value not yet written: register number (0 A, 1 E, 2 X, 3 Y) and value (R260) -/
  load : Option (Nat × Half) := none
  ien : BitVec 4 := 0
  ipend : BitVec 4 := 0
  treload : Half := 0
  tcnt : Half := 0
  cych : Half := 0
  cwk : BitVec 2 := 0
  cwa : Half := 0
  /-- the free-running 32-bit cycle count (R269) -/
  cyc : Nat := 0
  /-- busy cycles of the millisecond under way (R176) -/
  busy : Nat := 0
  waiting : Bool := false
  faulted : Bool := false
  cause : Nat := 0
  /-- the holding latch of register-space halves (R25) -/
  hold : Word := 0
  /-- a user instruction at a yield point, its internal registers kept (R283) -/
  user : Option UserRun := none
  /-- code memory, key 65536 * K + address; local data memory -/
  code : Tab Half := []
  data : Tab Half := []
  /-- decode table and micro-store (R276, R278) -/
  table : Tab Word := []
  micro : Tab (BitVec 64) := []
  deriving DecidableEq, Repr

/-- A load in progress through WV_LDCTL, AON_GWLD or UC_CTL: source, words, whether data memory (or decode
table), core and first word. -/
structure LoadJob where
  core : Nat
  part : Bool
  src : Nat
  first : Nat
  words : Nat
  vals : List (BitVec 64)
  deriving DecidableEq, Repr

structure WvSt where
  cores : Tab CoreSt := []
  /-- code or data loads in progress, by core (R176, R254) -/
  loads : Tab (Option LoadJob) := []
  /-- the loader of R287 -/
  uc : Option LoadJob := none
  deriving DecidableEq, Repr

-- 12 time I/O

/-- A firing handed to TPULSE (R236, R237, R240): its compare value, the settings in force then, whether a step has
come since, and whether that step left it too late. -/
structure TpFiring where
  t : Nat
  ofs : Int
  wid : Nat
  pol : Bool
  stepped : Bool := false
  late : Bool := false
  deriving DecidableEq, Repr

/-- One pulse output. -/
structure TpSt where
  fir : List TpFiring := []
  /-- placement instant and width of the last firing carried out, 2^-48 s (R237) -/
  last : Option (Int × Nat) := none
  /-- a pulse is on the ball, its trailing edge to come -/
  pulse : Bool := false
  /-- POL in force on the ball (R237) -/
  pol : Bool := false
  /-- firings handed off before a write of POL still to end, the pulse in progress among them -/
  polWait : Option Nat := none
  /-- setting of the delay line for the last edge, in fine steps (R236) -/
  dline : Nat := 0
  /-- when TPn_FLT was last asserted, 2^-48 s (R243) -/
  fltT : Option Nat := none
  seq : Nat := 0
  deriving DecidableEq, Repr

/-- A stamp in the FIFO (R246). -/
structure Stamp where
  input : Nat
  rise : Bool
  seq : Nat
  t : Nat
  hold : Bool
  skyst : Nat
  unc : Nat
  deriving DecidableEq, Repr

/-- A STAMP record waiting to be sent (R253): type, source and words. -/
structure StampRec where
  typ : Nat
  src : Nat
  words : List Word
  deriving DecidableEq, Repr

structure TioSt where
  tp : Tab TpSt := []
  fifo : List Stamp := []
  /-- next SEQ of an event input, and inputs whose next popped stamp carries OVF -/
  evSeq : Tab Nat := []
  ovf : Tab Bool := []
  sendQ : List StampRec := []
  /-- mains: cycle number and stamp of the last crossings, newest first (R248) -/
  cross : List (Nat × Nat) := []
  /-- consecutive crossings with good intervals, and a gap already reported since the last crossing -/
  good : Nat := 0
  gapSeen : Bool := false
  /-- fitted time of the last crossing, 2^-48 s -/
  zf : Nat := 0
  mnSeq : Nat := 0
  /-- sum and number of (INC - nominal) over the ticks of the second under way, and those of the seconds before, newest first (R252) -/
  incAcc : Int := 0
  incCnt : Nat := 0
  incSecs : List (Int × Nat) := []
  /-- the whole second of the last update of STEER -/
  stSec : Option Nat := none
  /-- when the TIMEIO clock last began to change between the sample clock and BYPCLK, 2^-48 s (R239) -/
  swT : Option Nat := none
  /-- STHOLD raised since the loop last acted -/
  stHeld : Bool := false
  deriving DecidableEq, Repr

-- 04 RF paths, 05 clock outputs, 06 Sieve

/-- What an RF path is doing beside its registers (R67, R74 to R76). -/
inductive RfMove where
  /-- no transition in progress -/
  | idle
  | toStandby
  /-- VCO band calibration and lock -/
  | toLock
  | toReceive
  | toTransmit
  | fromTransmit
  | toSleep
  | downSynth
  | downStandby
  deriving DecidableEq, Repr

structure RfSt where
  move : RfMove := .idle
  /-- a retune runs, until the path is back in Receive (R73); one waits for the transition in progress to end (R76) -/
  retune : Bool := false
  retunePend : Bool := false
  /-- a REQ write or a retune awaits its STATE event (R76) -/
  evPend : Bool := false
  /-- lock lost without a retune; relock attempts made (R74) -/
  relock : Bool := false
  attempts : Nat := 0
  /-- a LOCKFAIL holds the path in Standby until REQ is written -/
  failed : Bool := false
  /-- blocks since entry to Receive, up to ten; blocks within 1 dB in a row; a raised AGCSAT still holds (R67) -/
  agcBlocks : Nat := 0
  agcOk : Nat := 0
  agcSat : Bool := false
  /-- the open 10 µs block: sum of I^2 + Q^2, samples, and a blanked sample among them (R67, R68) -/
  pow : Nat := 0
  powN : Nat := 0
  blk : Bool := false
  /-- what the DC servo takes off each rail, 2^-40 LSB (R69) -/
  servo : Int × Int := (0, 0)
  /-- the open grid millisecond: sums of I and Q, samples, and samples at a converter limit (R69, R70) -/
  sum : Int × Int := (0, 0)
  sumN : Nat := 0
  sat : Nat := 0
  deriving DecidableEq, Repr

/-- The start-up calibrations (R415): the masks still to calibrate, none until every path is ready; the mask being calibrated;
attempts made of it and when the next is due; and whether one has failed for good. -/
structure StartCal where
  left : Option (List Nat) := none
  cur : Option Nat := none
  tries : Nat := 0
  due : Nat := 0
  failed : Bool := false
  deriving DecidableEq, Repr

inductive CalStep where
  | idle | waitGnt | moving | blocks
  deriving DecidableEq, Repr

structure RfComSt where
  paths : Tab RfSt := []
  cal : CalStep := .idle
  calMask : Nat := 0
  calOk : Nat := 0
  /-- consecutive blocks discarded (R80) -/
  calBad : Nat := 0
  /-- groups waiting for their calibration after a retune (R82) -/
  auto : List Nat := []
  /-- the start-up calibrations under way (R415) -/
  start : Option StartCal := none
  /-- the open calibration block has held a blanked sample (R80) -/
  calBlank : Bool := false
  /-- levels of the wires COEX_TXACT and COEX_GNT, high when true (R87) -/
  txWire : Bool := false
  gntWire : Bool := false
  /-- COEX_TXACT asserted; its tail running (R86) -/
  txact : Bool := false
  tail : Bool := false
  deriving DecidableEq, Repr

/-- A sample with its flag (R102): parts in 2^-16 converter LSB, or levels once a stream has requantized it; flag 0 GOOD, 1 BLANK,
2 INVALID. -/
structure Smp where
  i : Int := 0
  q : Int := 0
  fl : Nat := 2
  deriving DecidableEq, Repr

/-- What a path lane keeps from sample to sample (R103, R104, R106): the DC loop in 2^-40 LSB, second moments of the corrected
samples of the open 10 ms block, samples still to blank after a detection, and each notch's carrier in 2^-30 LSB. -/
structure LaneSt where
  dc : Int × Int := (0, 0)
  mII : Nat := 0
  mQQ : Nat := 0
  mIQ : Int := 0
  hold : Nat := 0
  notch : List (Int × Int) := []
  deriving DecidableEq, Repr

/-- What the end of a lane holds for its consumers: the sample of this tick, BLANK samples of the open grid millisecond (R105),
and the open monitor frame at both taps (R109); the detector's frames and sums so far, and averages in a row without its carrier for
each notch (R107). -/
structure LaneOut where
  smp : Smp := {}
  blk : Nat := 0
  start : Nat := 0
  frame0 : List Smp := []
  frame1 : List Smp := []
  detN : Nat := 0
  det : List Nat := []
  miss : List Nat := []
  deriving DecidableEq, Repr

/-- A readout of the spectral monitor (R110): path, tap and frames to average as GO read them, the sample it began at, frames and sums
so far, and the time of the first. -/
structure Readout where
  path : Nat
  tap : Nat
  want : Nat
  since : Nat
  n : Nat := 0
  sums : List Nat := []
  t : Nat := 0
  deriving DecidableEq, Repr

/-- What a stream keeps (R116, R118, R119): mixed source samples, newest first; the sum of squares of both rails and the samples
that gave the sigma in use, and those of the open block; the block's index; ticks of INVALID samples to come; and its sample of this
tick, when the tick has one. -/
structure StrSt where
  hist : List Smp := []
  sigma : Option (Nat × Nat) := none
  pow : Nat := 0
  n : Nat := 0
  block : Nat := 0
  inv : Nat := 0
  out : Option Smp := none
  deriving DecidableEq, Repr

structure SieveSt where
  /-- the last comparison of the master lock detector was within 5 ns (R91) -/
  cmpIn : Bool := false
  /-- CLKOUTn settings in force (R95) -/
  clkout : Tab Word := []
  lanes : Tab LaneSt := []
  outs : Tab LaneOut := []
  readout : Option Readout := none
  /-- new calibration values await the dump-grid boundary; GAIN and PHASE in force (R112) -/
  calUpd : Bool := false
  cal : Tab (Int × Nat) := []
  /-- the covariance sums of the open grid millisecond, key 16 * group + 4 * row + column, 2^-32 LSB^2, and its GOOD samples (R114) -/
  cov : Tab (Int × Int) := []
  covN : Tab Nat := []
  /-- the sums of the last whole millisecond with samples (R205) -/
  covLast : Tab (Int × Int) := []
  /-- the combined sample of each group at this tick (R113) -/
  comb : Tab Smp := []
  /-- weights a NULL-mode group uses, once it has found some (R113, R114) -/
  nullW : Tab (Option (List Word)) := []
  /-- weights of Scarab awaiting the dump-grid boundary (R113) -/
  weights : Tab (Option (List Word)) := []
  strs : Tab StrSt := []
  /-- the flagging of a bypass goes on until the resume point (R97) -/
  flagging : Bool := true
  deriving DecidableEq, Repr
-- 07, 08, 09 code stores, Dragonfly, Hives and Gather

/-- What the loop program keeps of a channel (R177 to R180). -/
structure LoopSt where
  /-- prompt, noise tap and INVAL of the dumps of the last 20 ms, newest first -/
  recent : List ((Int × Int) × (Int × Int) × Bool) := []
  /-- the open coherent interval: dumps, sums of prompt, early and late; the prompt of the interval before -/
  n : Nat := 0
  p : Int × Int := (0, 0)
  e : Int × Int := (0, 0)
  l : Int × Int := (0, 0)
  prev : Option (Int × Int) := none
  /-- ms of FLL since PULLIN; the PLL's rates, carrier word and its rate, in 2^-16 of a carrier word -/
  fll : Nat := 0
  vel : Option Int := none
  acc : Int := 0
  /-- the prompt since the last primary epoch, and the prompt of the whole period before -/
  part : Int × Int := (0, 0)
  last : Option (Int × Int) := none
  /-- sign changes by position in the symbol; signs of the last periods, newest first; period at which a symbol begins; secondary
  chip of period 0, counted from PULLIN -/
  hist : List Nat := []
  signs : List Bool := []
  edge : Nat := 0
  sec : Option Nat := none
  /-- the symbol being summed, its periods, and the last symbols, newest first -/
  sym : Int × Int := (0, 0)
  symN : Nat := 0
  syms : List Bool := []
  deriving DecidableEq, Repr

/-- A dump as closed: channel, status byte, taps, the data-bearing prompt before the epoch inside it, its samples, and the primary
epochs since PULLIN. -/
structure Dump where
  ch : Nat
  status : Nat
  taps : List (Int × Int)
  sub : Option (Int × Int) := none
  n : Nat := 0
  ep : Nat := 0
  deriving DecidableEq, Repr

/-- One correlator channel beside its registers (R120, R154 to R164, R181, R197, R202, R216). -/
structure ChanSt where
  /-- CHk_CTL, SIG, CODE and STRM as read at the start, and the load counted for them -/
  ctl : Word := 0
  sig : Word := 0
  code : Word := 0
  strm : Word := 0
  load : Nat := 0
  /-- Sky Clock time of the START, for a start time of 0 -/
  armT : Nat := 0
  /-- carrier phase in 2^-48 cycle, whole cycles, chip index, chip fraction in 2^-40 -/
  carP : Nat := 0
  cyc : Int := 0
  chip : Nat := 0
  frac : Nat := 0
  /-- stream samples since PULLIN, and dumps made -/
  n : Nat := 0
  dumps : Nat := 0
  /-- the open integration: accumulators of tap k and element m at 10 m + k in 2^-45, samples, flags met, and the accumulators of the
  data-bearing prompt when a primary epoch came (R160, R168 to R170) -/
  acc : List (Int × Int) := []
  nsamp : Nat := 0
  inval : Bool := false
  blank : Bool := false
  sub : Option (List (Int × Int)) := none
  /-- primary epochs since the start or the last dump (R168); a secondary chip to take at the next one (R180) -/
  epochs : Nat := 0
  newSec : Option Nat := none
  loop : LoopSt := {}
  /-- words and spacings written since the last dump close (R164): carrier, code, ELSP and TSP -/
  newCar : Option Nat := none
  newCode : Option Nat := none
  newSp : Bool := false
  /-- ELSP, TSP34, TSP56, TSP78 in force -/
  sp : List Word := []
  /-- a change took effect when the open window opened -/
  newset : Bool := false
  first : Bool := false
  /-- steering commands awaiting the dump close: TAKE, RELEASE, LOST; beam weights -/
  take : Bool := false
  release : Bool := false
  lost : Bool := false
  weights : Option (List Word) := none
  /-- the state held before COAST, and Scarab's last prediction (R202) -/
  coast : Nat := 0
  pred : Option (BitVec 25 × Word × Word × BitVec 48 × BitVec 40) := none
  /-- good lock estimates in a row (R178); 10 ms units below LOSSCN0 and below VLOSSCN0 -/
  okM : Nat := 0
  low : Nat := 0
  vlow : Nat := 0
  /-- ticks in a row over ZMAX; the squares of the last WIN usable ticks, newest first (R197) -/
  overZ : Nat := 0
  win : List Int := []
  /-- Sky Clock time of the last usable tick, since when all ticks passed, of the last release, of the return from COAST -/
  useT : Option Nat := none
  passT : Option Nat := none
  relT : Option Nat := none
  retT : Option Nat := none
  /-- full updates in a row with the satellite excluded (R183) -/
  exclN : Nat := 0
  /-- integrator of the 3 Hz residual filter, 2^-16 of a carrier word (R194) -/
  vres : Int := 0
  /-- primary epochs since PULLIN, and as many at the last dump; primary periods from the signal's time origin to PULLIN (R215) -/
  nEp : Nat := 0
  nEpDump : Nat := 0
  origin : Option Int := none
  /-- whole cycles of R216, once fixed; 0.5 cycle added; steps so far in 2^-48 s (R218) -/
  phi0 : Option Int := none
  halfAdj : Bool := false
  stepAcc : Int := 0
  /-- a dump of the open epoch window carried INVAL, BLANK -/
  epInval : Bool := false
  epBlank : Bool := false
  deriving DecidableEq, Repr

/-- A code copy in progress: Comb address, first unit, units (R127, R128). -/
structure CopyJob where
  src : Nat
  unit : Nat
  n : Nat
  deriving DecidableEq, Repr

/-- The frame Gather is writing (R172, R173): sequence number, boundary, STEPPED, Hives still to write, HMASK so far, and
the dumps: channel, status byte and taps. -/
structure GFrame where
  seq : Nat
  t : Nat
  stepped : Bool
  todo : List Nat
  hmask : Nat := 0
  dumps : List Dump
  deriving DecidableEq, Repr

structure HiveSt where
  chans : Tab ChanSt := []
  /-- dumps of code-synchronous channels that Gather has still to write, oldest first, with the dump count of each (R174) -/
  csOut : List (Nat × Dump) := []
  /-- the dump-grid boundary last crossed, by its index (R50, R51) -/
  gridIdx : Nat := 0
  /-- code stores, key 2^18 * Hive + byte, and units that hold a loaded code, key 1024 * Hive + unit -/
  store : Tab Byte := []
  loaded : Tab Bool := []
  /-- unit of the code table a loaded unit was copied from, plus one (R128) -/
  codeAt : Tab Nat := []
  copies : Tab (Option CopyJob) := []
  /-- channels on an inbound stream that close, or start, LAT ticks after a boundary (R453): sample tick due, channel, boundary, STEPPED -/
  late : List (Nat × Nat × Nat × Bool) := []
  /-- boundaries since Gather was enabled, and its frame -/
  gseq : Nat := 0
  frame : Option GFrame := none
  /-- the last frame written whole, for Scarab -/
  last : Option GFrame := none
  deriving DecidableEq, Repr

/-- A Dragonfly job beside its JS register (R136, R138). -/
structure Job where
  desc : List Word
  order : Nat
  /-- when it became READY, among jobs -/
  ready : Nat := 0
  blocks : List Nat := []
  armT : Nat := 0
  tsnap : Nat := 0
  stepped : Bool := false
  inv : Nat := 0
  blk : Nat := 0
  /-- the capture (R135): sample ticks made, the point being formed, its samples' sum, their number and their flag; points so far,
  newest first; mean square in use, and that of the open 10 µs block -/
  ticks : Nat := 0
  q : Nat := 0
  sum : Int × Int := (0, 0)
  cnt : Nat := 0
  fl : Nat := 0
  pts : List (Int × Int) := []
  sigma : Option (Nat × Nat) := none
  pow : Nat := 0
  powN : Nat := 0
  block : Nat := 0
  bins : Nat := 0
  /-- the search it is part of (R149) -/
  search : Option Nat := none
  deriving DecidableEq, Repr

/-- One peak of an acquisition (R143, R144). -/
structure Peak where
  code : BitVec 24
  dop  : Word
  bin  : Half
  pmr  : Half
  pow  : Word
  deriving DecidableEq, Repr

/-- A peak found, with the capture start of its job and whether the clock stepped under it (R150). -/
structure Found where
  peak : Peak
  tsnap : Nat
  stepped : Bool
  deriving DecidableEq, Repr

/-- A search (R147, R149 to R151): the tenant asking, jobs not yet done, and the peaks so far; for a search of the allocator the
channel it is for; its descriptor. -/
structure Search where
  tenant : Nat
  tag : Word
  left : Nat
  npeak : Nat
  chan : Option Nat := none
  desc : List Word := []
  status : Nat := 0
  flags : Nat := 0
  tsnap : Nat := 0
  mean : Word := 0
  inv : Nat := 0
  blk : Nat := 0
  peaks : List Found := []
  deriving DecidableEq, Repr

/-- A request that waits in the Warden (R147, R148): tenant, search if it is part of one, and descriptor. -/
structure Req where
  tenant : Nat
  search : Option Nat
  desc : List Word
  deriving DecidableEq, Repr

structure DflySt where
  jobs : Tab (Option Job) := []
  orders : Nat := 0
  searches : Tab (Option Search) := []
  nextSearch : Nat := 1
  waiting : List Req := []
  /-- the tenant whose waiting request was served last -/
  rr : Nat := 0
  /-- channels the allocator is to find their signals for, with the PRIO (R147); searches of its own that have ended; and the search
  whose peaks a channel is being tried with (R150, R151) -/
  again : List (Nat × Nat) := []
  ended : List Search := []
  tries : Tab (Option Search) := []
  deriving DecidableEq, Repr

-- 10 Scarab, 11 measurements

structure ScarabSt where
  /-- the model table in use and the one that waits, 33 words each; none: the built-in table (R188, R189) -/
  model : Option (List Word) := none
  pending : Option (List Word) := none
  /-- the table being checked -/
  check : Option (List Word) := none
  /-- since when HOLD has run with FIX or DEGRADED throughout (R196) -/
  holdT : Option Nat := none
  /-- VSTATE before COAST, and when BYP rose -/
  coastFrom : Nat := 0
  bypT : Nat := 0
  /-- updates in a row with every protection level below its limit, with passing residuals (R192) -/
  okPl : Nat := 0
  okRes : Nat := 0
  /-- when G4 was declared, awaiting the next tick (R199) -/
  g4 : Option Nat := none
  /-- excluded satellites: system and PRN (R208) -/
  excl : List (Nat × Nat) := []
  /-- the last DOA failure (R209) -/
  spoofT : Option Nat := none
  /-- solution records written (R220) and the last record -/
  seq : Nat := 0
  sol : List Word := []
  /-- clock bias in 2^-48 s and drift in 10^-15 s/s, states 9 and 10, against the Sky Clock in force (R191) -/
  clkBias : Int := 0
  clkDrift : Int := 0
  /-- what the last update used (R187): channel, measured minus modelled code, phase and rate, and variance -/
  innov : List (Nat × Int × Int × Int × Nat) := []
  /-- since when fewer than 4 satellites have been usable (R192) -/
  fewT : Option Nat := none
  /-- channels whose ambiguity is fixed (R207) -/
  ambFix : List Nat := []
  /-- base inputs (R232): systems of the open base epoch still to finish and its first message; the age origin of the
  last closed epoch; messages discarded; station ID -/
  baseOpen : Option (List (Nat × Bool)) := none
  baseT : Option Nat := none
  /-- when the open base epoch had its first message -/
  baseAt : Option Nat := none
  baseBad : Nat := 0
  baseId : Option Nat := none
  deriving DecidableEq, Repr

/-- An epoch's entries as the boundary (or a step) closed them, with the boundary's part of their header (R211, R212). -/
structure EpochSet where
  t : Nat
  idx : Nat
  entries : List (List Word)
  hd : Nat
  seq : Nat
  unc : Word
  leap : Word
  due : Bool
  deriving DecidableEq, Repr

structure MeasSt where
  /-- the epoch closed last, until the Warden has formed its block -/
  open_ : Option EpochSet := none
  /-- epoch output waiting for the full update of its epoch (R227): tenant, its MEAS and its RTCM frames -/
  held : List (Nat × List (List Byte) × List (List Byte)) := []
  /-- where the next block goes in the measurement ring, bytes from its base (R295) -/
  ring : Nat := 0
  /-- the epoch last closed, by its index (R50); the entries of the last epoch, and the step in its window, 2^-48 s (R190) -/
  epIdx : Nat := 0
  last : List (List Word) := []
  lastStep : Int := 0
  /-- block parts put into the ring that the Archive has still to take (R431), with their epoch -/
  toArc : List (Nat × List Byte) := []
  /-- epochs since measurements were enabled (R212) -/
  epseq : Nat := 0
  /-- authentication state of each Galileo PRN (R229) -/
  auth : Tab Nat := []
  /-- when each Galileo PRN was tracked last (R229) -/
  trackT : Tab (Option Nat) := []
  /-- epochs and full updates made, for the intervals of R230 and R233 -/
  updates : Nat := 0
  deriving DecidableEq, Repr


-- 20 power and Ledger

/-- A work item of the Ledger (R404, R405): class 1 ACQ, 2 TRK, 4 ARC, 5 RF; its unit (search, channel, stream, path); its
priority; and what it will use in the next tick: cells, load units, KiB, ms in Receive. -/
structure WorkItem where
  cls  : Fin 6
  unit : Nat
  prio : Fin 8
  use  : Nat
  deriving DecidableEq, Repr

/-- A Ledger grant (R402): mW and seconds left. -/
structure Grant where
  mw : Nat
  left : Nat
  deriving DecidableEq, Repr

structure PwrSt where
  /-- the vote maps, key 8192 * domain + client (R383) -/
  votes : Tab Bool := []
  /-- retention: the saved RW and RWS register values, and the domains with a saved copy (R386, R388) -/
  ret : Tab Word := []
  retOk : Tab Bool := []
  /-- writes held back while their domain is in ENTRY (R386): the domain and the command -/
  held : List (Nat × Instr) := []
  /-- entry to backup is under way (R391) -/
  sleeping : Bool := false
  /-- the allowance of the tick in force, mJ; none: no limit, or nothing planned yet (R403) -/
  allow : Option Nat := none
  /-- after a cut, until the next counter update (R406): the reserve energy estimated for the millisecond under way, µJ, and whether
  what is left of the millisecond was spent before the cut -/
  cutMs : Option (Nat × Bool) := none
  /-- the last millisecond metered: its end in Sky Clock milliseconds, and its energy, µJ (R399, R406) -/
  meterMs : Nat := 0
  lastUj : Nat := 0
  /-- work done since the last counter update (R399, R404): cells searched, full updates, bytes recorded; and the parts of a µJ left
  over in the classes ACQ, TRK and ARC -/
  ranCells : Nat := 0
  ranFull : Nat := 0
  ranArc : Nat := 0
  clsRem : Nat × Nat × Nat := (0, 0, 0)
  /-- grid energy of the tariff period and of the demand interval, and reserve energy spent, µJ (R403, R406) -/
  ePer : Nat := 0
  eInt : Nat := 0
  rsvUj : Nat := 0
  /-- energy of the current tick so far and of its BASE class, µJ -/
  tickUj : Nat := 0
  tickBase : Nat := 0
  grants : Tab (Option Grant) := []
  /-- admitted items, most recent first, and shed items (R405) -/
  items : List WorkItem := []
  shed : List WorkItem := []
  /-- 0.9 of the allowance less the forecast at the last ten planning steps, newest first, in tenths of a µJ; none without a limit -/
  rooms : List (Option Int) := []
  /-- BASE energy of the last ten ticks, mJ -/
  baseHist : List Nat := []
  deriving DecidableEq, Repr

/-- The always-on domain beside its registers (R392 to R395). -/
structure AonSt where
  /-- the mains cycle counter MN_CYC (R247) -/
  mnCyc : Nat := 0
  ram : Tab Word := []
  /-- VBAT stands below its monitor threshold (R48, R392) -/
  vbatLow : Bool := false
  /-- since when the VMAIN comparator has read present, 2^-48 s (R406) -/
  vmainT : Option Nat := none
  /-- the tick of the comparator's last falling edge while MGMT ran: its Sky Clock value and the increment of that tick (R406) -/
  vmainF : Option (Nat × Nat) := none
  /-- the code of the last WAKE action (R57) -/
  wakeCode : Nat := 0
  /-- AON sources to raise once MGMT runs: 0 VBATLOW, 1 GWFAULT, 2 WAKEUP -/
  late : List Nat := []
  deriving DecidableEq, Repr

-- 21 reset, 22 fuses

/-- The fuses (R1, R2, R423): hardware facts no reset changes. -/
structure Fuses where
  grade : Nat := 0
  uid : BitVec 64 := 0
  /-- the customer key hash, none when blank -/
  keyHash : Option (List Byte) := none
  /-- anti-rollback steps blown, 0 to 64 -/
  arb : Nat := 0
  deriving DecidableEq, Repr

structure BootSt where
  /-- the Dead state -/
  dead : Bool := false
  /-- straps have been sampled since the last device-scope reset (R411) -/
  sampled : Bool := false
  /-- a boot check has passed and the image awaits entry -/
  checked : Bool := false
  /-- Sky Clock time of the last Warden restart, 2^-48 s (R412) -/
  restartT : Option Nat := none
  /-- the boot that is starting follows a backup (R48) -/
  fromBackup : Bool := false
  /-- Sky Clock time at which the watchdog count last restarted, 2^-48 s (R412) -/
  wdT : Nat := 0
  /-- consecutive samples of the SERVICE ball at the level not accepted; when the accepted level was accepted; a press whose event is
  still to come (R413) -/
  svcRun : Nat := 0
  svcT : Nat := 0
  svcPress : Bool := false
  deriving DecidableEq, Repr

-- 17 host ports

structure PcieSt where
  wtenant : Nat := 0
  /-- items of the OPEN being received, and of the waiting reply (R333) -/
  mbox : List Item := []
  busy : Bool := false
  reply : List Item := []
  /-- MSI-X table words, pending bits, and messages sent per vector (R334) -/
  msix : Tab Word := []
  pba : Nat := 0
  msgs : Tab Nat := []
  /-- DMA channels running (R335) -/
  dma : List Nat := []
  deriving DecidableEq, Repr

structure UsbSt where
  /-- the held control write: page, offset, write tenant, words (R340) -/
  held : Option (Nat × Nat × Nat × List Word) := none
  /-- the OPEN reply frame waiting for OPENRD -/
  reply : List Byte := []
  /-- the tenant whose message is in flight on EP1 IN, and the round-robin point (R342) -/
  ep1 : Option Nat := none
  ep1rr : Nat := 0
  /-- the last control request was answered with STALL (R339) -/
  stall : Bool := false
  deriving DecidableEq, Repr

/-- A byte port's receive stream and outbound bytes (R225, R345). -/
structure ByteSt where
  rx : List Byte := []
  tx : List Byte := []
  rr : Nat := 0
  deriving DecidableEq, Repr

/-- The flash (R347): an erased byte reads 0xFF; a command in progress: OP, flash address, Comb address, bytes. -/
structure XspiSt where
  flash : Tab Byte := []
  cmd : Option (Nat × Nat × Nat × Nat) := none
  deriving DecidableEq, Repr
-- 23 Archive

/-- Unrecorded samples of a stream waiting for their gap record (R435): time, tick and cause. -/
structure Gap where
  t : Nat
  tick : Nat
  cause : Nat
  deriving DecidableEq, Repr

/-- An archive record that fills (R432 to R434): time and sample tick of its first sample, or epoch of its first block; its payload as a
number from bit 0 up and its bits; where the first whole sample or block starts; samples begun in it, and flag runs: flag, first sample,
length; the STRm word it is made under. `early` and `stepped` when it has closed. -/
structure RecSt where
  t : Nat
  tick : Nat
  acc : Nat := 0
  nbits : Nat := 0
  bitofs : Nat := 0
  nsamp : Nat := 0
  runs : List (Nat × Nat × Nat) := []
  str : Word := 0
  early : Bool := false
  stepped : Bool := false
  deriving DecidableEq, Repr

/-- A replay channel (R439): archive address of the next record, the source its records must have, samples still to come with their
flags, INVALID samples of a gap after them, and the bits of a sample begun in the last record. -/
structure RpSt where
  next : Nat := 0
  src : Option Nat := none
  buf : List (Int × Int × Nat) := []
  gap : Nat := 0
  carry : Nat × Nat × Nat := (0, 0, 0)
  deriving DecidableEq, Repr

structure ArSt where
  /-- records of each source since RESTART (R432); 24 is the measurement source -/
  seq : Tab Nat := []
  gaps : Tab (List Gap) := []
  /-- the open record of each source; closed records to be placed, oldest first; bits carried into a stream's next record (R433) -/
  recs : Tab (Option RecSt) := []
  closed : List (Nat × RecSt) := []
  carry : Tab (Nat × Nat) := []
  /-- sources whose open record a step has closed (R434) -/
  stepped : List Nat := []
  /-- the extent in use: host address, its first archive address and its end (R436) -/
  ext : Option (Nat × Nat × Nat) := none
  /-- records placed in the staging ring, and those still in it (R438) -/
  placed : Nat := 0
  inRing : Nat := 0
  /-- replay channels whose first sample waits for the dump-grid boundary (R439) -/
  rpWait : List Nat := []
  rp : Tab RpSt := []
  deriving DecidableEq, Repr

-- 24 Penholt

/-- A link frame received (R441, R453): the sample tick its first tick takes here, and per slot the samples of its 33 ticks; none where
a decimated stream has no sample. -/
structure LinkFrame where
  tick : Nat
  slots : List (List (Option Smp))
  deriving DecidableEq, Repr

/-- A Penholt port beside its registers (R440 to R453). -/
structure PenPort where
  /-- frames in a row whose CRC failed -/
  fails : Nat := 0
  /-- slots whose last frame carried INVALID samples -/
  inval : List Bool := []
  /-- GROUP and DATA words waiting for the port to be UP: CTYPE, target, source, bytes (R445) -/
  queue : List (Nat × Nat × Nat × List Byte) := []
  /-- words handed to the port to be sent (R444), oldest first: CTYPE and CWORD content -/
  sent : List (Nat × List Nat) := []
  /-- hops to each device as the neighbour's HELLO gives them, from this port -/
  hops : List (Nat × Nat) := []
  /-- sequence of the last DELAY REQ, whether its RSP is awaited, and the last 64 one-way values, ps (R450) -/
  dseq : Nat := 0
  dwait : Bool := false
  delays : List Int := []
  /-- Sky Clock time of the last TIME word -/
  timeT : Option Nat := none
  /-- the frames received, newest first, and FSEQ of the last good one; RF_CALD behind each slot, as announced, in ps (R442) -/
  frames : List LinkFrame := []
  fseq : Nat := 0
  cald : Tab Nat := []
  /-- the frame being sent: the slots' samples of its ticks so far; the slots last announced (R442); and the last frame sent (R441) -/
  tx : List (List (Option Smp)) := []
  desc : List (List Nat) := []
  line : List Byte := []
  deriving DecidableEq, Repr

structure PenSt where
  ports : Tab PenPort := []
  /-- Sky Clock time of the last SYNC pulse seen, or of enabling (R449) -/
  syncT : Option Nat := none
  /-- SYNC has been silent for 2 s since the master was last chosen (R452) -/
  elect : Bool := false
  /-- tenant bytes received from each device, not yet framed (R445), and group message bytes -/
  rx : Tab (List Byte) := []
  group : Tab (List Byte) := []
  deriving DecidableEq, Repr

-- 18 serial ports and Lenlis

/-- A UART beside its registers (R349 to R367). -/
structure UartSt where
  /-- bytes in the frame engine, not yet a whole frame; an escape byte has come (R363) -/
  rx : List Byte := []
  esc : Bool := false
  /-- the transmit holding register and shifter (R356) -/
  hold : Option (BitVec 9) := none
  shift : Option (BitVec 9) := none
  /-- characters of the frame being sent that are still to go, and all of them, for a resend (R367) -/
  frame : List (BitVec 9) := []
  whole : List (BitVec 9) := []
  tries : Nat := 0
  retry : Bool := false
  /-- the tenant whose frame was sent last -/
  rr : Nat := 0
  /-- bytes in the 256-byte receive buffer, and the XON or XOFF generated for it that goes out next (R362) -/
  buf : Nat := 0
  gen : Option Byte := none
  /-- sixteenths of a bit the start edge of the character in the shifter waits after DE (R361) -/
  lead : Nat := 0
  /-- the bits of the character in the shifter, under the settings it began with (R351) -/
  bits : List Bool := []
  /-- a break has armed the priority check (R364) -/
  armed : Bool := false
  /-- the peer named by the last address character (R350, R367) -/
  peer : Nat := 0
  deriving DecidableEq, Repr

/-- The monitor (R369 to R373). -/
structure MonSt where
  line : List Byte := []
  /-- the line has passed 128 characters -/
  long : Bool := false
  /-- the last character was CR, so a LF that follows ends no line -/
  cr : Bool := false
  /-- characters printed, oldest first, not yet sent -/
  out : List Byte := []
  unlocked : Bool := false
  /-- r of a half-given response -/
  half : Option (List Byte) := none
  /-- an image load: bytes expected, CRC-32C and bytes so far (R372) -/
  load : Option (Nat × Nat × List Byte) := none
  /-- BAUD and FRAME, applied when the output has been sent (R370) -/
  rate : Option Nat := none
  toFrame : Bool := false
  /-- the time of the last input: a character or a command (R371) -/
  inT : Nat := 0
  deriving DecidableEq, Repr

-- 22 Carapace and update

/-- A Carapace job (R417 to R419); a tenant's CRYPTO brings its own bytes. -/
structure CpJob where
  op : Nat
  cls : Nat
  tenant : Nat
  src : Nat
  len : Nat
  dst : Nat
  key : Nat
  order : Nat
  own : Option (List Byte × List Byte) := none
  /-- the PRN of the I/NAV page pair an OSNMA verification is of (R130) -/
  osnma : Option Nat := none
  deriving DecidableEq, Repr

structure CpSt where
  jobs : Tab (Option CpJob) := []
  orders : Nat := 0
  /-- Sky Clock times of the failed sessions of the last minute, and until when attempts are refused (R420) -/
  fails : List Nat := []
  barred : Option Nat := none
  /-- the Merkle root (R422) -/
  root : Option (List Byte) := none
  /-- the I/NAV page pairs passed for verification (R130, R422), newest first: PRN, time of the first symbol, bits -/
  pages : List (Nat × Nat × List Bool) := []
  deriving DecidableEq, Repr

/-- What the running image's header states (R423). -/
structure Image where
  owner : List Byte
  secver : Nat
  setfmt : Nat
  week : Nat
  version : Nat
  /-- entries BOOT, RESTART, HANDOVER: K, P -/
  boot : Nat × Nat
  restart : Nat × Nat
  hand : Nat × Nat
  bankcrc : Nat
  hover : Nat
  /-- K0 to K2 as loaded -/
  banks : List Half
  deriving DecidableEq, Repr

structure UpdSt where
  image : Option Image := none
  /-- the armed handover entry (R429) -/
  entry : Option Nat := none
  /-- flash bytes written so far and whether the rewrite has been made (R428) -/
  written : Nat := 0
  again : Bool := false
  /-- formats of the settings records in flash (R430) -/
  formats : List Nat := []
  deriving DecidableEq, Repr


/-- The machine. `pending` is the queue of commands, first in first out. -/
structure State where
  pending : List Instr := []
  /-- fabric cycles made: one per step (the model's own, log entry 2) -/
  cycle : Nat := 0
  /-- sample ticks ever made, the argument of what the antennas give (the model's own, log entry 87) -/
  adcN : Nat := 0
  /-- how many free values have been drawn (the model's own, log entry 5) -/
  fresh : Nat := 0
  /-- what the last command answered to its port, as words (the model's own, log entry 7) -/
  out : List Word := []
  /-- the registers: key page * 4096 + offset, active values at + 0x800 (R11, R33) -/
  regs : Tab Word := []
  /-- RO values held by FREEZE (R30) -/
  snap : Tab Word := []
  /-- values held per reader: key reader * 2^24 + register address (R27, R38, R299) -/
  latch : Tab Word := []
  /-- Comb's 16 MiB, and words with bit errors: 1 single, 2 double (R289, R293) -/
  comb : Tab Byte := []
  ecc : Tab Nat := []
  sky : SkySt := {}
  sched : Tab Entry := []
  /-- the entry whose WRITE is not yet in comparison (SCHED_STAT.BUSY) -/
  schedBusy : Option Nat := none
  cic : CicSt := {}
  tio : TioSt := {}
  tn : TnSt := {}
  rf : RfComSt := {}
  sieve : SieveSt := {}
  hive : HiveSt := {}
  dfly : DflySt := {}
  scarab : ScarabSt := {}
  meas : MeasSt := {}
  wv : WvSt := {}
  pwr : PwrSt := {}
  aon : AonSt := {}
  fuses : Fuses := {}
  boot : BootSt := {}
  pcie : PcieSt := {}
  usb : UsbSt := {}
  spi : ByteSt := {}
  xspi : XspiSt := {}
  ar : ArSt := {}
  pen : PenSt := {}
  uarts : Tab UartSt := []
  mon : MonSt := {}
  cp : CpSt := {}
  upd : UpdSt := {}
  deriving DecidableEq, Repr

/-- The machine right after reset (R409: PORn). -/
def State.reset : State := {}

end Sys2Proof.Machine
end

