-- ==== Sys2Proof/Machine/Flags.lean ====
section
/-! DEFINITION. The flags of a Weevil and the arithmetic that sets them (13: R256, R264 to R267). F holds Z, N, C, V, T
and IE in bits 0 to 5. -/

namespace Sys2Proof.Machine

def fZ : Nat := 0
def fN : Nat := 1
def fC : Nat := 2
def fV : Nat := 3
def fT : Nat := 4
def fIE : Nat := 5

def Flags.put (f : Flags) (i : Nat) (b : Bool) : Flags :=
  let m : BitVec 6 := 1#6 <<< i
  if b then f ||| m else f &&& ~~~m

/-- Z and N of a 16-bit result. -/
def Flags.zn (f : Flags) (r : Half) : Flags := (f.put fZ (decide (r = 0))).put fN r.msb
/-- Z and N of a 32-bit result. -/
def Flags.zn32 (f : Flags) (r : Word) : Flags := (f.put fZ (decide (r = 0))).put fN r.msb
def Flags.cv (f : Flags) (c v : Bool) : Flags := (f.put fC c).put fV v
def Flags.c (f : Flags) : Bool := f.getLsbD fC

/-- A 16-bit result with its carry and overflow. -/
structure Sum where
  r : Half
  c : Bool
  v : Bool
  deriving DecidableEq, Repr

def outside16 (x : Int) : Bool := decide (x < -32768 ∨ 32767 < x)
def outside32 (x : Int) : Bool := decide (x < -2147483648 ∨ 2147483647 < x)

/-- `a + s + cin`. -/
def addC (a s : Half) (cin : Bool) : Sum :=
  let k := if cin then 1 else 0
  { r := BitVec.ofNat 16 (a.toNat + s.toNat + k), c := decide (65536 ≤ a.toNat + s.toNat + k),
    v := outside16 (a.toInt + s.toInt + k) }

/-- `a - s - borrow`; C is 1 when no borrow occurs (R256). -/
def subC (a s : Half) (borrow : Bool) : Sum :=
  let k := if borrow then 1 else 0
  { r := BitVec.ofInt 16 (a.toInt - s.toInt - k), c := decide (s.toNat + k ≤ a.toNat),
    v := outside16 (a.toInt - s.toInt - k) }

def Sum.flags (x : Sum) (f : Flags) : Flags := (f.zn x.r).cv x.c x.v

/-- E:A. -/
def pair (e a : Half) : Word := e ++ a
def hiHalf (w : Word) : Half := (w >>> 16).setWidth 16
def loHalf (w : Word) : Half := w.setWidth 16

/-- MAC: the sum and its overflow. -/
def macSum (acc : Word) (y s : Half) : Word × Bool :=
  let x := acc.toInt + y.toInt * s.toInt
  (BitVec.ofInt 32 x, outside32 x)

/-- DIV (R265): quotient, remainder and V. -/
def divide (d : Word) (s : Half) : Half × Half × Bool :=
  let q := d.toInt.tdiv s.toInt
  if s = 0 ∨ outside16 q then (if 0 ≤ d.toInt then 0x7FFF else 0x8000, 0, true)
  else (BitVec.ofInt 16 q, BitVec.ofInt 16 (d.toInt.tmod s.toInt), false)

-- shifts: the count, and C as the last bit moved out (DEDUCED, log entry 18)

/-- n of SHL, SHR, SAR and ROL: s[4:0], values above 16 act as 16. -/
def shiftN (s : Half) : Nat := min 16 (s.toNat % 32)

def shl16 (a : Half) (n : Nat) (c : Bool) : Half × Bool := (a <<< n, if n = 0 then c else a.getLsbD (16 - n))
def shr16 (a : Half) (n : Nat) (c : Bool) : Half × Bool := (a >>> n, if n = 0 then c else a.getLsbD (n - 1))
def sar16 (a : Half) (n : Nat) (c : Bool) : Half × Bool := (a.sshiftRight n, if n = 0 then c else a.getLsbD (n - 1))
/-- ROL: the 17 bits C:A. -/
def rol17 (a : Half) (n : Nat) (c : Bool) : Half × Bool :=
  let x := (BitVec.ofBool c ++ a).rotateLeft n
  (x.setWidth 16, x.msb)
def shl32 (a : Word) (n : Nat) (c : Bool) : Word × Bool := (a <<< n, if n = 0 then c else a.getLsbD (32 - n))
def sar32 (a : Word) (n : Nat) (c : Bool) : Word × Bool := (a.sshiftRight n, if n = 0 then c else a.getLsbD (n - 1))

/-- SAT: E:A limited, and whether it was. -/
def saturate (d : Word) : Half × Bool :=
  if d.toInt < -32768 then (0x8000, true) else if 32767 < d.toInt then (0x7FFF, true) else (loHalf d, false)

def absolute (a : Half) : Half × Bool := if a = 0x8000 then (0x7FFF, true) else (if a.msb then 0 - a else a, false)

/-- The parity of a word: 1 for an odd number of ones. -/
def parity (w : Half) : Bool := (List.range 16).foldl (fun b i => xor b (w.getLsbD i)) false

/-- BREV (R267): the low n bits reversed. -/
def bitRev (a s : Half) : Half :=
  let n := if s.toNat % 32 = 0 ∨ 16 < s.toNat % 32 then 16 else s.toNat % 32
  (List.range n).foldl (fun (r : Half) i => if a.getLsbD i then r ||| (1 <<< (n - 1 - i)) else r) 0

-- CRC steps (R266)

/-- One bit of CRCQ, in a 24-bit remainder. -/
def crcqBit (r : BitVec 24) (d : Bool) : BitVec 24 := if xor d r.msb then (r <<< 1) ^^^ 0x864CFB else r <<< 1
def crccBit (r : Half) (d : Bool) : Half := if xor d r.msb then (r <<< 1) ^^^ 0x1021 else r <<< 1
def crcwBit (r : Word) (d : Bool) : Word := if xor d (r.getLsbD 0) then (r >>> 1) ^^^ 0x82F63B78 else r >>> 1

/-- The low n bits of a word, s[n-1] first. -/
def bitsDown (s : Half) (n : Nat) : List Bool := (List.range n).map fun i => s.getLsbD (n - 1 - i)
/-- The same, s[0] first. -/
def bitsUp (s : Half) (n : Nat) : List Bool := (List.range n).map fun i => s.getLsbD i

/-- A branch condition: always, or a flag with the value it must have. -/
def Flags.is (f : Flags) (i : Nat) (b : Bool) : Bool := f.getLsbD i == b

end Sys2Proof.Machine
end

