-- ==== Sys2Proof/Machine/Fields.lean ====
section
/-! DEFINITION. The names of the register fields: `F.<REGISTER>_<FIELD>` is the address (page * 4096 +
offset), lowest bit and width of a field; a register that occurs on several pages takes the instance, an
array register the index (the HIVEn.CH registers take the channel, 64n + k). -/

namespace Sys2Proof.Machine

/-- A register field by address, lowest bit and width. -/
structure Fld where
  addr : Nat
  lo : Nat
  w : Nat
  deriving DecidableEq, Repr

namespace F

def SYS_PART_PART : Fld := ⟨0x001040, 16, 16⟩
def SYS_STRAP_SERVICE : Fld := ⟨0x00104c, 12, 1⟩
def SYS_STRAP_REFSEL : Fld := ⟨0x00104c, 8, 2⟩
def SYS_STRAP_DEVADDR : Fld := ⟨0x00104c, 4, 3⟩
def SYS_STRAP_BOOTSEL : Fld := ⟨0x00104c, 0, 2⟩
def SYS_BOOT_TMS : Fld := ⟨0x001050, 16, 16⟩
def SYS_BOOT_CALOK : Fld := ⟨0x001050, 8, 1⟩
def SYS_BOOT_STATE : Fld := ⟨0x001050, 4, 2⟩
def SYS_BOOT_MODE : Fld := ⟨0x001050, 0, 3⟩
def RST_CAUSE_WCAUSE : Fld := ⟨0x002044, 8, 8⟩
def RST_CAUSE_CAUSE : Fld := ⟨0x002044, 0, 3⟩
def RST_WDOG_PERIOD : Fld := ⟨0x002048, 0, 16⟩
def RST_SVC_PRESSES : Fld := ⟨0x002050, 16, 16⟩
def RST_SVC_STUCK : Fld := ⟨0x002050, 1, 1⟩
def RST_SVC_LEVEL : Fld := ⟨0x002050, 0, 1⟩
def RST_CNT_WRESTART : Fld := ⟨0x002054, 16, 16⟩
def RST_CNT_DEVRESET : Fld := ⟨0x002054, 0, 16⟩
def BL_ADDR_A : Fld := ⟨0x002058, 2, 22⟩
def BL_LEN_N : Fld := ⟨0x002060, 0, 21⟩
def BL_CRC : Fld := ⟨0x002064, 0, 32⟩
def BL_STAT_RESULT : Fld := ⟨0x00206c, 1, 3⟩
def BL_STAT_BUSY : Fld := ⟨0x00206c, 0, 1⟩
def PW_VRES_DONE : Fld := ⟨0x004044, 31, 1⟩
def PW_VRES_CHANGED : Fld := ⟨0x004044, 30, 1⟩
def PW_VRES_BADDOM : Fld := ⟨0x004044, 29, 1⟩
def PW_VRES_BADCLI : Fld := ⟨0x004044, 28, 1⟩
def PW_VRES_HOLDERS : Fld := ⟨0x004044, 0, 13⟩
def PW_ON0 : Fld := ⟨0x004048, 0, 32⟩
def PW_ON1_D : Fld := ⟨0x00404c, 0, 6⟩
def PW_D_STATE (i : Nat) : Fld := ⟨0x005040 + 4 * i, 29, 3⟩
def PW_D_HOLDERS (i : Nat) : Fld := ⟨0x005040 + 4 * i, 16, 13⟩
def PW_D_AP (i : Nat) : Fld := ⟨0x005040 + 4 * i, 0, 2⟩
def PW_CNT_ENTRIES (i : Nat) : Fld := ⟨0x006040 + 4 * i, 16, 16⟩
def PW_CNT_ABAND (i : Nat) : Fld := ⟨0x006040 + 4 * i, 0, 16⟩
def PW_RAIL_MV (i : Nat) : Fld := ⟨0x007040 + 4 * i, 16, 16⟩
def PW_RAIL_MA (i : Nat) : Fld := ⟨0x007040 + 4 * i, 0, 16⟩
def LG_CTL_RESTT : Fld := ⟨0x008040, 8, 8⟩
def LG_CTL_TAREN : Fld := ⟨0x008040, 2, 1⟩
def LG_CTL_DEMEN : Fld := ⟨0x008040, 1, 1⟩
def LG_CTL_EN : Fld := ⟨0x008040, 0, 1⟩
def LG_STAT_PER : Fld := ⟨0x008044, 8, 3⟩
def LG_STAT_UNSTEERED : Fld := ⟨0x008044, 3, 1⟩
def LG_STAT_THSHED : Fld := ⟨0x008044, 2, 1⟩
def LG_STAT_TARPEND : Fld := ⟨0x008044, 1, 1⟩
def LG_STAT_CUT : Fld := ⟨0x008044, 0, 1⟩
def LG_ALLOW : Fld := ⟨0x008048, 0, 32⟩
def LG_PLAN : Fld := ⟨0x00804c, 0, 32⟩
def LG_TOT_HI : Fld := ⟨0x008050, 0, 32⟩
def LG_TOT_LO : Fld := ⟨0x008054, 0, 32⟩
def LG_RAIL_HI (i : Nat) : Fld := ⟨0x008058 + 8 * i, 0, 32⟩
def LG_RAIL_LO (i : Nat) : Fld := ⟨0x00805c + 8 * i, 0, 32⟩
def LG_CLS_HI (i : Nat) : Fld := ⟨0x008090 + 8 * i, 0, 32⟩
def LG_CLS_LO (i : Nat) : Fld := ⟨0x008094 + 8 * i, 0, 32⟩
def TAR_V (i : Nat) : Fld := ⟨0x0080c0 + 4 * i, 31, 1⟩
def TAR_START (i : Nat) : Fld := ⟨0x0080c0 + 4 * i, 16, 11⟩
def TAR_ALLOW (i : Nat) : Fld := ⟨0x0080c0 + 4 * i, 0, 16⟩
def DMD_CFG_LEN : Fld := ⟨0x0080e0, 0, 6⟩
def DMD_CAP : Fld := ⟨0x0080e4, 0, 32⟩
def DMD_E : Fld := ⟨0x0080e8, 0, 32⟩
def DMD_LAST : Fld := ⟨0x0080ec, 0, 32⟩
def LG_GRANT_N : Fld := ⟨0x0080f0, 16, 5⟩
def LG_GRANT_MW : Fld := ⟨0x0080f0, 0, 16⟩
def RSV_E : Fld := ⟨0x0080f4, 0, 32⟩
def RSV_CFG_END : Fld := ⟨0x0080f8, 24, 1⟩
def RSV_CFG_KEEP : Fld := ⟨0x0080f8, 16, 3⟩
def RSV_CFG_P : Fld := ⟨0x0080f8, 0, 16⟩
def RSV_USED : Fld := ⟨0x0080fc, 0, 32⟩
def COST_ACQ : Fld := ⟨0x008100, 0, 32⟩
def COST_TRK : Fld := ⟨0x008104, 0, 32⟩
def COST_EST_V : Fld := ⟨0x008108, 16, 16⟩
def COST_EST_F : Fld := ⟨0x008108, 0, 16⟩
def COST_ARC : Fld := ⟨0x00810c, 0, 32⟩
def COST_RF : Fld := ⟨0x008110, 0, 32⟩
def TH_CTL_SHED : Fld := ⟨0x009040, 8, 8⟩
def TH_CTL_WARN : Fld := ⟨0x009040, 0, 8⟩
def TH_SHEDP_MW : Fld := ⟨0x009044, 0, 16⟩
def TH_STAT_DWELL : Fld := ⟨0x009048, 4, 3⟩
def TH_STAT_CRIT : Fld := ⟨0x009048, 2, 1⟩
def TH_STAT_SHED : Fld := ⟨0x009048, 1, 1⟩
def TH_STAT_WARN : Fld := ⟨0x009048, 0, 1⟩
def TH_T_T (i : Nat) : Fld := ⟨0x00904c + 4 * i, 0, 16⟩
def TH_MAX_T : Fld := ⟨0x00905c, 0, 16⟩
def CLK_CFG_R : Fld := ⟨0x010040, 16, 8⟩
def CLK_CFG_REFSEL : Fld := ⟨0x010040, 14, 2⟩
def CLK_CTL_QUAL : Fld := ⟨0x010044, 8, 8⟩
def CLK_CTL_FORCEBYP : Fld := ⟨0x010044, 0, 1⟩
def CLK_STAT_BYP : Fld := ⟨0x010048, 2, 1⟩
def CLK_STAT_REFOK : Fld := ⟨0x010048, 1, 1⟩
def CLK_STAT_LOCK : Fld := ⟨0x010048, 0, 1⟩
def CLK_CNT_REFLOSS : Fld := ⟨0x01004c, 16, 16⟩
def CLK_CNT_UNLOCK : Fld := ⟨0x01004c, 0, 16⟩
def AUX_STAT_R : Fld := ⟨0x011040, 8, 8⟩
def AUX_STAT_HOLD : Fld := ⟨0x011040, 1, 1⟩
def AUX_STAT_LOCK : Fld := ⟨0x011040, 0, 1⟩
def CLKOUT_CFG_FMT (i : Nat) : Fld := ⟨0x012040 + 4 * i, 8, 3⟩
def CLKOUT_CFG_FSEL (i : Nat) : Fld := ⟨0x012040 + 4 * i, 4, 3⟩
def CLKOUT_CFG_SRC (i : Nat) : Fld := ⟨0x012040 + 4 * i, 0, 1⟩
def CLKOUT_STAT_VIO2HI : Fld := ⟨0x012050, 8, 1⟩
def CLKOUT_STAT_SQ : Fld := ⟨0x012050, 4, 4⟩
def CLKOUT_STAT_RUN : Fld := ⟨0x012050, 0, 4⟩
def RF_CTL_DCEN (n : Nat) : Fld := ⟨(0x020 + 1 * n) * 4096 + 0x040, 9, 1⟩
def RF_CTL_AGCEN (n : Nat) : Fld := ⟨(0x020 + 1 * n) * 4096 + 0x040, 8, 1⟩
def RF_CTL_REQ (n : Nat) : Fld := ⟨(0x020 + 1 * n) * 4096 + 0x040, 0, 3⟩
def RF_STAT_VCOBAND (n : Nat) : Fld := ⟨(0x020 + 1 * n) * 4096 + 0x044, 16, 5⟩
def RF_STAT_ARRAYM (n : Nat) : Fld := ⟨(0x020 + 1 * n) * 4096 + 0x044, 8, 1⟩
def RF_STAT_ANTFLT (n : Nat) : Fld := ⟨(0x020 + 1 * n) * 4096 + 0x044, 7, 1⟩
def RF_STAT_AGCSET (n : Nat) : Fld := ⟨(0x020 + 1 * n) * 4096 + 0x044, 6, 1⟩
def RF_STAT_INVALID (n : Nat) : Fld := ⟨(0x020 + 1 * n) * 4096 + 0x044, 5, 1⟩
def RF_STAT_LOCK (n : Nat) : Fld := ⟨(0x020 + 1 * n) * 4096 + 0x044, 4, 1⟩
def RF_STAT_STATE (n : Nat) : Fld := ⟨(0x020 + 1 * n) * 4096 + 0x044, 0, 3⟩
def RF_LO_N (n : Nat) : Fld := ⟨(0x020 + 1 * n) * 4096 + 0x048, 0, 11⟩
def RF_BB_MGAIN (n : Nat) : Fld := ⟨(0x020 + 1 * n) * 4096 + 0x04c, 8, 6⟩
def RF_BB_BW (n : Nat) : Fld := ⟨(0x020 + 1 * n) * 4096 + 0x04c, 0, 3⟩
def RF_AGC_TARGET (n : Nat) : Fld := ⟨(0x020 + 1 * n) * 4096 + 0x050, 0, 10⟩
def RF_GAIN_GAIN (n : Nat) : Fld := ⟨(0x020 + 1 * n) * 4096 + 0x054, 0, 6⟩
def RF_SAT_CNT (n : Nat) : Fld := ⟨(0x020 + 1 * n) * 4096 + 0x058, 0, 18⟩
def RF_DCOFS_IRES (n : Nat) : Fld := ⟨(0x020 + 1 * n) * 4096 + 0x05c, 16, 10⟩
def RF_DCOFS_QRES (n : Nat) : Fld := ⟨(0x020 + 1 * n) * 4096 + 0x05c, 0, 10⟩
def RF_CALD_DELAY (n : Nat) : Fld := ⟨(0x020 + 1 * n) * 4096 + 0x060, 0, 16⟩
def RF_CALPG_PHASE (n : Nat) : Fld := ⟨(0x020 + 1 * n) * 4096 + 0x064, 16, 16⟩
def RF_CALPG_GAIN (n : Nat) : Fld := ⟨(0x020 + 1 * n) * 4096 + 0x064, 0, 16⟩
def RF_CALT (n i : Nat) : Fld := ⟨(0x020 + 1 * n) * 4096 + 0x068 + 4 * i, 0, 32⟩
def INJ_G2DLY : Fld := ⟨0x028040, 22, 10⟩
def INJ_LVL : Fld := ⟨0x028040, 16, 6⟩
def INJ_INJN : Fld := ⟨0x028040, 0, 11⟩
def CAL_CMD_MASK : Fld := ⟨0x028044, 0, 8⟩
def CAL_STAT_DISC : Fld := ⟨0x028048, 16, 8⟩
def CAL_STAT_DONE : Fld := ⟨0x028048, 8, 8⟩
def CAL_STAT_RESULT : Fld := ⟨0x028048, 1, 3⟩
def CAL_STAT_BUSY : Fld := ⟨0x028048, 0, 1⟩
def COEX_GNTWAIT : Fld := ⟨0x02804c, 24, 8⟩
def COEX_TXTAIL : Fld := ⟨0x02804c, 16, 8⟩
def COEX_REQCAL : Fld := ⟨0x02804c, 12, 1⟩
def COEX_REQ : Fld := ⟨0x02804c, 11, 1⟩
def COEX_REQPOL : Fld := ⟨0x02804c, 10, 1⟩
def COEX_GNTPOL : Fld := ⟨0x02804c, 9, 1⟩
def COEX_TXPOL : Fld := ⟨0x02804c, 8, 1⟩
def COEX_TXMASK : Fld := ⟨0x02804c, 0, 8⟩
def COEX_CNT : Fld := ⟨0x028050, 0, 32⟩
def ARRAY_AUTOCAL : Fld := ⟨0x028054, 12, 1⟩
def ARRAY_AG1EN : Fld := ⟨0x028054, 9, 1⟩
def ARRAY_AG0EN : Fld := ⟨0x028054, 8, 1⟩
def ARRAY_AG1MASK : Fld := ⟨0x028054, 4, 4⟩
def ARRAY_AG0MASK : Fld := ⟨0x028054, 0, 4⟩
def ANTB_CTL_PATHS (i : Nat) : Fld := ⟨0x028058 + 4 * i, 16, 8⟩
def ANTB_CTL_OPENTH (i : Nat) : Fld := ⟨0x028058 + 4 * i, 12, 4⟩
def ANTB_CTL_ILIM (i : Nat) : Fld := ⟨0x028058 + 4 * i, 8, 4⟩
def ANTB_CTL_V50 (i : Nat) : Fld := ⟨0x028058 + 4 * i, 1, 1⟩
def ANTB_CTL_EN (i : Nat) : Fld := ⟨0x028058 + 4 * i, 0, 1⟩
def ANTB_STAT_BLANK : Fld := ⟨0x028068, 12, 4⟩
def ANTB_STAT_TRIP : Fld := ⟨0x028068, 8, 4⟩
def ANTB_STAT_SHORT : Fld := ⟨0x028068, 4, 4⟩
def ANTB_STAT_OPEN : Fld := ⟨0x028068, 0, 4⟩
def ANTB_I01_I_HI : Fld := ⟨0x02806c, 16, 16⟩
def ANTB_I01_I_LO : Fld := ⟨0x02806c, 0, 16⟩
def ANTB_I23_I_HI : Fld := ⟨0x028070, 16, 16⟩
def ANTB_I23_I_LO : Fld := ⟨0x028070, 0, 16⟩
def SV_CTL_INSEL (n : Nat) : Fld := ⟨(0x030 + 1 * n) * 4096 + 0x040, 12, 1⟩
def SV_CTL_DCTC (n : Nat) : Fld := ⟨(0x030 + 1 * n) * 4096 + 0x040, 8, 2⟩
def SV_CTL_IQEN (n : Nat) : Fld := ⟨(0x030 + 1 * n) * 4096 + 0x040, 1, 1⟩
def SV_CTL_DCEN (n : Nat) : Fld := ⟨(0x030 + 1 * n) * 4096 + 0x040, 0, 1⟩
def SV_DC_IDC (n : Nat) : Fld := ⟨(0x030 + 1 * n) * 4096 + 0x044, 16, 16⟩
def SV_DC_QDC (n : Nat) : Fld := ⟨(0x030 + 1 * n) * 4096 + 0x044, 0, 16⟩
def SV_IQ_G (n : Nat) : Fld := ⟨(0x030 + 1 * n) * 4096 + 0x048, 16, 16⟩
def SV_IQ_P (n : Nat) : Fld := ⟨(0x030 + 1 * n) * 4096 + 0x048, 0, 16⟩
def PB_CFG_PRE (n : Nat) : Fld := ⟨(0x030 + 1 * n) * 4096 + 0x04c, 24, 5⟩
def PB_CFG_HOLD (n : Nat) : Fld := ⟨(0x030 + 1 * n) * 4096 + 0x04c, 12, 12⟩
def PB_CFG_THR (n : Nat) : Fld := ⟨(0x030 + 1 * n) * 4096 + 0x04c, 0, 11⟩
def PB_CNT_CNT (n : Nat) : Fld := ⟨(0x030 + 1 * n) * 4096 + 0x050, 0, 18⟩
def PB_MAX_BLMAX (n : Nat) : Fld := ⟨(0x030 + 1 * n) * 4096 + 0x054, 0, 7⟩
def NOTCH_MODE (n i : Nat) : Fld := ⟨(0x030 + 1 * n) * 4096 + 0x058 + 4 * i, 30, 2⟩
def NOTCH_BW (n i : Nat) : Fld := ⟨(0x030 + 1 * n) * 4096 + 0x058 + 4 * i, 16, 4⟩
def NOTCH_FREQ (n i : Nat) : Fld := ⟨(0x030 + 1 * n) * 4096 + 0x058 + 4 * i, 0, 16⟩
def NSTAT_ON (n i : Nat) : Fld := ⟨(0x030 + 1 * n) * 4096 + 0x078 + 4 * i, 31, 1⟩
def NSTAT_LOCKED (n i : Nat) : Fld := ⟨(0x030 + 1 * n) * 4096 + 0x078 + 4 * i, 30, 1⟩
def NSTAT_FREQ (n i : Nat) : Fld := ⟨(0x030 + 1 * n) * 4096 + 0x078 + 4 * i, 0, 16⟩
def NDET_DETTHR (n : Nat) : Fld := ⟨(0x030 + 1 * n) * 4096 + 0x098, 0, 8⟩
def CMB_CTL_NULTHR (i : Nat) : Fld := ⟨0x038040 + 4 * i, 8, 8⟩
def CMB_CTL_NMAX (i : Nat) : Fld := ⟨0x038040 + 4 * i, 4, 2⟩
def CMB_CTL_MODE (i : Nat) : Fld := ⟨0x038040 + 4 * i, 0, 2⟩
def CMB_STAT_NULLS1 : Fld := ⟨0x038048, 4, 2⟩
def CMB_STAT_NULLS0 : Fld := ⟨0x038048, 0, 2⟩
def CMB_W_WI (i : Nat) : Fld := ⟨0x038050 + 4 * i, 16, 16⟩
def STR_EN (i : Nat) : Fld := ⟨0x038080 + 4 * i, 31, 1⟩
def STR_SRC (i : Nat) : Fld := ⟨0x038080 + 4 * i, 25, 6⟩
def STR_WIDTH (i : Nat) : Fld := ⟨0x038080 + 4 * i, 23, 2⟩
def STR_DECIM (i : Nat) : Fld := ⟨0x038080 + 4 * i, 21, 2⟩
def STR_DEST (i : Nat) : Fld := ⟨0x038080 + 4 * i, 16, 5⟩
def STR_SHIFT (i : Nat) : Fld := ⟨0x038080 + 4 * i, 0, 14⟩
def STR_Q_STEP (i : Nat) : Fld := ⟨0x0380e0 + 4 * i, 0, 8⟩
def SX_RUN_S : Fld := ⟨0x038140, 0, 24⟩
def SX_INV_S : Fld := ⟨0x038144, 0, 24⟩
def SM_CTL_CONT : Fld := ⟨0x039040, 16, 1⟩
def SM_CTL_AVG : Fld := ⟨0x039040, 8, 4⟩
def SM_CTL_TAP : Fld := ⟨0x039040, 4, 1⟩
def SM_CTL_PATH : Fld := ⟨0x039040, 0, 3⟩
def SM_ADDR_ADDR : Fld := ⟨0x039044, 6, 18⟩
def SM_STAT_DISC : Fld := ⟨0x039048, 16, 16⟩
def SM_STAT_BUSY : Fld := ⟨0x039048, 0, 1⟩
def SM_T (i : Nat) : Fld := ⟨0x03904c + 4 * i, 0, 32⟩
def DF_CTL_HOLD : Fld := ⟨0x040040, 8, 1⟩
def DF_STAT_FREEBLK : Fld := ⟨0x040044, 24, 8⟩
def DF_STAT_NFREE : Fld := ⟨0x040044, 16, 7⟩
def DF_STAT_CAPS : Fld := ⟨0x040044, 8, 4⟩
def DF_STAT_RUNNING : Fld := ⟨0x040044, 6, 1⟩
def DF_STAT_RUNSLOT : Fld := ⟨0x040044, 0, 6⟩
def DF_CELLS_HI : Fld := ⟨0x040048, 0, 32⟩
def DF_CELLS_LO : Fld := ⟨0x04004c, 0, 32⟩
def DF_JOBS : Fld := ⟨0x040050, 0, 32⟩
def JD (i : Nat) : Fld := ⟨0x041040 + 4 * i, 0, 32⟩
def JOB_RET_VALID : Fld := ⟨0x041084, 31, 1⟩
def JOB_RET_CODE : Fld := ⟨0x041084, 8, 8⟩
def JOB_RET_SLOT : Fld := ⟨0x041084, 0, 6⟩
def JS_TENANT (i : Nat) : Fld := ⟨0x042040 + 4 * i, 16, 12⟩
def JS_PREEMPTED (i : Nat) : Fld := ⟨0x042040 + 4 * i, 9, 1⟩
def JS_LATE (i : Nat) : Fld := ⟨0x042040 + 4 * i, 8, 1⟩
def JS_PRIO (i : Nat) : Fld := ⟨0x042040 + 4 * i, 4, 2⟩
def JS_STATE (i : Nat) : Fld := ⟨0x042040 + 4 * i, 0, 3⟩
def JS_DONE (i : Nat) : Fld := ⟨0x042140 + 4 * i, 0, 32⟩
def SNAP_MAP (i : Nat) : Fld := ⟨0x043040 + 4 * i, 0, 32⟩
def HV_CTL_DMODE (n : Nat) : Fld := ⟨(0x080 + 8 * n) * 4096 + 0x040, 0, 1⟩
def HV_LOAD_NCH (n : Nat) : Fld := ⟨(0x080 + 8 * n) * 4096 + 0x044, 16, 7⟩
def HV_LOAD_LOAD (n : Nat) : Fld := ⟨(0x080 + 8 * n) * 4096 + 0x044, 0, 13⟩
def HV_RUN (n i : Nat) : Fld := ⟨(0x080 + 8 * n) * 4096 + 0x048 + 4 * i, 0, 32⟩
def HV_CSBASE_V (n : Nat) : Fld := ⟨(0x080 + 8 * n) * 4096 + 0x058, 6, 18⟩
def HV_CSLEN_V (n : Nat) : Fld := ⟨(0x080 + 8 * n) * 4096 + 0x05c, 0, 16⟩
def HV_CSWP_V (n : Nat) : Fld := ⟨(0x080 + 8 * n) * 4096 + 0x060, 0, 16⟩
def HV_CSRP_V (n : Nat) : Fld := ⟨(0x080 + 8 * n) * 4096 + 0x064, 0, 16⟩
def HV_CSDROP (n : Nat) : Fld := ⟨(0x080 + 8 * n) * 4096 + 0x068, 0, 32⟩
def HV_LASTF_L (n : Nat) : Fld := ⟨(0x080 + 8 * n) * 4096 + 0x06c, 0, 6⟩
def WV_CTL_RUN (n : Nat) : Fld := ⟨(0x081 + 8 * n) * 4096 + 0x040, 0, 1⟩
def WV_STAT_CAUSE (n : Nat) : Fld := ⟨(0x081 + 8 * n) * 4096 + 0x044, 8, 8⟩
def WV_STAT_FAULT (n : Nat) : Fld := ⟨(0x081 + 8 * n) * 4096 + 0x044, 2, 1⟩
def WV_STAT_STALLED (n : Nat) : Fld := ⟨(0x081 + 8 * n) * 4096 + 0x044, 1, 1⟩
def WV_STAT_RUNNING (n : Nat) : Fld := ⟨(0x081 + 8 * n) * 4096 + 0x044, 0, 1⟩
def WV_LDSRC_V (n : Nat) : Fld := ⟨(0x081 + 8 * n) * 4096 + 0x04c, 6, 18⟩
def WV_LDCTL_DATA (n : Nat) : Fld := ⟨(0x081 + 8 * n) * 4096 + 0x050, 30, 1⟩
def WV_LDCTL_WORDS (n : Nat) : Fld := ⟨(0x081 + 8 * n) * 4096 + 0x050, 0, 15⟩
def WV_LOAD_V (n : Nat) : Fld := ⟨(0x081 + 8 * n) * 4096 + 0x054, 0, 20⟩
def CH_CTL_CSINT (ch : Nat) : Fld := ⟨((0x082 + 8 * (ch / 64) + ch % 64 / 16) * 4096 + 0x040 + 0xF0 * (ch % 16)), 8, 5⟩
def CH_CTL_VECOK (ch : Nat) : Fld := ⟨((0x082 + 8 * (ch / 64) + ch % 64 / 16) * 4096 + 0x040 + 0xF0 * (ch % 16)), 7, 1⟩
def CH_CTL_SUBEN (ch : Nat) : Fld := ⟨((0x082 + 8 * (ch / 64) + ch % 64 / 16) * 4096 + 0x040 + 0xF0 * (ch % 16)), 6, 1⟩
def CH_CAR_FH_FCW (ch : Nat) : Fld := ⟨((0x082 + 8 * (ch / 64) + ch % 64 / 16) * 4096 + 0x05c + 0xF0 * (ch % 16)), 0, 16⟩
def CH_CAR_FL (ch : Nat) : Fld := ⟨((0x082 + 8 * (ch / 64) + ch % 64 / 16) * 4096 + 0x060 + 0xF0 * (ch % 16)), 0, 32⟩
def CH_CODE_FH_CCW (ch : Nat) : Fld := ⟨((0x082 + 8 * (ch / 64) + ch % 64 / 16) * 4096 + 0x064 + 0xF0 * (ch % 16)), 0, 8⟩
def CH_CODE_FL (ch : Nat) : Fld := ⟨((0x082 + 8 * (ch / 64) + ch % 64 / 16) * 4096 + 0x068 + 0xF0 * (ch % 16)), 0, 32⟩
def CH_CPI_PH (ch : Nat) : Fld := ⟨((0x082 + 8 * (ch / 64) + ch % 64 / 16) * 4096 + 0x06c + 0xF0 * (ch % 16)), 0, 25⟩
def CH_CPF (ch : Nat) : Fld := ⟨((0x082 + 8 * (ch / 64) + ch % 64 / 16) * 4096 + 0x070 + 0xF0 * (ch % 16)), 0, 32⟩
def CH_CAR_P0 (ch : Nat) : Fld := ⟨((0x082 + 8 * (ch / 64) + ch % 64 / 16) * 4096 + 0x074 + 0xF0 * (ch % 16)), 0, 32⟩
def CH_LOOP_PLLBW (ch : Nat) : Fld := ⟨((0x082 + 8 * (ch / 64) + ch % 64 / 16) * 4096 + 0x088 + 0xF0 * (ch % 16)), 24, 8⟩
def CH_LOOP_FLLBW (ch : Nat) : Fld := ⟨((0x082 + 8 * (ch / 64) + ch % 64 / 16) * 4096 + 0x088 + 0xF0 * (ch % 16)), 16, 8⟩
def CH_LOOP_DLLBW (ch : Nat) : Fld := ⟨((0x082 + 8 * (ch / 64) + ch % 64 / 16) * 4096 + 0x088 + 0xF0 * (ch % 16)), 8, 8⟩
def CH_LOOP_TCOH (ch : Nat) : Fld := ⟨((0x082 + 8 * (ch / 64) + ch % 64 / 16) * 4096 + 0x088 + 0xF0 * (ch % 16)), 3, 5⟩
def CH_LOOP_PLLORD (ch : Nat) : Fld := ⟨((0x082 + 8 * (ch / 64) + ch % 64 / 16) * 4096 + 0x088 + 0xF0 * (ch % 16)), 0, 2⟩
def CH_LOCK_PLLTHR (ch : Nat) : Fld := ⟨((0x082 + 8 * (ch / 64) + ch % 64 / 16) * 4096 + 0x08c + 0xF0 * (ch % 16)), 24, 8⟩
def CH_LOCK_LOSSCN0 (ch : Nat) : Fld := ⟨((0x082 + 8 * (ch / 64) + ch % 64 / 16) * 4096 + 0x08c + 0xF0 * (ch % 16)), 16, 8⟩
def CH_LOCK_LOSST (ch : Nat) : Fld := ⟨((0x082 + 8 * (ch / 64) + ch % 64 / 16) * 4096 + 0x08c + 0xF0 * (ch % 16)), 8, 8⟩
def CH_STAT_EVC (ch : Nat) : Fld := ⟨((0x082 + 8 * (ch / 64) + ch % 64 / 16) * 4096 + 0x0a0 + 0xF0 * (ch % 16)), 24, 7⟩
def CH_STAT_LASTDS (ch : Nat) : Fld := ⟨((0x082 + 8 * (ch / 64) + ch % 64 / 16) * 4096 + 0x0a0 + 0xF0 * (ch % 16)), 16, 8⟩
def CH_STAT_STATE (ch : Nat) : Fld := ⟨((0x082 + 8 * (ch / 64) + ch % 64 / 16) * 4096 + 0x0a0 + 0xF0 * (ch % 16)), 0, 3⟩
def CH_LCP_I_V (ch : Nat) : Fld := ⟨((0x082 + 8 * (ch / 64) + ch % 64 / 16) * 4096 + 0x0a4 + 0xF0 * (ch % 16)), 0, 25⟩
def CH_LCP_F (ch : Nat) : Fld := ⟨((0x082 + 8 * (ch / 64) + ch % 64 / 16) * 4096 + 0x0a8 + 0xF0 * (ch % 16)), 0, 32⟩
def CH_CYC (ch : Nat) : Fld := ⟨((0x082 + 8 * (ch / 64) + ch % 64 / 16) * 4096 + 0x0ac + 0xF0 * (ch % 16)), 0, 32⟩
def CH_LCA (ch : Nat) : Fld := ⟨((0x082 + 8 * (ch / 64) + ch % 64 / 16) * 4096 + 0x0b0 + 0xF0 * (ch % 16)), 0, 32⟩
def CH_CAR_NOWH (ch : Nat) : Fld := ⟨((0x082 + 8 * (ch / 64) + ch % 64 / 16) * 4096 + 0x0b4 + 0xF0 * (ch % 16)), 0, 32⟩
def CH_CAR_NOWL (ch : Nat) : Fld := ⟨((0x082 + 8 * (ch / 64) + ch % 64 / 16) * 4096 + 0x0b8 + 0xF0 * (ch % 16)), 0, 32⟩
def CH_CODE_NOWH (ch : Nat) : Fld := ⟨((0x082 + 8 * (ch / 64) + ch % 64 / 16) * 4096 + 0x0bc + 0xF0 * (ch % 16)), 0, 32⟩
def CH_CODE_NOWL (ch : Nat) : Fld := ⟨((0x082 + 8 * (ch / 64) + ch % 64 / 16) * 4096 + 0x0c0 + 0xF0 * (ch % 16)), 0, 32⟩
def CH_CN0_V (ch : Nat) : Fld := ⟨((0x082 + 8 * (ch / 64) + ch % 64 / 16) * 4096 + 0x0c4 + 0xF0 * (ch % 16)), 0, 16⟩
def CH_LOCKT (ch : Nat) : Fld := ⟨((0x082 + 8 * (ch / 64) + ch % 64 / 16) * 4096 + 0x0c8 + 0xF0 * (ch % 16)), 0, 32⟩
def CH_FLAGS_POLINV (ch : Nat) : Fld := ⟨((0x082 + 8 * (ch / 64) + ch % 64 / 16) * 4096 + 0x0cc + 0xF0 * (ch % 16)), 6, 1⟩
def CH_FLAGS_HALFC (ch : Nat) : Fld := ⟨((0x082 + 8 * (ch / 64) + ch % 64 / 16) * 4096 + 0x0cc + 0xF0 * (ch % 16)), 5, 1⟩
def CH_FLAGS_SLIP (ch : Nat) : Fld := ⟨((0x082 + 8 * (ch / 64) + ch % 64 / 16) * 4096 + 0x0cc + 0xF0 * (ch % 16)), 4, 1⟩
def CH_FLAGS_FRAMESYNC (ch : Nat) : Fld := ⟨((0x082 + 8 * (ch / 64) + ch % 64 / 16) * 4096 + 0x0cc + 0xF0 * (ch % 16)), 3, 1⟩
def CH_FLAGS_SECSYNC (ch : Nat) : Fld := ⟨((0x082 + 8 * (ch / 64) + ch % 64 / 16) * 4096 + 0x0cc + 0xF0 * (ch % 16)), 2, 1⟩
def CH_FLAGS_BITSYNC (ch : Nat) : Fld := ⟨((0x082 + 8 * (ch / 64) + ch % 64 / 16) * 4096 + 0x0cc + 0xF0 * (ch % 16)), 1, 1⟩
def CH_FLAGS_PLOCK (ch : Nat) : Fld := ⟨((0x082 + 8 * (ch / 64) + ch % 64 / 16) * 4096 + 0x0cc + 0xF0 * (ch % 16)), 0, 1⟩
def CH_DECFAIL_V (ch : Nat) : Fld := ⟨((0x082 + 8 * (ch / 64) + ch % 64 / 16) * 4096 + 0x0d0 + 0xF0 * (ch % 16)), 0, 16⟩
def CH_SUBI_V (ch : Nat) : Fld := ⟨((0x082 + 8 * (ch / 64) + ch % 64 / 16) * 4096 + 0x0f4 + 0xF0 * (ch % 16)), 0, 24⟩
def CH_SUBQ_V (ch : Nat) : Fld := ⟨((0x082 + 8 * (ch / 64) + ch % 64 / 16) * 4096 + 0x0f8 + 0xF0 * (ch % 16)), 0, 24⟩
def TLOAD_V (n i : Nat) : Fld := ⟨(0x086 + 8 * n) * 4096 + 0x040 + 4 * i, 0, 9⟩
def CS_SRC_V (n : Nat) : Fld := ⟨(0x086 + 8 * n) * 4096 + 0x140, 6, 18⟩
def CS_CTL_NUNITS (n : Nat) : Fld := ⟨(0x086 + 8 * n) * 4096 + 0x144, 16, 10⟩
def CS_CTL_UNIT (n : Nat) : Fld := ⟨(0x086 + 8 * n) * 4096 + 0x144, 0, 10⟩
def CS_STAT_REFUSED (n : Nat) : Fld := ⟨(0x086 + 8 * n) * 4096 + 0x148, 1, 1⟩
def CS_STAT_BUSY (n : Nat) : Fld := ⟨(0x086 + 8 * n) * 4096 + 0x148, 0, 1⟩
def GA_CTL_EN : Fld := ⟨0x100040, 0, 1⟩
def GA_FBASE_V : Fld := ⟨0x100044, 16, 8⟩
def GA_NFR_V : Fld := ⟨0x100048, 0, 8⟩
def GA_SEQ : Fld := ⟨0x10004c, 0, 32⟩
def GA_MAXLAT_V : Fld := ⟨0x100050, 0, 16⟩
def GA_LATE : Fld := ⟨0x100054, 0, 32⟩
def SC_STAT_NSV : Fld := ⟨0x101044, 24, 8⟩
def SC_STAT_RTK : Fld := ⟨0x101044, 16, 2⟩
def SC_STAT_FSTATE : Fld := ⟨0x101044, 0, 2⟩
def SC_MTAB_ADDR : Fld := ⟨0x101048, 6, 18⟩
def SC_MRES_PENDING : Fld := ⟨0x101050, 31, 1⟩
def SC_MRES_BUSY : Fld := ⟨0x101050, 8, 1⟩
def SC_MRES_CODE : Fld := ⟨0x101050, 0, 3⟩
def SC_SOLB_NREC : Fld := ⟨0x101054, 24, 8⟩
def SC_SOLB_ADDR : Fld := ⟨0x101054, 6, 18⟩
def SC_FT (i : Nat) : Fld := ⟨0x101058 + 4 * i, 0, 32⟩
def SC_CLKSD : Fld := ⟨0x101064, 0, 32⟩
def SC_NST_LATMAX : Fld := ⟨0x101068, 16, 16⟩
def SC_NST_NST : Fld := ⟨0x101068, 0, 8⟩
def VC_STAT_NVEC : Fld := ⟨0x102040, 16, 11⟩
def VC_STAT_GCAUSE : Fld := ⟨0x102040, 4, 4⟩
def VC_STAT_VSTATE : Fld := ⟨0x102040, 0, 3⟩
def VC_CNT_CFALL : Fld := ⟨0x102044, 16, 16⟩
def VC_CNT_GFALL : Fld := ⟨0x102044, 0, 16⟩
def VC_GT (i : Nat) : Fld := ⟨0x102048 + 4 * i, 0, 32⟩
def VC_LASTCH_CAUSE : Fld := ⟨0x102054, 28, 4⟩
def VC_LASTCH_CH : Fld := ⟨0x102054, 0, 10⟩
def VC_TMAX_CYC : Fld := ⟨0x102058, 0, 16⟩
def VC_TAKEN (i : Nat) : Fld := ⟨0x102080 + 4 * i, 0, 32⟩
def VC_REL (i : Nat) : Fld := ⟨0x102100 + 4 * i, 0, 32⟩
def IN_PL_HPL : Fld := ⟨0x103040, 16, 16⟩
def IN_PL_VPL : Fld := ⟨0x103040, 0, 16⟩
def IN_TPL_TPL : Fld := ⟨0x103044, 0, 16⟩
def IN_STAT_NEXCLD : Fld := ⟨0x103048, 24, 8⟩
def IN_STAT_SPOOF : Fld := ⟨0x103048, 5, 1⟩
def IN_STAT_ATTV : Fld := ⟨0x103048, 4, 1⟩
def IN_STAT_TALM : Fld := ⟨0x103048, 2, 1⟩
def IN_STAT_VALM : Fld := ⟨0x103048, 1, 1⟩
def IN_STAT_HALM : Fld := ⟨0x103048, 0, 1⟩
def IN_EXCL_V (i : Nat) : Fld := ⟨0x10304c + 4 * i, 15, 1⟩
def BM_ATT_HEAD (i : Nat) : Fld := ⟨0x103054 + 4 * i, 16, 16⟩
def BM_ATT_PITCH (i : Nat) : Fld := ⟨0x103054 + 4 * i, 0, 16⟩
def SKY_STATE_TIMEERR : Fld := ⟨0x110040, 4, 1⟩
def SKY_STATE_AONVALID : Fld := ⟨0x110040, 3, 1⟩
def SKY_STATE_SRC : Fld := ⟨0x110040, 2, 1⟩
def SKY_STATE_STATE : Fld := ⟨0x110040, 0, 2⟩
def SKY_CTL_STEPTHR : Fld := ⟨0x110044, 16, 16⟩
def SKY_CTL_AUTOSTEP : Fld := ⟨0x110044, 1, 1⟩
def NOW_T (i : Nat) : Fld := ⟨0x110048 + 4 * i, 0, 32⟩
def SMP_HI : Fld := ⟨0x110054, 0, 32⟩
def SMP_LO : Fld := ⟨0x110058, 0, 32⟩
def INC_I_INC_I : Fld := ⟨0x11005c, 0, 24⟩
def INC_F : Fld := ⟨0x110060, 0, 32⟩
def SLEW_SLEWMAX : Fld := ⟨0x110064, 0, 16⟩
def UNC : Fld := ⟨0x110068, 0, 32⟩
def GRID_EPOCH : Fld := ⟨0x11006c, 4, 4⟩
def GRID_DUMP : Fld := ⟨0x11006c, 0, 1⟩
def LEAP_PEND : Fld := ⟨0x110070, 17, 1⟩
def LEAP_VALID : Fld := ⟨0x110070, 16, 1⟩
def LEAP_NEXT : Fld := ⟨0x110070, 8, 8⟩
def LEAP_CUR : Fld := ⟨0x110070, 0, 8⟩
def LEAP_T (i : Nat) : Fld := ⟨0x110074 + 4 * i, 0, 32⟩
def STEP_S : Fld := ⟨0x110080, 0, 32⟩
def STEP_F : Fld := ⟨0x110084, 0, 32⟩
def WEEK : Fld := ⟨0x110088, 0, 32⟩
def TOWMS : Fld := ⟨0x11008c, 0, 32⟩
def WEEKFLOOR_WEEK : Fld := ⟨0x110090, 0, 16⟩
def DISC_SRCSW : Fld := ⟨0x110094, 16, 16⟩
def DISC_STEPS : Fld := ⟨0x110094, 0, 16⟩
def HOLD_HOLDAON : Fld := ⟨0x110098, 16, 16⟩
def HOLD_HOLDSAMP : Fld := ⟨0x110098, 0, 16⟩
def SCHED_IDX_IDX : Fld := ⟨0x111040, 0, 9⟩
def SCHED_STAT_NFREE : Fld := ⟨0x111048, 16, 10⟩
def SCHED_STAT_REFUSED : Fld := ⟨0x111048, 1, 1⟩
def SCHED_STAT_BUSY : Fld := ⟨0x111048, 0, 1⟩
def E_T (i : Nat) : Fld := ⟨0x11104c + 4 * i, 0, 32⟩
def E_ACT_ACTION : Fld := ⟨0x111058, 20, 4⟩
def E_ACT_MAINSREL : Fld := ⟨0x111058, 16, 1⟩
def E_ARG : Fld := ⟨0x11105c, 0, 32⟩
def E_PER_UNIT : Fld := ⟨0x111060, 31, 1⟩
def E_STAT_FIRES : Fld := ⟨0x111064, 16, 16⟩
def E_STAT_ARMED : Fld := ⟨0x111064, 0, 1⟩
def SCHED_VFCNT_CNT : Fld := ⟨0x11106c, 0, 16⟩
def ARMED (i : Nat) : Fld := ⟨0x112040 + 4 * i, 0, 32⟩
def FIRED (i : Nat) : Fld := ⟨0x112080 + 4 * i, 0, 32⟩
def VOTEF (i : Nat) : Fld := ⟨0x1120c0 + 4 * i, 0, 32⟩
def LATE (i : Nat) : Fld := ⟨0x112100 + 4 * i, 0, 32⟩
def TP_CTL_UNCMAX (i : Nat) : Fld := ⟨0x113040 + 32 * i, 16, 16⟩
def TP_CTL_FLTW (i : Nat) : Fld := ⟨0x113040 + 32 * i, 8, 8⟩
def TP_CTL_QUAL (i : Nat) : Fld := ⟨0x113040 + 32 * i, 4, 4⟩
def TP_CTL_BYPOK (i : Nat) : Fld := ⟨0x113040 + 32 * i, 3, 1⟩
def TP_CTL_POL (i : Nat) : Fld := ⟨0x113040 + 32 * i, 1, 1⟩
def TP_CTL_EN (i : Nat) : Fld := ⟨0x113040 + 32 * i, 0, 1⟩
def TP_WID (i : Nat) : Fld := ⟨0x113044 + 32 * i, 0, 32⟩
def TP_OFS (i : Nat) : Fld := ⟨0x113048 + 32 * i, 0, 32⟩
def TP_STAT_FLT (i : Nat) : Fld := ⟨0x11304c + 32 * i, 6, 1⟩
def TP_STAT_FLTSTB (i : Nat) : Fld := ⟨0x11304c + 32 * i, 5, 1⟩
def TP_STAT_DUAL (i : Nat) : Fld := ⟨0x11304c + 32 * i, 4, 1⟩
def TP_STAT_CHKF (i : Nat) : Fld := ⟨0x11304c + 32 * i, 3, 1⟩
def TP_STAT_FAULTB (i : Nat) : Fld := ⟨0x11304c + 32 * i, 2, 1⟩
def TP_STAT_FAULTA (i : Nat) : Fld := ⟨0x11304c + 32 * i, 1, 1⟩
def TP_STAT_ACT (i : Nat) : Fld := ⟨0x11304c + 32 * i, 0, 1⟩
def TP_ERR (i : Nat) : Fld := ⟨0x113050 + 32 * i, 0, 32⟩
def TP_ERRS (i : Nat) : Fld := ⟨0x113054 + 32 * i, 0, 32⟩
def TP_CNT_SKIP (i : Nat) : Fld := ⟨0x113058 + 32 * i, 16, 16⟩
def TP_CNT_FAULTS (i : Nat) : Fld := ⟨0x113058 + 32 * i, 0, 16⟩
def TP_EDGES (i : Nat) : Fld := ⟨0x11305c + 32 * i, 0, 32⟩
def EV_CFG_GLITCH (i : Nat) : Fld := ⟨0x114040 + 4 * i, 4, 4⟩
def EV_CFG_EDGE (i : Nat) : Fld := ⟨0x114040 + 4 * i, 1, 2⟩
def EV_CFG_EN (i : Nat) : Fld := ⟨0x114040 + 4 * i, 0, 1⟩
def EV_POP_VALID : Fld := ⟨0x114060, 31, 1⟩
def EV_T (i : Nat) : Fld := ⟨0x114064 + 4 * i, 0, 32⟩
def EV_FILL_V : Fld := ⟨0x114070, 0, 9⟩
def EV_CNT_DROP (i : Nat) : Fld := ⟨0x114080 + 4 * i, 16, 16⟩
def EV_CNT_REJ (i : Nat) : Fld := ⟨0x114080 + 4 * i, 0, 16⟩
def MN_CTL_NAVG : Fld := ⟨0x115040, 16, 4⟩
def MN_CTL_DEGL : Fld := ⟨0x115040, 8, 8⟩
def MN_CTL_NOM : Fld := ⟨0x115040, 0, 1⟩
def MN_STAT_LOCK : Fld := ⟨0x115044, 0, 1⟩
def MN_FLAGS_FRANGE : Fld := ⟨0x115048, 2, 1⟩
def MN_FLAGS_GAP : Fld := ⟨0x115048, 1, 1⟩
def MN_FLAGS_WRAP : Fld := ⟨0x115048, 0, 1⟩
def MN_CYC : Fld := ⟨0x11504c, 0, 32⟩
def MN_ZT (i : Nat) : Fld := ⟨0x115050 + 4 * i, 0, 32⟩
def MN_FREQ : Fld := ⟨0x11505c, 0, 32⟩
def MN_PHASE : Fld := ⟨0x115060, 0, 32⟩
def MN_GAPS : Fld := ⟨0x115064, 0, 32⟩
def ST_CTL_MAXD : Fld := ⟨0x116040, 16, 16⟩
def ST_CTL_TAU : Fld := ⟨0x116040, 8, 8⟩
def ST_CTL_MODE : Fld := ⟨0x116040, 0, 2⟩
def ST_VAL_CODE : Fld := ⟨0x116044, 0, 20⟩
def ST_OUT_CODE : Fld := ⟨0x116048, 0, 20⟩
def ST_GAIN : Fld := ⟨0x11604c, 0, 32⟩
def ST_MIN_CODE : Fld := ⟨0x116050, 0, 20⟩
def ST_MAX_CODE : Fld := ⟨0x116054, 0, 20⟩
def ST_FERR : Fld := ⟨0x116058, 0, 32⟩
def CB_STAT_QON : Fld := ⟨0x120044, 0, 4⟩
def CB_ECC_CORR : Fld := ⟨0x120048, 16, 16⟩
def CB_ECC_UNCORR : Fld := ⟨0x120048, 0, 16⟩
def CB_ECCADDR_MASTER : Fld := ⟨0x12004c, 28, 4⟩
def CB_ECCADDR_ADDR : Fld := ⟨0x12004c, 0, 24⟩
def CB_OFFADDR_MASTER : Fld := ⟨0x120050, 28, 4⟩
def CB_OFFADDR_ADDR : Fld := ⟨0x120050, 0, 24⟩
def CB_ACC (i : Nat) : Fld := ⟨0x120080 + 4 * i, 0, 32⟩
def CB_CNF (i : Nat) : Fld := ⟨0x1200c0 + 4 * i, 0, 32⟩
def CL_IRQ_PIN0 : Fld := ⟨0x130044, 8, 4⟩
def CL_IRQEN_PIN0 : Fld := ⟨0x130048, 8, 4⟩
def CL_RES01_RES1 : Fld := ⟨0x13004c, 16, 13⟩
def CL_RES01_RES0 : Fld := ⟨0x13004c, 0, 13⟩
def CL_RES23_RES3 : Fld := ⟨0x130050, 16, 13⟩
def CL_RES23_RES2 : Fld := ⟨0x130050, 0, 13⟩
def CL_HELD01_N1 : Fld := ⟨0x130054, 16, 13⟩
def CL_HELD01_N0 : Fld := ⟨0x130054, 0, 13⟩
def CL_HELD23_N3 : Fld := ⟨0x130058, 16, 13⟩
def CL_HELD23_N2 : Fld := ⟨0x130058, 0, 13⟩
def CL_SEQ : Fld := ⟨0x13005c, 0, 32⟩
def CL_DROP (i : Nat) : Fld := ⟨0x130060 + 4 * i, 0, 32⟩
def SRC_CFG_CW (src : Nat) : Fld := ⟨(0x131 + src / 128) * 4096 + 0x040 + 4 * (src % 128), 12, 4⟩
def SRC_CFG_CLASS (src : Nat) : Fld := ⟨(0x131 + src / 128) * 4096 + 0x040 + 4 * (src % 128), 8, 2⟩
def SRC_CFG_TEN (src : Nat) : Fld := ⟨(0x131 + src / 128) * 4096 + 0x040 + 4 * (src % 128), 5, 1⟩
def SRC_CFG_PIN1 (src : Nat) : Fld := ⟨(0x131 + src / 128) * 4096 + 0x040 + 4 * (src % 128), 4, 1⟩
def SRC_CFG_PIN0 (src : Nat) : Fld := ⟨(0x131 + src / 128) * 4096 + 0x040 + 4 * (src % 128), 3, 1⟩
def SRC_CFG_PCIE (src : Nat) : Fld := ⟨(0x131 + src / 128) * 4096 + 0x040 + 4 * (src % 128), 2, 1⟩
def SRC_CFG_WARDEN (src : Nat) : Fld := ⟨(0x131 + src / 128) * 4096 + 0x040 + 4 * (src % 128), 1, 1⟩
def SRC_CFG_LOG (src : Nat) : Fld := ⟨(0x131 + src / 128) * 4096 + 0x040 + 4 * (src % 128), 0, 1⟩
def SRC_CNT_OCC (src : Nat) : Fld := ⟨(0x131 + src / 128) * 4096 + 0x240 + 4 * (src % 128), 16, 16⟩
def SRC_CNT_COUNT (src : Nat) : Fld := ⟨(0x131 + src / 128) * 4096 + 0x240 + 4 * (src % 128), 0, 16⟩
def TN_IDX_T : Fld := ⟨0x140040, 0, 12⟩
def TN_STAT_Q : Fld := ⟨0x140048, 31, 1⟩
def TN_STAT_NSUB : Fld := ⟨0x140048, 16, 8⟩
def TN_STAT_CAUSE : Fld := ⟨0x140048, 8, 8⟩
def TN_STAT_PORT : Fld := ⟨0x140048, 4, 4⟩
def TN_STAT_SEQV : Fld := ⟨0x140048, 3, 1⟩
def TN_STAT_STATE : Fld := ⟨0x140048, 0, 3⟩
def TN_SEQ_HI : Fld := ⟨0x14004c, 16, 16⟩
def TN_SEQ_LO : Fld := ⟨0x14004c, 0, 16⟩
def TN_CNT_HI : Fld := ⟨0x140050, 16, 16⟩
def TN_CNT_LO : Fld := ⟨0x140050, 0, 16⟩
def TN_REP_HI : Fld := ⟨0x140054, 16, 16⟩
def TN_REP_LO : Fld := ⟨0x140054, 0, 16⟩
def TN_OPEN_NOPEN : Fld := ⟨0x140058, 16, 13⟩
def TN_OPEN_REFUSED : Fld := ⟨0x140058, 0, 16⟩
def TN_GQ_GQ : Fld := ⟨0x14005c, 0, 1⟩
def Q_SEL_Q : Fld := ⟨0x141040, 0, 13⟩
def Q_POPL : Fld := ⟨0x141048, 0, 32⟩
def Q_POPH : Fld := ⟨0x14104c, 0, 32⟩
def Q_PUSHL : Fld := ⟨0x141050, 0, 32⟩
def Q_CFG_QWAIT : Fld := ⟨0x141060, 16, 8⟩
def Q_NEXTIN_T : Fld := ⟨0x141064, 0, 12⟩
def QC_CTL_IDLE : Fld := ⟨0x142040, 0, 16⟩
def QC_COLD : Fld := ⟨0x142048, 0, 32⟩
def QC_EVICT : Fld := ⟨0x14204c, 0, 32⟩
def PCIE_LINK_UP : Fld := ⟨0x150044, 8, 1⟩
def PCIE_LINK_WIDTH : Fld := ⟨0x150044, 4, 4⟩
def PCIE_LINK_GEN : Fld := ⟨0x150044, 0, 4⟩
def PCIE_CNT_WINERR : Fld := ⟨0x150048, 16, 16⟩
def PCIE_CNT_MBXBUSY : Fld := ⟨0x150048, 0, 16⟩
def DMA_CB_CADDR (i : Nat) : Fld := ⟨0x150088 + 16 * i, 0, 24⟩
def DMA_CTL_DIR (i : Nat) : Fld := ⟨0x15008c + 16 * i, 30, 1⟩
def DMA_CTL_DONE (i : Nat) : Fld := ⟨0x15008c + 16 * i, 29, 1⟩
def DMA_CTL_ERR (i : Nat) : Fld := ⟨0x15008c + 16 * i, 28, 1⟩
def DMA_CTL_LEN (i : Nat) : Fld := ⟨0x15008c + 16 * i, 0, 24⟩
def USB_STAT_VBUS : Fld := ⟨0x151040, 10, 1⟩
def USB_STAT_CONF : Fld := ⟨0x151040, 9, 1⟩
def USB_STAT_HS : Fld := ⟨0x151040, 8, 1⟩
def USB_STAT_ADDR : Fld := ⟨0x151040, 0, 7⟩
def USB_CNT_DISC : Fld := ⟨0x151044, 16, 16⟩
def USB_CNT_FERR : Fld := ⟨0x151044, 0, 16⟩
def USB_RST_CNT : Fld := ⟨0x151048, 0, 16⟩
def SPI_WT_T : Fld := ⟨0x152040, 0, 12⟩
def SPI_STAT_C : Fld := ⟨0x152048, 16, 16⟩
def SPI_STAT_MODE3 : Fld := ⟨0x152048, 0, 1⟩
def SPI_CNT_PART : Fld := ⟨0x15204c, 16, 16⟩
def SPI_CNT_FERR : Fld := ⟨0x15204c, 0, 16⟩
def U_CTL_RXOFFDE (n : Nat) : Fld := ⟨(0x158 + 1 * n) * 4096 + 0x040, 7, 1⟩
def U_CTL_HALF (n : Nat) : Fld := ⟨(0x158 + 1 * n) * 4096 + 0x040, 6, 1⟩
def U_CTL_SYNC (n : Nat) : Fld := ⟨(0x158 + 1 * n) * 4096 + 0x040, 5, 1⟩
def U_CTL_CAPT (n : Nat) : Fld := ⟨(0x158 + 1 * n) * 4096 + 0x040, 4, 1⟩
def U_CTL_MODE (n : Nat) : Fld := ⟨(0x158 + 1 * n) * 4096 + 0x040, 1, 2⟩
def U_CTL_EN (n : Nat) : Fld := ⟨(0x158 + 1 * n) * 4096 + 0x040, 0, 1⟩
def U_BAUD_RATE (n : Nat) : Fld := ⟨(0x158 + 1 * n) * 4096 + 0x044, 0, 26⟩
def U_FMT_ADDR9 (n : Nat) : Fld := ⟨(0x158 + 1 * n) * 4096 + 0x048, 7, 1⟩
def U_FMT_STOP2 (n : Nat) : Fld := ⟨(0x158 + 1 * n) * 4096 + 0x048, 6, 1⟩
def U_FMT_PAR (n : Nat) : Fld := ⟨(0x158 + 1 * n) * 4096 + 0x048, 4, 2⟩
def U_FMT_DBITS (n : Nat) : Fld := ⟨(0x158 + 1 * n) * 4096 + 0x048, 0, 4⟩
def U_ADDR_MUTEEN (n : Nat) : Fld := ⟨(0x158 + 1 * n) * 4096 + 0x04c, 18, 1⟩
def U_ADDR_BCAST (n : Nat) : Fld := ⟨(0x158 + 1 * n) * 4096 + 0x04c, 16, 1⟩
def U_ADDR_MASK (n : Nat) : Fld := ⟨(0x158 + 1 * n) * 4096 + 0x04c, 8, 8⟩
def U_ADDR_ADDR (n : Nat) : Fld := ⟨(0x158 + 1 * n) * 4096 + 0x04c, 0, 8⟩
def U_FLOW_TAIL (n : Nat) : Fld := ⟨(0x158 + 1 * n) * 4096 + 0x050, 16, 8⟩
def U_FLOW_LEAD (n : Nat) : Fld := ⟨(0x158 + 1 * n) * 4096 + 0x050, 8, 8⟩
def U_FLOW_DEPOL (n : Nat) : Fld := ⟨(0x158 + 1 * n) * 4096 + 0x050, 4, 1⟩
def U_FLOW_DEEN (n : Nat) : Fld := ⟨(0x158 + 1 * n) * 4096 + 0x050, 3, 1⟩
def U_FLOW_ESC (n : Nat) : Fld := ⟨(0x158 + 1 * n) * 4096 + 0x050, 2, 1⟩
def U_FLOW_XGEN (n : Nat) : Fld := ⟨(0x158 + 1 * n) * 4096 + 0x050, 1, 1⟩
def U_FLOW_XREC (n : Nat) : Fld := ⟨(0x158 + 1 * n) * 4096 + 0x050, 0, 1⟩
def U_STAT_BYPHOLD (n : Nat) : Fld := ⟨(0x158 + 1 * n) * 4096 + 0x054, 9, 1⟩
def U_STAT_BRKON (n : Nat) : Fld := ⟨(0x158 + 1 * n) * 4096 + 0x054, 8, 1⟩
def U_STAT_LINE (n : Nat) : Fld := ⟨(0x158 + 1 * n) * 4096 + 0x054, 7, 1⟩
def U_STAT_DE (n : Nat) : Fld := ⟨(0x158 + 1 * n) * 4096 + 0x054, 6, 1⟩
def U_STAT_MUTE (n : Nat) : Fld := ⟨(0x158 + 1 * n) * 4096 + 0x054, 5, 1⟩
def U_STAT_XOFFTX (n : Nat) : Fld := ⟨(0x158 + 1 * n) * 4096 + 0x054, 4, 1⟩
def U_STAT_XOFFRX (n : Nat) : Fld := ⟨(0x158 + 1 * n) * 4096 + 0x054, 3, 1⟩
def U_STAT_TXIDLE (n : Nat) : Fld := ⟨(0x158 + 1 * n) * 4096 + 0x054, 2, 1⟩
def U_STAT_TXE (n : Nat) : Fld := ⟨(0x158 + 1 * n) * 4096 + 0x054, 1, 1⟩
def U_STAT_RXF (n : Nat) : Fld := ⟨(0x158 + 1 * n) * 4096 + 0x054, 0, 1⟩
def U_RX_TAG (n : Nat) : Fld := ⟨(0x158 + 1 * n) * 4096 + 0x058, 9, 5⟩
def U_RX_DATA (n : Nat) : Fld := ⟨(0x158 + 1 * n) * 4096 + 0x058, 0, 9⟩
def U_ERR_E (n : Nat) : Fld := ⟨(0x158 + 1 * n) * 4096 + 0x060, 0, 8⟩
def U_CNT_FERR (n : Nat) : Fld := ⟨(0x158 + 1 * n) * 4096 + 0x064, 16, 16⟩
def U_CNT_CHERR (n : Nat) : Fld := ⟨(0x158 + 1 * n) * 4096 + 0x064, 0, 16⟩
def U_CNT2_OVRN (n : Nat) : Fld := ⟨(0x158 + 1 * n) * 4096 + 0x068, 16, 16⟩
def U_CNT2_COLLDROP (n : Nat) : Fld := ⟨(0x158 + 1 * n) * 4096 + 0x068, 0, 16⟩
def U_SLEEP_WAKES (n : Nat) : Fld := ⟨(0x158 + 1 * n) * 4096 + 0x070, 16, 16⟩
def U_SLEEP_SLRATE (n : Nat) : Fld := ⟨(0x158 + 1 * n) * 4096 + 0x070, 2, 1⟩
def U_SLEEP_SLMODE (n : Nat) : Fld := ⟨(0x158 + 1 * n) * 4096 + 0x070, 0, 2⟩
def XS_FADDR_A : Fld := ⟨0x15c044, 0, 29⟩
def XS_CADDR_A : Fld := ⟨0x15c048, 0, 24⟩
def XS_LEN_N : Fld := ⟨0x15c04c, 0, 24⟩
def XS_STAT_MIB : Fld := ⟨0x15c050, 16, 16⟩
def XS_STAT_SDR : Fld := ⟨0x15c050, 3, 1⟩
def XS_STAT_RESULT : Fld := ⟨0x15c050, 1, 2⟩
def XS_STAT_BUSY : Fld := ⟨0x15c050, 0, 1⟩
def XS_CRC : Fld := ⟨0x15c054, 0, 32⟩
def CP_CMD_OP : Fld := ⟨0x160040, 24, 4⟩
def CP_CMD_CLASS : Fld := ⟨0x160040, 20, 2⟩
def CP_CMD_TENANT : Fld := ⟨0x160040, 0, 12⟩
def CP_SRC_V : Fld := ⟨0x160044, 0, 24⟩
def CP_LEN_V : Fld := ⟨0x160048, 0, 24⟩
def CP_DST_V : Fld := ⟨0x16004c, 0, 24⟩
def CP_KEY_V : Fld := ⟨0x160050, 0, 24⟩
def CP_RET_VALID : Fld := ⟨0x160058, 31, 1⟩
def CP_RET_CODE : Fld := ⟨0x160058, 8, 8⟩
def CP_RET_SLOT : Fld := ⟨0x160058, 0, 2⟩
def CP_SLOT_TENANT (i : Nat) : Fld := ⟨0x160060 + 4 * i, 16, 12⟩
def CP_SLOT_CLASS (i : Nat) : Fld := ⟨0x160060 + 4 * i, 12, 2⟩
def CP_SLOT_RESULT (i : Nat) : Fld := ⟨0x160060 + 4 * i, 8, 4⟩
def CP_SLOT_STATE (i : Nat) : Fld := ⟨0x160060 + 4 * i, 0, 3⟩
def CP_DONE_S : Fld := ⟨0x160070, 0, 4⟩
def CP_CNT_BUSY : Fld := ⟨0x160074, 16, 16⟩
def CP_CNT_SUSP : Fld := ⟨0x160074, 0, 16⟩
def CP_RNG : Fld := ⟨0x16007c, 0, 32⟩
def CP_CHAL (i : Nat) : Fld := ⟨0x160080 + 4 * i, 0, 32⟩
def UP_STAT_RESULT : Fld := ⟨0x161040, 8, 4⟩
def UP_STAT_STATE : Fld := ⟨0x161040, 0, 3⟩
def UP_LEN_N : Fld := ⟨0x161044, 0, 21⟩
def UP_RCVD_N : Fld := ⟨0x161048, 0, 21⟩
def UP_CRC : Fld := ⟨0x16104c, 0, 32⟩
def UP_HT (i : Nat) : Fld := ⟨0x161050 + 4 * i, 0, 32⟩
def UP_RUN_SETFMT : Fld := ⟨0x16105c, 16, 16⟩
def UP_RUN_SECVER : Fld := ⟨0x16105c, 0, 8⟩
def UP_VER : Fld := ⟨0x161060, 0, 32⟩
def UP_CONF_OLDFMT : Fld := ⟨0x161064, 1, 1⟩
def UP_CONF_CONFIRMED : Fld := ⟨0x161064, 0, 1⟩
def AR_CTL_MEAS : Fld := ⟨0x170040, 2, 1⟩
def AR_CTL_MODE : Fld := ⟨0x170040, 1, 1⟩
def AR_CTL_EN : Fld := ⟨0x170040, 0, 1⟩
def AR_SEL_S : Fld := ⟨0x170044, 0, 24⟩
def AR_STAT_EXT : Fld := ⟨0x170050, 16, 16⟩
def AR_STAT_FULL : Fld := ⟨0x170050, 1, 1⟩
def AR_STAT_RUNNING : Fld := ⟨0x170050, 0, 1⟩
def AR_AADDR_HI_A : Fld := ⟨0x170054, 0, 20⟩
def AR_AADDR_LO : Fld := ⟨0x170058, 0, 32⟩
def AR_WRAPS : Fld := ⟨0x17005c, 0, 32⟩
def AR_GAPS : Fld := ⟨0x170060, 0, 32⟩
def AR_DROP : Fld := ⟨0x170064, 0, 32⟩
def AR_BUF_ADDR : Fld := ⟨0x170068, 6, 18⟩
def RP_AADDR_HI_A (i : Nat) : Fld := ⟨0x170084 + 16 * i, 0, 20⟩
def RP_AADDR_LO (i : Nat) : Fld := ⟨0x170088 + 16 * i, 0, 32⟩
def RP_STAT_UNDER (i : Nat) : Fld := ⟨0x17008c + 16 * i, 16, 16⟩
def RP_STAT_ERR (i : Nat) : Fld := ⟨0x17008c + 16 * i, 1, 1⟩
def RP_STAT_ACTIVE (i : Nat) : Fld := ⟨0x17008c + 16 * i, 0, 1⟩
def PH_CTL_MASTEREN : Fld := ⟨0x180040, 1, 1⟩
def PH_CTL_EN : Fld := ⟨0x180040, 0, 1⟩
def PH_STAT_HOPS : Fld := ⟨0x180044, 16, 3⟩
def PH_STAT_MASTER : Fld := ⟨0x180044, 8, 3⟩
def PH_STAT_RING : Fld := ⟨0x180044, 4, 1⟩
def PH_STAT_ROLE : Fld := ⟨0x180044, 0, 2⟩
def PH_TOPO_PRES : Fld := ⟨0x180048, 0, 8⟩
def PH_OFS : Fld := ⟨0x18004c, 0, 32⟩
def PP_STAT_NBRV (n : Nat) : Fld := ⟨(0x181 + 1 * n) * 4096 + 0x044, 7, 1⟩
def PP_STAT_NBR (n : Nat) : Fld := ⟨(0x181 + 1 * n) * 4096 + 0x044, 4, 3⟩
def PP_STAT_STATE (n : Nat) : Fld := ⟨(0x181 + 1 * n) * 4096 + 0x044, 0, 2⟩
def PP_DELAY_PS (n : Nat) : Fld := ⟨(0x181 + 1 * n) * 4096 + 0x048, 0, 24⟩
def PP_CNT_CRCERR (n : Nat) : Fld := ⟨(0x181 + 1 * n) * 4096 + 0x04c, 16, 16⟩
def PP_CNT_DROP (n : Nat) : Fld := ⟨(0x181 + 1 * n) * 4096 + 0x04c, 0, 16⟩
def PP_SLOT_VALID (n i : Nat) : Fld := ⟨(0x181 + 1 * n) * 4096 + 0x050 + 4 * i, 31, 1⟩
def PP_SLOT_SRCDEV (n i : Nat) : Fld := ⟨(0x181 + 1 * n) * 4096 + 0x050 + 4 * i, 28, 3⟩
def PP_SLOT_SRCSTR (n i : Nat) : Fld := ⟨(0x181 + 1 * n) * 4096 + 0x050 + 4 * i, 16, 5⟩
def PP_SLOT_WIDTH (n i : Nat) : Fld := ⟨(0x181 + 1 * n) * 4096 + 0x050 + 4 * i, 8, 2⟩
def PP_SLOT_DECIM (n i : Nat) : Fld := ⟨(0x181 + 1 * n) * 4096 + 0x050 + 4 * i, 4, 2⟩
def PP_SLOT_HOPS (n i : Nat) : Fld := ⟨(0x181 + 1 * n) * 4096 + 0x050 + 4 * i, 0, 3⟩
def PP_TOFS (n i : Nat) : Fld := ⟨(0x181 + 1 * n) * 4096 + 0x070 + 4 * i, 0, 32⟩
def UC_CTL_CORE : Fld := ⟨0x190100, 16, 5⟩
def UC_CTL_PART : Fld := ⟨0x190100, 0, 1⟩
def UC_SRC_V : Fld := ⟨0x190104, 6, 18⟩
def UC_DST_COUNT : Fld := ⟨0x190108, 16, 11⟩
def UC_DST_FIRST : Fld := ⟨0x190108, 0, 10⟩
def UC_CRC : Fld := ⟨0x19010c, 0, 32⟩
def UC_STAT_RESULT : Fld := ⟨0x190110, 1, 3⟩
def UC_STAT_BUSY : Fld := ⟨0x190110, 0, 1⟩
def UC_SEAL_V : Fld := ⟨0x190114, 0, 17⟩
def AON_CTL_GWRUN : Fld := ⟨0x1a0040, 8, 1⟩
def AON_CTL_CEN : Fld := ⟨0x1a0040, 0, 4⟩
def AON_STAT_GWCAUSE : Fld := ⟨0x1a0044, 8, 8⟩
def AON_STAT_GWFAULT : Fld := ⟨0x1a0044, 4, 1⟩
def AON_STAT_LVL : Fld := ⟨0x1a0044, 0, 4⟩
def AON_WAKEEN_EN : Fld := ⟨0x1a004c, 0, 6⟩
def AON_WCAUSE_C : Fld := ⟨0x1a0050, 0, 7⟩
def AON_ALM_T (i : Nat) : Fld := ⟨0x1a0054 + 4 * i, 0, 32⟩
def AON_ALMEN_EN : Fld := ⟨0x1a0060, 0, 1⟩
def AON_GWSRC_ADDR : Fld := ⟨0x1a0068, 6, 18⟩
def AON_GWLD_GO : Fld := ⟨0x1a006c, 31, 1⟩
def AON_GWLD_DATA : Fld := ⟨0x1a006c, 30, 1⟩
def AON_GWLD_WORDS : Fld := ⟨0x1a006c, 0, 11⟩
def AON_RIDX_V : Fld := ⟨0x1a0070, 0, 10⟩
def AON_RDATA : Fld := ⟨0x1a0074, 0, 32⟩

end F

end Sys2Proof.Machine
end

