-- ==== Sys2Proof/Machine/RegMap.lean ====
section
/-! DEFINITION. The register map (R11, R24 to R36): every implemented page with its header constants, every
block register with its fields, their access codes (R7) and reset values, as the register tables of the
chapters give them. Fields the tables give as a whole word of which the text names bits hold those bits
(log entry 4). -/

namespace Sys2Proof.Machine

/-- Access codes of R7. -/
inductive Acc where
  | RW | RO | WO | W1C | W1S | RWS
  deriving DecidableEq, Repr

/-- A field of a register: lowest bit, width, access and reset value. -/
structure FieldDef where
  lo : Nat
  w : Nat
  acc : Acc
  rst : Nat
  deriving DecidableEq, Repr

/-- A register (or an array of `count` registers, `stride` bytes apart) of a page. -/
structure RegDef where
  off : Nat
  count : Nat
  stride : Nat
  fields : List FieldDef
  deriving DecidableEq, Repr

/-- A row of the page map: `count` instances `stride` pages apart, each of `np` like pages. -/
structure PageRow where
  start : Nat
  stride : Nat
  count : Nat
  np : Nat
  /-- first page of instance 0 of the block (PG_ID.TYPE) -/
  type : Nat
  /-- page within the block of the first page (PG_ID.PIB) -/
  pib : Nat
  /-- `piball`: the rows' index numbers pages in the block, not instances -/
  piball : Bool
  dom : Nat
  domStep : Nat
  en : Bool
  shadow : Bool
  wide : Bool
  own : Bool
  first : Nat
  nsrc : Nat
  regs : List RegDef
  deriving DecidableEq, Repr

/-- The block registers of DIR (page 0x000). -/
def regsDIR : List RegDef :=
  [⟨0x040, 32, 4, [⟨0, 32, .RO, 0⟩]⟩,
   ⟨0x0c0, 1, 4, [⟨0, 32, .RO, 188⟩]⟩]

/-- The block registers of SYS (page 0x001). -/
def regsSYS : List RegDef :=
  [⟨0x040, 1, 4, [⟨16, 16, .RO, 0x1024⟩, ⟨3, 1, .RO, 0⟩, ⟨0, 2, .RO, 0⟩]⟩,
   ⟨0x044, 1, 4, [⟨0, 32, .RO, 0⟩]⟩,
   ⟨0x048, 1, 4, [⟨0, 32, .RO, 0⟩]⟩,
   ⟨0x04c, 1, 4, [⟨12, 1, .RO, 0⟩, ⟨8, 2, .RO, 0⟩, ⟨4, 3, .RO, 0⟩, ⟨0, 2, .RO, 0⟩]⟩,
   ⟨0x050, 1, 4, [⟨16, 16, .RO, 0⟩, ⟨8, 1, .RO, 0⟩, ⟨4, 2, .RO, 0⟩, ⟨0, 3, .RO, 0⟩]⟩]

/-- The block registers of RST (page 0x002). -/
def regsRST : List RegDef :=
  [⟨0x040, 1, 4, [⟨31, 1, .WO, 0⟩]⟩,
   ⟨0x044, 1, 4, [⟨8, 8, .RO, 0⟩, ⟨0, 3, .RO, 1⟩]⟩,
   ⟨0x048, 1, 4, [⟨0, 16, .RW, 0x3e8⟩]⟩,
   ⟨0x04c, 1, 4, [⟨0, 16, .WO, 0⟩]⟩,
   ⟨0x050, 1, 4, [⟨16, 16, .RO, 0⟩, ⟨1, 1, .RO, 0⟩, ⟨0, 1, .RO, 0⟩]⟩,
   ⟨0x054, 1, 4, [⟨16, 16, .RO, 0⟩, ⟨0, 16, .RO, 0⟩]⟩,
   ⟨0x058, 1, 4, [⟨2, 22, .RW, 0⟩]⟩,
   ⟨0x05c, 1, 4, [⟨0, 32, .WO, 0⟩]⟩,
   ⟨0x060, 1, 4, [⟨0, 21, .RW, 0⟩]⟩,
   ⟨0x064, 1, 4, [⟨0, 32, .RW, 0⟩]⟩,
   ⟨0x068, 1, 4, [⟨0, 1, .WO, 0⟩]⟩,
   ⟨0x06c, 1, 4, [⟨1, 3, .RO, 0⟩, ⟨0, 1, .RO, 0⟩]⟩]

/-- The block registers of PWR (page 0x004). -/
def regsPWR : List RegDef :=
  [⟨0x040, 1, 4, [⟨31, 1, .WO, 0⟩, ⟨30, 1, .WO, 0⟩, ⟨24, 6, .WO, 0⟩, ⟨0, 13, .WO, 0⟩]⟩,
   ⟨0x044, 1, 4, [⟨31, 1, .RO, 1⟩, ⟨30, 1, .RO, 0⟩, ⟨29, 1, .RO, 0⟩, ⟨28, 1, .RO, 0⟩, ⟨0, 13, .RO, 0⟩]⟩,
   ⟨0x048, 1, 4, [⟨0, 32, .RO, 0x40000003⟩]⟩,
   ⟨0x04c, 1, 4, [⟨0, 6, .RO, 0⟩]⟩]

/-- The block registers of PWR1 (page 0x005). -/
def regsPWR1 : List RegDef :=
  [⟨0x040, 38, 4, [⟨29, 3, .RO, 0⟩, ⟨16, 13, .RO, 0⟩, ⟨0, 2, .RO, 0⟩]⟩]

/-- The block registers of PWR2 (page 0x006). -/
def regsPWR2 : List RegDef :=
  [⟨0x040, 38, 4, [⟨16, 16, .RO, 0⟩, ⟨0, 16, .RO, 0⟩]⟩]

/-- The block registers of PWR3 (page 0x007). -/
def regsPWR3 : List RegDef :=
  [⟨0x040, 7, 4, [⟨16, 16, .RO, 0⟩, ⟨0, 16, .RO, 0⟩]⟩]

/-- The block registers of LEDGER (page 0x008). -/
def regsLEDGER : List RegDef :=
  [⟨0x040, 1, 4, [⟨8, 8, .RW, 1⟩, ⟨2, 1, .RW, 0⟩, ⟨1, 1, .RW, 0⟩, ⟨0, 1, .RW, 1⟩]⟩,
   ⟨0x044, 1, 4, [⟨8, 3, .RO, 0⟩, ⟨3, 1, .RO, 0⟩, ⟨2, 1, .RO, 0⟩, ⟨1, 1, .RO, 0⟩, ⟨0, 1, .RO, 0⟩]⟩,
   ⟨0x048, 1, 4, [⟨0, 32, .RO, 0⟩]⟩,
   ⟨0x04c, 1, 4, [⟨0, 32, .RO, 0⟩]⟩,
   ⟨0x050, 1, 4, [⟨0, 32, .RO, 0⟩]⟩,
   ⟨0x054, 1, 4, [⟨0, 32, .RO, 0⟩]⟩,
   ⟨0x058, 7, 8, [⟨0, 32, .RO, 0⟩]⟩,
   ⟨0x05c, 7, 8, [⟨0, 32, .RO, 0⟩]⟩,
   ⟨0x090, 6, 8, [⟨0, 32, .RO, 0⟩]⟩,
   ⟨0x094, 6, 8, [⟨0, 32, .RO, 0⟩]⟩,
   ⟨0x0c0, 8, 4, [⟨31, 1, .RWS, 0⟩, ⟨16, 11, .RWS, 0⟩, ⟨0, 16, .RWS, 0⟩]⟩,
   ⟨0x0e0, 1, 4, [⟨0, 6, .RWS, 15⟩]⟩,
   ⟨0x0e4, 1, 4, [⟨0, 32, .RWS, 0⟩]⟩,
   ⟨0x0e8, 1, 4, [⟨0, 32, .RO, 0⟩]⟩,
   ⟨0x0ec, 1, 4, [⟨0, 32, .RO, 0⟩]⟩,
   ⟨0x0f0, 1, 4, [⟨16, 5, .RO, 0⟩, ⟨0, 16, .RO, 0⟩]⟩,
   ⟨0x0f4, 1, 4, [⟨0, 32, .RWS, 0⟩]⟩,
   ⟨0x0f8, 1, 4, [⟨24, 1, .RWS, 0⟩, ⟨16, 3, .RWS, 7⟩, ⟨0, 16, .RWS, 0x1f4⟩]⟩,
   ⟨0x0fc, 1, 4, [⟨0, 32, .RO, 0⟩]⟩,
   ⟨0x100, 1, 4, [⟨0, 32, .RWS, 75⟩]⟩,
   ⟨0x104, 1, 4, [⟨0, 32, .RWS, 0x3d1⟩]⟩,
   ⟨0x108, 1, 4, [⟨16, 16, .RWS, 60⟩, ⟨0, 16, .RWS, 0xbb8⟩]⟩,
   ⟨0x10c, 1, 4, [⟨0, 32, .RWS, 69⟩]⟩,
   ⟨0x110, 1, 4, [⟨0, 32, .RWS, 95⟩]⟩]

/-- The block registers of THERM (page 0x009). -/
def regsTHERM : List RegDef :=
  [⟨0x040, 1, 4, [⟨8, 8, .RW, 110⟩, ⟨0, 8, .RW, 100⟩]⟩,
   ⟨0x044, 1, 4, [⟨0, 16, .RW, 0x5dc⟩]⟩,
   ⟨0x048, 1, 4, [⟨4, 3, .RO, 0⟩, ⟨2, 1, .RO, 0⟩, ⟨1, 1, .RO, 0⟩, ⟨0, 1, .RO, 0⟩]⟩,
   ⟨0x04c, 4, 4, [⟨0, 16, .RO, 0⟩]⟩,
   ⟨0x05c, 1, 4, [⟨0, 16, .RO, 0x8000⟩]⟩]

/-- The block registers of CLK (page 0x010). -/
def regsCLK : List RegDef :=
  [⟨0x040, 1, 4, [⟨16, 8, .RO, 0⟩, ⟨14, 2, .RO, 0⟩, ⟨0, 14, .RO, 0x1ff8⟩]⟩,
   ⟨0x044, 1, 4, [⟨8, 8, .RW, 1⟩, ⟨0, 1, .RW, 0⟩]⟩,
   ⟨0x048, 1, 4, [⟨2, 1, .RO, 1⟩, ⟨1, 1, .RO, 0⟩, ⟨0, 1, .RO, 0⟩]⟩,
   ⟨0x04c, 1, 4, [⟨16, 16, .RO, 0⟩, ⟨0, 16, .RO, 0⟩]⟩]

/-- The block registers of AUXPLL (page 0x011). -/
def regsAUXPLL : List RegDef :=
  [⟨0x040, 1, 4, [⟨8, 8, .RO, 0⟩, ⟨1, 1, .RO, 0⟩, ⟨0, 1, .RO, 0⟩]⟩]

/-- The block registers of CLKOUT (page 0x012). -/
def regsCLKOUT : List RegDef :=
  [⟨0x040, 4, 4, [⟨16, 1, .RWS, 1⟩, ⟨8, 3, .RWS, 0⟩, ⟨4, 3, .RWS, 0⟩, ⟨0, 1, .RWS, 0⟩]⟩,
   ⟨0x050, 1, 4, [⟨8, 1, .RO, 0⟩, ⟨4, 4, .RO, 0⟩, ⟨0, 4, .RO, 0⟩]⟩]

/-- The block registers of RF (page 0x020). -/
def regsRF : List RegDef :=
  [⟨0x040, 1, 4, [⟨9, 1, .RW, 1⟩, ⟨8, 1, .RW, 1⟩, ⟨0, 3, .RW, 0⟩]⟩,
   ⟨0x044, 1, 4, [⟨16, 5, .RO, 0⟩, ⟨8, 1, .RO, 0⟩, ⟨7, 1, .RO, 0⟩, ⟨6, 1, .RO, 0⟩, ⟨5, 1, .RO, 0⟩, ⟨4, 1, .RO, 0⟩, ⟨0, 3, .RO, 0⟩]⟩,
   ⟨0x048, 1, 4, [⟨0, 11, .RWS, 0x604⟩]⟩,
   ⟨0x04c, 1, 4, [⟨8, 6, .RWS, 32⟩, ⟨0, 3, .RWS, 2⟩]⟩,
   ⟨0x050, 1, 4, [⟨0, 10, .RW, 128⟩]⟩,
   ⟨0x054, 1, 4, [⟨0, 6, .RO, 32⟩]⟩,
   ⟨0x058, 1, 4, [⟨0, 18, .RO, 0⟩]⟩,
   ⟨0x05c, 1, 4, [⟨16, 10, .RO, 0⟩, ⟨0, 10, .RO, 0⟩]⟩,
   ⟨0x060, 1, 4, [⟨0, 16, .RO, 0⟩]⟩,
   ⟨0x064, 1, 4, [⟨16, 16, .RO, 0⟩, ⟨0, 16, .RO, 0⟩]⟩,
   ⟨0x068, 3, 4, [⟨0, 32, .RO, 0⟩]⟩]

/-- The block registers of RFCOM (page 0x028). -/
def regsRFCOM : List RegDef :=
  [⟨0x040, 1, 4, [⟨22, 10, .RW, 0⟩, ⟨16, 6, .RW, 20⟩, ⟨0, 11, .RW, 0x605⟩]⟩,
   ⟨0x044, 1, 4, [⟨31, 1, .WO, 0⟩, ⟨0, 8, .RW, 0⟩]⟩,
   ⟨0x048, 1, 4, [⟨16, 8, .RO, 0⟩, ⟨8, 8, .RO, 0⟩, ⟨1, 3, .RO, 0⟩, ⟨0, 1, .RO, 0⟩]⟩,
   ⟨0x04c, 1, 4, [⟨24, 8, .RW, 10⟩, ⟨16, 8, .RW, 20⟩, ⟨12, 1, .RW, 1⟩, ⟨11, 1, .RW, 0⟩, ⟨10, 1, .RW, 0⟩, ⟨9, 1, .RW, 0⟩, ⟨8, 1, .RW, 0⟩, ⟨0, 8, .RW, 255⟩]⟩,
   ⟨0x050, 1, 4, [⟨0, 32, .RO, 0⟩]⟩,
   ⟨0x054, 1, 4, [⟨12, 1, .RWS, 1⟩, ⟨9, 1, .RWS, 0⟩, ⟨8, 1, .RWS, 0⟩, ⟨4, 4, .RWS, 0⟩, ⟨0, 4, .RWS, 0⟩]⟩,
   ⟨0x058, 4, 4, [⟨16, 8, .RW, 0⟩, ⟨12, 4, .RW, 5⟩, ⟨8, 4, .RW, 5⟩, ⟨1, 1, .RW, 0⟩, ⟨0, 1, .RW, 0⟩]⟩,
   ⟨0x068, 1, 4, [⟨12, 4, .RO, 0⟩, ⟨8, 4, .RO, 0⟩, ⟨4, 4, .RO, 0⟩, ⟨0, 4, .RO, 0⟩]⟩,
   ⟨0x06c, 1, 4, [⟨16, 16, .RO, 0⟩, ⟨0, 16, .RO, 0⟩]⟩,
   ⟨0x070, 1, 4, [⟨16, 16, .RO, 0⟩, ⟨0, 16, .RO, 0⟩]⟩]

/-- The block registers of SIEVE (page 0x030). -/
def regsSIEVE : List RegDef :=
  [⟨0x040, 1, 4, [⟨12, 1, .RW, 0⟩, ⟨8, 2, .RW, 1⟩, ⟨1, 1, .RW, 1⟩, ⟨0, 1, .RW, 1⟩]⟩,
   ⟨0x044, 1, 4, [⟨16, 16, .RO, 0⟩, ⟨0, 16, .RO, 0⟩]⟩,
   ⟨0x048, 1, 4, [⟨16, 16, .RO, 0⟩, ⟨0, 16, .RO, 0⟩]⟩,
   ⟨0x04c, 1, 4, [⟨24, 5, .RW, 8⟩, ⟨12, 12, .RW, 32⟩, ⟨0, 11, .RW, 0⟩]⟩,
   ⟨0x050, 1, 4, [⟨0, 18, .RO, 0⟩]⟩,
   ⟨0x054, 1, 4, [⟨0, 7, .RW, 10⟩]⟩,
   ⟨0x058, 8, 4, [⟨30, 2, .RWS, 0⟩, ⟨16, 4, .RWS, 4⟩, ⟨0, 16, .RWS, 0⟩]⟩,
   ⟨0x078, 8, 4, [⟨31, 1, .RO, 0⟩, ⟨30, 1, .RO, 0⟩, ⟨0, 16, .RO, 0⟩]⟩,
   ⟨0x098, 1, 4, [⟨0, 8, .RW, 15⟩]⟩]

/-- The block registers of SIEVEX (page 0x038). -/
def regsSIEVEX : List RegDef :=
  [⟨0x040, 2, 4, [⟨8, 8, .RWS, 10⟩, ⟨4, 2, .RWS, 3⟩, ⟨0, 2, .RWS, 0⟩]⟩,
   ⟨0x048, 1, 4, [⟨4, 2, .RO, 0⟩, ⟨0, 2, .RO, 0⟩]⟩,
   ⟨0x050, 8, 4, [⟨16, 16, .RWS, 0x4000⟩, ⟨0, 16, .RWS, 0⟩]⟩,
   ⟨0x080, 24, 4, [⟨31, 1, .RWS, 0⟩, ⟨25, 6, .RWS, 0⟩, ⟨23, 2, .RWS, 1⟩, ⟨21, 2, .RWS, 0⟩, ⟨16, 5, .RWS, 0⟩, ⟨0, 14, .RWS, 0⟩]⟩,
   ⟨0x0e0, 24, 4, [⟨0, 8, .RWS, 0⟩]⟩,
   ⟨0x140, 1, 4, [⟨0, 24, .RO, 0⟩]⟩,
   ⟨0x144, 1, 4, [⟨0, 24, .RO, 0⟩]⟩]

/-- The block registers of SPECMON (page 0x039). -/
def regsSPECMON : List RegDef :=
  [⟨0x040, 1, 4, [⟨31, 1, .WO, 0⟩, ⟨16, 1, .RW, 0⟩, ⟨8, 4, .RW, 4⟩, ⟨4, 1, .RW, 1⟩, ⟨0, 3, .RW, 0⟩]⟩,
   ⟨0x044, 1, 4, [⟨6, 18, .RW, 0⟩]⟩,
   ⟨0x048, 1, 4, [⟨16, 16, .RO, 0⟩, ⟨0, 1, .RO, 0⟩]⟩,
   ⟨0x04c, 3, 4, [⟨0, 32, .RO, 0⟩]⟩]

/-- The block registers of DFLY (page 0x040). -/
def regsDFLY : List RegDef :=
  [⟨0x040, 1, 4, [⟨8, 1, .RW, 0⟩, ⟨0, 1, .WO, 0⟩]⟩,
   ⟨0x044, 1, 4, [⟨24, 8, .RO, 128⟩, ⟨16, 7, .RO, 64⟩, ⟨8, 4, .RO, 0⟩, ⟨6, 1, .RO, 0⟩, ⟨0, 6, .RO, 0⟩]⟩,
   ⟨0x048, 1, 4, [⟨0, 32, .RO, 0⟩]⟩,
   ⟨0x04c, 1, 4, [⟨0, 32, .RO, 0⟩]⟩,
   ⟨0x050, 1, 4, [⟨0, 32, .RO, 0⟩]⟩]

/-- The block registers of DFLYJOB (page 0x041). -/
def regsDFLYJOB : List RegDef :=
  [⟨0x040, 16, 4, [⟨0, 32, .RW, 0⟩]⟩,
   ⟨0x080, 1, 4, [⟨30, 2, .WO, 0⟩, ⟨0, 6, .WO, 0⟩]⟩,
   ⟨0x084, 1, 4, [⟨31, 1, .RO, 0⟩, ⟨8, 8, .RO, 0⟩, ⟨0, 6, .RO, 0⟩]⟩]

/-- The block registers of DFLYJOB1 (page 0x042). -/
def regsDFLYJOB1 : List RegDef :=
  [⟨0x040, 64, 4, [⟨16, 12, .RO, 0⟩, ⟨9, 1, .RO, 0⟩, ⟨8, 1, .RO, 0⟩, ⟨4, 2, .RO, 0⟩, ⟨0, 3, .RO, 0⟩]⟩,
   ⟨0x140, 2, 4, [⟨0, 32, .W1C, 0⟩]⟩]

/-- The block registers of DFLYJOB2 (page 0x043). -/
def regsDFLYJOB2 : List RegDef :=
  [⟨0x040, 4, 4, [⟨0, 32, .RO, 0⟩]⟩]

/-- The block registers of HVCTL (page 0x080). -/
def regsHVCTL : List RegDef :=
  [⟨0x040, 1, 4, [⟨0, 1, .RW, 0⟩]⟩,
   ⟨0x044, 1, 4, [⟨16, 7, .RO, 0⟩, ⟨0, 13, .RO, 0⟩]⟩,
   ⟨0x048, 2, 4, [⟨0, 32, .RO, 0⟩]⟩,
   ⟨0x050, 2, 4, [⟨0, 32, .WO, 0⟩]⟩,
   ⟨0x058, 1, 4, [⟨6, 18, .RW, 0⟩]⟩,
   ⟨0x05c, 1, 4, [⟨0, 16, .RW, 0⟩]⟩,
   ⟨0x060, 1, 4, [⟨0, 16, .RO, 0⟩]⟩,
   ⟨0x064, 1, 4, [⟨0, 16, .RW, 0⟩]⟩,
   ⟨0x068, 1, 4, [⟨0, 32, .RO, 0⟩]⟩,
   ⟨0x06c, 1, 4, [⟨0, 6, .RO, 0⟩]⟩]

/-- The block registers of HVWV (page 0x081). -/
def regsHVWV : List RegDef :=
  [⟨0x040, 1, 4, [⟨1, 1, .WO, 0⟩, ⟨0, 1, .RW, 0⟩]⟩,
   ⟨0x044, 1, 4, [⟨8, 8, .RO, 0⟩, ⟨2, 1, .RO, 0⟩, ⟨1, 1, .RO, 0⟩, ⟨0, 1, .RO, 0⟩]⟩,
   ⟨0x048, 1, 4, [⟨0, 16, .RO, 0⟩]⟩,
   ⟨0x04c, 1, 4, [⟨6, 18, .RW, 0⟩]⟩,
   ⟨0x050, 1, 4, [⟨31, 1, .WO, 0⟩, ⟨30, 1, .RW, 0⟩, ⟨0, 15, .RW, 0⟩]⟩,
   ⟨0x054, 1, 4, [⟨0, 20, .RO, 0⟩]⟩]

/-- The block registers of HVCH (page 0x082). -/
def regsHVCH : List RegDef :=
  [⟨0x040, 16, 240, [⟨31, 1, .WO, 0⟩, ⟨30, 1, .WO, 0⟩, ⟨16, 10, .RW, 7⟩, ⟨8, 5, .RW, 1⟩, ⟨7, 1, .RW, 1⟩, ⟨6, 1, .RW, 1⟩]⟩,
   ⟨0x044, 16, 240, [⟨16, 8, .RW, 0⟩, ⟨12, 4, .RW, 0⟩, ⟨8, 1, .RW, 0⟩, ⟨6, 2, .RW, 0⟩, ⟨0, 6, .RW, 0⟩]⟩,
   ⟨0x048, 16, 240, [⟨20, 10, .RW, 0⟩, ⟨10, 10, .RW, 0⟩, ⟨0, 10, .RW, 0⟩]⟩,
   ⟨0x04c, 16, 240, [⟨16, 5, .RW, 0⟩, ⟨0, 3, .RW, 1⟩]⟩,
   ⟨0x050, 16, 240, [⟨0, 32, .RW, 0⟩]⟩,
   ⟨0x054, 16, 240, [⟨0, 32, .RW, 0⟩]⟩,
   ⟨0x058, 16, 240, [⟨0, 32, .RW, 0⟩]⟩,
   ⟨0x05c, 16, 240, [⟨0, 16, .RW, 0⟩]⟩,
   ⟨0x060, 16, 240, [⟨0, 32, .RW, 0⟩]⟩,
   ⟨0x064, 16, 240, [⟨0, 8, .RW, 0⟩]⟩,
   ⟨0x068, 16, 240, [⟨0, 32, .RW, 0⟩]⟩,
   ⟨0x06c, 16, 240, [⟨0, 25, .RW, 0⟩]⟩,
   ⟨0x070, 16, 240, [⟨0, 32, .RW, 0⟩]⟩,
   ⟨0x074, 16, 240, [⟨0, 32, .RW, 0⟩]⟩,
   ⟨0x078, 16, 240, [⟨0, 7, .RW, 32⟩]⟩,
   ⟨0x07c, 16, 240, [⟨16, 16, .RW, 8⟩, ⟨0, 16, .RW, 0xfff8⟩]⟩,
   ⟨0x080, 16, 240, [⟨16, 16, .RW, 64⟩, ⟨0, 16, .RW, 0xffc0⟩]⟩,
   ⟨0x084, 16, 240, [⟨16, 16, .RW, 0x100⟩, ⟨0, 16, .RW, 128⟩]⟩,
   ⟨0x088, 16, 240, [⟨24, 8, .RW, 150⟩, ⟨16, 8, .RW, 100⟩, ⟨8, 8, .RW, 50⟩, ⟨3, 5, .RW, 1⟩, ⟨0, 2, .RW, 2⟩]⟩,
   ⟨0x08c, 16, 240, [⟨24, 8, .RW, 154⟩, ⟨16, 8, .RW, 20⟩, ⟨8, 8, .RW, 50⟩]⟩,
   ⟨0x090, 16, 240, [⟨16, 16, .RO, 0x4000⟩, ⟨0, 16, .RO, 0⟩]⟩,
   ⟨0x094, 16, 240, [⟨16, 16, .RO, 0⟩, ⟨0, 16, .RO, 0⟩]⟩,
   ⟨0x098, 16, 240, [⟨16, 16, .RO, 0⟩, ⟨0, 16, .RO, 0⟩]⟩,
   ⟨0x09c, 16, 240, [⟨16, 16, .RO, 0⟩, ⟨0, 16, .RO, 0⟩]⟩,
   ⟨0x0a0, 16, 240, [⟨24, 7, .W1C, 0⟩, ⟨16, 8, .RO, 0⟩, ⟨0, 3, .RO, 0⟩]⟩,
   ⟨0x0a4, 16, 240, [⟨0, 25, .RO, 0⟩]⟩,
   ⟨0x0a8, 16, 240, [⟨0, 32, .RO, 0⟩]⟩,
   ⟨0x0ac, 16, 240, [⟨0, 32, .RO, 0⟩]⟩,
   ⟨0x0b0, 16, 240, [⟨0, 32, .RO, 0⟩]⟩,
   ⟨0x0b4, 16, 240, [⟨0, 32, .RO, 0⟩]⟩,
   ⟨0x0b8, 16, 240, [⟨0, 32, .RO, 0⟩]⟩,
   ⟨0x0bc, 16, 240, [⟨0, 32, .RO, 0⟩]⟩,
   ⟨0x0c0, 16, 240, [⟨0, 32, .RO, 0⟩]⟩,
   ⟨0x0c4, 16, 240, [⟨0, 16, .RO, 0⟩]⟩,
   ⟨0x0c8, 16, 240, [⟨0, 32, .RO, 0⟩]⟩,
   ⟨0x0cc, 16, 240, [⟨6, 1, .RO, 0⟩, ⟨5, 1, .RO, 0⟩, ⟨4, 1, .RO, 0⟩, ⟨3, 1, .RO, 0⟩, ⟨2, 1, .RO, 0⟩, ⟨1, 1, .RO, 0⟩, ⟨0, 1, .RO, 0⟩]⟩,
   ⟨0x0d0, 16, 240, [⟨0, 16, .RO, 0⟩]⟩,
   ⟨0x0d4, 16, 240, [⟨0, 24, .RO, 0⟩]⟩,
   ⟨0x0d8, 16, 240, [⟨0, 24, .RO, 0⟩]⟩,
   ⟨0x0dc, 16, 240, [⟨0, 24, .RO, 0⟩]⟩,
   ⟨0x0e0, 16, 240, [⟨0, 24, .RO, 0⟩]⟩,
   ⟨0x0e4, 16, 240, [⟨0, 24, .RO, 0⟩]⟩,
   ⟨0x0e8, 16, 240, [⟨0, 24, .RO, 0⟩]⟩,
   ⟨0x0ec, 16, 240, [⟨0, 24, .RO, 0⟩]⟩,
   ⟨0x0f0, 16, 240, [⟨0, 24, .RO, 0⟩]⟩,
   ⟨0x0f4, 16, 240, [⟨0, 24, .RO, 0⟩]⟩,
   ⟨0x0f8, 16, 240, [⟨0, 24, .RO, 0⟩]⟩]

/-- The block registers of HVTAPS (page 0x086). -/
def regsHVTAPS : List RegDef :=
  [⟨0x040, 64, 4, [⟨0, 9, .RO, 0⟩]⟩,
   ⟨0x140, 1, 4, [⟨6, 18, .RW, 0⟩]⟩,
   ⟨0x144, 1, 4, [⟨31, 1, .WO, 0⟩, ⟨16, 10, .RW, 1⟩, ⟨0, 10, .RW, 0⟩]⟩,
   ⟨0x148, 1, 4, [⟨1, 1, .RO, 0⟩, ⟨0, 1, .RO, 0⟩]⟩]

/-- The block registers of GATHER (page 0x100). -/
def regsGATHER : List RegDef :=
  [⟨0x040, 1, 4, [⟨1, 1, .WO, 0⟩, ⟨0, 1, .RW, 0⟩]⟩,
   ⟨0x044, 1, 4, [⟨16, 8, .RW, 0⟩]⟩,
   ⟨0x048, 1, 4, [⟨0, 8, .RW, 8⟩]⟩,
   ⟨0x04c, 1, 4, [⟨0, 32, .RO, 0⟩]⟩,
   ⟨0x050, 1, 4, [⟨0, 16, .RO, 0⟩]⟩,
   ⟨0x054, 1, 4, [⟨0, 32, .RO, 0⟩]⟩]

/-- The block registers of SCARAB (page 0x101). -/
def regsSCARAB : List RegDef :=
  [⟨0x040, 1, 4, [⟨1, 1, .WO, 0⟩, ⟨0, 1, .WO, 0⟩]⟩,
   ⟨0x044, 1, 4, [⟨24, 8, .RO, 0⟩, ⟨16, 2, .RO, 0⟩, ⟨0, 2, .RO, 0⟩]⟩,
   ⟨0x048, 1, 4, [⟨6, 18, .RW, 0⟩]⟩,
   ⟨0x04c, 1, 4, [⟨0, 1, .WO, 0⟩]⟩,
   ⟨0x050, 1, 4, [⟨31, 1, .RO, 0⟩, ⟨8, 1, .RO, 0⟩, ⟨0, 3, .RO, 0⟩]⟩,
   ⟨0x054, 1, 4, [⟨24, 8, .RW, 0⟩, ⟨6, 18, .RW, 0⟩]⟩,
   ⟨0x058, 3, 4, [⟨0, 32, .RO, 0⟩]⟩,
   ⟨0x064, 1, 4, [⟨0, 32, .RO, 0xffffffff⟩]⟩,
   ⟨0x068, 1, 4, [⟨16, 16, .RO, 0⟩, ⟨0, 8, .RO, 101⟩]⟩]

/-- The block registers of SCARAB1 (page 0x102). -/
def regsSCARAB1 : List RegDef :=
  [⟨0x040, 1, 4, [⟨16, 11, .RO, 0⟩, ⟨4, 4, .RO, 0⟩, ⟨0, 3, .RO, 0⟩]⟩,
   ⟨0x044, 1, 4, [⟨16, 16, .RO, 0⟩, ⟨0, 16, .RO, 0⟩]⟩,
   ⟨0x048, 3, 4, [⟨0, 32, .RO, 0⟩]⟩,
   ⟨0x054, 1, 4, [⟨28, 4, .RO, 0⟩, ⟨0, 10, .RO, 0⟩]⟩,
   ⟨0x058, 1, 4, [⟨0, 16, .RO, 0⟩]⟩,
   ⟨0x080, 32, 4, [⟨0, 32, .RO, 0⟩]⟩,
   ⟨0x100, 32, 4, [⟨0, 32, .W1C, 0⟩]⟩]

/-- The block registers of SCARAB2 (page 0x103). -/
def regsSCARAB2 : List RegDef :=
  [⟨0x040, 1, 4, [⟨16, 16, .RO, 0xffff⟩, ⟨0, 16, .RO, 0xffff⟩]⟩,
   ⟨0x044, 1, 4, [⟨0, 16, .RO, 0xffff⟩]⟩,
   ⟨0x048, 1, 4, [⟨24, 8, .RO, 0⟩, ⟨5, 1, .RO, 0⟩, ⟨4, 1, .RO, 0⟩, ⟨2, 1, .RO, 0⟩, ⟨1, 1, .RO, 0⟩, ⟨0, 1, .RO, 0⟩]⟩,
   ⟨0x04c, 2, 4, [⟨16, 16, .RO, 0⟩, ⟨15, 1, .RO, 0⟩, ⟨12, 3, .RO, 0⟩, ⟨0, 8, .RO, 0⟩]⟩,
   ⟨0x054, 2, 4, [⟨16, 16, .RO, 0⟩, ⟨0, 16, .RO, 0⟩]⟩]

/-- The block registers of SKY (page 0x110). -/
def regsSKY : List RegDef :=
  [⟨0x040, 1, 4, [⟨4, 1, .RO, 0⟩, ⟨3, 1, .RO, 0⟩, ⟨2, 1, .RO, 1⟩, ⟨0, 2, .RO, 0⟩]⟩,
   ⟨0x044, 1, 4, [⟨16, 16, .RW, 0x3e8⟩, ⟨1, 1, .RW, 0⟩, ⟨0, 1, .WO, 0⟩]⟩,
   ⟨0x048, 3, 4, [⟨0, 32, .RO, 0⟩]⟩,
   ⟨0x054, 1, 4, [⟨0, 32, .RO, 0⟩]⟩,
   ⟨0x058, 1, 4, [⟨0, 32, .RO, 0⟩]⟩,
   ⟨0x05c, 1, 4, [⟨0, 24, .RO, 0x1a3d72⟩]⟩,
   ⟨0x060, 1, 4, [⟨0, 32, .RO, 0x47ae2eb8⟩]⟩,
   ⟨0x064, 1, 4, [⟨0, 16, .RW, 100⟩]⟩,
   ⟨0x068, 1, 4, [⟨0, 32, .RO, 0xffffffff⟩]⟩,
   ⟨0x06c, 1, 4, [⟨4, 4, .RWS, 10⟩, ⟨0, 1, .RWS, 0⟩]⟩,
   ⟨0x070, 1, 4, [⟨17, 1, .RW, 0⟩, ⟨16, 1, .RW, 0⟩, ⟨8, 8, .RW, 18⟩, ⟨0, 8, .RW, 18⟩]⟩,
   ⟨0x074, 3, 4, [⟨0, 32, .RW, 0⟩]⟩,
   ⟨0x080, 1, 4, [⟨0, 32, .RW, 0⟩]⟩,
   ⟨0x084, 1, 4, [⟨0, 32, .RW, 0⟩]⟩,
   ⟨0x088, 1, 4, [⟨0, 32, .RO, 0⟩]⟩,
   ⟨0x08c, 1, 4, [⟨0, 32, .RO, 0⟩]⟩,
   ⟨0x090, 1, 4, [⟨0, 16, .RW, 0⟩]⟩,
   ⟨0x094, 1, 4, [⟨16, 16, .RO, 0⟩, ⟨0, 16, .RO, 0⟩]⟩,
   ⟨0x098, 1, 4, [⟨16, 16, .RW, 0x4e20⟩, ⟨0, 16, .RW, 50⟩]⟩]

/-- The block registers of SCHED (page 0x111). -/
def regsSCHED : List RegDef :=
  [⟨0x040, 1, 4, [⟨0, 9, .RW, 0⟩]⟩,
   ⟨0x044, 1, 4, [⟨0, 2, .WO, 0⟩]⟩,
   ⟨0x048, 1, 4, [⟨16, 10, .RO, 0x200⟩, ⟨1, 1, .RO, 0⟩, ⟨0, 1, .RO, 0⟩]⟩,
   ⟨0x04c, 3, 4, [⟨0, 32, .RW, 0⟩]⟩,
   ⟨0x058, 1, 4, [⟨20, 4, .RW, 0⟩, ⟨16, 1, .RW, 0⟩, ⟨0, 12, .RW, 0⟩]⟩,
   ⟨0x05c, 1, 4, [⟨0, 32, .RW, 0⟩]⟩,
   ⟨0x060, 1, 4, [⟨31, 1, .RW, 0⟩, ⟨0, 31, .RW, 0⟩]⟩,
   ⟨0x064, 1, 4, [⟨16, 16, .RO, 0⟩, ⟨8, 3, .RO, 0⟩, ⟨5, 1, .RO, 0⟩, ⟨4, 1, .RO, 0⟩, ⟨3, 1, .RO, 0⟩, ⟨2, 1, .RO, 0⟩, ⟨1, 1, .RO, 0⟩, ⟨0, 1, .RO, 0⟩]⟩,
   ⟨0x068, 1, 4, [⟨31, 1, .RO, 1⟩, ⟨0, 9, .RO, 0⟩]⟩,
   ⟨0x06c, 1, 4, [⟨0, 16, .RO, 0⟩]⟩]

/-- The block registers of SCHED1 (page 0x112). -/
def regsSCHED1 : List RegDef :=
  [⟨0x040, 16, 4, [⟨0, 32, .RO, 0⟩]⟩,
   ⟨0x080, 16, 4, [⟨0, 32, .W1C, 0⟩]⟩,
   ⟨0x0c0, 16, 4, [⟨0, 32, .W1C, 0⟩]⟩,
   ⟨0x100, 16, 4, [⟨0, 32, .W1C, 0⟩]⟩]

/-- The block registers of TPULSE (page 0x113). -/
def regsTPULSE : List RegDef :=
  [⟨0x040, 2, 32, [⟨16, 16, .RW, 0⟩, ⟨8, 8, .RW, 10⟩, ⟨4, 4, .RW, 14⟩, ⟨3, 1, .RW, 1⟩, ⟨2, 1, .WO, 0⟩, ⟨1, 1, .RW, 0⟩, ⟨0, 1, .RW, 0⟩]⟩,
   ⟨0x044, 2, 32, [⟨0, 32, .RW, 0x5f5e100⟩]⟩,
   ⟨0x048, 2, 32, [⟨0, 32, .RW, 0⟩]⟩,
   ⟨0x04c, 2, 32, [⟨6, 1, .RO, 0⟩, ⟨5, 1, .RO, 0⟩, ⟨4, 1, .RO, 0⟩, ⟨3, 1, .RO, 0⟩, ⟨2, 1, .RO, 0⟩, ⟨1, 1, .RO, 0⟩, ⟨0, 1, .RO, 0⟩]⟩,
   ⟨0x050, 2, 32, [⟨0, 32, .RO, 0⟩]⟩,
   ⟨0x054, 2, 32, [⟨0, 32, .RO, 0⟩]⟩,
   ⟨0x058, 2, 32, [⟨16, 16, .RO, 0⟩, ⟨0, 16, .RO, 0⟩]⟩,
   ⟨0x05c, 2, 32, [⟨0, 32, .RO, 0⟩]⟩]

/-- The block registers of EVTIN (page 0x114). -/
def regsEVTIN : List RegDef :=
  [⟨0x040, 8, 4, [⟨4, 4, .RW, 0⟩, ⟨1, 2, .RW, 0⟩, ⟨0, 1, .RW, 0⟩]⟩,
   ⟨0x060, 1, 4, [⟨31, 1, .RO, 0⟩, ⟨30, 1, .RO, 0⟩, ⟨29, 1, .RO, 0⟩, ⟨27, 2, .RO, 0⟩, ⟨26, 1, .RO, 0⟩, ⟨16, 3, .RO, 0⟩, ⟨0, 16, .RO, 0⟩]⟩,
   ⟨0x064, 3, 4, [⟨0, 32, .RO, 0⟩]⟩,
   ⟨0x070, 1, 4, [⟨0, 9, .RO, 0⟩]⟩,
   ⟨0x080, 8, 4, [⟨16, 16, .RO, 0⟩, ⟨0, 16, .RO, 0⟩]⟩]

/-- The block registers of MAINS (page 0x115). -/
def regsMAINS : List RegDef :=
  [⟨0x040, 1, 4, [⟨16, 4, .RW, 4⟩, ⟨8, 8, .RW, 20⟩, ⟨0, 1, .RW, 0⟩]⟩,
   ⟨0x044, 1, 4, [⟨0, 1, .RO, 0⟩]⟩,
   ⟨0x048, 1, 4, [⟨2, 1, .W1C, 0⟩, ⟨1, 1, .W1C, 0⟩, ⟨0, 1, .W1C, 0⟩]⟩,
   ⟨0x04c, 1, 4, [⟨0, 32, .RO, 0⟩]⟩,
   ⟨0x050, 3, 4, [⟨0, 32, .RO, 0⟩]⟩,
   ⟨0x05c, 1, 4, [⟨0, 32, .RO, 0⟩]⟩,
   ⟨0x060, 1, 4, [⟨0, 32, .RO, 0⟩]⟩,
   ⟨0x064, 1, 4, [⟨0, 32, .RO, 0⟩]⟩]

/-- The block registers of STEER (page 0x116). -/
def regsSTEER : List RegDef :=
  [⟨0x040, 1, 4, [⟨16, 16, .RW, 64⟩, ⟨8, 8, .RW, 16⟩, ⟨0, 2, .RW, 0⟩]⟩,
   ⟨0x044, 1, 4, [⟨0, 20, .RW, 0x80000⟩]⟩,
   ⟨0x048, 1, 4, [⟨0, 20, .RO, 0x80000⟩]⟩,
   ⟨0x04c, 1, 4, [⟨0, 32, .RW, 0⟩]⟩,
   ⟨0x050, 1, 4, [⟨0, 20, .RW, 0⟩]⟩,
   ⟨0x054, 1, 4, [⟨0, 20, .RW, 0xfffff⟩]⟩,
   ⟨0x058, 1, 4, [⟨0, 32, .RO, 0⟩]⟩]

/-- The block registers of COMB (page 0x120). -/
def regsCOMB : List RegDef :=
  [⟨0x040, 1, 4, [⟨0, 1, .WO, 0⟩]⟩,
   ⟨0x044, 1, 4, [⟨0, 4, .RO, 1⟩]⟩,
   ⟨0x048, 1, 4, [⟨16, 16, .RO, 0⟩, ⟨0, 16, .RO, 0⟩]⟩,
   ⟨0x04c, 1, 4, [⟨28, 4, .RO, 0⟩, ⟨0, 24, .RO, 0⟩]⟩,
   ⟨0x050, 1, 4, [⟨28, 4, .RO, 0⟩, ⟨0, 24, .RO, 0⟩]⟩,
   ⟨0x080, 16, 4, [⟨0, 32, .RO, 0⟩]⟩,
   ⟨0x0c0, 16, 4, [⟨0, 32, .RO, 0⟩]⟩]

/-- The block registers of CICADA (page 0x130). -/
def regsCICADA : List RegDef :=
  [⟨0x040, 1, 4, [⟨0, 1, .WO, 0⟩]⟩,
   ⟨0x044, 1, 4, [⟨12, 4, .W1C, 0⟩, ⟨8, 4, .W1C, 0⟩, ⟨4, 4, .W1C, 0⟩, ⟨0, 4, .W1C, 0⟩]⟩,
   ⟨0x048, 1, 4, [⟨12, 4, .RW, 0⟩, ⟨8, 4, .RW, 0⟩, ⟨4, 4, .RW, 0⟩, ⟨0, 4, .RW, 15⟩]⟩,
   ⟨0x04c, 1, 4, [⟨16, 13, .RW, 0x400⟩, ⟨0, 13, .RW, 0x400⟩]⟩,
   ⟨0x050, 1, 4, [⟨16, 13, .RW, 0x400⟩, ⟨0, 13, .RW, 0x400⟩]⟩,
   ⟨0x054, 1, 4, [⟨16, 13, .RO, 0⟩, ⟨0, 13, .RO, 0⟩]⟩,
   ⟨0x058, 1, 4, [⟨16, 13, .RO, 0⟩, ⟨0, 13, .RO, 0⟩]⟩,
   ⟨0x05c, 1, 4, [⟨0, 32, .RO, 0⟩]⟩,
   ⟨0x060, 4, 4, [⟨0, 32, .RO, 0⟩]⟩]

/-- The block registers of SRCPAGE (page 0x131). -/
def regsSRCPAGE : List RegDef :=
  [⟨0x040, 128, 4, [⟨12, 4, .RW, 7⟩, ⟨8, 2, .RW, 1⟩, ⟨5, 1, .RW, 0⟩, ⟨4, 1, .RW, 0⟩, ⟨3, 1, .RW, 0⟩, ⟨2, 1, .RW, 0⟩, ⟨1, 1, .RW, 1⟩, ⟨0, 1, .RW, 1⟩]⟩,
   ⟨0x240, 128, 4, [⟨16, 16, .RO, 0⟩, ⟨0, 16, .RO, 0⟩]⟩]

/-- The block registers of TENANT (page 0x140). -/
def regsTENANT : List RegDef :=
  [⟨0x040, 1, 4, [⟨0, 12, .RW, 0⟩]⟩,
   ⟨0x044, 1, 4, [⟨0, 3, .WO, 0⟩]⟩,
   ⟨0x048, 1, 4, [⟨31, 1, .RO, 0⟩, ⟨16, 8, .RO, 0⟩, ⟨8, 8, .RO, 0⟩, ⟨4, 4, .RO, 0⟩, ⟨3, 1, .RO, 0⟩, ⟨0, 3, .RO, 0⟩]⟩,
   ⟨0x04c, 1, 4, [⟨16, 16, .RO, 0⟩, ⟨0, 16, .RO, 0⟩]⟩,
   ⟨0x050, 1, 4, [⟨16, 16, .RO, 0⟩, ⟨0, 16, .RO, 0⟩]⟩,
   ⟨0x054, 1, 4, [⟨16, 16, .RO, 0⟩, ⟨0, 16, .RO, 0⟩]⟩,
   ⟨0x058, 1, 4, [⟨16, 13, .RO, 0⟩, ⟨0, 16, .RO, 0⟩]⟩,
   ⟨0x05c, 1, 4, [⟨0, 1, .RW, 0⟩]⟩,
   ⟨0x080, 128, 4, [⟨0, 32, .RO, 0⟩]⟩,
   ⟨0x280, 128, 4, [⟨0, 32, .RO, 0⟩]⟩]

/-- The block registers of QUEUE (page 0x141). -/
def regsQUEUE : List RegDef :=
  [⟨0x040, 1, 4, [⟨0, 13, .RW, 0⟩]⟩,
   ⟨0x044, 1, 4, [⟨0, 3, .WO, 0⟩]⟩,
   ⟨0x048, 1, 4, [⟨0, 32, .RO, 0⟩]⟩,
   ⟨0x04c, 1, 4, [⟨0, 32, .RO, 0⟩]⟩,
   ⟨0x050, 1, 4, [⟨0, 32, .WO, 0⟩]⟩,
   ⟨0x054, 1, 4, [⟨0, 32, .WO, 0⟩]⟩,
   ⟨0x058, 1, 4, [⟨16, 16, .RO, 0⟩, ⟨0, 16, .RO, 0⟩]⟩,
   ⟨0x05c, 1, 4, [⟨0, 16, .RO, 0⟩]⟩,
   ⟨0x060, 1, 4, [⟨31, 1, .RO, 0⟩, ⟨16, 8, .RW, 20⟩, ⟨0, 16, .RW, 0x100⟩]⟩,
   ⟨0x064, 1, 4, [⟨31, 1, .RO, 0⟩, ⟨30, 1, .RO, 0⟩, ⟨0, 12, .RO, 0⟩]⟩,
   ⟨0x068, 1, 4, [⟨0, 19, .RO, 0⟩]⟩]

/-- The block registers of QCACHE (page 0x142). -/
def regsQCACHE : List RegDef :=
  [⟨0x040, 1, 4, [⟨0, 16, .RW, 0x3e8⟩]⟩,
   ⟨0x044, 1, 4, [⟨16, 10, .RO, 0⟩, ⟨0, 2, .RO, 0⟩]⟩,
   ⟨0x048, 1, 4, [⟨0, 32, .RO, 0⟩]⟩,
   ⟨0x04c, 1, 4, [⟨0, 32, .RO, 0⟩]⟩,
   ⟨0x100, 512, 4, [⟨31, 1, .RO, 0⟩, ⟨30, 1, .RO, 0⟩, ⟨0, 13, .RO, 0⟩]⟩]

/-- The block registers of PCIE (page 0x150). -/
def regsPCIE : List RegDef :=
  [⟨0x040, 1, 4, [⟨16, 16, .RO, 0x1024⟩, ⟨0, 16, .RO, 0x1e9d⟩]⟩,
   ⟨0x044, 1, 4, [⟨8, 1, .RO, 0⟩, ⟨4, 4, .RO, 0⟩, ⟨0, 4, .RO, 0⟩]⟩,
   ⟨0x048, 1, 4, [⟨16, 16, .RO, 0⟩, ⟨0, 16, .RO, 0⟩]⟩,
   ⟨0x080, 4, 16, [⟨0, 32, .RW, 0⟩]⟩,
   ⟨0x084, 4, 16, [⟨0, 32, .RW, 0⟩]⟩,
   ⟨0x088, 4, 16, [⟨0, 24, .RW, 0⟩]⟩,
   ⟨0x08c, 4, 16, [⟨31, 1, .WO, 0⟩, ⟨30, 1, .RW, 0⟩, ⟨29, 1, .RO, 0⟩, ⟨28, 1, .RO, 0⟩, ⟨0, 24, .RW, 0⟩]⟩]

/-- The block registers of USB (page 0x151). -/
def regsUSB : List RegDef :=
  [⟨0x040, 1, 4, [⟨10, 1, .RO, 0⟩, ⟨9, 1, .RO, 0⟩, ⟨8, 1, .RO, 0⟩, ⟨0, 7, .RO, 0⟩]⟩,
   ⟨0x044, 1, 4, [⟨16, 16, .RO, 0⟩, ⟨0, 16, .RO, 0⟩]⟩,
   ⟨0x048, 1, 4, [⟨0, 16, .RO, 0⟩]⟩]

/-- The block registers of SPI (page 0x152). -/
def regsSPI : List RegDef :=
  [⟨0x040, 1, 4, [⟨0, 12, .RW, 0⟩]⟩,
   ⟨0x044, 1, 4, [⟨31, 1, .WO, 0⟩, ⟨18, 1, .WO, 0⟩, ⟨17, 1, .WO, 0⟩, ⟨16, 1, .WO, 0⟩, ⟨0, 12, .WO, 0⟩]⟩,
   ⟨0x048, 1, 4, [⟨16, 16, .RO, 0⟩, ⟨0, 1, .RO, 0⟩]⟩,
   ⟨0x04c, 1, 4, [⟨16, 16, .RO, 0⟩, ⟨0, 16, .RO, 0⟩]⟩]

/-- The block registers of UART (page 0x158). -/
def regsUART : List RegDef :=
  [⟨0x040, 1, 4, [⟨7, 1, .RW, 0⟩, ⟨6, 1, .RW, 0⟩, ⟨5, 1, .RW, 0⟩, ⟨4, 1, .RW, 0⟩, ⟨1, 2, .RW, 0⟩, ⟨0, 1, .RW, 0⟩]⟩,
   ⟨0x044, 1, 4, [⟨0, 26, .RW, 0x1c200⟩]⟩,
   ⟨0x048, 1, 4, [⟨7, 1, .RW, 0⟩, ⟨6, 1, .RW, 0⟩, ⟨4, 2, .RW, 0⟩, ⟨0, 4, .RW, 8⟩]⟩,
   ⟨0x04c, 1, 4, [⟨18, 1, .RW, 0⟩, ⟨16, 1, .RW, 0⟩, ⟨8, 8, .RW, 255⟩, ⟨0, 8, .RW, 0⟩]⟩,
   ⟨0x050, 1, 4, [⟨16, 8, .RW, 0⟩, ⟨8, 8, .RW, 0⟩, ⟨4, 1, .RW, 0⟩, ⟨3, 1, .RW, 0⟩, ⟨2, 1, .RW, 1⟩, ⟨1, 1, .RW, 0⟩, ⟨0, 1, .RW, 0⟩]⟩,
   ⟨0x054, 1, 4, [⟨9, 1, .RO, 0⟩, ⟨8, 1, .RO, 0⟩, ⟨7, 1, .RO, 1⟩, ⟨6, 1, .RO, 0⟩, ⟨5, 1, .RO, 0⟩, ⟨4, 1, .RO, 0⟩, ⟨3, 1, .RO, 0⟩, ⟨2, 1, .RO, 1⟩, ⟨1, 1, .RO, 1⟩, ⟨0, 1, .RO, 0⟩]⟩,
   ⟨0x058, 1, 4, [⟨31, 1, .RO, 0⟩, ⟨9, 5, .RO, 0⟩, ⟨0, 9, .RO, 0⟩]⟩,
   ⟨0x05c, 1, 4, [⟨0, 9, .WO, 0⟩]⟩,
   ⟨0x060, 1, 4, [⟨0, 8, .W1C, 0⟩]⟩,
   ⟨0x064, 1, 4, [⟨16, 16, .RO, 0⟩, ⟨0, 16, .RO, 0⟩]⟩,
   ⟨0x068, 1, 4, [⟨16, 16, .RO, 0⟩, ⟨0, 16, .RO, 0⟩]⟩,
   ⟨0x06c, 1, 4, [⟨0, 1, .RW, 0⟩]⟩,
   ⟨0x070, 1, 4, [⟨16, 16, .RO, 0⟩, ⟨2, 1, .RW, 0⟩, ⟨0, 2, .RW, 0⟩]⟩]

/-- The block registers of XSPI (page 0x15c). -/
def regsXSPI : List RegDef :=
  [⟨0x040, 1, 4, [⟨28, 4, .WO, 0⟩]⟩,
   ⟨0x044, 1, 4, [⟨0, 29, .RW, 0⟩]⟩,
   ⟨0x048, 1, 4, [⟨0, 24, .RW, 0⟩]⟩,
   ⟨0x04c, 1, 4, [⟨0, 24, .RW, 0⟩]⟩,
   ⟨0x050, 1, 4, [⟨16, 16, .RO, 0⟩, ⟨3, 1, .RO, 0⟩, ⟨1, 2, .RO, 0⟩, ⟨0, 1, .RO, 0⟩]⟩,
   ⟨0x054, 1, 4, [⟨0, 32, .RO, 0⟩]⟩]

/-- The block registers of CARAPACE (page 0x160). -/
def regsCARAPACE : List RegDef :=
  [⟨0x040, 1, 4, [⟨31, 1, .WO, 0⟩, ⟨24, 4, .RW, 0⟩, ⟨20, 2, .RW, 0⟩, ⟨0, 12, .RW, 0⟩]⟩,
   ⟨0x044, 1, 4, [⟨0, 24, .RW, 0⟩]⟩,
   ⟨0x048, 1, 4, [⟨0, 24, .RW, 0⟩]⟩,
   ⟨0x04c, 1, 4, [⟨0, 24, .RW, 0⟩]⟩,
   ⟨0x050, 1, 4, [⟨0, 24, .RW, 0⟩]⟩,
   ⟨0x058, 1, 4, [⟨31, 1, .RO, 0⟩, ⟨8, 8, .RO, 0⟩, ⟨0, 2, .RO, 0⟩]⟩,
   ⟨0x060, 4, 4, [⟨16, 12, .RO, 0⟩, ⟨12, 2, .RO, 0⟩, ⟨8, 4, .RO, 0⟩, ⟨0, 3, .RO, 0⟩]⟩,
   ⟨0x070, 1, 4, [⟨0, 4, .W1C, 0⟩]⟩,
   ⟨0x074, 1, 4, [⟨16, 16, .RO, 0⟩, ⟨0, 16, .RO, 0⟩]⟩,
   ⟨0x078, 1, 4, [⟨16, 7, .RO, 0⟩, ⟨0, 16, .RO, 0x1024⟩]⟩,
   ⟨0x07c, 1, 4, [⟨0, 32, .RO, 0⟩]⟩,
   ⟨0x080, 8, 4, [⟨0, 32, .RO, 0⟩]⟩,
   ⟨0x0c0, 8, 4, [⟨0, 32, .RO, 0⟩]⟩]

/-- The block registers of UPDATE (page 0x161). -/
def regsUPDATE : List RegDef :=
  [⟨0x040, 1, 4, [⟨8, 4, .RO, 0⟩, ⟨0, 3, .RO, 0⟩]⟩,
   ⟨0x044, 1, 4, [⟨0, 21, .RO, 0⟩]⟩,
   ⟨0x048, 1, 4, [⟨0, 21, .RO, 0⟩]⟩,
   ⟨0x04c, 1, 4, [⟨0, 32, .RO, 0⟩]⟩,
   ⟨0x050, 3, 4, [⟨0, 32, .RO, 0⟩]⟩,
   ⟨0x05c, 1, 4, [⟨16, 16, .RO, 0⟩, ⟨0, 8, .RO, 0⟩]⟩,
   ⟨0x060, 1, 4, [⟨0, 32, .RO, 0⟩]⟩,
   ⟨0x064, 1, 4, [⟨1, 1, .RO, 0⟩, ⟨0, 1, .RO, 0⟩]⟩]

/-- The block registers of ARCHIVE (page 0x170). -/
def regsARCHIVE : List RegDef :=
  [⟨0x040, 1, 4, [⟨3, 1, .WO, 0⟩, ⟨2, 1, .RW, 0⟩, ⟨1, 1, .RW, 0⟩, ⟨0, 1, .RW, 0⟩]⟩,
   ⟨0x044, 1, 4, [⟨0, 24, .RW, 0⟩]⟩,
   ⟨0x048, 1, 4, [⟨0, 32, .RW, 0⟩]⟩,
   ⟨0x04c, 1, 4, [⟨0, 32, .RW, 0⟩]⟩,
   ⟨0x050, 1, 4, [⟨16, 16, .RO, 0⟩, ⟨1, 1, .RO, 0⟩, ⟨0, 1, .RO, 0⟩]⟩,
   ⟨0x054, 1, 4, [⟨0, 20, .RO, 0⟩]⟩,
   ⟨0x058, 1, 4, [⟨0, 32, .RO, 0⟩]⟩,
   ⟨0x05c, 1, 4, [⟨0, 32, .RO, 0⟩]⟩,
   ⟨0x060, 1, 4, [⟨0, 32, .RO, 0⟩]⟩,
   ⟨0x064, 1, 4, [⟨0, 32, .RO, 0⟩]⟩,
   ⟨0x068, 1, 4, [⟨6, 18, .RW, 0x30000⟩]⟩,
   ⟨0x080, 8, 16, [⟨31, 1, .WO, 0⟩, ⟨30, 1, .WO, 0⟩]⟩,
   ⟨0x084, 8, 16, [⟨0, 20, .RW, 0⟩]⟩,
   ⟨0x088, 8, 16, [⟨0, 32, .RW, 0⟩]⟩,
   ⟨0x08c, 8, 16, [⟨16, 16, .RO, 0⟩, ⟨1, 1, .RO, 0⟩, ⟨0, 1, .RO, 0⟩]⟩]

/-- The block registers of PENHOLT (page 0x180). -/
def regsPENHOLT : List RegDef :=
  [⟨0x040, 1, 4, [⟨1, 1, .RW, 1⟩, ⟨0, 1, .RW, 0⟩]⟩,
   ⟨0x044, 1, 4, [⟨16, 3, .RO, 0⟩, ⟨8, 3, .RO, 0⟩, ⟨4, 1, .RO, 0⟩, ⟨0, 2, .RO, 0⟩]⟩,
   ⟨0x048, 1, 4, [⟨0, 8, .RO, 0⟩]⟩,
   ⟨0x04c, 1, 4, [⟨0, 32, .RO, 0⟩]⟩]

/-- The block registers of PENPORT (page 0x181). -/
def regsPENPORT : List RegDef :=
  [⟨0x040, 1, 4, [⟨0, 1, .WO, 0⟩]⟩,
   ⟨0x044, 1, 4, [⟨7, 1, .RO, 0⟩, ⟨4, 3, .RO, 0⟩, ⟨0, 2, .RO, 0⟩]⟩,
   ⟨0x048, 1, 4, [⟨0, 24, .RO, 0⟩]⟩,
   ⟨0x04c, 1, 4, [⟨16, 16, .RO, 0⟩, ⟨0, 16, .RO, 0⟩]⟩,
   ⟨0x050, 7, 4, [⟨31, 1, .RO, 0⟩, ⟨28, 3, .RO, 0⟩, ⟨16, 5, .RO, 0⟩, ⟨8, 2, .RO, 0⟩, ⟨4, 2, .RO, 0⟩, ⟨0, 3, .RO, 0⟩]⟩,
   ⟨0x070, 7, 4, [⟨0, 32, .RO, 0⟩]⟩]

/-- The block registers of WARDEN (page 0x190). -/
def regsWARDEN : List RegDef :=
  [⟨0x100, 1, 4, [⟨31, 1, .WO, 0⟩, ⟨30, 1, .WO, 0⟩, ⟨16, 5, .RW, 0⟩, ⟨0, 1, .RW, 0⟩]⟩,
   ⟨0x104, 1, 4, [⟨6, 18, .RW, 0⟩]⟩,
   ⟨0x108, 1, 4, [⟨16, 11, .RW, 0⟩, ⟨0, 10, .RW, 0⟩]⟩,
   ⟨0x10c, 1, 4, [⟨0, 32, .RW, 0⟩]⟩,
   ⟨0x110, 1, 4, [⟨1, 3, .RO, 0⟩, ⟨0, 1, .RO, 0⟩]⟩,
   ⟨0x114, 1, 4, [⟨0, 17, .RO, 0⟩]⟩]

/-- The block registers of AON (page 0x1a0). -/
def regsAON : List RegDef :=
  [⟨0x040, 1, 4, [⟨9, 1, .WO, 0⟩, ⟨8, 1, .RW, 0⟩, ⟨0, 4, .RW, 9⟩]⟩,
   ⟨0x044, 1, 4, [⟨8, 8, .RO, 0⟩, ⟨4, 1, .RO, 0⟩, ⟨0, 4, .RO, 0⟩]⟩,
   ⟨0x048, 1, 4, [⟨0, 4, .RW, 3⟩]⟩,
   ⟨0x04c, 1, 4, [⟨0, 6, .RW, 3⟩]⟩,
   ⟨0x050, 1, 4, [⟨0, 7, .W1C, 0⟩]⟩,
   ⟨0x054, 3, 4, [⟨0, 32, .RW, 0⟩]⟩,
   ⟨0x060, 1, 4, [⟨0, 1, .RW, 0⟩]⟩,
   ⟨0x064, 1, 4, [⟨0, 1, .WO, 0⟩]⟩,
   ⟨0x068, 1, 4, [⟨6, 18, .RW, 0⟩]⟩,
   ⟨0x06c, 1, 4, [⟨31, 1, .W1S, 0⟩, ⟨30, 1, .RW, 0⟩, ⟨0, 11, .RW, 0⟩]⟩,
   ⟨0x070, 1, 4, [⟨0, 10, .RW, 0⟩]⟩,
   ⟨0x074, 1, 4, [⟨0, 32, .RW, 0⟩]⟩]

/-- The page map (R28) with the header constants of each page (R29, R34, R374, R381, R473). -/
def pageTable : List PageRow :=
  [⟨0x000, 0, 1, 1, 0x000, 0, false, 1, 0, true, false, false, false, 0, 0, regsDIR⟩,
   ⟨0x001, 0, 1, 1, 0x001, 0, false, 1, 0, true, false, false, false, 0, 0, regsSYS⟩,
   ⟨0x002, 0, 1, 1, 0x002, 0, false, 1, 0, true, false, false, false, 1024, 2, regsRST⟩,
   ⟨0x004, 0, 1, 1, 0x004, 0, false, 1, 0, true, false, false, false, 1026, 4, regsPWR⟩,
   ⟨0x005, 0, 1, 1, 0x004, 1, false, 1, 0, true, false, false, false, 0, 0, regsPWR1⟩,
   ⟨0x006, 0, 1, 1, 0x004, 2, false, 1, 0, true, false, false, false, 0, 0, regsPWR2⟩,
   ⟨0x007, 0, 1, 1, 0x004, 3, false, 1, 0, true, false, false, false, 0, 0, regsPWR3⟩,
   ⟨0x008, 0, 1, 1, 0x008, 0, false, 1, 0, false, true, false, false, 1030, 4, regsLEDGER⟩,
   ⟨0x009, 0, 1, 1, 0x009, 0, false, 1, 0, false, false, false, false, 1034, 3, regsTHERM⟩,
   ⟨0x010, 0, 1, 1, 0x010, 0, false, 1, 0, true, false, false, false, 1037, 3, regsCLK⟩,
   ⟨0x011, 0, 1, 1, 0x011, 0, false, 1, 0, false, false, false, false, 1040, 2, regsAUXPLL⟩,
   ⟨0x012, 0, 1, 1, 0x012, 0, false, 1, 0, false, true, false, true, 0, 0, regsCLKOUT⟩,
   ⟨0x020, 1, 8, 1, 0x020, 0, false, 3, 1, false, true, false, false, 1042, 4, regsRF⟩,
   ⟨0x028, 0, 1, 1, 0x028, 0, false, 1, 0, false, true, false, false, 1046, 16, regsRFCOM⟩,
   ⟨0x030, 1, 8, 1, 0x030, 0, false, 11, 0, false, true, false, false, 1062, 4, regsSIEVE⟩,
   ⟨0x038, 0, 1, 1, 0x038, 0, false, 11, 0, false, true, false, false, 1066, 4, regsSIEVEX⟩,
   ⟨0x039, 0, 1, 1, 0x039, 0, false, 11, 0, false, false, false, false, 1070, 1, regsSPECMON⟩,
   ⟨0x040, 0, 1, 1, 0x040, 0, false, 12, 0, false, false, false, false, 1071, 3, regsDFLY⟩,
   ⟨0x041, 0, 1, 1, 0x041, 0, false, 12, 0, false, false, false, false, 0, 0, regsDFLYJOB⟩,
   ⟨0x042, 0, 1, 1, 0x041, 1, false, 12, 0, false, false, false, false, 0, 0, regsDFLYJOB1⟩,
   ⟨0x043, 0, 1, 1, 0x041, 2, false, 12, 0, false, false, false, false, 0, 0, regsDFLYJOB2⟩,
   ⟨0x080, 8, 16, 1, 0x080, 0, false, 13, 1, false, false, false, false, 1074, 1, regsHVCTL⟩,
   ⟨0x081, 8, 16, 1, 0x080, 1, false, 13, 1, false, false, false, false, 1075, 2, regsHVWV⟩,
   ⟨0x082, 8, 16, 4, 0x080, 2, false, 13, 1, false, false, true, false, 0, 0, regsHVCH⟩,
   ⟨0x086, 8, 16, 1, 0x080, 6, false, 13, 1, false, false, false, false, 1077, 1, regsHVTAPS⟩,
   ⟨0x100, 0, 1, 1, 0x100, 0, false, 30, 0, false, false, false, false, 1078, 2, regsGATHER⟩,
   ⟨0x101, 0, 1, 1, 0x101, 0, false, 29, 0, false, false, false, false, 1080, 4, regsSCARAB⟩,
   ⟨0x102, 0, 1, 1, 0x101, 1, false, 29, 0, false, false, false, false, 1084, 4, regsSCARAB1⟩,
   ⟨0x103, 0, 1, 1, 0x101, 2, false, 29, 0, false, false, false, false, 1088, 4, regsSCARAB2⟩,
   ⟨0x110, 0, 1, 1, 0x110, 0, false, 1, 0, false, true, false, false, 1092, 5, regsSKY⟩,
   ⟨0x111, 0, 1, 1, 0x111, 0, false, 1, 0, false, false, false, false, 1097, 5, regsSCHED⟩,
   ⟨0x112, 0, 1, 1, 0x111, 1, false, 1, 0, false, false, false, false, 0, 0, regsSCHED1⟩,
   ⟨0x113, 0, 1, 1, 0x113, 0, false, 37, 0, false, false, false, false, 1102, 5, regsTPULSE⟩,
   ⟨0x114, 0, 1, 1, 0x114, 0, false, 37, 0, false, false, false, false, 1107, 2, regsEVTIN⟩,
   ⟨0x115, 0, 1, 1, 0x115, 0, false, 37, 0, false, false, false, false, 1109, 4, regsMAINS⟩,
   ⟨0x116, 0, 1, 1, 0x116, 0, false, 37, 0, false, false, false, false, 1113, 2, regsSTEER⟩,
   ⟨0x120, 0, 1, 1, 0x120, 0, false, 30, 0, false, false, false, true, 1115, 2, regsCOMB⟩,
   ⟨0x130, 0, 1, 1, 0x130, 0, false, 1, 0, false, false, false, true, 1117, 2, regsCICADA⟩,
   ⟨0x131, 1, 9, 1, 0x130, 1, true, 1, 0, false, false, false, false, 0, 0, regsSRCPAGE⟩,
   ⟨0x140, 0, 1, 1, 0x140, 0, false, 1, 0, false, false, false, false, 1119, 5, regsTENANT⟩,
   ⟨0x141, 0, 1, 1, 0x141, 0, false, 1, 0, false, false, false, false, 1124, 2, regsQUEUE⟩,
   ⟨0x142, 0, 1, 1, 0x142, 0, false, 1, 0, false, false, true, false, 0, 0, regsQCACHE⟩,
   ⟨0x150, 0, 1, 1, 0x150, 0, false, 2, 0, false, false, false, false, 1126, 3, regsPCIE⟩,
   ⟨0x151, 0, 1, 1, 0x151, 0, false, 2, 0, false, false, false, false, 1129, 2, regsUSB⟩,
   ⟨0x152, 0, 1, 1, 0x152, 0, false, 2, 0, false, false, false, false, 1131, 1, regsSPI⟩,
   ⟨0x158, 1, 4, 1, 0x158, 0, false, 2, 0, false, false, false, false, 1132, 4, regsUART⟩,
   ⟨0x15c, 0, 1, 1, 0x15c, 0, false, 2, 0, false, false, false, false, 1136, 2, regsXSPI⟩,
   ⟨0x160, 0, 1, 1, 0x160, 0, false, 34, 0, false, false, false, false, 1138, 3, regsCARAPACE⟩,
   ⟨0x161, 0, 1, 1, 0x161, 0, false, 1, 0, false, false, false, false, 1141, 2, regsUPDATE⟩,
   ⟨0x170, 0, 1, 1, 0x170, 0, false, 35, 0, false, false, false, false, 1143, 3, regsARCHIVE⟩,
   ⟨0x180, 0, 1, 1, 0x180, 0, false, 36, 0, false, false, false, false, 1146, 3, regsPENHOLT⟩,
   ⟨0x181, 1, 2, 1, 0x180, 1, true, 36, 0, false, false, false, false, 0, 0, regsPENPORT⟩,
   ⟨0x190, 0, 1, 1, 0x190, 0, false, 1, 0, false, false, false, false, 0, 0, regsWARDEN⟩,
   ⟨0x1a0, 0, 1, 1, 0x1a0, 0, false, 0, 0, false, false, false, false, 1149, 3, regsAON⟩]

end Sys2Proof.Machine
end

