-- ==== Sys2Proof/Machine/Ops.lean ====
section
/-! DEFINITION. The named operations every chapter uses: finding a register, reading and writing its fields,
the page header (R29 to R36), raising an event (R31, R374), Comb (R289 to R294), time words (R37, R38), the
CRC of frames (R224) and the byte order of records. -/

namespace Sys2Proof.Machine

-- the page map

/-- Instance and page-in-row of page `p` in a row. -/
def PageRow.locate (r : PageRow) (p : Nat) : Option (Nat × Nat) :=
  if p < r.start then none
  else if r.stride = 0 then (if p = r.start then some (0, 0) else none)
  else
    let i := (p - r.start) / r.stride
    let j := (p - r.start) % r.stride
    if i < r.count ∧ j < r.np then some (i, j) else none

/-- The row of page `p`, with its instance and page in the row; none when the page is unimplemented (R28). -/
def findPage (p : Nat) : Option (PageRow × Nat × Nat) :=
  pageTable.findSome? fun r => (r.locate p).map fun ij => (r, ij)

def implemented (p : Nat) : Bool := (findPage p).isSome

/-- The register of `regs` at byte offset `o`, with its index in an array. -/
def findReg (regs : List RegDef) (o : Nat) : Option (RegDef × Nat) :=
  regs.findSome? fun r =>
    if o < r.off then none
    else if (o - r.off) % r.stride = 0 ∧ (o - r.off) / r.stride < r.count then some (r, (o - r.off) / r.stride)
    else none

def fieldMask (f : FieldDef) : Word := (BitVec.allOnes 32 >>> (32 - f.w)) <<< f.lo

def RegDef.reset (r : RegDef) : Word :=
  r.fields.foldl (fun acc f => acc ||| (BitVec.ofNat 32 f.rst <<< f.lo)) 0

/-- The bits of a register with access code `c`. -/
def RegDef.bits (r : RegDef) (c : Acc) : Word :=
  r.fields.foldl (fun acc f => if f.acc = c then acc ||| fieldMask f else acc) 0

/-- Has the register an active value at + 0x800 (R33)? -/
def RegDef.shadowed (r : RegDef) : Bool := r.fields.any fun f => f.acc = .RWS

/-- PG_EVSRC FIRST and NSRC of a page (R374). -/
def PageRow.sources (r : PageRow) (i j : Nat) : Nat × Nat :=
  if r.type = 0x080 ∧ r.pib = 2 then (64 * i + 16 * j, 16) else (r.first, r.nsrc)

/-- Instance number of a page (PG_ID.INST) and page in block (PG_ID.PIB). -/
def PageRow.inst (r : PageRow) (i : Nat) : Nat := if r.piball then 0 else i
def PageRow.page (r : PageRow) (i j : Nat) : Nat := r.pib + j + (if r.piball then i else 0)

/-- Reset value of a header register (R29, R36). -/
def headerReset (r : PageRow) (i j o : Nat) : Word :=
  let src := r.sources i j
  if o = 0x000 then BitVec.ofNat 32 (r.type * 65536 + r.inst i * 256 + r.page i j)
  else if o = 0x004 then 0x0100
  else if o = 0x008 then BitVec.ofNat 32 ((if r.shadow then 2 ^ 31 else 0) + (if r.wide then 2 ^ 30 else 0)
    + (if src.2 ≠ 0 then 2 ^ 29 else 0) + (if r.own then 2 ^ 28 else 0))
  else if o = 0x00C then (if r.en then 1 else 0)
  else if o = 0x02C then BitVec.ofNat 32 (src.2 * 65536 + src.1)
  else 0

/-- DIR.PRESENT word `w` (R36). -/
def presentWord (w : Nat) : Word :=
  (List.range 32).foldl (fun acc b => if implemented (32 * w + b) then acc ||| (1 <<< b) else acc) 0

/-- Resets a table gives per page or per index rather than per register: SRC_CFG of block sources and of the
two CICADA sources (19), PW_D of the domains on at reset (R382), UART0 and UART3 (R349, R454), and the challenge (R420). -/
def specialReset (p o : Nat) (w : Word) : Word :=
  if p = 0x000 ∧ 0x040 ≤ o ∧ o < 0x0C0 then presentWord ((o - 0x040) / 4)
  else if 0x131 ≤ p ∧ p ≤ 0x139 ∧ o < 0x240 then
    let src := (p - 0x131) * 128 + (o - 0x040) / 4
    if src < 1024 then w
    else if src = 1117 ∨ src = 1118 then 0x4323
    else 0x5203
  else if p = 0x005 then
    let d := (o - 0x040) / 4
    if d = 1 then 0x40010000 else if d = 0 ∨ d = 30 then 0x40000000 else w
  else if p = 0x158 ∧ o = 0x040 then 0x05
  else if p = 0x158 ∧ o = 0x050 then 0x07
  else if p = 0x15B ∧ o = 0x04C then 0x50700
  else if p = 0x160 ∧ 0x080 ≤ o ∧ o < 0x0A0 then Config.trng (2 ^ 64 + (o - 0x080) / 4)
  else w

/-- What a register reads as that nothing has written since reset. -/
def regReset (a : Nat) : Word :=
  let p := a / 4096
  let o := a % 4096
  match findPage p with
  | none => 0
  | some (r, i, j) =>
    if o < 0x040 then headerReset r i j o
    else match findReg r.regs o with
      | some (d, _) => specialReset p o d.reset
      | none =>
        if r.shadow ∧ 0x840 ≤ o then
          match findReg r.regs (o - 0x800) with
          | some (d, _) => if d.shadowed then d.reset &&& d.bits .RWS else 0
          | none => 0
        else 0

-- registers and fields

def State.reg (s : State) (a : Nat) : Word := Tab.get regReset s.regs a
def State.setReg (s : State) (a : Nat) (w : Word) : State := { s with regs := Tab.set regReset s.regs a w }

/-- The value of a field. -/
def State.fget (s : State) (f : Fld) : Nat := (s.reg f.addr).toNat / 2 ^ f.lo % 2 ^ f.w

def Fld.mask (f : Fld) : Word := (BitVec.allOnes 32 >>> (32 - f.w)) <<< f.lo

/-- Replace the bits of a field in a word. -/
def Fld.put (f : Fld) (w : Word) (v : Nat) : Word :=
  (w &&& ~~~f.mask) ||| (((BitVec.ofNat 32 v) <<< f.lo) &&& f.mask)

/-- Write a field, leaving the register's other bits. -/
def State.fput (s : State) (f : Fld) (v : Nat) : State := s.setReg f.addr (f.put (s.reg f.addr) v)

def State.flag (s : State) (f : Fld) : Bool := s.fget f ≠ 0
def State.fputB (s : State) (f : Fld) (b : Bool) : State := s.fput f (if b then 1 else 0)

/-- Add one to a counter field, saturating. -/
def State.finc (s : State) (f : Fld) : State := s.fput f (satInc f.w (s.fget f))
/-- Add one to a counter field, wrapping. -/
def State.fwrap (s : State) (f : Fld) : State := s.fput f (s.fget f + 1)

/-- The active value's field of a shadowed register (R33). -/
def Fld.act (f : Fld) : Fld := { f with addr := f.addr + 0x800 }

/-- A 64-bit value held in two registers. -/
def State.get64 (s : State) (hi lo : Fld) : Nat := s.fget hi * 2 ^ 32 + s.fget lo
def State.put64 (s : State) (hi lo : Fld) (v : Nat) : State := (s.fput hi (v / 2 ^ 32)).fput lo v

/-- A time of R38 in three registers T2, T1, T0 from `f 0` on. -/
def State.get96 (s : State) (f : Nat → Fld) : Nat :=
  s.fget (f 0) * 2 ^ 64 + s.fget (f 1) * 2 ^ 32 + s.fget (f 2)
def State.put96 (s : State) (f : Nat → Fld) (t : Nat) : State :=
  ((s.fput (f 0) (t / 2 ^ 64)).fput (f 1) (t / 2 ^ 32)).fput (f 2) t

/-- Bit `i` of a 32-bit-word bitmap whose word `w` is `f w`. -/
def State.mapBit (s : State) (f : Nat → Fld) (i : Nat) : Bool := (s.reg (f (i / 32)).addr).getLsbD (i % 32)
def State.setMapBit (s : State) (f : Nat → Fld) (i : Nat) (b : Bool) : State :=
  s.fputB ⟨(f (i / 32)).addr, i % 32, 1⟩ b

-- page header fields

def pgCtl (p : Nat) : Nat := p * 4096 + 0x00C
def PG_EN (p : Nat) : Fld := ⟨pgCtl p, 0, 1⟩
def PG_FREEZE (p : Nat) : Fld := ⟨pgCtl p, 2, 1⟩
def PG_EVEN (p b : Nat) : Fld := ⟨p * 4096 + 0x018, b, 1⟩
def PG_EVPEND (p b : Nat) : Fld := ⟨p * 4096 + 0x01C, b, 1⟩
def PG_FAULT (p b : Nat) : Fld := ⟨p * 4096 + 0x020, b, 1⟩
def PG_LOCK (p : Nat) : Fld := ⟨p * 4096 + 0x024, 31, 1⟩
def PG_OWNED (p : Nat) : Fld := ⟨p * 4096 + 0x024, 30, 1⟩
def PG_TENANT (p : Nat) : Fld := ⟨p * 4096 + 0x024, 0, 12⟩

def faultLOCKED : Nat := 31
def faultUNPWR : Nat := 30
def faultACCESS : Nat := 29

/-- Set a PG_FAULT bit of a page. -/
def State.fault (s : State) (p b : Nat) : State := s.fputB (PG_FAULT p b) true

-- power of a page

/-- The power domain of a page (R381). -/
def pageDom (p : Nat) : Nat :=
  match findPage p with
  | some (r, i, _) => r.dom + r.domStep * i
  | none => 0

def dOFF : Nat := 0
def dWAKING : Nat := 1
def dON : Nat := 2
def dENTRY : Nat := 3
def dFORCED : Nat := 4

def State.domState (s : State) (d : Nat) : Nat := s.fget (F.PW_D_STATE d)
/-- POWERED: from the end of WAKING to AP4 (R386, R387). -/
def State.domPowered (s : State) (d : Nat) : Bool := s.domState d = dON ∨ s.domState d = dENTRY
def State.powered (s : State) (p : Nat) : Bool := s.domPowered (pageDom p)

-- events (R31, R374, R375)

/-- A raise that a further one of its source repeats; of two in one cycle the lower page is the first. -/
def Raise.merge (x r : Raise) : Raise :=
  { if r.cyc = x.cyc ∧ r.page < x.page then r else x with src := x.src, reps := x.reps + 1, inst := x.inst ||| r.inst }

/-- Put a raise into the list of those Cicada has not taken: a raise of a source already waiting repeats it; the
raises of one cycle stand in ascending source number (R375). -/
def addRaise (r : Raise) : List Raise → List Raise
  | [] => [r]
  | x :: xs =>
    if x.src = r.src then x.merge r :: xs
    else if r.cyc = x.cyc ∧ r.src < x.src ∧ xs.all (fun y => y.src ≠ r.src) then
      r :: x :: xs
    else x :: addRaise r xs

/-- Raise a Cicada source as page `p` (R31), with a detail word of its own when one is given. -/
def State.raise (s : State) (src p inst : Nat) (detail : Option Word) : State :=
  { s with cic := { s.cic with raises := addRaise ⟨src, p, inst, detail, 0, s.cycle⟩ s.cic.raises } }

/-- The source that PG_EVRAW bit `b` of page `p` feeds: FIRST + b, but RST's bits 0, 1 and 2, 3 share one each (21). -/
def srcOf (p b : Nat) : Nat :=
  match findPage p with
  | some (r, i, j) => (r.sources i j).1 + (if p = 0x002 then b / 2 else b)
  | none => 0

def instOf (p : Nat) : Nat :=
  match findPage p with
  | some (r, i, _) => r.inst i
  | none => 0

/-- A rise of PG_EVRAW bit `b` of page `p` (R31). -/
def State.evRiseD (s : State) (p b : Nat) (detail : Option Word) : State :=
  if s.flag (PG_EVEN p b) then
    (s.fputB (PG_EVPEND p b) true).raise (srcOf p b) p (2 ^ instOf p) detail
  else s

def State.evRise (s : State) (p b : Nat) : State := s.evRiseD p b none

/-- The page that holds channel `ch` (R12). -/
def chPage (ch : Nat) : Nat := 0x082 + 8 * (ch / 64) + ch % 64 / 16

/-- Set EVC bit `b` of a channel; its raw line is the OR of the bits, so only the first set bit is a rise (09). -/
def State.chEvent (s : State) (ch b : Nat) : State :=
  let was := s.fget (F.CH_STAT_EVC ch)
  let s := s.fput (F.CH_STAT_EVC ch) (was ||| 2 ^ b)
  if was = 0 then s.evRise (chPage ch) (ch % 16) else s

-- time

/-- The 96-bit Sky Clock time (R37), in 2^-48 s. -/
def State.now (s : State) : Nat := s.sky.time / 2 ^ 32

def sec : Nat := 2 ^ 48
/-- Least time in 2^-48 s at or after `n` parts of `d` per second (R49). -/
def ceilT (n d : Nat) : Nat := (n * sec + d - 1) / d
def ms (n : Nat) : Nat := ceilT n 1000
def us (n : Nat) : Nat := ceilT n 1000000
def ns (n : Nat) : Nat := ceilT n 1000000000

/-- The increment in 2^-80 s (R41). -/
def State.inc (s : State) : Nat := s.fget F.INC_I_INC_I * 2 ^ 32 + s.fget F.INC_F

def State.srcAON (s : State) : Bool := s.flag F.SKY_STATE_SRC

-- bytes

def leBytes : Nat → Nat → List Byte
  | 0, _ => []
  | n + 1, v => BitVec.ofNat 8 v :: leBytes n (v / 256)

def ofLe : List Byte → Nat
  | [] => 0
  | b :: r => b.toNat + 256 * ofLe r

def beBytes (n v : Nat) : List Byte := (leBytes n v).reverse
def ofBe (bs : List Byte) : Nat := ofLe bs.reverse

def wordBytes (ws : List Word) : List Byte := ws.flatMap fun w => leBytes 4 w.toNat

/-- Cut a list into pieces of `n`. -/
def pieces {α : Type} (n : Nat) : Nat → List α → List (List α)
  | 0, _ => []
  | _, [] => []
  | fuel + 1, l => l.take n :: pieces n fuel (l.drop n)

def chunks {α : Type} (n : Nat) (l : List α) : List (List α) := pieces n l.length l

def bytesWords (bs : List Byte) : List Word := (chunks 4 bs).map fun c => BitVec.ofNat 32 (ofLe c)

/-- T2, T1, T0 of a time (R38). -/
def timeWords (t : Nat) : List Word :=
  [BitVec.ofNat 32 (t / 2 ^ 64), BitVec.ofNat 32 (t / 2 ^ 32), BitVec.ofNat 32 t]

-- CRC-32C (R224): bit-reflected 0x1EDC6F41

def crcBits (poly : Nat) : Nat → Nat → Nat
  | 0, r => r
  | n + 1, r => crcBits poly n (if r % 2 = 1 then (r / 2) ^^^ poly else r / 2)

def crc32c (bs : List Byte) : Nat :=
  (bs.foldl (fun r b => crcBits 0x82F63B78 8 (r ^^^ b.toNat)) 0xFFFFFFFF) ^^^ 0xFFFFFFFF

def crc24Step (r : Nat) : Nat → Nat
  | 0 => r
  | n + 1 =>
    let r' := crc24Step r n
    if 2 ^ 23 ≤ r' then ((r' * 2) % 2 ^ 24) ^^^ 0x864CFB else r' * 2

/-- CRC-24Q of bytes, most significant bit first (R266). -/
def crc24q (bs : List Byte) : Nat := bs.foldl (fun r b => crc24Step (r ^^^ (b.toNat * 65536)) 8) 0

-- Comb (R289 to R294)

def combDefault : Nat → Byte := fun _ => 0
def combQuarter (a : Nat) : Nat := a / 2 ^ 22 % 4

/-- Quarter 0 is on whenever MGMT is; the others are domains 31 to 33 (R294). -/
def State.combOn (s : State) (q : Nat) : Bool := if q = 0 then s.domPowered 1 else s.domPowered (30 + q)

/-- One byte of Comb as it stands. -/
def State.combByte (s : State) (a : Nat) : Byte := Tab.get combDefault s.comb (a % 2 ^ 24)
def State.combBytes (s : State) (a n : Nat) : List Byte := (List.range n).map fun i => s.combByte (a + i)
def State.combPut (s : State) (a : Nat) : List Byte → State
  | [] => s
  | b :: r => State.combPut { s with comb := Tab.set combDefault s.comb (a % 2 ^ 24) b } (a + 1) r

/-- Lines of 64 bytes that `n` bytes from `a` touch. -/
def lines (a n : Nat) : Nat := if n = 0 then 0 else (a + n - 1) / 64 - a / 64 + 1

/-- The accesses of `n` bytes from `a`, one a line in address order (R292): address and length of each. -/
def lineParts : Nat → Nat → Nat → List (Nat × Nat)
  | 0, _, _ => []
  | k + 1, a, n =>
    let m := min n (64 - a % 64)
    (a % 2 ^ 24, m) :: lineParts k (a + m) (n - m)
def accesses (a n : Nat) : List (Nat × Nat) := lineParts (lines a n) a n

/-- Draw a free value below `2 ^ w` (log entry 5). -/
def State.draw (s : State) (w : Nat) : Nat × State :=
  (Config.freeValue s.fresh % 2 ^ w, { s with fresh := s.fresh + 1 })

/-- Count an access of master `m`, and the cycles it waited while another was granted its bank: a free value up to the bound of R291, one
for Gather and sixteen for the others (R296). -/
def State.combCount (s : State) (m : Nat) : State :=
  let (v, s) := s.draw 5
  (s.finc (F.CB_ACC m)).fput (F.CB_CNF m) (min (s.fget (F.CB_CNF m) + v % (if m = 2 then 2 else 17)) 0xFFFFFFFF)

/-- An access to a quarter that is off (R294). -/
def State.combOff (s : State) (m a : Nat) : State :=
  (((s.fault 0x120 0).fput F.CB_OFFADDR_MASTER m).fput F.CB_OFFADDR_ADDR a).evRise 0x120 1

/-- SECDED on the words a read touches (R293): a single error is corrected and written back, a double error is
counted, recorded and raised. -/
def State.combEcc (s : State) (m : Nat) : List Nat → State × Bool
  | [] => (s, false)
  | w :: r =>
    let e := Tab.get (fun _ => 0) s.ecc w
    let s1 :=
      if e = 1 then { s with ecc := Tab.set (fun _ => 0) s.ecc w 0 }.finc F.CB_ECC_CORR
      else if e = 2 then
        (((s.finc F.CB_ECC_UNCORR).fput F.CB_ECCADDR_MASTER m).fput F.CB_ECCADDR_ADDR (4 * w)).evRise 0x120 0
      else s
    let (s2, bad) := State.combEcc s1 m r
    (s2, decide (e = 2) || bad)

/-- A read of `n` bytes by master `m`, a line at a time: the bytes, whether a word was in error, and the state after. -/
def State.combRead (s : State) (m a n : Nat) : List Byte × Bool × State :=
  (accesses a n).foldl (fun (r : List Byte × Bool × State) x =>
    let s := r.2.2
    if s.combOn (combQuarter x.1) then
      let s := s.combCount m
      let (s', bad) := s.combEcc m ((List.range ((x.1 % 4 + x.2 + 3) / 4)).map (· + x.1 / 4))
      (r.1 ++ s.combBytes x.1 x.2, r.2.1 || bad, s')
    else (r.1 ++ List.replicate x.2 0, r.2.1, s.combOff m x.1)) ([], false, s)

/-- A write of bytes by master `m`, a line at a time; a word written whole is free of errors again. -/
def State.combWrite (s : State) (m a : Nat) (bs : List Byte) : State :=
  ((accesses a bs.length).foldl (fun (r : List Byte × State) x =>
    let s := r.2
    (r.1.drop x.2, if s.combOn (combQuarter x.1) then
        let s := (s.combCount m).combPut x.1 (r.1.take x.2)
        { s with ecc := Tab.clear (fun w => decide (x.1 ≤ 4 * w ∧ 4 * w + 4 ≤ x.1 + x.2)) s.ecc }
      else s.combOff m x.1)) (bs, s)).2

-- Weevil cores

/-- A core after its reset: 0 to 15 Hive Weevils, 16 the Warden (K = 3), 17 Glowworm (R254). -/
def coreReset (i : Nat) : CoreSt := if i = 16 then { k := 3 } else {}

def State.core (s : State) (i : Nat) : CoreSt := Tab.get coreReset s.wv.cores i
def State.setCore (s : State) (i : Nat) (c : CoreSt) : State :=
  { s with wv.cores := Tab.set coreReset s.wv.cores i c }

/-- Set an IPEND bit of a core (R270). -/
def State.coreLine (s : State) (i n : Nat) : State :=
  let c := s.core i
  s.setCore i { c with ipend := c.ipend ||| (1 <<< n) }

/-- Is the switch `b` on: a short form for effects that happen only under a condition. -/
def State.when (s : State) (b : Bool) (f : State → State) : State := if b then f s else s

end Sys2Proof.Machine
end

