-- ==== Sys2Proof/Machine/Queue.lean ====
section
/-! DEFINITION. The queue engine (16: R298, R305 to R315, R323): items, pushes, pops, marks, credits, the
shared pool, the hot slots, quench and tenant faults, and the building of Novrotte frames (11: R222 to R226). -/

namespace Sys2Proof.Machine

-- contexts

def State.tenant (s : State) (t : Nat) : Tenant := Tab.get (fun _ => {}) s.tn.tenants t
def State.setTenant (s : State) (t : Nat) (x : Tenant) : State :=
  { s with tn.tenants := Tab.set (fun _ => {}) s.tn.tenants t x }
def State.updTenant (s : State) (t : Nat) (f : Tenant → Tenant) : State := s.setTenant t (f (s.tenant t))

def State.queue (s : State) (q : Nat) : Queue := Tab.get (fun _ => {}) s.tn.queues q

/-- An open tenant: OPEN or FAULT (R302). -/
def Tenant.live (x : Tenant) : Bool := x.state = .opened ∨ x.state = .fault

-- items (R305, R306)

def itemPri (x : Item) : Nat := x.toNat / 2 ^ 62
def itemEnd (x : Item) : Bool := x.getLsbD 61
def itemNB (x : Item) : Nat := x.toNat / 2 ^ 56 % 8
def itemBytes (x : Item) : List Byte := leBytes (itemNB x) (x.toNat % 2 ^ 56)
def mkItem (pri : Nat) (last : Bool) (bs : List Byte) : Item :=
  BitVec.ofNat 64 (pri * 2 ^ 62 + (if last then 2 ^ 61 else 0) + bs.length * 2 ^ 56 + ofLe bs)

def markLast (pri : Nat) : List (List Byte) → List Item
  | [] => []
  | [c] => [mkItem pri true c]
  | c :: r => mkItem pri false c :: markLast pri r

/-- The items of a frame (R306). -/
def frameItems (pri : Nat) (bs : List Byte) : List Item := markLast pri (chunks 7 bs)

def msgBytes (m : List Item) : List Byte := m.flatMap itemBytes
def msgPri (m : List Item) : Nat := (m.head?.map itemPri).getD 0

-- counts (R307 to R309)

def lens (l : List (List Item)) : Nat := (l.map List.length).sum

/-- HELD: items pushed and not yet released. -/
def Queue.held (q : Queue) : Nat :=
  q.part.length + lens (q.batch.getD []) + lens q.ready + q.cur.length + q.redo.length + q.popped.length + q.kept

/-- PKT: readable messages whose first item has not been popped. -/
def Queue.pkt (q : Queue) : Nat := q.ready.length + (q.redo.filter (·.1)).length

def Queue.readable (q : Queue) : Bool := q.redo ≠ [] ∨ q.cur ≠ [] ∨ q.ready ≠ []

/-- Pool items a queue holds beyond the 16 reserved ones of an inbound queue (R310). -/
def Queue.poolUse (i : Nat) (q : Queue) : Nat := (q.held + q.cred) - (if i % 2 = 0 then 16 else 0)

/-- Free items of the pool (R310): of 262,144, the 48 of each tenant that is not FREE and the items drawn are not free. -/
def State.poolFree (s : State) : Nat := 262144 - 48 * (s.tn.tenants.filter fun e => e.2.state ≠ .free).length - s.tn.drawn

/-- POOLLOW rises when fewer than 8,192 items are free, of `before`. -/
def State.poolCheck (s : State) (before : Nat) : State := s.when (8192 ≤ before ∧ s.poolFree < 8192) (·.evRise 0x141 1)

/-- Store a queue, returning to the shared pool what it no longer uses. -/
def State.putQueue (s : State) (i : Nat) (q : Queue) : State :=
  let old := (s.queue i).poolUse i
  { s with tn.queues := Tab.set (fun _ => {}) s.tn.queues i q, tn.drawn := s.tn.drawn + q.poolUse i - old }

-- MSI-X (R334)

/-- Send a message on vector `v`, or leave it pending while the vector is masked. -/
def State.msix (s : State) (v : Nat) : State :=
  if ¬ s.flag F.PCIE_LINK_UP then s
  else if (Tab.get (fun _ => 0) s.pcie.msix (4 * v + 3)).getLsbD 0 then
    { s with pcie.pba := s.pcie.pba ||| 2 ^ v }
  else { s with pcie.msgs := Tab.set (fun _ => 0) s.pcie.msgs v (Tab.get (fun _ => 0) s.pcie.msgs v + 1) }

/-- The vector of a PCIe tenant when PKT or CRED rises from 0. -/
def State.tenantMsix (s : State) (t before after : Nat) : State :=
  s.when (decide (before = 0 ∧ after ≠ 0) && decide ((s.tenant t).port = .pcie) && (s.tenant t).live)
    (·.msix (2 + t % 62))

-- credits (R309)

/-- Raise CRED toward LIMIT - HELD from the reserve and the pool (R309). -/
def State.grantQ (s : State) (i : Nat) : State :=
  let q := s.queue i
  if (s.tenant (i / 2)).live then
    let have_ := q.held + q.cred
    let want := q.limit - have_
    let own := min want ((if i % 2 = 0 then 16 else 0) - have_)
    let got := own + min (want - own) s.poolFree
    let s' := (s.putQueue i { q with cred := q.cred + got }).poolCheck s.poolFree
    if i % 2 = 0 then s'.tenantMsix (i / 2) q.cred (q.cred + got) else s'
  else s

/-- Grant every queue in ascending number (log entry 8). -/
def State.regrant (s : State) : State := (s.tn.queues.map Prod.fst).foldl State.grantQ s

-- hot slots (R312)

/-- The lowest free slot from `n` on, below 512. -/
def firstGap {α : Type} : Nat → Tab α → Option Nat
  | n, [] => if n < 512 then some n else none
  | n, (j, _) :: r => if j < n then firstGap n r else if n < j then (if n < 512 then some n else none) else firstGap (n + 1) r

def State.slotOf (s : State) (q : Nat) : Option Nat :=
  s.tn.slots.findSome? fun e => match e.2 with | some (i, _) => if i = q then some e.1 else none | none => none

def State.setSlot (s : State) (n : Nat) (v : Option (Nat × Nat)) : State :=
  { s with tn.slots := Tab.set (fun _ => none) s.tn.slots n v }

/-- The least recently used slot whose queue has been idle for QC_CTL.IDLE µs. -/
def State.idleSlot (s : State) : Option Nat :=
  let idle := us (max 1 (s.fget F.QC_CTL_IDLE))
  let old := s.tn.slots.filterMap fun e => match e.2 with
    | some (_, t) => if 2 ≤ e.1 ∧ t + idle ≤ s.now then some (t, e.1) else none
    | none => none
  (old.foldl (fun (m : Option (Nat × Nat)) x => match m with
    | none => some x
    | some y => if x.1 < y.1 then some x else some y) none).map Prod.snd

/-- An operation on queue `q`: it is hot, becomes hot, evicts an idle queue or runs cold, which alone counts in QC_COLD (log entry 112). -/
def State.touch (s : State) (q : Nat) : State :=
  let hot := some (q, s.now)
  match s.slotOf q with
  | some n => s.setSlot n hot
  | none =>
    if q < 2 ∧ (s.tenant 0).live then s.setSlot q hot
    else
      match firstGap 2 (s.tn.slots.filter fun e => e.2.isSome) with
      | some n => s.setSlot n hot
      | none => match s.idleSlot with
        | some n => (s.finc F.QC_EVICT).setSlot n hot
        | none => s.finc F.QC_COLD

-- faults and quench (R323, R325)

/-- Give a queue's readable unread messages up and return their credits. -/
def State.discardReady (s : State) (i : Nat) : State :=
  (s.putQueue i { s.queue i with ready := [] }).regrant

/-- Give the open batch up. -/
def State.discardBatch (s : State) (i : Nat) : State :=
  (s.putQueue i { s.queue i with batch := none }).regrant

/-- A tenant faults (R302, R325): output stops as under a quench with DISCARD. -/
def State.faultTenant (s : State) (t cause : Nat) : State :=
  if (s.tenant t).state = .opened then
    (((s.updTenant t fun x => { x with state := .fault, cause := cause }).discardBatch (2 * t + 1)).discardReady
      (2 * t + 1)).evRise 0x140 2
  else s

/-- No output is formed or queued for a tenant while it is quenched, under the global quench, or in FAULT. -/
def State.muted (s : State) (t : Nat) : Bool :=
  (s.tenant t).q || s.flag F.TN_GQ_GQ || decide ((s.tenant t).state ≠ .opened)

/-- Quench of one tenant (R323). -/
def State.quenchOn (s : State) (t : Nat) (discard : Bool) : State :=
  let s := (s.updTenant t fun x => { x with q := true }).discardBatch (2 * t + 1)
  (s.when discard (·.discardReady (2 * t + 1))).evRise 0x140 4

def State.quenchOff (s : State) (t : Nat) : State := s.updTenant t fun x => { x with q := false }

/-- The numbers of all tenants that are not FREE. -/
def State.openTenants (s : State) : List Nat :=
  (s.tn.tenants.filter fun e => e.2.state ≠ .free).map Prod.fst

/-- The global quench (R323): it acts on every tenant in the same way. -/
def State.setGQ (s : State) (on : Bool) : State :=
  let s := s.fputB F.TN_GQ_GQ on
  if on then (s.openTenants.foldl (fun s t => s.discardBatch (2 * t + 1)) s).evRise 0x140 4 else s

-- push and pop

/-- Is the item part of a REPLY message? The class is in byte 3 of the message's first item. -/
def Queue.isReply (q : Queue) (x : Item) : Bool :=
  let first := q.part.head?.getD x
  decide (first.toNat / 2 ^ 28 % 16 = 1)

/-- Append one item; END makes its message readable, or part of the open batch (R307, R311). -/
def Queue.push (q : Queue) (x : Item) : Queue :=
  let m := q.part ++ [x]
  if itemEnd x then
    match q.batch with
    | some b => { q with part := [], batch := some (b ++ [m]) }
    | none => { q with part := [], ready := q.ready ++ [m] }
  else { q with part := m }

/-- A Warden interrupt line (R270). -/
def State.wardenLine (s : State) (n : Nat) : State := s.coreLine 16 n

/-- The first message of the highest priority, and the rest (R307). -/
def takeBest : List (List Item) → Option (List Item × List (List Item))
  | [] => none
  | m :: r =>
    match takeBest r with
    | none => some (m, r)
    | some (b, r') => if msgPri m < msgPri b then some (b, m :: r') else some (m, r)

/-- Take one item from the read point (R307, R308). -/
def Queue.pop (q : Queue) : Option (Item × Queue) :=
  match q.redo, q.cur with
  | (f, x) :: r, _ => some (x, { q with redo := r, popped := q.popped ++ [(f, x)] })
  | [], x :: r => some (x, { q with cur := r, popped := q.popped ++ [(false, x)] })
  | [], [] =>
    match takeBest q.ready with
    | some (x :: r, rest) => some (x, { q with ready := rest, cur := r, popped := q.popped ++ [(true, x)] })
    | some ([], rest) => some (0, { q with ready := rest })
    | none => none

/-- Pop one item of queue `i`; EMPTY (zero) when none is readable (R314). -/
def State.popItem (s : State) (i : Nat) : Item × State :=
  match (s.queue i).pop with
  | some (x, q) => (x, (s.putQueue i q).touch i)
  | none => (0, s.touch i)

/-- Where reader or window `r` keeps the high word of a popped item (R330, Q_POPH). -/
def popKey (r : Nat) : Nat := r * 2 ^ 24 + F.Q_POPH.addr

/-- Answer a pop: its low word is given and the high word latched. -/
def State.popAnswer (s : State) (r : Nat) (x : Item) : State :=
  { s with out := [x.truncate 32], latch := Tab.set (fun _ => 0) s.latch (popKey r) ((x >>> 32).truncate 32) }

/-- A queue that has become readable ends the Warden's stalled read and the first pop that waits on it (R314). -/
def State.unstall (s : State) (i : Nat) : State :=
  if (s.queue i).readable then
    let s := if s.tn.stalled = some i then { s with tn.stalled := none } else s
    match s.tn.waiting.find? fun w => w.2 = i with
    | some w =>
      let (x, s) := s.popItem i
      { s with tn.waiting := s.tn.waiting.erase w }.popAnswer w.1 x
    | none => s
  else s

/-- Push one item into queue `i` (R309): by the tenant or its port, or by the Warden. -/
def State.pushItem (s : State) (i : Nat) (x : Item) (byTenant : Bool) : State :=
  let q := s.queue i
  if i % 2 = 1 ∧ s.muted (i / 2) ∧ ¬ q.isReply x then s
  else if q.cred = 0 then
    let s := s.evRise 0x141 0
    if byTenant then s.faultTenant (i / 2) 1 else s
  else
    let q' := q.push x
    let s' := ((s.putQueue i { q' with cred := q.cred - 1 }).touch i).unstall i
    if i % 2 = 0 then s'.wardenLine 1
    else s'.tenantMsix (i / 2) q.pkt q'.pkt

def State.pushAll (s : State) (i : Nat) (xs : List Item) (byTenant : Bool) : State :=
  xs.foldl (fun s x => s.pushItem i x byTenant) s

def Queue.mark (q : Queue) : Queue := { q with kept := q.kept + q.popped.length, popped := [] }
def Queue.rewind (q : Queue) : Queue := { q with redo := q.popped ++ q.redo, popped := [] }
def Queue.release (q : Queue) : Queue := { q with kept := 0, popped := [] }
def Queue.flush (q : Queue) : Queue :=
  { q with part := [], batch := none, ready := [], cur := [], redo := [], popped := [], kept := 0 }
def Queue.batchopen (q : Queue) : Queue := { q with batch := some (q.batch.getD []) }
def Queue.batchclose (q : Queue) : Queue := { q with batch := none, ready := q.ready ++ q.batch.getD [] }

/-- An operation on a queue that may free items: store it and grant again. -/
def State.queueOp (s : State) (i : Nat) (f : Queue → Queue) : State :=
  let q := s.queue i
  let s' := ((s.putQueue i (f q)).touch i).regrant.unstall i
  if i % 2 = 0 then s' else s'.tenantMsix (i / 2) q.pkt (s'.queue i).pkt

-- frames (R222 to R226)

/-- The bytes of a Novrotte frame. -/
def frameBytes (cls t seq : Nat) (payload : List Byte) : List Byte :=
  let body := leBytes 2 (cls * 4096 + t % 4096) ++ leBytes 2 seq ++ leBytes 2 payload.length ++ payload
  [0x4B, 0x54] ++ body ++ leBytes 4 (crc32c body)

/-- The priority at which the device sends a class (R226). -/
def classPri (cls : Nat) : Nat := if cls = 5 then 3 else if cls = 1 then 2 else if cls = 10 then 0 else 1

/-- Put a whole message into an outbound queue, its credits spent at once. -/
def State.pushMsg (s : State) (i : Nat) (m : List Item) : State :=
  let q := s.queue i
  let q' := match q.batch with
    | some b => { q with batch := some (b ++ [m]), cred := q.cred - m.length }
    | none => { q with ready := q.ready ++ [m], cred := q.cred - m.length }
  (((s.putQueue i q').touch i).tenantMsix (i / 2) q.pkt q'.pkt).unstall i

/-- Send a frame of a class to a tenant: dropped and counted in ODROP when the tenant is muted or the credits do
not cover it (R227, R323, R377). -/
def State.sendFrame (s : State) (t cls : Nat) (payload : List Byte) : State :=
  let x := s.tenant t
  if x.state = .free ∨ x.state = .closing then s
  else
    let m := frameItems (classPri cls) (frameBytes cls t x.outSeq payload)
    if s.muted t ∨ (s.queue (2 * t + 1)).cred < m.length then
      s.updTenant t fun x => { x with odrop := satInc 16 x.odrop }
    else (s.pushMsg (2 * t + 1) m).updTenant t fun x => { x with outSeq := (x.outSeq + 1) % 65536 }

/-- Send a REPLY frame (R311, R323): not held by a quench; without credit it is not sent. -/
def State.sendReply (s : State) (t : Nat) (payload : List Byte) : State :=
  let x := s.tenant t
  if ¬ x.live then s
  else
    let m := frameItems 2 (frameBytes 1 t x.outSeq payload)
    if (s.queue (2 * t + 1)).cred < m.length then s
    else (s.pushMsg (2 * t + 1) m).updTenant t fun x => { x with outSeq := (x.outSeq + 1) % 65536 }

/-- Send a set of frames whole or not at all (R227): classes and payloads in order. -/
def State.sendSet (s : State) (t : Nat) (fs : List (Nat × List Byte)) : State :=
  let x := s.tenant t
  if fs = [] ∨ x.state = .free ∨ x.state = .closing then s
  else
    let need := (fs.map fun f => (f.2.length + 12 + 6) / 7).sum
    if s.muted t ∨ (s.queue (2 * t + 1)).cred < need then
      s.updTenant t fun x => { x with odrop := satInc 16 x.odrop }
    else fs.foldl (fun s f => s.sendFrame t f.1 f.2) s

end Sys2Proof.Machine
end

