-- ==== Sys2Proof/Machine/Guard.lean ====
section
/-! DEFINITION. Who may write what (02: R26, R32, R34, R35; 17: R327): the judgement every register write and
every command given by a register write passes through. -/

namespace Sys2Proof.Machine

/-- Who a write is made as (R34, R327). -/
inductive Writer where
  | warden
  | tenant (t : Nat)
  | noTenant
  deriving DecidableEq, Repr

/-- The writer behind an access: a host port writes as its write tenant if that is OPEN and bound to the port (R327);
a Hive Weevil through the fabric, and Glowworm through its bridge, write as no tenant, but Glowworm's votes are its own
(R383, log entry 9). -/
def State.writer (s : State) (via : Via) (p : Nat) : Writer :=
  let bound (t : Nat) (port : Port) : Writer :=
    if (s.tenant t).state = .opened ∧ (s.tenant t).port = port then .tenant t else .noTenant
  match via with
  | .warden => .warden
  | .pcie => bound s.pcie.wtenant .pcie
  | .bar2 => .noTenant
  | .usb t => bound t.val .usb
  | .spi => bound (s.fget F.SPI_WT_T) .spi
  | .behalf t => .tenant t.val
  | .hive _ => .noTenant
  | .glow => if p = 0x004 then .warden else .noTenant

/-- Accesses that do not pass the register fabric: a Hive Weevil's local port, Glowworm on the AON page (R473). -/
def localPort (via : Via) (p : Nat) : Bool :=
  match via with
  | .hive n => decide (0x080 + 8 * n.val ≤ p ∧ p < 0x087 + 8 * n.val)
  | .glow => decide (p = 0x1A0)
  | _ => false

/-- May the writer write block registers, PG_CTL, PG_EVEN and W1C bits of the page (R34)? -/
def State.mayWrite (s : State) (w : Writer) (p : Nat) : Bool :=
  match w with
  | .warden => true
  | .tenant t => !s.flag (PG_LOCK p) && (!s.flag (PG_OWNED p) || t = 0 || s.fget (PG_TENANT p) = t)
  | .noTenant => !s.flag (PG_LOCK p) && !s.flag (PG_OWNED p)

/-- The outcome of judging a write. -/
inductive Judge where
  /-- no such page, or nothing answers: nothing happens -/
  | nothing
  | access
  | locked
  | unpowered
  /-- the domain is in its entry sequence: the write is held until that ends (R386) -/
  | held
  | ok
  deriving DecidableEq, Repr

/-- What kind of register an offset names: a header register, a block register, an active value, or reserved. -/
inductive RegKind where
  | header
  | block (d : RegDef)
  | active
  | reserved
  deriving DecidableEq, Repr

/-- U_SYNC is UART1's and UART2's only, U_SLEEP UART0's and UART3's (18). -/
def absentReg (p o : Nat) : Bool :=
  decide ((o = 0x06C ∧ (p = 0x158 ∨ p = 0x15B)) ∨ (o = 0x070 ∧ (p = 0x159 ∨ p = 0x15A)))

def regKind (p o : Nat) : Option RegKind :=
  match findPage p with
  | none => none
  | some (r, _, _) =>
    some (if absentReg p o then .reserved
      else if o < 0x030 then .header
      else match findReg r.regs o with
        | some (d, _) => .block d
        | none =>
          if r.shadow ∧ 0x840 ≤ o then
            match findReg r.regs (o - 0x800) with
            | some (d, _) => if d.shadowed then .active else .reserved
            | none => .reserved
          else .reserved)

/-- U_SLEEP of UART0 and UART3 is held in AON, and is reached whether or not HOSTIO is on (R368). -/
def isSleepReg (a : Nat) : Bool := decide (a = (F.U_SLEEP_WAKES 0).addr) || decide (a = (F.U_SLEEP_WAKES 3).addr)

/-- Nothing answers an access: the device is Dead, MGMT is off (but for Glowworm on its own page), or the port is down. The header of
page 0x1A0, which MGMT holds as every header (R29), answers Glowworm's direct access while MGMT is off too: the spec does not
say, and this is the model's choice (log entry 46). -/
def State.unreachable (s : State) (via : Via) (p : Nat) : Bool :=
  decide (via = .bar2) || s.boot.dead || (!s.domPowered 1 && !decide (via = .glow ∧ p = 0x1A0)) ||
    (match via with
     | .pcie => !s.flag F.PCIE_LINK_UP
     | .usb _ => !s.flag F.USB_STAT_VBUS
     | .spi => !s.domPowered 2
     | _ => false)

/-- Judge a write through `via` to page `p`, offset `o`, with all its bytes enabled or not. R26, R32 and R35 do not rank ACCESS
against LOCKED and UNPWR: a PCIe write without its four byte enables sets ACCESS alone, whatever the page's owner and power
(the model's choice, log entry 45). -/
def State.judge (s : State) (via : Via) (p o : Nat) (whole : Bool) : Judge :=
  let free := localPort via p
  if s.unreachable via p then .nothing
  else match regKind p o with
  | none => .nothing
  | some k =>
    if ¬ whole ∨ k = .reserved then .access
    else if ¬ free ∧ ¬ s.mayWrite (s.writer via p) p then .locked
    else match k with
      | .block _ => if isSleepReg (p * 4096 + o) then .ok
          else if s.domState (pageDom p) = dENTRY then .held
          else if s.powered p then .ok else .unpowered
      | _ => .ok

/-- Carry out an effect of a register write under its judgement (R26, R32, R35). -/
def State.guarded (s : State) (via : Via) (p o : Nat) (f : State → State) : State :=
  match s.judge via p o true with
  | .ok => f s
  | .locked => s.fault p faultLOCKED
  | .unpowered => s.fault p faultUNPWR
  | .access => s.fault p faultACCESS
  | .nothing => s
  | .held => s

/-- The same for a page outside MGMT: during the domain's entry sequence the command waits for its end (R386). -/
def State.gated (s : State) (c : Instr) (via : Via) (p o : Nat) (f : State → State) : State :=
  match s.judge via p o true with
  | .held => { s with pwr.held := s.pwr.held ++ [(pageDom p, c)] }
  | _ => s.guarded via p o f

/-- A read during the entry sequence of the page's domain waits for its end (R386). -/
def State.holdRead (s : State) (c : Instr) (p : Nat) (f : State → State) : State :=
  if s.domState (pageDom p) = dENTRY then { s with pwr.held := s.pwr.held ++ [(pageDom p, c)] } else f s

-- the stored part of a register write (R7)

/-- The word after a write of `v` over `old`: RW and RWS bits take the new value, W1C bits written 1 clear, W1S bits
written 1 set, all others stand. -/
def RegDef.write (d : RegDef) (old v : Word) : Word :=
  let rw := d.bits .RW ||| d.bits .RWS
  ((((old &&& ~~~rw) ||| (v &&& rw)) &&& ~~~(v &&& d.bits .W1C)) ||| (v &&& d.bits .W1S))

/-- Store a write in a block register. -/
def State.store (s : State) (p o : Nat) (v : Word) : State :=
  match findPage p with
  | some (r, _, _) => match findReg r.regs o with
    | some (d, _) => s.setReg (p * 4096 + o) (d.write (s.reg (p * 4096 + o)) v)
    | none => s
  | none => s

end Sys2Proof.Machine
end

