-- ==== Sys2Proof/Machine/Cicada.lean ====
section
/-! DEFINITION. Cicada: taking a raise, coalescing, routing and the log (19: R374 to R380, R476). -/

namespace Sys2Proof.Machine

/-- SRC_CFG.CW as a window length in 2^-48 s (R376); 0 is no window. -/
def windowLen (cw : Nat) : Nat := if cw = 0 then 0 else ms (2 ^ (cw - 1))

/-- The record of R380. -/
def recWords (src : Nat) (w : Win) (final : Bool) : List Word :=
  timeWords w.t ++ [BitVec.ofNat 32 (w.count * 65536 + (if final then 2 ^ 14 else 0) + w.cls * 4096 + src),
    BitVec.ofNat 32 w.seq, BitVec.ofNat 32 (w.inst % 65536 * 65536 + w.page), w.detail, BitVec.ofNat 32 w.lastDt]

def logAddr (slot : Nat) : Nat := 0x160000 + 32 * slot

/-- Write a record to its slot of the log (Comb master 13, R379). -/
def State.logWrite (s : State) (slot : Nat) (ws : List Word) : State := s.combWrite 13 (logAddr slot) (wordBytes ws)

/-- The summary record in slot 0 (R380). -/
def State.logSummary (s : State) : State :=
  let n (c : Nat) := (s.cic.loss.getD c 0)
  s.logWrite 0 (timeWords s.cic.lossT ++ [0x7FF, BitVec.ofNat 32 s.cic.newest,
    BitVec.ofNat 32 (n 1 * 65536 + n 0), BitVec.ofNat 32 (n 3 * 65536 + n 2), BitVec.ofNat 32 s.cic.lossTot])

/-- Records held and reserved per class (CL_HELD, CL_RES). -/
def heldFld (c : Nat) : Fld :=
  match c with | 0 => F.CL_HELD01_N0 | 1 => F.CL_HELD01_N1 | 2 => F.CL_HELD23_N2 | _ => F.CL_HELD23_N3
def resFld (c : Nat) : Fld :=
  match c with | 0 => F.CL_RES01_RES0 | 1 => F.CL_RES01_RES1 | 2 => F.CL_RES23_RES2 | _ => F.CL_RES23_RES3

def State.reserves (s : State) : Nat := s.fget (resFld 0) + s.fget (resFld 1) + s.fget (resFld 2) + s.fget (resFld 3)
def State.logHeld (s : State) : Nat := s.fget (heldFld 0) + s.fget (heldFld 1) + s.fget (heldFld 2) + s.fget (heldFld 3)

/-- A record of class `c` is lost (R379): counted, and LOGDROP raised. -/
def State.logLoss (s : State) (c : Nat) : State :=
  let s := s.finc (F.CL_DROP c)
  let s := { s with cic.loss := s.cic.loss.set c (satInc 16 (s.cic.loss.getD c 0)),
                    cic.lossTot := satInc 32 s.cic.lossTot, cic.lossT := s.now }
  s.logSummary.evRise 0x130 0

/-- The lowest class satisfying `p`. -/
def lowestClass (p : Nat → Bool) : Option Nat := [0, 1, 2, 3].find? p

/-- The slot of the oldest record of a class. -/
def State.oldest (s : State) (c : Nat) : Option Nat :=
  (s.cic.slots.foldl (fun (m : Option (Nat × Nat)) e => match e.2 with
    | some (k, a) => if k = c then (match m with
        | none => some (e.1, a)
        | some (_, b) => if a < b then some (e.1, a) else m) else m
    | none => m) none).map Prod.fst

/-- The lowest free slot of the log (log entry 10). -/
def logGap : Nat → Tab (Option (Nat × Nat)) → Option Nat
  | n, [] => if n < 8192 then some n else none
  | n, (j, _) :: r => if n < j then (if n < 8192 then some n else none) else logGap (n + 1) r

/-- Where a new record of class `c` goes (R379): a free slot, a slot to replace with its class, or nowhere. -/
def State.logCase (s : State) (c : Nat) : Option (Nat × Option Nat) :=
  let above (k : Nat) : Bool := decide (s.fget (resFld k) < s.fget (heldFld k))
  match logGap 1 s.cic.slots with
  | some n => some (n, none)
  | none =>
    let victim :=
      if s.fget (heldFld c) < s.fget (resFld c) then lowestClass above
      else lowestClass fun k => decide (k ≤ c) && above k
    victim.bind fun k => (s.oldest k).map fun n => (n, some k)

/-- Place a record (R379): the state after and its slot. -/
def State.logPlace (s : State) (c : Nat) : State × Option Nat :=
  match s.logCase c with
  | none => (s.logLoss c, none)
  | some (n, old) =>
    let before := s.logHeld
    let s := match old with
      | none => s
      | some k =>
        let s := (s.fput (heldFld k) (s.fget (heldFld k) - 1)).logLoss k
        { s with cic.wins := s.cic.wins.map fun (e : Nat × Option Win) =>
            (e.1, e.2.map fun (w : Win) => if w.slot = some n then { w with slot := none } else w) }
    let s := { s with cic.slots := Tab.set (fun _ => none) s.cic.slots n (some (c, s.cic.age)), cic.age := s.cic.age + 1 }
    let s := s.fput (heldFld c) (s.fget (heldFld c) + 1)
    (s.when (decide (before < 8191 ∧ s.logHeld = 8191)) (·.evRise 0x130 1), some n)

/-- Pending classes of a target, enabled (R377): `k` 0 WARDEN, 1 PCIE, 2 PIN0, 3 PIN1. -/
def irqFld (k : Nat) : Fld := ⟨0x130 * 4096 + 0x044, 4 * k, 4⟩
def irqEnFld (k : Nat) : Fld := ⟨0x130 * 4096 + 0x048, 4 * k, 4⟩
def State.irqActive (s : State) (k : Nat) : Bool := s.fget (irqFld k) &&& s.fget (irqEnFld k) ≠ 0

/-- Set a class bit of a target; the PCIe target sends its message on the rise from zero, the Warden's line 0 is
set while its bits are nonzero (R270, R377). -/
def State.target (s : State) (k c : Nat) : State :=
  let was := s.irqActive k
  let s := s.fput (irqFld k) (s.fget (irqFld k) ||| 2 ^ c)
  if k = 0 then s.when (s.irqActive 0) (·.wardenLine 0)
  else if k = 1 then s.when (!was && s.irqActive 1) (·.msix 0)
  else s

/-- What CL_IRQEN lets through that `old` held back (R377). -/
def State.targetsRise (s old : State) : State :=
  (s.when (!old.irqActive 0 && s.irqActive 0) (·.wardenLine 0)).when (!old.irqActive 1 && s.irqActive 1) (·.msix 0)

/-- The tenants a source's TEN target reaches (R377): tenant 0, and the owner of an owned, unlocked page. -/
def State.tenTargets (s : State) (page : Nat) : List Nat :=
  let o := s.fget (PG_TENANT page)
  0 :: (if s.flag (PG_OWNED page) ∧ ¬ s.flag (PG_LOCK page) ∧ o ≠ 0 then [o] else [])

def State.sendEvent (s : State) (page : Nat) (ws : List Word) : State :=
  (s.tenTargets page).foldl (fun s t => s.sendFrame t 5 (wordBytes ws)) s

/-- A LOG subscription receives every DIV-th record written (R304). -/
def State.logSubs (s : State) (ws : List Word) : State :=
  s.openTenants.foldl (fun s t =>
    (s.tenant t).subs.foldl (fun s b =>
      if b.kind = 8 then
        let n := b.cnt + 1
        let go := max 1 b.div ≤ n
        let s := s.updTenant t fun x => { x with subs := x.subs.map fun y =>
          if y.handle = b.handle then { y with cnt := if go then 0 else n } else y }
        s.when (decide go) (·.sendFrame t 10 (wordBytes ws))
      else s) s) s

def State.setWin (s : State) (src : Nat) (w : Option Win) : State :=
  { s with cic.wins := Tab.set (fun _ => none) s.cic.wins src w }

/-- A window closes (R376): with repeats, the FINAL copy goes to the tenants the source is routed to now. -/
def State.closeWin (s : State) (src : Nat) : State :=
  match Tab.get (fun _ => none) s.cic.wins src with
  | none => s
  | some w =>
    let s := (s.setWin src none).fput (F.SRC_CNT_COUNT src) 0
    s.when (decide (1 ≤ w.count) && s.flag (F.SRC_CFG_TEN src)) (·.sendEvent w.page (recWords src w true))

/-- The detail word of an occurrence (R380). -/
def State.detailOf (s : State) (r : Raise) : Word :=
  match r.detail with
  | some d => d
  | none => if r.src < 1024 then s.reg (F.CH_STAT_STATE r.src).addr else s.reg (r.page * 4096 + 0x01C)

/-- A new occurrence (R376, R377, R380); an event a host port page raises for the Warden sets its PORT line (R270). -/
def State.occurrence (s : State) (r : Raise) : State :=
  let src := r.src
  let cls := s.fget (F.SRC_CFG_CLASS src)
  let len := windowLen (s.fget (F.SRC_CFG_CW src))
  let w : Win := ⟨s.now, len, cls, min r.reps 0xFFFF, s.fget F.CL_SEQ, r.inst, r.page, s.detailOf r, 0, none⟩
  let s := (s.fput F.CL_SEQ (w.seq + 1)).finc (F.SRC_CNT_OCC src)
  let ws := recWords src w false
  let keep := s.flag (F.SRC_CFG_LOG src) && decide (src ≠ 1117 ∧ src ≠ 1118)
  let (s, slot) := if keep then s.logPlace cls else (s, none)
  let s := match slot with
    | some n => (({ s with cic.newest := w.seq }.logWrite n ws).logSummary).logSubs ws
    | none => s
  let s := if len = 0 then s else (s.setWin src (some { w with slot := slot })).fput (F.SRC_CNT_COUNT src) w.count
  let s := s.when (s.flag (F.SRC_CFG_WARDEN src)) (·.target 0 cls)
  let s := s.when (s.flag (F.SRC_CFG_WARDEN src) && decide (0x150 ≤ r.page ∧ r.page ≤ 0x15C)) (·.wardenLine 3)
  let s := s.when (s.flag (F.SRC_CFG_PCIE src)) (·.target 1 cls)
  let s := s.when (s.flag (F.SRC_CFG_PIN0 src)) (·.target 2 cls)
  let s := s.when (s.flag (F.SRC_CFG_PIN1 src)) (·.target 3 cls)
  s.when (s.flag (F.SRC_CFG_TEN src)) (·.sendEvent r.page ws)

/-- A raise inside an open window (R376). -/
def State.repeatIn (s : State) (r : Raise) (w : Win) : State :=
  let sched := r.detail.any fun d => r.inst = 0 ∧ d.getLsbD 31
  let w' := { w with count := min (w.count + 1 + r.reps) 0xFFFF,
                     inst := if sched then w.inst else w.inst ||| r.inst,
                     lastDt := min ((s.now - w.t) * 1000000 / sec) 0xFFFFFFFF }
  let s := (s.setWin r.src (some w')).fput (F.SRC_CNT_COUNT r.src) w'.count
  match w.slot with
  | some n => s.logWrite n (recWords r.src w' false)
  | none => s

/-- Cicada takes the first raise waiting (R375, R376). -/
def State.takeRaise (s : State) : State :=
  match s.cic.raises with
  | [] => s
  | r :: rest =>
    let s := { s with cic.raises := rest }
    match Tab.get (fun _ => none) s.cic.wins r.src with
    | some w => if s.now < w.t + w.w then s.repeatIn r w else (s.closeWin r.src).occurrence r
    | none => s.occurrence r

/-- CL_CTL.CLR (R380). -/
def State.clClear (s : State) : State :=
  let s := ((((s.fput (F.CL_DROP 0) 0).fput (F.CL_DROP 1) 0).fput (F.CL_DROP 2) 0).fput (F.CL_DROP 3) 0)
  { s with cic.loss := [0, 0, 0, 0], cic.lossTot := 0 }.logSummary

/-- CICADA_TAKE_RAISE (R375). -/
def execCicadaTakeRaise (s : State) : Host.Outcome State Fault Refusal := .next s.takeRaise

/-- COALESCE_WINDOW_CLOSE (R376): the window of the source ends, at its end t + W. -/
def execCoalesceWindowClose (src : Fin 1152) (s : State) : Host.Outcome State Fault Refusal :=
  .next (match Tab.get (fun _ => none) s.cic.wins src.val with
    | some w => if s.now < w.t + w.w then s else s.closeWin src
    | none => s)

/-- CL_CLR (R380): a write of CL_CTL.CLR. -/
def execClClr (via : Via) (s : State) : Host.Outcome State Fault Refusal :=
  .next (s.guarded via 0x130 0x040 State.clClear)

end Sys2Proof.Machine
end

