-- ==== Sys2Proof/Machine/Power.lean ====
section
/-! DEFINITION. Votes and the vote engine (20: R382 to R385). What happens to a domain's contents when it goes
off and comes back is in PowerSeq.lean, after the blocks. -/

namespace Sys2Proof.Machine

/-- After a reset of device scope only MGMT's map holds a vote, WARDEN's (R382). -/
def voteReset (k : Nat) : Bool := decide (k = 8192 * 1 + 4097)

def State.voted (s : State) (d c : Nat) : Bool := Tab.get voteReset s.pwr.votes (8192 * d + c)
def State.setVote (s : State) (d c : Nat) (b : Bool) : State :=
  { s with pwr.votes := Tab.set voteReset s.pwr.votes (8192 * d + c) b }

/-- AON and COMB0 take no votes (R382). -/
def votable (d : Nat) : Bool := decide (d ≤ 37 ∧ d ≠ 0 ∧ d ≠ 30)

def State.holders (s : State) (d : Nat) : Nat := s.fget (F.PW_D_HOLDERS d)

/-- PW_ON bit of a domain, and CB_STAT.QON of a Comb quarter. -/
def pwOn (d : Nat) : Fld := if d < 32 then ⟨F.PW_ON0.addr, d, 1⟩ else ⟨F.PW_ON1_D.addr, d - 32, 1⟩

/-- Move a domain to a state of R387, with the power bits that report it. -/
def State.setDom (s : State) (d st : Nat) : State :=
  let on := decide (st = dON ∨ st = dENTRY)
  let s := ((s.fput (F.PW_D_STATE d) st).fput (F.PW_D_AP d) 0).fputB (pwOn d) on
  if 31 ≤ d ∧ d ≤ 33 then s.fputB ⟨F.CB_STAT_QON.addr, d - 30, 1⟩ on else s

/-- The domain follows its holder count (R385, R387): from 0 up it wakes, at 0 it enters; in ENTRY, WAKING and
FORCED the count is only recorded. -/
def State.domFollow (s : State) (d : Nat) : State :=
  if s.domState d = dOFF ∧ s.holders d ≠ 0 then s.setDom d dWAKING
  else if s.domState d = dON ∧ s.holders d = 0 then s.setDom d dENTRY
  else s

/-- Set or clear a client's bit in a domain's map, keeping the holder count (R384). -/
def State.castVote (s : State) (d c : Nat) (cast : Bool) : State :=
  if s.voted d c = cast then s
  else ((s.setVote d c cast).fput (F.PW_D_HOLDERS d)
    (if cast then s.holders d + 1 else s.holders d - 1)).domFollow d

/-- PW_VRES after a vote (R384). -/
def State.voteResult (s : State) (changed baddom badcli : Bool) (n : Nat) : State :=
  ((((s.fputB F.PW_VRES_DONE true).fputB F.PW_VRES_CHANGED changed).fputB F.PW_VRES_BADDOM baddom).fputB
    F.PW_VRES_BADCLI badcli).fput F.PW_VRES_HOLDERS n

/-- The vote engine (R384). -/
def State.vote (s : State) (d c : Nat) (cast : Bool) : State :=
  if ¬ votable d then s.voteResult false true false 0
  else if 4099 ≤ c then s.voteResult false false true (s.holders d)
  else
    let changed := decide (s.voted d c ≠ cast)
    let s := s.castVote d c cast
    s.voteResult changed false false (s.holders d)

/-- A tenant's votes in every domain are withdrawn (R303, R384). -/
def State.withdrawAll (s : State) (c : Nat) : State :=
  (List.range 38).foldl (fun s d => s.castVote d c false) s

/-- PW_CAST (R384): PW_VCMD with GO and CAST. -/
def execPwCast (via : Via) (d : BitVec 6) (client : BitVec 13) (s : State) : Host.Outcome State Fault Refusal :=
  .next (s.guarded via 0x004 0x040 (·.vote d.toNat client.toNat true))

end Sys2Proof.Machine
end

