-- ==== Sys2Proof/Machine/Sky.lean ====
section
/-! DEFINITION. The Sky Clock (03: R37 to R54, R474): its advance, steps, steering, states, grids and leaps, and
the latched reads. -/

namespace Sys2Proof.Machine

-- readers and their latches (R38, R299)

def coreIdx : Core → Nat
  | .hive n => n.val
  | .warden => 16
  | .glow => 17

def readerIdx : Reader → Nat
  | .pcie => 0
  | .usb => 1
  | .spi => 2
  | .core c => 3 + coreIdx c

/-- The reader a write access belongs to, for TN_IDX and Q_SEL (R299). -/
def viaReader : Via → Nat
  | .warden => 19
  | .pcie => 0
  | .bar2 => 0
  | .usb _ => 1
  | .spi => 2
  | .behalf _ => 19
  | .hive n => 3 + n.val
  | .glow => 20

def latchKey (r a : Nat) : Nat := r * 2 ^ 24 + a
def State.latched (s : State) (r a : Nat) : Word := Tab.get (fun _ => 0) s.latch (latchKey r a)
def State.setLatch (s : State) (r a : Nat) (w : Word) : State :=
  { s with latch := Tab.set (fun _ => 0) s.latch (latchKey r a) w }

-- states and events of the SKY page (0x110): 0 STATE, 1 STEP, 2 LEAP, 3 TIMEERR, 4 SRC

def skUNSTEERED : Nat := 0
def skSTEERED : Nat := 1
def skHOLDOVER : Nat := 2
def skFOLLOW : Nat := 3

def State.skyState (s : State) : Nat := s.fget F.SKY_STATE_STATE

/-- TIMEERR reads 1 while OFS or CLIP holds (R474). -/
def State.timeErr (s : State) : State := s.fputB F.SKY_STATE_TIMEERR (s.sky.ofs || s.sky.clip)
def State.setOfs (s : State) (b : Bool) : State := { s with sky.ofs := b }.timeErr
def State.setClip (s : State) (b : Bool) : State := { s with sky.clip := b }.timeErr

/-- Nominal INC and its ±200 ppm bounds (R42), 2^-80 s. -/
def incNom : Int := 0x1A3D7247AE2EB8
def incLo : Int := incNom - incNom * 200 / 1000000
def incHi : Int := incNom + incNom * 200 / 1000000

/-- A new INC; Scarab's drift state follows the rate in force (R191). -/
def State.setInc (s : State) (i : Nat) : State :=
  let d := ((i : Int) - s.inc) * 10 ^ 15 / incNom
  { (s.fput F.INC_I_INC_I (i / 2 ^ 32)).fput F.INC_F i with scarab.clkDrift := s.scarab.clkDrift + d }

/-- Apply a steering demand to INC (R42, R474): outside ±200 ppm it is clipped, sets INCLIM and raises TIMEERR. -/
def State.steerInc (s : State) (i : Int) : State :=
  let v := clampInt incLo incHi i
  let s := s.setInc v.toNat
  if v = i then s.setClip false
  else ((s.setClip true).fault 0x110 1).evRise 0x110 3

/-- UNC in HOLDOVER (R47). -/
def State.uncNow (s : State) : Nat := min (s.sky.uncBase + (s.sky.uncAcc + 2 ^ 80 - 1) / 2 ^ 80) 0xFFFFFFFF

/-- Enter a state (R43); entering HOLDOVER drops the slew: INC takes the rate of the last drift estimate (R45), and the
growth of UNC starts (R47); entering STEERED makes the AON time valid unless VBAT stands below its threshold (R48). -/
def State.skyEnter (s : State) (st : Nat) : State :=
  if s.skyState = st then s
  else
    let s := if st = skHOLDOVER then
        { (s.steerInc s.sky.base) with sky.slewLeft := 0, sky.uncBase := s.fget F.UNC, sky.uncAcc := 0 }
      else s
    let s := if st = skSTEERED then s.fputB F.SKY_STATE_AONVALID (!s.aon.vbatLow) else s
    (s.fput F.SKY_STATE_STATE st).evRise 0x110 0

-- schedule compare values after a step (R59, R60)

def State.entry (s : State) (i : Nat) : Entry := Tab.get (fun _ => {}) s.sched i
def State.setEntry (s : State) (i : Nat) (e : Entry) : State := { s with sched := Tab.set (fun _ => {}) s.sched i e }
def State.armed (s : State) (i : Nat) : Bool := s.mapBit F.ARMED i

/-- Bitwise majority of the three copies (R61). -/
def Entry.cmp (e : Entry) : Nat := (e.c0 &&& e.c1) ||| (e.c0 &&& e.c2) ||| (e.c1 &&& e.c2)
def Entry.setCmp (e : Entry) (t : Nat) : Entry := { e with c0 := t, c1 := t, c2 := t }

def Entry.count (e : Entry) : Nat := e.per.toNat % 2 ^ 31
/-- Periods per second's denominator: ns or ms (R60). -/
def Entry.unit (e : Entry) : Nat := if e.per.getLsbD 31 then 1000 else 1000000000
def Entry.periodic (e : Entry) : Bool := e.count ≠ 0
/-- The k-th compare value (R60, R49). -/
def Entry.at (e : Entry) (k : Nat) : Nat := e.anchor + ceilT (k * e.count) e.unit
/-- The smallest k whose compare value is at or after `t`. -/
def Entry.kAt (e : Entry) (t : Nat) : Nat :=
  if t ≤ e.anchor ∨ e.count = 0 then 0 else (t - e.anchor - 1) * e.unit / (e.count * sec) + 1

/-- An armed entry after a step to `t` (R59, R60): passed over by a forward step it is overdue for one LATE firing;
a periodic entry takes the smallest k at or after the new time. -/
def Entry.step (e : Entry) (t : Nat) : Entry :=
  let e1 := { e with overdue := e.overdue || decide (e.cmp < t), handed := false }
  if e.periodic ∧ ¬ e.act.getLsbD 16 then { e1.setCmp (e.at (e.kAt t)) with k := e.kAt t } else e1

/-- Placement instant T + OFS of a firing, 2^-48 s (R236); OFS is in ps. -/
def TpFiring.place (f : TpFiring) : Int := f.t + f.ofs * sec / 1000000000000

/-- A firing handed off when the clock steps to `t` (R240): placed against the new time, or too late. -/
def TpFiring.step (t : Nat) (f : TpFiring) : TpFiring :=
  { f with stepped := true, late := f.late || decide (f.place < (t + us 1 : Nat)) }

/-- The first whole second at or after `t`, 2^-48 s (R51). -/
def wholeSec (t : Nat) : Nat := (t + sec - 1) / sec * sec

/-- A step of the Sky Clock by `d` in 2^-48 s (R44, R52, R59, R474): time moves, DISC counts, STEP is raised, OFS
clears, the open windows are marked and left to be closed, Scarab's clock bias follows (R191), and the armed entries take their new compare values. A GRID
change waits for the first whole second of the new time (R51). -/
def State.skyStepBy (s : State) (d : Int) : State :=
  let t' := (((s.sky.time : Int) + d * 2 ^ 32) % (2 ^ 128 : Int)).toNat
  let t := t' / 2 ^ 32
  let s := { s with sky.time := t', sky.anchor := (((s.sky.anchor : Int) + d) % (2 ^ 96 : Int)).toNat, sky.prev := t - 1,
                    sky.stepDump := true, sky.stepEpoch := true, sky.stepClose := true, sky.stepSum := s.sky.stepSum + d,
                    sky.gridPend := s.sky.gridPend.map (fun (g : Word × Nat) => (g.1, min g.2 (wholeSec t))), ar.stepped := List.range 24,
                    scarab.clkBias := s.scarab.clkBias + d }
  let s := { s with sched := s.sched.map fun (e : Nat × Entry) => (e.1, if s.armed e.1 then e.2.step t else e.2) }
  let s := { s with tio.tp := s.tio.tp.map fun (e : Nat × TpSt) =>
    (e.1, { e.2 with fir := e.2.fir.map (TpFiring.step t) }) }
  let s := { s with dfly.jobs := s.dfly.jobs.map fun (e : Nat × Option Job) =>
    (e.1, e.2.map fun (j : Job) => { j with stepped := j.stepped || decide (s.fget (F.JS_STATE e.1) = 3) }) }
  ((s.finc F.DISC_STEPS).evRise 0x110 1).setOfs false

/-- STEPTHR in 2^-48 s; 0 acts as 1 µs. -/
def State.stepThr (s : State) : Int := (us (max 1 (s.fget F.SKY_CTL_STEPTHR)) : Nat)

/-- Correct the phase by slewing (R45): at the lesser of the offset per second and SLEWMAX (log entry 11). -/
def State.slew (s : State) (off : Int) : State :=
  let lim : Int := (ns (max 1 (s.fget F.SLEW_SLEWMAX)) : Nat)
  let rate := clampInt (-lim) lim (-off)
  let s := s.steerInc ((s.sky.base : Int) + (s.sky.base : Int) * rate / (sec : Int))
  { s with sky.slewLeft := -off * 2 ^ 32 }

/-- A valid clock estimate of Scarab (`follow` false) or master time (true): offset of the Sky Clock in 2^-48 s, INC at
the rate of the drift estimate in 2^-80 s, and UNC in ns (R43, R45, R47, R474). The table of R43 has no change from
STEERED to FOLLOW or back: STEERED takes no master time and FOLLOW no estimate of Scarab. -/
def State.timeInput (s : State) (follow : Bool) (off base : Int) (unc : Nat) : State :=
  let st := s.skyState
  let goal := if follow then skFOLLOW else skSTEERED
  let big := decide (s.stepThr < off.natAbs)
  if st = (if follow then skSTEERED else skFOLLOW) then s
  else if st = skHOLDOVER ∧ big ∧ ¬ s.flag F.SKY_CTL_AUTOSTEP then (s.setOfs true).evRise 0x110 3
  else
    let s := if big then s else s.setOfs false
    let s := { s with sky.base := base.toNat }
    let s := if st = skUNSTEERED ∨ (st = skHOLDOVER ∧ big) then { (s.steerInc base).skyStepBy (-off) with sky.slewLeft := 0 }
      else s.slew off
    (s.fput F.UNC (min unc 0xFFFFFFFF)).skyEnter goal

/-- INC at the rate of Scarab's drift estimate, in 10^-15 s/s of the clock as it runs (R43, R45). -/
def State.driftBase (s : State) (drift : Int) : Int := (s.inc : Int) * 10 ^ 15 / (10 ^ 15 + drift)

/-- INC at the rate of the drift estimate from master time (R45): what master time `t` (2^-80 s) has advanced by since the last
master time, over the sample ticks made between; the rate last found while there is no such pair (log entry 11). -/
def State.masterBase (s : State) (t : Nat) : Int :=
  match s.sky.master with
  | some (t0, n0) => if n0 < s.sky.smp ∧ t0 < t then ((t - t0) / (s.sky.smp - n0) : Nat) else s.sky.base
  | none => s.sky.base

-- the advance of the clock (R41, R46, R47)

/-- The value between two 32.768 kHz ticks (R46): `c` BYPCLK cycles after `anchor`, below what the next tick gives; before the
first tick after the change no limit is stated but the tick's own value. It holds until a whole tick has been counted. -/
def SkySt.between (k : SkySt) : Nat :=
  match k.nPrev with
  | none => k.anchor
  | some n =>
    let v := k.anchor + k.iA * k.c / max 1 n
    if k.first then v else min v (k.anchor + k.iA - 1)

/-- The clock at a 32.768 kHz tick while SRC = AON (R46). -/
def SkySt.tick32 (k : SkySt) : SkySt :=
  { k with anchor := (if k.first then k.between else k.anchor + k.iA) % 2 ^ 96, c := 0, first := false }

/-- A 32.768 kHz tick ends the count of BYPCLK cycles (R46). -/
def SkySt.count32 (k : SkySt) : SkySt :=
  { k with nPrev := if k.seen32 then some k.n32 else k.nPrev, seen32 := true, n32 := 0 }

/-- The always-on clock's part of a tick: one BYPCLK cycle when `byp`, and a 32.768 kHz tick when `t32` (R46). -/
def State.aonTick (s : State) (byp t32 : Bool) : State :=
  let k := s.sky
  let k := if byp then { k with c := k.c + 1, n32 := k.n32 + 1 } else k
  let k := if t32 then (if s.srcAON then k.tick32 else k).count32 else k
  { s with sky := if s.srcAON then { k with time := k.between % 2 ^ 96 * 2 ^ 32 } else k }

/-- One sample tick (R41): the index goes on, and while SRC = SAMPLE the clock adds INC, of which the slew is a part (R45).
Commanded steps are made on it (R44). -/
def State.sampleTick (s : State) : State :=
  let s := { s with sky.smp := if s.sky.started then (s.sky.smp + 1) % 2 ^ 64 else 0, sky.started := true }
  let s := if s.srcAON then s
    else
      let inc := s.inc
      let t := (s.sky.time + inc) % 2 ^ 128
      let tio := { s.tio with incAcc := s.tio.incAcc + ((inc : Int) - incNom), incCnt := s.tio.incCnt + 1 }
      let tio := if t / 2 ^ 80 = s.sky.time / 2 ^ 80 then tio
        else { tio with incAcc := 0, incCnt := 0, incSecs := ((tio.incAcc, tio.incCnt) :: tio.incSecs).take 255 }
      let s := { s with sky.time := t, tio := tio }
      if s.sky.slewLeft = 0 then s
      else
        let left := s.sky.slewLeft - ((inc : Int) - s.sky.base)
        if left = 0 ∨ (0 < left) ≠ (0 < s.sky.slewLeft) then { (s.steerInc s.sky.base) with sky.slewLeft := 0 }
        else { s with sky.slewLeft := left }
  let req := s.sky.stepReq
  req.foldl State.skyStepBy { s with sky.stepReq := [] }

/-- The growth of UNC in HOLDOVER over `dt`, 2^-80 s (R47). -/
def State.uncGrow (s : State) (dt : Nat) : State :=
  if s.skyState = skHOLDOVER then
    let rate := s.fget (if s.srcAON then F.HOLD_HOLDAON else F.HOLD_HOLDSAMP)
    let s := { s with sky.uncAcc := s.sky.uncAcc + dt * rate }
    s.fput F.UNC s.uncNow
  else s

/-- One tick of the time base in force, which a step makes on an empty queue (log entry 2): a sample tick while BYP = 0, a BYPCLK
cycle in bypass; which of them are BYPCLK cycles and 32.768 kHz ticks too is the board's (log entry 33). While MGMT is off a
tick is one of 32.768 kHz, and only the holdover counter runs (R48). -/
def State.tick (s : State) : State :=
  if ¬ s.domPowered 1 then { s with sky.aon := (s.sky.aon + s.sky.iA) % 2 ^ 96 }
  else
    let byp := s.flag F.CLK_STAT_BYP
    let before := s.sky.time
    let s := { s with sky.prev := s.now }
    let s := s.aonTick (byp || Config.bypEdge s.cycle) (Config.tick32 s.cycle)
    let s := if byp then s else s.sampleTick
    let s := s.uncGrow (s.sky.time - before)
    { s with sky.aon := s.now }

/-- The sample ticks stop (R41, R43, R96): SRC becomes AON, STEERED and FOLLOW become HOLDOVER; the stop and the
change of source each count in SRCSW (log entry 12). -/
def State.toAon (s : State) : State :=
  let s := s.finc F.DISC_SRCSW
  let s := if s.skyState = skSTEERED ∨ s.skyState = skFOLLOW then s.skyEnter skHOLDOVER else s
  if s.srcAON then s
  else
    let s := { s with sky.anchor := s.now, sky.c := 0, sky.first := true, sky.master := none }
    (((s.fputB F.SKY_STATE_SRC true).finc F.DISC_SRCSW).evRise 0x110 0).evRise 0x110 4

-- the commands

/-- NOW_T2_READ (R38): the read latch of the reader takes the time, sample counter, WEEK and TOWMS. -/
def State.nowLatch (s : State) (r : Nat) : State :=
  let t := s.now
  let secs := t / sec
  let s := s.setLatch r (F.NOW_T 1).addr (BitVec.ofNat 32 (t / 2 ^ 32))
  let s := s.setLatch r (F.NOW_T 2).addr (BitVec.ofNat 32 t)
  let s := s.setLatch r F.SMP_HI.addr (BitVec.ofNat 32 (s.sky.smp / 2 ^ 32))
  let s := s.setLatch r F.SMP_LO.addr (BitVec.ofNat 32 s.sky.smp)
  let s := s.setLatch r F.WEEK.addr (BitVec.ofNat 32 (secs / 604800))
  s.setLatch r F.TOWMS.addr (BitVec.ofNat 32 (secs % 604800 * 1000 + t % sec * 1000 / sec))

/-- The full week of a week number broadcast in `n` bits (R39): the first not earlier than WEEKFLOOR. -/
def State.fullWeek (s : State) (n w : Nat) : Nat :=
  let m := 2 ^ n
  let lo := s.fget F.WEEKFLOOR_WEEK
  lo + (w % m + m - lo % m) % m

/-- The value a register had when FREEZE rose (R30). -/
def State.held (s : State) (a : Nat) : Word := Tab.get (fun _ => 0) s.snap a

/-- A read of NOW_T2; FREEZE holds it and the latch (R30). -/
def execNowT2Read (r : Reader) (s : State) : Host.Outcome State Fault Refusal :=
  .next (if ¬ s.domPowered 1 ∨ s.boot.dead then s
    else if s.flag (PG_FREEZE 0x110) then { s with out := [s.held (F.NOW_T 0).addr] }
    else { s.nowLatch (readerIdx r) with out := [BitVec.ofNat 32 (s.now / 2 ^ 64)] })

/-- ESTIMATE_TIMEOUT (R43): STEERED for 2 s without a valid estimate. -/
def execEstimateTimeout (s : State) : Host.Outcome State Fault Refusal :=
  .next (if s.skyState = skSTEERED then s.skyEnter skHOLDOVER else s)

/-- SKY_CTL.STEP (R44): refused in FOLLOW; else STEP_S:STEP_F, signed 2^-32 s, is added at the next sample tick. -/
def State.commandedStep (s : State) : State :=
  if s.skyState = skFOLLOW then s.fault 0x110 0
  else
    let v := s.get64 F.STEP_S F.STEP_F
    { s with sky.stepReq := s.sky.stepReq ++ [(if v < 2 ^ 63 then (v : Int) else (v : Int) - 2 ^ 64) * 2 ^ 16] }

def execStep (via : Via) (s : State) : Host.Outcome State Fault Refusal :=
  .next (s.guarded via 0x110 0x044 State.commandedStep)

/-- LEAP_APPLY (R40): due once the Sky Clock has reached LEAP_T with PEND set. -/
def execLeapApply (s : State) : Host.Outcome State Fault Refusal :=
  .next (if s.flag F.LEAP_PEND ∧ s.get96 F.LEAP_T ≤ s.now then
      ((s.fput F.LEAP_CUR (s.fget F.LEAP_NEXT)).fputB F.LEAP_PEND false).evRise 0x110 2
    else s)

/-- SRC_RETURN_SAMPLE (R43, R46): the 32.768 kHz tick after BYP has fallen; the clock takes that tick's value and goes on
from it. -/
def execSrcReturnSample (s : State) : Host.Outcome State Fault Refusal :=
  .next (if s.srcAON ∧ ¬ s.flag F.CLK_STAT_BYP then
      let s := s.aonTick false true
      (((s.fputB F.SKY_STATE_SRC false).finc F.DISC_SRCSW).evRise 0x110 0).evRise 0x110 4
    else s)

/-- AON_PERIOD_MEASURE (R46): the period of the always-on oscillator over 16 s, as 2^-48 s per tick, while SRC = SAMPLE
and STEERED. -/
def execAonPeriodMeasure (period : BitVec 96) (s : State) : Host.Outcome State Fault Refusal :=
  .next (if ¬ s.srcAON ∧ s.skyState = skSTEERED then { s with sky.iA := period.toNat } else s)

end Sys2Proof.Machine
end

