-- ==== Sys2Proof/Machine/Sched.lean ====
section
/-! DEFINITION. The schedule table but for the actions of a firing (03: R55 to R63), and the compare values the mains
tracker gives (12: R249). -/

namespace Sys2Proof.Machine

def actionOf (e : Entry) : Nat := e.act.toNat / 2 ^ 20 % 16
def ownerOf (e : Entry) : Nat := e.act.toNat % 4096
def Entry.mainsRel (e : Entry) : Bool := e.act.getLsbD 16

/-- The armed entries, ascending: an armed entry has a nonzero ACTION, so it is listed in the table. -/
def State.armedList (s : State) : List Nat := (s.sched.map Prod.fst).filter s.armed
/-- Their number; SCHED_STAT.NFREE is 512 less this. -/
def State.nArmed (s : State) : Nat := s.armedList.length

/-- SCHED_NEXT: the earliest armed entry, lowest index first. -/
def State.schedNext (s : State) : Option Nat :=
  (s.armedList.foldl (fun (m : Option (Nat × Nat)) i =>
    let c := (s.entry i).cmp
    match m with
    | none => some (c, i)
    | some (d, _) => if c < d then some (c, i) else m) none).map Prod.snd

/-- The check R57 gives an action's E_ARG; `shadow` says which pages a COMMIT may name. -/
def argOk (action : Nat) (arg : Word) : Bool :=
  if action = 1 then
    match findPage (arg.toNat % 1024) with
    | some (r, _, _) => r.shadow
    | none => false
  else if action = 5 then decide (arg.toNat % 2048 ≤ 1151)
  else true

-- mains-relative entries (R249)

def allOnes : Nat := 2 ^ 96 - 1

/-- Time of phase `psi` (2^-16 cycle) of the `n`-th crossing after the last fitted one; f in 2^-24 Hz. -/
def State.mainsT (s : State) (n psi : Nat) : Nat :=
  s.tio.zf + (n * 65536 + psi) * 2 ^ 56 / max 1 (s.fget F.MN_FREQ)

/-- The least n whose value is at or after `t`. -/
def State.mainsN (s : State) (t psi : Nat) : Nat :=
  let phase := ((t - s.tio.zf) * max 1 (s.fget F.MN_FREQ) + 2 ^ 56 - 1) / 2 ^ 56
  (phase - psi + 65535) / 65536

/-- The tracker's compare value for an entry, with the crossing that precedes it: all ones while LOCK = 0; else the
first phase ψ at or after the anchor and 20 µs from now, with COUNT on a crossing a whole multiple of COUNT after the
one before the last firing. -/
def State.mainsSet (s : State) (e : Entry) : Entry :=
  if ¬ s.flag F.MN_STAT_LOCK then e.setCmp allOnes
  else
    let psi := e.arg.toNat / 65536
    let n0 := s.mainsN (max e.anchor (s.now + us 20)) psi
    let n := match e.mLast with
      | some l =>
        let c := max 1 e.count
        (l + max 1 ((s.aon.mnCyc + n0 - l + c - 1) / c) * c) - s.aon.mnCyc
      | none => n0
    { e.setCmp (s.mainsT n psi) with mNext := s.aon.mnCyc + n }

/-- The tracker writes every armed mains-relative entry whose value still lies more than 20 µs ahead (R249). -/
def State.mainsTrack (s : State) : State :=
  { s with sched := s.sched.map fun (x : Nat × Entry) =>
      (x.1, if s.armed x.1 ∧ x.2.mainsRel ∧ s.now + us 20 < x.2.cmp then s.mainsSet x.2 else x.2) }

-- votes of the copies (R61)

def copiesOut (e : Entry) : Nat :=
  (if e.c0 ≠ e.cmp then 1 else 0) + (if e.c1 ≠ e.cmp then 2 else 0) + (if e.c2 ≠ e.cmp then 4 else 0)

/-- A correction of entry `i` (R61). -/
def State.schedFixed (s : State) (i : Nat) : State :=
  ((s.setMapBit F.VOTEF i true).finc F.SCHED_VFCNT_CNT).evRise 0x111 2

/-- Vote entry `i`: write the majority back to a disagreeing copy and report it. -/
def State.voteEntry (s : State) (i : Nat) : State :=
  let e := s.entry i
  if copiesOut e = 0 then s
  else (s.setEntry i { e.setCmp e.cmp with outv := copiesOut e }).schedFixed i

/-- Judge the action words of entry `i` (R62): a single bit is corrected and reported, a double-bit error disarms. -/
def State.checkWords (s : State) (i : Nat) : State :=
  let e := s.entry i
  if e.errs = 0 then s
  else if e.errs = 1 then (s.setEntry i { e with errs := 0 }).schedFixed i
  else ((s.setEntry i { e with errs := 0, entflt := true }).setMapBit F.ARMED i false).evRise 0x111 3

-- commands of SCHED_CMD (R56)

/-- E_STAT as READ loads it. -/
def State.entryStat (s : State) (i : Nat) : Nat :=
  let e := s.entry i
  let b (c : Bool) (n : Nat) := if c then 2 ^ n else 0
  e.fires * 65536 + e.outv * 256 + b e.entflt 5 + b (s.mapBit F.VOTEF i) 4 + b e.hold 3 + b (s.mapBit F.LATE i) 2
    + b (s.mapBit F.FIRED i) 1 + b (s.armed i) 0

def E_STAT_W : Fld := ⟨F.E_STAT_FIRES.addr, 0, 32⟩

/-- READ. -/
def State.schedRead (s : State) : State :=
  let i := s.fget F.SCHED_IDX_IDX
  let e := s.entry i
  let s := s.put96 F.E_T e.cmp
  (((s.setReg F.E_ACT_ACTION.addr e.act).setReg F.E_ARG.addr e.arg).setReg F.E_PER_UNIT.addr e.per).fput E_STAT_W (s.entryStat i)

/-- Entry `i` takes part in comparisons from now on (R56): it is voted on arming (R61), and a value already passed makes its
first firing LATE (R59). -/
def State.joinCmp (s : State) (i : Nat) : State :=
  let e := s.entry i
  (s.setEntry i { e with inCmp := true, tardy := decide (e.cmp ≤ s.now) }).voteEntry i

/-- Put an entry into the table afresh (R56), armed by `i`. -/
def State.armEntry (s : State) (i : Nat) (t : Nat) (act arg per : Word) : State :=
  let e : Entry := { anchor := t, act := act, arg := arg, per := per }
  let e := if e.mainsRel then s.mainsSet e else e.setCmp t
  let free := s.nArmed
  let s := match s.schedBusy with
    | some j => s.joinCmp j
    | none => s
  let s := { s.setEntry i e with schedBusy := some i }
  let s := (((s.setMapBit F.ARMED i true).setMapBit F.FIRED i false).setMapBit F.LATE i false).setMapBit F.VOTEF i false
  s.when (decide (free = 511)) (·.evRise 0x111 4)

/-- WRITE: refused when the entry is armed, ACTION reserved or E_ARG fails its check; every cause is reported. -/
def State.schedWrite (s : State) : State :=
  let i := s.fget F.SCHED_IDX_IDX
  let act := s.reg F.E_ACT_ACTION.addr
  let arg := s.reg F.E_ARG.addr
  let action := s.fget F.E_ACT_ACTION
  let busy := s.armed i
  let bad := decide (action = 0 ∨ 7 ≤ action) || !argOk action arg
  if busy ∨ bad then
    ((s.fputB F.SCHED_STAT_REFUSED true).when busy (·.fault 0x111 1)).when bad (·.fault 0x111 0)
  else (s.fputB F.SCHED_STAT_REFUSED false).armEntry i (s.get96 F.E_T) act arg (s.reg F.E_PER_UNIT.addr)

/-- DISARM. -/
def State.disarm (s : State) (i : Nat) : State := s.setMapBit F.ARMED i false

/-- SCHED_READ, SCHED_WRITE, SCHED_DISARM (R56): SCHED_CMD.OP. -/
def execSchedRead (via : Via) (s : State) : Host.Outcome State Fault Refusal :=
  .next (s.guarded via 0x111 0x044 State.schedRead)
def execSchedWrite (via : Via) (s : State) : Host.Outcome State Fault Refusal :=
  .next (s.guarded via 0x111 0x044 State.schedWrite)
def execSchedDisarm (via : Via) (s : State) : Host.Outcome State Fault Refusal :=
  .next (s.guarded via 0x111 0x044 fun s => s.disarm (s.fget F.SCHED_IDX_IDX))

/-- SCHED_ARM_DONE (R56): the entry last written takes part in comparisons; it is voted on arming (R61). -/
def execSchedArmDone (s : State) : Host.Outcome State Fault Refusal :=
  .next (match s.schedBusy with
    | some i => { s with schedBusy := none }.joinCmp i
    | none => s)

/-- SCRUB_VOTE (R61, R62): the scrubber votes every entry and judges its action words. -/
def execScrubVote (s : State) : Host.Outcome State Fault Refusal :=
  .next ((s.sched.map Prod.fst).foldl (fun s i => if s.armed i then (s.voteEntry i).checkWords i else s.voteEntry i) s)

end Sys2Proof.Machine
end

