-- ==== Sys2Proof/Machine/TimeIo.lean ====
section
/-! DEFINITION. Time pulses, event stamps, the mains tracker and oscillator steering (12: R236 to R253). -/

namespace Sys2Proof.Machine

def domTIMEIO : Nat := 37
def State.tioOn (s : State) : Bool := s.domState domTIMEIO = dON
def State.byp (s : State) : Bool := s.flag F.CLK_STAT_BYP

def State.tp (s : State) (n : Nat) : TpSt := Tab.get (fun _ => {}) s.tio.tp n
def State.setTp (s : State) (n : Nat) (x : TpSt) : State := { s with tio.tp := Tab.set (fun _ => {}) s.tio.tp n x }

def sgn (w v : Nat) : Int := if v % 2 ^ w < 2 ^ (w - 1) then (v % 2 ^ w : Nat) else ((v % 2 ^ w : Nat) : Int) - 2 ^ w

/-- Flags of a STAMP record (R253). -/
structure StampFlags where
  hold : Bool := false
  flt : Bool := false
  skip : Bool := false
  stepped : Bool := false
  wrap : Bool := false
  ovf : Bool := false
  skyst : Nat := 0

def StampFlags.bits (f : StampFlags) : Nat :=
  let b (c : Bool) (n : Nat) := if c then 2 ^ n else 0
  b f.hold 0 + b f.flt 1 + b f.skip 2 + b f.stepped 3 + b f.wrap 4 + b f.ovf 5 + f.skyst * 64

/-- The stamp of a record. -/
def StampRec.time (r : StampRec) : Nat :=
  (r.words.getD 1 0).toNat * 2 ^ 64 + (r.words.getD 2 0).toNat * 2 ^ 32 + (r.words.getD 3 0).toNat

/-- Records wait in stamp order, of one stamp in the order they came (R253). -/
def insRec (x : StampRec) : List StampRec → List StampRec
  | [] => [x]
  | y :: r => if x.time < y.time then x :: y :: r else y :: insRec x r

/-- Queue a STAMP record for sending (R253). -/
def State.stampRec (s : State) (typ src seq : Nat) (fl : StampFlags) (t val cnt unc : Nat) : State :=
  let w0 := typ * 2 ^ 28 + src * 2 ^ 24 + fl.bits * 65536 + seq % 65536
  { s with tio.sendQ := insRec ⟨typ, src, BitVec.ofNat 32 w0 :: timeWords t ++
      [BitVec.ofNat 32 val, BitVec.ofNat 32 cnt, BitVec.ofNat 32 unc, 0]⟩ s.tio.sendQ }

/-- A pulse report (R253): its own SEQ per output. -/
def State.pulseReport (s : State) (n : Nat) (fl : StampFlags) (place : Int) (val cnt : Nat) : State :=
  let x := s.tp n
  (s.setTp n { x with seq := (x.seq + 1) % 65536 }).stampRec 1 n x.seq { fl with skyst := s.skyState }
    (place % (2 ^ 96 : Int)).toNat val cnt (s.fget F.UNC)

/-- A firing not carried out (R237): counted and reported with SKIP. -/
def State.tpSkip (s : State) (n : Nat) (stepped : Bool) (place : Int) : State :=
  (s.finc (F.TP_CNT_SKIP n)).pulseReport n { skip := true, stepped := stepped } place 0 (s.fget (F.TP_EDGES n))

/-- How far one tick takes the Sky Clock at most: by INC, or by a 32.768 kHz tick (R41, R46). -/
def State.tickMax (s : State) : Nat := if s.srcAON then s.sky.iA else s.inc / 2 ^ 32 + 1

-- PULSE_HANDOFF (R236, R237, R238)

/-- T reaches TPULSE: gated by EN, STATE, UNC and bypass, or loaded with the settings in force. -/
def State.tpLoad (s : State) (n t : Nat) : State :=
  let f : TpFiring := ⟨t, sgn 32 (s.fget (F.TP_OFS n)), max 100 (s.fget (F.TP_WID n)), s.flag (F.TP_CTL_POL n), false, false⟩
  let gate := (s.fget (F.TP_CTL_QUAL n)).testBit s.skyState &&
    (s.fget (F.TP_CTL_UNCMAX n) = 0 || decide (s.fget F.UNC ≤ s.fget (F.TP_CTL_UNCMAX n))) &&
    (!s.byp || s.flag (F.TP_CTL_BYPOK n))
  if ¬ s.flag (F.TP_CTL_EN n) then s.tpSkip n false f.place
  else if ¬ gate then (s.tpSkip n false f.place).evRise 0x113 4
  else s.setTp n { s.tp n with fir := (s.tp n).fir ++ [f] }

/-- PULSE_HANDOFF: 10 µs before the compare value of an armed PULSE entry, on the last tick that is not later; with TIMEIO not ON
there is no edge and a report with SKIP, CNT 0 and VAL 0. Later than 10 µs ahead nothing is handed off: the entry will fire LATE (R59). -/
def State.handoff (s : State) (i : Nat) : State :=
  let e := s.entry i
  if ¬ (s.armed i ∧ e.inCmp ∧ actionOf e = 2 ∧ e.handed = false ∧ e.cmp ≠ allOnes) ∨ e.cmp < s.now + us 10 ∨
      s.now + us 10 + s.tickMax ≤ e.cmp then s
  else
    let s := s.setEntry i { e with handed := true }
    let n := e.arg.toNat % 2
    if ¬ s.tioOn then s.pulseReport n { skip := true } e.cmp 0 0
    else s.tpLoad n e.cmp

def execPulseHandoff (i : Fin 512) (s : State) : Host.Outcome State Fault Refusal := .next (s.handoff i)

-- TP_EDGE (R236 to R243)

/-- Is the firing too close to the last one carried out (R237)? -/
def tooClose (last : Option (Int × Nat)) (place : Int) : Bool :=
  match last with
  | none => false
  | some (p, wid) => decide (place < p + (us 5 : Nat) ∨ place < p + (ns (wid + 100) : Nat))

/-- The checker's decision (R242) on an edge measured at `ea` and `eb` ps; the state and whether FLT is asserted. -/
def State.tpCheck (s : State) (n : Nat) (ea eb : Int) : State × Bool :=
  let badA := decide (100 < ea.natAbs)
  let badB := decide (100 < eb.natAbs)
  let b := s.flag (F.TP_STAT_ACT n)
  let stbMarked := s.flag (if b then F.TP_STAT_FAULTA n else F.TP_STAT_FAULTB n)
  let s := s.fputB (F.TP_STAT_FLTSTB n) badB
  let dual := s.flag (F.TP_STAT_DUAL n)
  if ¬ badA then (s, dual)
  else
    let s := s.finc (F.TP_CNT_FAULTS n)
    if ¬ badB ∧ ¬ stbMarked then
      -- the active generator is faulted: the standby drives all later edges
      (((s.fputB (if b then F.TP_STAT_FAULTB n else F.TP_STAT_FAULTA n) true).fputB (F.TP_STAT_ACT n) (!b)).evRise 0x113 n, true)
    else if badB ∧ (ea - eb).natAbs ≤ 100 ∧ ¬ stbMarked then
      ((s.fputB (F.TP_STAT_CHKF n) true).evRise 0x113 2, true)
    else
      ((((s.fputB (F.TP_STAT_DUAL n) true).fputB (F.TP_STAT_FAULTA n) true).fputB (F.TP_STAT_FAULTB n) true).evRise 0x113 3, true)

/-- One of the pulses handed off is over, its trailing edge made or the edge skipped: a POL that waits for the last of those before it
takes force (R237). -/
def State.tpOver (s : State) (n : Nat) : State :=
  let x := s.tp n
  match x.polWait with
  | some (k + 1) => s.setTp n (if k = 0 then { x with pol := s.flag (F.TP_CTL_POL n), polWait := none } else { x with polWait := some k })
  | _ => s

/-- INC of the TIMEIO clock in force, in 2^-80 s: of sample ticks, or of BYPCLK cycles in bypass (R239, R245). -/
def State.tioInc (s : State) : Nat := if s.byp then s.sky.iA * 2 ^ 32 / max 1 (s.sky.nPrev.getD 0) else s.inc

/-- Fine steps of the delay line from the last tick to `place`: round((place - V) x 512 / INC) (R236, R239). -/
def State.fineSteps (s : State) (place : Int) : Nat := (roundDiv ((place - s.now) * 2 ^ 41) (max 1 s.tioInc : Nat)).toNat

/-- The edge's instant lies in a switch of the TIMEIO clock, which lasts 2 µs at most (R239). -/
def State.inSwitch (s : State) (place : Int) : Bool := s.tio.swT.any fun t => decide ((t : Int) ≤ place ∧ place - (t : Int) ≤ (us 2 : Nat))

/-- TPn_FLT is asserted, its hold from now (R243). -/
def State.tpFlt (s : State) (n : Nat) : State := (s.fputB (F.TP_STAT_FLT n) true).setTp n { s.tp n with fltT := some s.now }

/-- An instant that comes before the next tick (R236: the last tick before it is this one). -/
def State.tickOf (s : State) (place : Int) : Bool := decide (place < ((s.now + s.tickMax : Nat) : Int))

/-- The edge of the first firing handed off, when its instant has come or can not come any more: produced and checked, or skipped. -/
def State.tpEdge (s : State) (n : Nat) (ea eb : Int) (switching : Bool) : State :=
  let x := s.tp n
  match x.fir with
  | [] => s
  | f :: rest =>
    if ¬ f.late ∧ ¬ s.tickOf f.place then s
    else
    let s := s.setTp n { x with fir := rest }
    if ¬ s.tioOn then s
    else if f.late then (s.tpSkip n true f.place).tpOver n
    else if tooClose x.last f.place ∨ (switching ∧ s.inSwitch f.place) then (s.tpSkip n f.stepped f.place).tpOver n
    else
      let s := s.setTp n { s.tp n with last := some (f.place, f.wid), pulse := true, dline := s.fineSteps f.place }
      let ea := clampInt (-200000) 200000 ea
      let eb := clampInt (-200000) 200000 eb
      let s := (((s.finc (F.TP_EDGES n)).fput (F.TP_ERR n) (ea % 2 ^ 32).toNat).fput (F.TP_ERRS n) (eb % 2 ^ 32).toNat)
      let (s, flt) := s.tpCheck n ea eb
      let s := s.when flt (·.tpFlt n)
      s.pulseReport n { hold := s.byp, flt := flt, stepped := f.stepped } f.place (ea % 2 ^ 32).toNat (s.fget (F.TP_EDGES n))

/-- TP_EDGE, the two generators' edges measured at `eAct` and `eStb` ps; `switching`: the TIMEIO clock has not completed its switch at
the edge's instant. -/
def execTpEdge (n : Fin 2) (eAct eStb : Int) (switching : Bool) (s : State) : Host.Outcome State Fault Refusal :=
  .next (s.tpEdge n eAct eStb switching)

/-- The instant of the trailing edge: T + OFS + WID. -/
def TpSt.trail (x : TpSt) : Int := match x.last with | some (p, wid) => p + (ns wid : Nat) | none => 0

/-- TP_TRAILING_EDGE (R237): the pulse ends, and a waiting POL takes effect after the last pulse handed off before it. -/
def execTpTrailingEdge (n : Fin 2) (s : State) : Host.Outcome State Fault Refusal :=
  .next (if (s.tp n).pulse ∧ s.tickOf (s.tp n).trail then (s.setTp n { s.tp n with pulse := false }).tpOver n else s)

/-- TP_FLT_RELEASE (R243): FLTW ms after its last assertion the FLT hold ends. -/
def execTpFltRelease (n : Fin 2) (s : State) : Host.Outcome State Fault Refusal :=
  .next (if (s.tp n).fltT.any fun t => decide (t + ms (max 1 (s.fget (F.TP_CTL_FLTW n))) ≤ s.now) then
      (s.fputB (F.TP_STAT_FLT n) false).setTp n { s.tp n with fltT := none }
    else s)

/-- TPn_CTL.REARM (R243): clears the fault marks, not ACT. -/
def State.rearm (s : State) (n : Nat) : State :=
  (((s.fputB (F.TP_STAT_FAULTA n) false).fputB (F.TP_STAT_FAULTB n) false).fputB (F.TP_STAT_CHKF n) false).fputB
    (F.TP_STAT_DUAL n) false

def execRearm (via : Via) (n : Fin 2) (s : State) : Host.Outcome State Fault Refusal :=
  .next (s.gated (.rearm via n) via 0x113 (0x040 + 0x20 * n.val) (·.rearm n))

/-- A write of TPn_CTL, WID or OFS (R237): POL changes the resting level at once, or after the pulses handed off
before it; an OFS outside ±5,000,000 ps has no effect and sets BADOFS. -/
def State.tpWrite (s : State) (n o : Nat) (v : Word) : State :=
  let a := 0x040 + 0x20 * n + o
  if o = 8 ∧ 5000000 < (sgn 32 v.toNat).natAbs then s.fault 0x113 0
  else
    let s := s.store 0x113 a v
    if o = 0 then
      let x := s.tp n
      let k := x.fir.length + (if x.pulse then 1 else 0)
      let s := s.setTp n (if k = 0 then { x with pol := v.getLsbD 1, polWait := none } else { x with polWait := some k })
      s.when (v.getLsbD 2) (·.rearm n)
    else s

/-- TP_CTL_WRITE: offset 0 CTL, 4 WID, 8 OFS. -/
def execTpCtlWrite (via : Via) (n : Fin 2) (off : BitVec 4) (v : Word) (s : State) : Host.Outcome State Fault Refusal :=
  let o := off.toNat / 4 * 4
  .next (s.gated (.tpCtlWrite via n off v) via 0x113 (0x040 + 0x20 * n.val + o) (·.tpWrite n o v))

-- event inputs (R244 to R246)

/-- The stamp of an edge at sub-tick `j` (R54): on BYPCLK cycles in bypass (R245). -/
def State.stampAt (s : State) (j : Nat) : Nat :=
  (s.now + j * s.tioInc / 256 / 2 ^ 32) % 2 ^ 96

/-- Stamps stand in stamp order, ties in ascending input (R246). -/
def insStamp (x : Stamp) : List Stamp → List Stamp
  | [] => [x]
  | y :: r => if x.t < y.t ∨ (x.t = y.t ∧ x.input < y.input) then x :: y :: r else y :: insStamp x r

/-- EVENT_EDGE: an edge of EVTn that holds its level for `held` ticks and comes `since` ticks after the last accepted
one. -/
def execEventEdge (n : Fin 8) (rise : Bool) (j : Byte) (held since : Nat) (s : State) : Host.Outcome State Fault Refusal :=
  let edge := s.fget (F.EV_CFG_EDGE n)
  let picked := s.tioOn && s.flag (F.EV_CFG_EN n) && (edge = 0 && rise || edge = 1 && !rise || decide (2 ≤ edge))
  .next (
    if ¬ picked then s
    else if held < s.fget (F.EV_CFG_GLITCH n) ∨ since < 2 then s.finc (F.EV_CNT_REJ n)
    else if 256 ≤ s.tio.fifo.length then
      { s.finc (F.EV_CNT_DROP n) with tio.ovf := Tab.set (fun _ => false) s.tio.ovf n true }.evRise 0x114 0
    else
      let seq := Tab.get (fun _ => 0) s.tio.evSeq n
      let x : Stamp := ⟨n, rise, seq, s.stampAt j.toNat, s.byp, s.skyState, s.fget F.UNC⟩
      let s := { s with tio.fifo := insStamp x s.tio.fifo,
                        tio.evSeq := Tab.set (fun _ => 0) s.tio.evSeq n ((seq + 1) % 65536) }
      let s := s.fput F.EV_FILL_V s.tio.fifo.length
      s.when (decide (s.tio.fifo.length = 128)) (·.evRise 0x114 1))

/-- EV_POP performed (R27, R246): the word read, and the state after. The Warden's pops go on to the subscribers. -/
def State.evPop (s : State) (byWarden : Bool) : Word × State :=
  match s.tio.fifo with
  | [] => (0, s)
  | x :: r =>
    let ovf := Tab.get (fun _ => false) s.tio.ovf x.input
    let s := { s with tio.fifo := r, tio.ovf := Tab.set (fun _ => false) s.tio.ovf x.input false }
    let s := (s.put96 F.EV_T x.t).fput F.EV_FILL_V r.length
    let w := 2 ^ 31 + (if ovf then 2 ^ 30 else 0) + (if x.hold then 2 ^ 29 else 0) + x.skyst * 2 ^ 27
      + (if x.rise then 2 ^ 26 else 0) + x.input * 65536 + x.seq
    (BitVec.ofNat 32 w,
      s.when byWarden (·.stampRec 0 x.input x.seq { hold := x.hold, ovf := ovf, skyst := x.skyst } x.t
        (if x.rise then 1 else 0) 0 x.unc))

/-- EV_POP by a core. -/
def execEvPop (c : Core) (s : State) : Host.Outcome State Fault Refusal :=
  .next (if ¬ s.domPowered 1 ∨ s.boot.dead then s
    else s.holdRead (.evPop c) 0x114 fun s =>
    if s.powered 0x114 then
      let (w, s) := s.evPop (c = .warden)
      { s with out := [w] }
    else { s.fault 0x114 faultUNPWR with out := [0] })

-- mains (R247 to R249)

def State.navg (s : State) : Nat := 2 ^ min 8 (s.fget F.MN_CTL_NAVG)

/-- The nominal period in 2^-48 s. -/
def State.mnPeriod (s : State) : Nat := if s.flag F.MN_CTL_NOM then sec / 60 else sec / 50

/-- Least-squares line of stamps against cycle numbers: sums (n, Σx, Σx², Σt, Σxt) with x counted from the oldest. -/
def fitSums (x0 t0 : Nat) (l : List (Nat × Nat)) : Nat × Nat × Nat × Nat × Nat :=
  l.foldl (fun (n, sx, sxx, st, sxt) p =>
    let x := p.1 - x0
    let t := p.2 - t0
    (n + 1, sx + x, sxx + x * x, st + t, sxt + x * t)) (0, 0, 0, 0, 0)

/-- MN_FREQ and Zf from the last crossings (R248); none when there is no line through them. -/
def mainsFit (l : List (Nat × Nat)) : Option (Nat × Nat) :=
  match l, l.getLast? with
  | (xl, _) :: _, some (x0, t0) =>
    let (n, sx, sxx, st, sxt) := fitSums x0 t0 l
    let dxx := n * sxx - sx * sx
    let dxt := n * sxt - sx * st
    if dxx = 0 ∨ dxt = 0 then none
    else some ((2 ^ 72 * dxx + dxt / 2) / dxt, t0 + (st * dxx + dxt * (n * (xl - x0) - sx)) / (n * dxx))
  | _, _ => none

/-- A change of LOCK (R248) raises LOCK; falling, it restarts the count. -/
def State.mnLock (s : State) (b : Bool) : State :=
  let s := s.when (!b) fun s => { s with tio.good := 0 }
  if s.flag F.MN_STAT_LOCK = b then s
  else ((s.fputB F.MN_STAT_LOCK b).evRise 0x115 0).mainsTrack

/-- A gap (R248). -/
def State.mnGap (s : State) : State :=
  (((s.finc F.MN_GAPS).fputB F.MN_FLAGS_GAP true).evRise 0x115 1).mnLock false

/-- 45 to 65 Hz in 2^-24 Hz. -/
def inRange (f : Nat) : Bool := decide (45 * 2 ^ 24 ≤ f ∧ f ≤ 65 * 2 ^ 24)

/-- The period the tracker estimates: of MN_FREQ, or nominal while it has none. -/
def State.mnEst (s : State) : Nat := if s.fget F.MN_FREQ = 0 then s.mnPeriod else 2 ^ 72 / s.fget F.MN_FREQ

/-- The estimator takes the stamp of a crossing. -/
def State.mnStamp (s : State) (t : Nat) : State :=
  let prev := s.tio.cross.head?.map Prod.snd
  let seen := s.tio.gapSeen
  let s := { s with tio.cross := (((s.aon.mnCyc, t) :: s.tio.cross).take 256), tio.gapSeen := false }
  let s := match prev with
    | none => s
    | some p =>
      if 3 * s.mnEst < 2 * (t - p) ∧ ¬ seen then s.mnGap
      else if 20 * ((t - p : Int) - s.mnPeriod).natAbs ≤ s.mnPeriod then { s with tio.good := s.tio.good + 1 }
      else { s with tio.good := 0 }
  let s := if s.navg = 1 then
      -- a line through one stamp is not determined: the frequency is a free value (log entry 13)
      let (v, s) := s.draw 32
      { s.fput F.MN_FREQ v with tio.zf := t }
    else match mainsFit (s.tio.cross.take s.navg) with
      | some (f, z) => { s.fput F.MN_FREQ f with tio.zf := z }
      | none => { s with tio.zf := t }
  let f := s.fget F.MN_FREQ
  let s := if s.tio.cross.length < 2 ∨ inRange f then s
    else ((s.fputB F.MN_FLAGS_FRANGE true).evRise 0x115 3).mnLock false
  let s := s.when (decide (s.navg ≤ s.tio.good) && inRange f) (·.mnLock true)
  let s := (s.put96 F.MN_ZT t).mainsTrack
  let s' := s.stampRec 2 0 s.tio.mnSeq { hold := s.byp, wrap := decide (s.aon.mnCyc = 0), skyst := s.skyState } t f
    s.aon.mnCyc (s.fget F.UNC)
  { s' with tio.mnSeq := (s.tio.mnSeq + 1) % 65536 }

/-- A rising crossing is accepted when the input stays high (R247): for DEGL x 10 µs, or with TIMEIO off for seven 32.768 kHz ticks. -/
def State.mnAccepts (s : State) (high : Nat) : Bool :=
  if s.tioOn then decide (max 1 (s.fget F.MN_CTL_DEGL) * 10000 ≤ high) else decide (7 * 10 ^ 9 ≤ high * 32768)

/-- MAINS_CROSSING: a rising crossing at sub-tick `j` after which the input stays high for `high` ns (R247). MN_FLAGS is TIMEIO's, and
holds WRAP only while that is on. -/
def execMainsCrossing (j : Byte) (high : Nat) (s : State) : Host.Outcome State Fault Refusal :=
  .next (
    if ¬ (s.fget F.AON_CTL_CEN).testBit 2 ∨ ¬ s.mnAccepts high then s
    else
      let c := (s.aon.mnCyc + 1) % 2 ^ 32
      let s := { s with aon.mnCyc := c }
      let s := s.when (decide (c = 0)) fun s => (s.when s.tioOn (·.fputB F.MN_FLAGS_WRAP true)).evRise 0x115 2
      if s.tioOn then s.mnStamp (s.stampAt j.toNat) else s)

/-- MAINS_GAP: no crossing for more than 1.5 estimated periods (R248). -/
def execMainsGap (s : State) : Host.Outcome State Fault Refusal :=
  .next (if s.tioOn ∧ s.tio.cross ≠ [] ∧ ¬ s.tio.gapSeen then { s.mnGap with tio.gapSeen := true } else s)

/-- A write of MN_CTL clears LOCK (R248). -/
def State.mnCtl (s : State) (v : Word) : State := (s.store 0x115 0x040 v).mnLock false

def execMnCtlWrite (via : Via) (v : Word) (s : State) : Host.Outcome State Fault Refusal :=
  .next (s.gated (.mnCtlWrite via v) via 0x115 0x040 (·.mnCtl v))

/-- MN_PHASE at the present time (R248): frac((t - Zf) x f) in 2^-16 cycle, in [31:16]. -/
def State.mnPhase (s : State) : Nat :=
  ((((s.now : Int) - s.tio.zf) * s.fget F.MN_FREQ / 2 ^ 56) % 65536).toNat * 65536

-- STEER (R250 to R252)

/-- ST_OUT follows ST_VAL in MANUAL (R251). -/
def State.steerMode (s : State) : State :=
  if s.fget F.ST_CTL_MODE = 2 then s.fput F.ST_OUT_CODE (s.fget F.ST_VAL_CODE) else s

/-- TAU: 0 acts as 1 s. -/
def State.tau (s : State) : Nat := max 1 (s.fget F.ST_CTL_TAU)

/-- e: the mean of (INC - nominal) / nominal over the last TAU seconds, in 10^-15 (R252). -/
def State.steerE (s : State) : Int :=
  let l := s.tio.incSecs.take s.tau
  let n := (l.map Prod.snd).sum
  if n = 0 then ((s.inc : Int) - incNom) * 10 ^ 15 / incNom
  else (l.map Prod.fst).sum * 10 ^ 15 / (incNom * n)

/-- A whole second that is a multiple of TAU has come, not yet acted on. -/
def State.steerDue (s : State) : Bool := decide (s.now / sec % s.tau = 0 ∧ s.tio.stSec ≠ some (s.now / sec))

/-- STEER_UPDATE (R252): in DISCIPLINE, at a whole second that is a multiple of TAU. -/
def execSteerUpdate (s : State) : Host.Outcome State Fault Refusal :=
  let e := s.steerE
  let gain := sgn 32 (s.fget F.ST_GAIN)
  let maxd : Int := (max 1 (s.fget F.ST_CTL_MAXD) : Nat)
  let raw := roundDiv (e * gain) 256000
  let d := clampInt (-maxd) maxd raw
  let old : Int := (s.fget F.ST_OUT_CODE : Int)
  let lo : Int := (s.fget F.ST_MIN_CODE : Int)
  let hi : Int := (s.fget F.ST_MAX_CODE : Int)
  let v := clampInt lo hi (old + d)
  let s0 := { s with tio.stSec := some (s.now / sec) }
  .next (
    if ¬ s.tioOn ∨ s.fget F.ST_CTL_MODE ≠ 3 ∨ ¬ s.steerDue then s
    else if (s.skyState = skSTEERED ∨ s.skyState = skFOLLOW) ∧ ¬ s.byp then
      ({ ((s0.fput F.ST_FERR (e % 2 ^ 32).toNat).fput F.ST_OUT_CODE v.toNat) with tio.stHeld := false }).when
        (decide (d ≠ raw ∨ v ≠ old + d ∨ (v ≠ old ∧ (v = lo ∨ v = hi)))) (·.evRise 0x116 0)
    else { s0 with tio.stHeld := true }.when (!s.tio.stHeld) (·.evRise 0x116 1))

-- STAMP_SEND (R253)

/-- Does a STAMP subscription take the record (R304)? -/
def subTakes (b : Sub) (r : StampRec) : Bool := b.kind = 4 && b.sel % 4 = r.typ && b.sel / 16 % 16 = r.src

/-- Send the records waiting to their subscribers, up to 64 in a frame. -/
def execStampSend (s : State) : Host.Outcome State Fault Refusal :=
  let q := s.tio.sendQ
  let s := { s with tio.sendQ := [] }
  .next (s.openTenants.foldl (fun s t =>
    let mine := (q.filter fun r => (s.tenant t).subs.any fun b => subTakes b r).flatMap StampRec.words
    (chunks 512 mine).foldl (fun s ws => s.sendFrame t 7 (wordBytes ws)) s) s)

/-- SRST of TPULSE, and power-up of TIMEIO (R481): the reset state; firings handed off end with a SKIP report when
`report`. -/
def State.tpReset (s : State) (report : Bool) : State :=
  let waiting := (s.tio.tp.flatMap fun (x : Nat × TpSt) => x.2.fir.map fun f => (x.1, f))
  let old := s.tio.tp
  let s := { s with regs := Tab.clear (fun a => decide (0x113040 ≤ a ∧ a < 0x114000)) s.regs }
  let s := old.foldl (fun (s : State) (x : Nat × TpSt) => s.setTp x.1 { seq := x.2.seq }) s
  if report then waiting.foldl (fun s x => s.pulseReport x.1 { skip := true, stepped := x.2.stepped } x.2.place 0 0) s else s

/-- SRST of EVTIN, and power-up of TIMEIO (R482). -/
def State.evReset (s : State) : State :=
  { s with regs := Tab.clear (fun a => decide (0x114040 ≤ a ∧ a < 0x115000)) s.regs,
           tio.fifo := [], tio.ovf := [], tio.evSeq := [] }

end Sys2Proof.Machine
end

