-- ==== Sys2Proof/Machine/Rf.lean ====
section
/-! DEFINITION. RF paths, calibration, antenna bias and coexistence (04: R65 to R87), and the flags streams take from
them (06: R102, R116). -/

namespace Sys2Proof.Machine

def rfSLEEP : Nat := 0
def rfSTANDBY : Nat := 1
def rfSYNTH : Nat := 2
def rfRECEIVE : Nat := 3
def rfTRANSMIT : Nat := 4

def rfPage (p : Nat) : Nat := 0x020 + p
def State.rfp (s : State) (p : Nat) : RfSt := Tab.get (fun _ => {}) s.rf.paths p
def State.setRfp (s : State) (p : Nat) (x : RfSt) : State := { s with rf.paths := Tab.set (fun _ => {}) s.rf.paths p x }
def State.rfState (s : State) (p : Nat) : Nat := s.fget (F.RF_STAT_STATE p)
def paths : List Nat := List.range 8
def maskPaths (m : Nat) : List Nat := paths.filter m.testBit

-- array groups (R81)

/-- The members of the enabled group that path `p` belongs to, by the active ARRAY. -/
def State.groupMask (s : State) (g : Nat) : Nat :=
  if g = 0 then (if s.flag F.ARRAY_AG0EN.act then s.fget F.ARRAY_AG0MASK.act else 0)
  else (if s.flag F.ARRAY_AG1EN.act then s.fget F.ARRAY_AG1MASK.act * 16 else 0)

def State.groupOf (s : State) (p : Nat) : Nat :=
  let m := s.groupMask (p / 4)
  if m.testBit p then m else 2 ^ p

/-- The path whose synthesizer drives `p`. -/
def State.loMaster (s : State) (p : Nat) : Nat := ((maskPaths (s.groupOf p)).head?).getD p
def State.loN (s : State) (p : Nat) : Nat := s.fget (F.RF_LO_N (s.loMaster p)).act
/-- The paths whose LO the synthesizer of `p` drives: none when its group's master is another path, since it is off then. -/
def State.driven (s : State) (p : Nat) : List Nat := if s.loMaster p = p then maskPaths (s.groupOf p) else []
/-- RF_STAT.ARRAYM of every path (R81). -/
def State.arrayM (s : State) : State :=
  paths.foldl (fun s p => if s.powered (rfPage p) then s.fputB (F.RF_STAT_ARRAYM p) (decide (s.loMaster p ≠ p)) else s) s

-- the flags of a path's samples and of the streams (R73, R86, R102, R116)

def State.blanked (s : State) (p : Nat) : Bool := (s.rf.txact || s.rf.tail) && (s.fget F.COEX_TXMASK).testBit p

/-- Are the samples of path lane `p` INVALID (R102)? BYP, and the flagging that outlasts it (R97), mark both inputs; a replay port
is INVALID while it has no data (R439), the converters for the causes of R102 and while they do not run (log entry 84). -/
def State.pathInvalid (s : State) (p : Nat) : Bool :=
  s.byp || s.sieve.flagging || s.flag (F.RF_STAT_INVALID p) || decide (s.rfState p = rfTRANSMIT) ||
    (if s.flag (F.SV_CTL_INSEL p) then !s.flag (F.RP_STAT_ACTIVE p) || s.ar.rpWait.contains p
     else decide (s.rfState p ≠ rfRECEIVE))

def State.penPort (s : State) (w : Nat) : PenPort := Tab.get (fun _ => {}) s.pen.ports w
def State.setPenPort (s : State) (w : Nat) (x : PenPort) : State := { s with pen.ports := Tab.set (fun _ => {}) s.pen.ports w x }
def ptDOWN : Nat := 0
def ptTRAIN : Nat := 1
def ptUP : Nat := 2

/-- Does inbound slot `k` of Penholt port `w` carry no stream (R442, R443, R452)? -/
def State.slotDown (s : State) (w k : Nat) : Bool :=
  !s.flag (F.PP_SLOT_VALID w k) || decide (s.fget (F.PP_STAT_STATE w) ≠ ptUP) || s.byp || s.sieve.flagging

/-- Is the slot INVALID: it carries no stream, or its last frame held INVALID samples? -/
def State.slotInvalid (s : State) (w k : Nat) : Bool := s.slotDown w k || ((s.penPort w).inval.getD k false)

/-- Port and slot of an inbound source (R116). -/
def inSlot (src : Nat) : Nat × Nat := (if src < 24 then 0 else 1, src % 8)

/-- LAT of a stream's source in ticks: 66 per hop of an inbound slot, at most 4 (R453). -/
def State.srcLat (s : State) (src : Nat) : Nat :=
  if 16 ≤ src then 66 * min 4 (s.fget (F.PP_SLOT_HOPS (inSlot src).1 (inSlot src).2)) else 0

/-- The sample of slot `k` of port `w` that has taken tick `t`: none when no frame has brought that tick. -/
def State.slotAt (s : State) (w k t : Nat) : Option (Option Smp) :=
  ((s.penPort w).frames.find? fun f => decide (f.tick ≤ t ∧ t < f.tick + 33)).map fun f => (f.slots.getD k []).getD (t - f.tick) none

/-- Is the source of a stream INVALID (R115, R116)? -/
def State.srcInvalid (s : State) (src : Nat) : Bool :=
  if src < 8 then s.pathInvalid src
  else if src < 10 then
    let g := src - 8
    decide (s.fget (F.CMB_CTL_MODE g).act = 0) || decide (s.groupMask g = 0) || (maskPaths (s.groupMask g)).any s.pathInvalid
  else if src < 24 then s.slotInvalid 0 (src - 16)
  else s.slotInvalid 1 (src - 24)

/-- A stream that would forward a slot received at HOPS = 4 (R453). -/
def State.hopLimit (s : State) (m : Nat) : Bool :=
  let src := s.fget (F.STR_SRC m).act
  decide (16 ≤ src ∧ 8 ≤ s.fget (F.STR_DEST m).act) &&
    decide (s.fget (F.PP_SLOT_HOPS (if src < 24 then 0 else 1) (src % 8)) = 4)

/-- SX_RUN and SX_INV follow the streams; a running stream that turns INVALID raises STRINV. -/
def State.streamsUpdate (s : State) : State :=
  let run := (List.range 24).filter fun m => s.flag (F.STR_EN m).act
  let inv := run.filter fun m => s.srcInvalid (s.fget (F.STR_SRC m).act) || s.hopLimit m ||
    decide (0 < (Tab.get (fun _ => ({} : StrSt)) s.sieve.strs m).inv)
  let was := s.fget F.SX_INV_S
  let bits (l : List Nat) := l.foldl (fun a m => a + 2 ^ m) 0
  let s := (s.fput F.SX_RUN_S (bits run)).fput F.SX_INV_S (bits inv)
  s.when (inv.any fun m => !was.testBit m) (·.evRise 0x038 2)

-- calibration end (R79, R80)

/-- Masked paths in TRANSMIT return to RECEIVE; one still on its way there returns when it has arrived (R76). -/
def State.calRelease (s : State) : State :=
  (maskPaths s.rf.calMask).foldl (fun s p =>
    if s.rfState p = rfTRANSMIT ∧ (s.rfp p).move = .idle then s.setRfp p { s.rfp p with move := .fromTransmit } else s) s

/-- A running calibration holds path `p`. -/
def State.calHolds (s : State) (p : Nat) : Bool := decide (s.rf.cal ≠ .idle) && s.rf.calMask.testBit p

/-- COEX_REQ is asserted (R87): by COEX.REQ, and from step 2 to step 5 of a calibration with REQCAL = 1. -/
def State.coexReq (s : State) : Bool := s.flag F.COEX_REQ || (s.flag F.COEX_REQCAL && decide (s.rf.cal ≠ .idle))
/-- The level of the COEX_REQ ball, high when true; and COEX_GNT as asserted (R87). -/
def State.coexReqLevel (s : State) : Bool := s.coexReq ^^ s.flag F.COEX_REQPOL
def State.coexGnt (s : State) : Bool := s.rf.gntWire ^^ s.flag F.COEX_GNTPOL

def State.calEnd (s : State) (result done : Nat) : State :=
  { (((s.fputB F.CAL_STAT_BUSY false).fput F.CAL_STAT_RESULT result).fput F.CAL_STAT_DONE done) with rf.cal := .idle }

/-- A calibration fails or is abandoned: 1 NOTRX, 2 COEX, 3 ABORT, 4 BADINJ. -/
def State.calFail (s : State) (result : Nat) : State :=
  ((s.calEnd result 0).calRelease).evRise 0x028 13

/-- A calibration whose mask holds `p` is abandoned (R80). -/
def State.calAbandon (s : State) (p : Nat) : State :=
  if s.calHolds p then s.calFail 3 else s

-- path states (R75, R76)

/-- Entry to Receive starts the AGC from MGAIN (R67). -/
def State.agcStart (s : State) (p : Nat) : State :=
  ((s.setRfp p { s.rfp p with agcBlocks := 0, agcOk := 0, agcSat := false, pow := 0, powN := 0, blk := false }).fput (F.RF_GAIN_GAIN p)
    (s.fget (F.RF_BB_MGAIN p).act)).fputB (F.RF_STAT_AGCSET p) false

def State.rfMove (s : State) (p : Nat) (m : RfMove) : State := s.setRfp p { s.rfp p with move := m }

/-- Begin the retune of a path that has its synthesizer running and no transition in progress (R72, R73, R75): a calibration that
holds it is abandoned. -/
def State.tune (s : State) (p : Nat) : State :=
  let s := s.calAbandon p
  (((s.fput (F.RF_STAT_STATE p) rfSYNTH).fputB (F.RF_STAT_LOCK p) false).fputB (F.RF_STAT_INVALID p) true).setRfp p
    { s.rfp p with move := .toLock, retune := true, retunePend := false, evPend := true, relock := false, attempts := 0 }

/-- Start what comes next on path `p` when no transition is in progress; REQ = 0 interrupts one (R76). A retune that waited comes
first, then the request; a path in TRANSMIT that no calibration holds returns to RECEIVE. -/
def State.rfAdvance (s : State) (p : Nat) : State :=
  let st := s.rfState p
  let rq := s.fget (F.RF_CTL_REQ p)
  let x := s.rfp p
  if rq = 0 then
    if x.move = .toSleep ∨ st = rfSLEEP ∧ x.move = .idle then s else (s.calAbandon p).rfMove p .toSleep
  else if x.move ≠ .idle ∨ x.failed then s
  else if x.retunePend ∧ rfSYNTH ≤ st then s.tune p
  else if st = rfSLEEP then s.rfMove p .toStandby
  else if st = rfSTANDBY then
    if 2 ≤ rq ∧ s.flag F.CLK_STAT_REFOK then (s.fput (F.RF_STAT_STATE p) rfSYNTH).rfMove p .toLock else s
  else if st = rfSYNTH then
    if rq = 3 then (if s.flag (F.RF_STAT_LOCK p) then s.rfMove p .toReceive else s)
    else if rq = 1 then s.rfMove p .downStandby else s
  else if st = rfRECEIVE then (if rq < 3 then (s.calAbandon p).rfMove p .downSynth else s)
  else if st = rfTRANSMIT then
    let s := if rq < 3 then s.calAbandon p else s
    if (s.rfp p).move = .idle ∧ ¬ s.calHolds p then s.rfMove p .fromTransmit else s
  else s

/-- A write of RF_CTL.REQ (R75): above 3 it has no effect and sets BADREQ. -/
def State.rfReq (s : State) (p rq : Nat) : State :=
  if 3 < rq then s.fault (rfPage p) 3
  else
    let s := (s.fput (F.RF_CTL_REQ p) rq).setRfp p { s.rfp p with evPend := true, failed := false }
    if s.rfState p = rq ∧ (s.rfp p).move = .idle then (s.setRfp p { s.rfp p with evPend := false }).evRise (rfPage p) 0
    else s.rfAdvance p

def execRfReq (via : Via) (p : Fin 8) (req : BitVec 3) (s : State) : Host.Outcome State Fault Refusal :=
  .next (s.gated (.rfReq via p req) via (rfPage p) 0x040 (·.rfReq p req.toNat))

/-- All masked paths are in TRANSMIT: the blocks start (R79 step 3). -/
def State.calMoved (s : State) : State :=
  if s.rf.cal = .moving ∧ (maskPaths s.rf.calMask).all (fun p => decide (s.rfState p = rfTRANSMIT)) then
    { s with rf.cal := .blocks, rf.calOk := 0, rf.calBad := 0, rf.calBlank := (maskPaths s.rf.calMask).any s.blanked }
  else s

/-- A third failed attempt (R74) takes the path to STANDBY, once no transition is in progress. -/
def State.rfFail (s : State) (p : Nat) : State :=
  if rfSYNTH ≤ s.rfState p ∧ (s.rfp p).move = .idle then
    let s := s.calAbandon p
    ((s.fput (F.RF_STAT_STATE p) rfSTANDBY).fputB (F.RF_STAT_AGCSET p) false).setRfp p
      { s.rfp p with move := .idle, retune := false, retunePend := false }
  else s

/-- The end of the transition in progress (R75, R76). A path whose lock has fallen on the way to RECEIVE stays in SYNTH. -/
def State.rfDone (s : State) (p band : Nat) : State :=
  let x := s.rfp p
  let st (n : Nat) (s : State) : State := s.fput (F.RF_STAT_STATE p) n
  let s := s.setRfp p { x with move := .idle }
  let stop (s : State) : State := ((s.fputB (F.RF_STAT_LOCK p) false).fputB (F.RF_STAT_AGCSET p) false).setRfp p
    { s.rfp p with relock := false, attempts := 0, retune := false, retunePend := false }
  let s := match x.move with
    | .idle => s
    | .toStandby => st 1 s
    | .toLock =>
      let s := ((st 2 s).fputB (F.RF_STAT_LOCK p) true).setRfp p { s.rfp p with relock := false, attempts := 0 }
      if s.loMaster p = p then s.fput (F.RF_STAT_VCOBAND p) band else s
    | .toReceive =>
      if s.flag (F.RF_STAT_LOCK p) then (((st 3 s).fputB (F.RF_STAT_INVALID p) false).setRfp p { s.rfp p with retune := false }).agcStart p
      else s
    | .toTransmit => st 4 s
    | .fromTransmit => (st 3 s).agcStart p
    | .toSleep => stop (st 0 s)
    | .downSynth => st 2 s
    | .downStandby => stop (st 1 s)
  let s := if (s.rfp p).failed then s.rfFail p else s
  let s := if x.evPend ∧ s.rfState p = s.fget (F.RF_CTL_REQ p) then
      (s.setRfp p { s.rfp p with evPend := false }).evRise (rfPage p) 0
    else s
  ((s.rfAdvance p).calMoved).streamsUpdate

/-- May the transition in progress end? A lock needs the reference (R74), and a group member its master's lock (R81). -/
def State.rfMayEnd (s : State) (p : Nat) : Bool :=
  match (s.rfp p).move with
  | .idle => false
  | .toLock => s.flag F.CLK_STAT_REFOK && (decide (s.loMaster p = p) || s.flag (F.RF_STAT_LOCK (s.loMaster p)))
  | _ => true

/-- PATH_TRANSITION_DONE, with the VCO band found when the transition locked. -/
def execPathTransitionDone (p : Fin 8) (band : BitVec 5) (s : State) : Host.Outcome State Fault Refusal :=
  .next (if s.rfMayEnd p then s.rfDone p band.toNat else s)

-- retunes (R71 to R74, R82)

/-- Retune one path that has its synthesizer running (R72, R73): at once, or when the transition in progress has ended (R76). A
path going to sleep is not retuned. -/
def State.retuneOne (s : State) (p : Nat) : State :=
  let x := s.rfp p
  if s.rfState p < rfSYNTH ∨ x.move = .toSleep ∨ x.failed then s
  else if x.move = .idle then s.tune p
  else (s.calAbandon p).setRfp p { (s.calAbandon p).rfp p with retunePend := true }

/-- Retune the paths of a mask with the groups they belong to; a retuned group waits for its calibration. -/
def State.retune (s : State) (m : Nat) : State :=
  let all := (maskPaths m).foldl (fun a p => a ||| s.groupOf p) 0
  let s := (maskPaths all).foldl State.retuneOne s
  let gs := [0, 1].filter fun g => s.groupMask g &&& all ≠ 0
  ({ s with rf.auto := (s.rf.auto.filter fun g => !gs.contains g) ++
      (if s.flag F.ARRAY_AUTOCAL.act then gs else []) }).streamsUpdate

/-- The lock of path `p`'s synthesizer is lost without a retune (R74): `p` and the members it drives raise UNLOCK and relock;
`n`: attempts counted so far. -/
def State.rfUnlock (s : State) (n p : Nat) : State :=
  (s.driven p).foldl (fun s q =>
    if rfSYNTH ≤ s.rfState q ∧ s.flag (F.RF_STAT_LOCK q) then
      (((s.fputB (F.RF_STAT_LOCK q) false).fputB (F.RF_STAT_INVALID q) true).setRfp q
        { s.rfp q with relock := true, attempts := n }).evRise (rfPage q) 1
    else s) s

/-- SYNTH_UNLOCK (R74). -/
def execSynthUnlock (p : Fin 8) (s : State) : Host.Outcome State Fault Refusal :=
  .next (s.rfUnlock 1 p).streamsUpdate

/-- RELOCK_ATTEMPT_TIMEOUT (R74): the attempt's millisecond is over; after the third failure each path that waits for this
synthesizer sets LOCKFAIL and goes to STANDBY. A calibration that holds such a path ends there: the spec names no RESULT for it, and
the model abandons it with ABORT (log entry 85). -/
def execRelockAttemptTimeout (p : Fin 8) (s : State) : Host.Outcome State Fault Refusal :=
  .next (if ¬ (s.rfp p).relock ∨ ¬ s.flag F.CLK_STAT_REFOK then s
    else ((s.driven p).foldl (fun s q =>
      let x := s.rfp q
      if ¬ x.relock then s
      else if x.attempts < 3 then s.setRfp q { x with attempts := x.attempts + 1 }
      else ((((s.setRfp q { x with relock := false, attempts := 0, failed := true }).rfFail q).fault (rfPage q) 2).evRise
        (rfPage q) 2)) s).streamsUpdate)

/-- SYNTH_RELOCK (R73, R74): the lock is back for every path that waits for this synthesizer; INVALID ends, but not that of a
retune. -/
def execSynthRelock (p : Fin 8) (band : BitVec 5) (s : State) : Host.Outcome State Fault Refusal :=
  .next (if (s.rfp p).relock ∧ s.flag F.CLK_STAT_REFOK ∧ s.loMaster p = p.val then
      ((s.driven p).foldl (fun s q =>
        if (s.rfp q).relock then
          ((((s.fputB (F.RF_STAT_LOCK q) true).fputB (F.RF_STAT_INVALID q) (s.rfp q).retune).setRfp q
            { s.rfp q with relock := false, attempts := 0 }).rfAdvance q)
        else s) (s.fput (F.RF_STAT_VCOBAND p) band.toNat)).streamsUpdate
    else s)

/-- The reference is lost: synthesizers lose lock and wait for it without counting attempts (R74). -/
def State.rfRefLoss (s : State) : State := paths.foldl (fun s p => s.rfUnlock 0 p) s

/-- The reference is back: the attempts begin, and paths waiting in Standby go on. Whether attempts made before the loss still
count is not stated: the model starts again at the first (log entry 85). -/
def State.rfRefReturn (s : State) : State :=
  paths.foldl (fun s p =>
    let s := if (s.rfp p).relock then s.setRfp p { s.rfp p with attempts := 1 } else s
    s.rfAdvance p) s

-- AGC (R67, R68)

/-- The rms of I and Q of the open block lies within 1 dB of TARGET, and above it: 2 n rms^2 is the block's sum, and 1 dB is the
tenth root of 10 in power. -/
def RfSt.within (x : RfSt) (target : Nat) : Bool :=
  decide ((2 * x.powN * target ^ 2) ^ 10 ≤ 10 * x.pow ^ 10 ∧ x.pow ^ 10 ≤ 10 * (2 * x.powN * target ^ 2) ^ 10)
def RfSt.above (x : RfSt) (target : Nat) : Bool := decide (2 * x.powN * target ^ 2 < x.pow)

/-- AGC_BLOCK: a 10 µs block of converter samples ends. One with a blanked sample counts among the first ten, but steps nothing
(R68); without samples (bypass, R99) there is no block. -/
def execAgcBlock (p : Fin 8) (s : State) : Host.Outcome State Fault Refusal :=
  let x := s.rfp p
  let t := s.fget (F.RF_AGC_TARGET p)
  let g := s.fget (F.RF_GAIN_GAIN p)
  let step := if x.agcBlocks < 10 then 4 else 1
  let g' := if x.within t then g else if x.above t then g - step else min 63 (g + step)
  let stuck := !x.within t && decide (g' = g)
  let ok := if x.within t then min 5 (x.agcOk + 1) else 0
  let y := { x with agcBlocks := min 10 (x.agcBlocks + 1), pow := 0, powN := 0, blk := s.blanked p }
  .next (
    if s.rfState p ≠ rfRECEIVE ∨ x.powN = 0 then s
    else if ¬ s.flag (F.RF_CTL_AGCEN p) then (s.setRfp p y).fput (F.RF_GAIN_GAIN p) (s.fget (F.RF_BB_MGAIN p).act)
    else if x.blk then s.setRfp p y
    else (((s.setRfp p { y with agcOk := ok, agcSat := stuck }).fput (F.RF_GAIN_GAIN p) g').fputB (F.RF_STAT_AGCSET p)
      (decide (5 ≤ ok))).when (stuck && !x.agcSat) (·.evRise (rfPage p) 3))

-- calibration (R78 to R80)

/-- Filter bandwidths of R66 in kHz. -/
def bwKHz (c : Nat) : Nat := [4000, 10000, 20000, 40000, 60000, 100000].getD c 100000

def State.badInj (s : State) (p : Nat) : Bool :=
  let n := s.loN p
  let i := s.fget F.INJ_INJN
  decide (i = n) || decide (bwKHz (s.fget (F.RF_BB_BW p).act) < 2 * 1023 * (if i < n then n - i else i - n))

/-- Step 3: the masked paths move to TRANSMIT. -/
def State.calMove (s : State) : State :=
  (({ s with rf.cal := .moving } : State) |> fun s =>
    (maskPaths s.rf.calMask).foldl (fun s p =>
      if s.rfState p = rfRECEIVE ∧ (s.rfp p).move = .idle then s.rfMove p .toTransmit else s) s).calMoved

/-- Start a calibration of `mask` (R79), or refuse it. Two points the spec leaves open are the model's choice (log entry 85): a
refused GO leaves CAL_STAT.DONE at 0, since that calibration replaced nothing; and GNTWAIT = 0 goes on without GNTTO, since no
wait takes place. -/
def State.calStart (s : State) (mask : Nat) : State :=
  if s.flag F.CAL_STAT_BUSY then s
  else if (maskPaths mask).any fun p => s.rfState p ≠ rfRECEIVE ∨ (s.rfp p).move ≠ .idle then
    (s.calEnd 1 0).evRise 0x028 13
  else if (maskPaths mask).any s.badInj then ((s.calEnd 4 0).fault 0x028 0).evRise 0x028 13
  else
    let s := { ((s.fputB F.CAL_STAT_BUSY true).fput F.CAL_STAT_DISC 0) with rf.calMask := mask, rf.cal := .waitGnt }
    if s.flag F.COEX_REQCAL ∧ s.fget F.COEX_GNTWAIT ≠ 0 ∧ ¬ s.coexGnt then s else s.calMove

def execCalGo (via : Via) (mask : Byte) (s : State) : Host.Outcome State Fault Refusal :=
  .next (s.guarded via 0x028 0x044 fun s => (s.fput F.CAL_CMD_MASK mask.toNat).calStart mask.toNat)

/-- The grant a calibration waits for is there (R79 step 2). -/
def State.gntSeen (s : State) : State := if s.rf.cal = .waitGnt ∧ s.coexGnt then s.calMove else s

/-- COEX_GNT takes a level, high when true; GNTPOL says which level asserts it (R79 step 2, R87). -/
def execCoexGnt (level : Bool) (s : State) : Host.Outcome State Fault Refusal :=
  .next ({ s with rf.gntWire := level } : State).gntSeen

/-- GNTWAIT has elapsed: GNTTO, and the calibration goes on. -/
def execGntwaitTimeout (s : State) : Host.Outcome State Fault Refusal :=
  .next (if s.rf.cal = .waitGnt then (s.evRise 0x028 15).calMove else s)

/-- CAL_BLOCK (R79 step 4, R80): a 1 ms block ends; it is accepted, or discarded when it has held a blanked sample. -/
def execCalBlock (s : State) : Host.Outcome State Fault Refusal :=
  let again := (maskPaths s.rf.calMask).any s.blanked
  .next (
    if s.rf.cal ≠ .blocks ∨ 10 ≤ s.rf.calOk then s
    else if s.rf.calBlank then
      let s := s.finc F.CAL_STAT_DISC
      if s.rf.calBad = 2 then s.calFail 2 else { s with rf.calBad := s.rf.calBad + 1, rf.calBlank := again }
    else { s with rf.calOk := s.rf.calOk + 1, rf.calBad := 0, rf.calBlank := again })

/-- What the ten blocks measured on path `p` against path `q`, the lowest in the mask (R78): its group delay, and phase and gain
relative to `q`'s, so those of `q` itself are 0. -/
def calRel (results : List (Half × Half × Half)) (p q : Nat) : Half × Half × Half :=
  let a := results.getD p (0, 0, 0)
  let b := results.getD q (0, 0, 0)
  (a.1, a.2.1 - b.2.1, a.2.2 - b.2.2)

/-- CAL_DONE (R78, R79 step 5): the correlator's delay in ps, phase in 2^-16 cycle and gain in 0.01 dB of each path, by path
number (log entry 3). -/
def execCalDone (results : List (Half × Half × Half)) (s : State) : Host.Outcome State Fault Refusal :=
  .next (
    if s.rf.cal ≠ .blocks ∨ s.rf.calOk < 10 then s
    else
      let m := s.rf.calMask
      let q := ((maskPaths m).head?).getD 0
      let s := (maskPaths m).foldl (fun s p =>
        let r := calRel results p q
        (((s.fput (F.RF_CALD_DELAY p) r.1.toNat).fput (F.RF_CALPG_PHASE p) r.2.1.toNat).fput
          (F.RF_CALPG_GAIN p) r.2.2.toNat).put96 (F.RF_CALT p) s.now) s
      let s := { ((s.calEnd 0 m).calRelease) with sieve.calUpd := true }
      (s.evRise 0x028 12).streamsUpdate)

/-- AUTOCAL_START (R82): every member of a retuned group is in RECEIVE. -/
def execAutocalStart (g : Fin 2) (s : State) : Host.Outcome State Fault Refusal :=
  .next (if s.rf.auto.contains g.val ∧ s.flag F.ARRAY_AUTOCAL.act ∧ s.groupMask g ≠ 0 ∧ s.rf.cal = .idle ∧
      (maskPaths (s.groupMask g)).all (fun p => decide (s.rfState p = rfRECEIVE ∧ (s.rfp p).move = .idle)) then
      { s with rf.auto := s.rf.auto.filter (· ≠ g.val) }.calStart (s.groupMask g)
    else s)

-- start-up calibrations (R415); the paths the image configures are its own affair (log entry 100)

def configured : List Nat := paths.filter Config.rfConfigured

/-- Every configured path is in RECEIVE with AGCSET. -/
def State.startReady (s : State) : Bool :=
  configured.all fun p => decide (s.rfState p = rfRECEIVE ∧ (s.rfp p).move = .idle) && s.flag (F.RF_STAT_AGCSET p)

/-- The masks in their order: the enabled groups, then the other paths by equal N, in ascending order of their lowest path. -/
def State.startMasks (s : State) : List Nat :=
  let gs := [0, 1].map s.groupMask |>.filter (· ≠ 0)
  let rest := configured.filter fun p => s.groupMask (p / 4) &&& 2 ^ p = 0
  gs ++ (rest.map fun p => (rest.filter fun q => decide (s.loN q = s.loN p)).foldl (fun m q => m + 2 ^ q) 0).dedup

/-- Calibrate a mask with INJN = N + 1. -/
def State.startOne (s : State) (x : StartCal) (m : Nat) : State :=
  let s := { s.fput F.INJ_INJN (s.loN ((maskPaths m).headD 0) + 1) with rf.start := some { x with cur := some m, tries := x.tries + 1 } }
  (s.fput F.CAL_CMD_MASK m).calStart m

/-- The values of a mask's paths go to zero. -/
def State.calZero (s : State) (m : Nat) : State :=
  (maskPaths m).foldl (fun s p => ((s.fput (F.RF_CALD_DELAY p) 0).fput (F.RF_CALPG_PHASE p) 0).fput (F.RF_CALPG_GAIN p) 0) s

/-- What the Warden does next for the start-up calibrations: a failed one is tried again after 1 s, three times; a mask that still
fails keeps zero values, and CALOK stays 0. -/
def State.startNext (s : State) : State :=
  match s.rf.start with
  | none => s
  | some x =>
    if s.flag F.CAL_STAT_BUSY then s
    else match x.cur, x.left with
    | some m, left =>
      if s.fget F.CAL_STAT_RESULT = 0 then { s with rf.start := some { x with cur := none, tries := 0, due := 0 } }
      else if x.tries < 4 then
        { s with rf.start := some { x with cur := none, left := some (m :: left.getD []), due := s.now + sec } }
      else { s.calZero m with rf.start := some { x with cur := none, tries := 0, due := 0, failed := true } }
    | none, none => if s.startReady then { s with rf.start := some { x with left := some s.startMasks } } else s
    | none, some (m :: ms) => if x.due ≤ s.now then s.startOne { x with left := some ms } m else s
    | none, some [] => { s.fputB F.SYS_BOOT_CALOK (!x.failed) with rf.start := none }

-- antenna bias (R83 to R85)

def antb (f : Fld) (n : Nat) : Fld := ⟨f.addr, f.lo + n, 1⟩

/-- ANTFLT of every path (R84). -/
def State.antFlt (s : State) : State :=
  let bad := (List.range 4).filter fun n =>
    s.flag (antb F.ANTB_STAT_OPEN n) || s.flag (antb F.ANTB_STAT_SHORT n) || s.flag (antb F.ANTB_STAT_TRIP n)
  paths.foldl (fun s p => if s.powered (rfPage p) then
      s.fputB (F.RF_STAT_ANTFLT p) (bad.any fun n => (s.fget (F.ANTB_CTL_PATHS n)).testBit p) else s) s

/-- OPENn and SHORTn take values; each change raises its event. -/
def State.antbSet (s : State) (n : Nat) (o sh : Bool) : State :=
  let co := s.flag (antb F.ANTB_STAT_OPEN n) ≠ o
  let cs := s.flag (antb F.ANTB_STAT_SHORT n) ≠ sh
  ((((s.fputB (antb F.ANTB_STAT_OPEN n) o).fputB (antb F.ANTB_STAT_SHORT n) sh).when (decide co) (·.evRise 0x028 n)).when
    (decide cs) (·.evRise 0x028 (4 + n))).antFlt

/-- A write of ANTBn_CTL: EN from 0 to 1 clears TRIP and ramps; EN = 0 ends blanking and clears OPEN and SHORT; a change of
V50 ramps, but not a tripped output. -/
def State.antbWrite (s : State) (n : Nat) (v : Word) : State :=
  let en0 := s.flag (F.ANTB_CTL_EN n)
  let v0 := s.flag (F.ANTB_CTL_V50 n)
  let s := s.store 0x028 (0x058 + 4 * n) v
  let en1 := s.flag (F.ANTB_CTL_EN n)
  let s := if ¬ en0 ∧ en1 then (s.fputB (antb F.ANTB_STAT_TRIP n) false).fputB (antb F.ANTB_STAT_BLANK n) true
    else if ¬ en1 then (s.fputB (antb F.ANTB_STAT_BLANK n) false).antbSet n false false
    else if v0 ≠ s.flag (F.ANTB_CTL_V50 n) ∧ ¬ s.flag (antb F.ANTB_STAT_TRIP n) then s.fputB (antb F.ANTB_STAT_BLANK n) true
    else s
  s.antFlt

def execAntbCtlWrite (via : Via) (n : Fin 4) (v : Word) (s : State) : Host.Outcome State Fault Refusal :=
  .next (s.guarded via 0x028 (0x058 + 4 * n.val) (·.antbWrite n v))

/-- The reading of output `n`: load current in µA, to ANTB_I in 0.1 mA. -/
def State.antbRead (s : State) (n ua : Nat) : State :=
  s.fput ([F.ANTB_I01_I_LO, F.ANTB_I01_I_HI, F.ANTB_I23_I_LO, F.ANTB_I23_I_HI].getD n F.ANTB_I01_I_LO) (min 0xFFFF (ua / 100))

/-- The comparators (R84): an open is a load current below OPENTH, a short an output below 80 % of the set voltage. -/
def State.antbOpen (s : State) (n ua : Nat) : Bool := decide (ua < (s.fget (F.ANTB_CTL_OPENTH n) + 1) * 500)
def State.antbShort (s : State) (n mv : Nat) : Bool := decide (mv < if s.flag (F.ANTB_CTL_V50 n) then 4000 else 2640)

/-- ANTB_BLANK_END (R84): 3 ms after the ramp's start, the comparators are sampled, at `ua` µA and `mv` mV. -/
def execAntbBlankEnd (n : Fin 4) (ua mv : Nat) (s : State) : Host.Outcome State Fault Refusal :=
  .next (if s.flag (antb F.ANTB_STAT_BLANK n) then
      ((s.fputB (antb F.ANTB_STAT_BLANK n) false).antbRead n ua).antbSet n (s.antbOpen n ua) (s.antbShort n mv)
    else s)

/-- ANTB_FAULT_DETECT (R84): two consecutive samples agree, the second at `ua` µA and `mv` mV, outside blanking. -/
def execAntbFaultDetect (n : Fin 4) (ua mv : Nat) (s : State) : Host.Outcome State Fault Refusal :=
  .next (if s.flag (F.ANTB_CTL_EN n) ∧ ¬ s.flag (antb F.ANTB_STAT_BLANK n) then
      (s.antbRead n ua).antbSet n (s.antbOpen n ua) (s.antbShort n mv)
    else s)

/-- ANTB_TRIP (R85): a load current above ILIM; never blanked. -/
def execAntbTrip (n : Fin 4) (ua : Nat) (s : State) : Host.Outcome State Fault Refusal :=
  .next (if s.flag (F.ANTB_CTL_EN n) ∧ ¬ s.flag (antb F.ANTB_STAT_TRIP n) ∧ (s.fget (F.ANTB_CTL_ILIM n) + 1) * 25000 < ua then
      (((s.antbRead n ua).fputB (antb F.ANTB_STAT_TRIP n) true).evRise 0x028 (8 + n.val)).antFlt
    else s)

-- coexistence (R86)

/-- COEX_TXACT follows its wire in TXPOL's sense: an asserting edge blanks, counts and raises TXACT; the releasing edge starts the
tail. -/
def State.txactFollow (s : State) : State :=
  let a := s.rf.txWire ^^ s.flag F.COEX_TXPOL
  if a = s.rf.txact then s
  else if a then
    let s := { ((s.finc F.COEX_CNT).evRise 0x028 14) with rf.txact := true, rf.tail := false }
    { s with rf.calBlank := s.rf.calBlank || (maskPaths s.rf.calMask).any s.blanked }
  else { s with rf.txact := false, rf.tail := decide (s.fget F.COEX_TXTAIL ≠ 0) }

/-- The wire takes the level that asserts COEX_TXACT. -/
def execCoexTxactAssert (s : State) : Host.Outcome State Fault Refusal :=
  .next ({ s with rf.txWire := !s.flag F.COEX_TXPOL } : State).txactFollow

/-- The wire takes the level that releases COEX_TXACT: blanking goes on for TXTAIL. -/
def execCoexTxactRelease (s : State) : Host.Outcome State Fault Refusal :=
  .next ({ s with rf.txWire := s.flag F.COEX_TXPOL } : State).txactFollow

/-- A write of COEX: the wires are read in their new polarity (R87). -/
def State.coexWrite (s : State) (v : Word) : State := ((s.store 0x028 0x04C v).txactFollow).gntSeen

def execBlankTailEnd (s : State) : Host.Outcome State Fault Refusal := .next { s with rf.tail := false }

/-- A write of INJ: a LVL above 40 reads back as 40 (R77). -/
def State.injWrite (s : State) (v : Word) : State :=
  let s := s.store 0x028 0x040 v
  if 40 < s.fget F.INJ_LVL then s.fput F.INJ_LVL 40 else s

end Sys2Proof.Machine
end

