-- ==== Sys2Proof/Machine/Reply.lean ====
section
/-! DEFINITION. How the Warden takes a tenant's command and answers it (16: R302, R315 to R319): the sequence
number, the reply cache, and commands that wait for hardware. -/

namespace Sys2Proof.Machine

-- reply codes (R319)

def cOK : Nat := 0
def cBADCMD : Nat := 1
def cBADARG : Nat := 2
def cRIGHTS : Nat := 3
def cAUTH : Nat := 4
def cINUSE : Nat := 5
def cNOCTX : Nat := 6
def cSEQGAP : Nat := 7
def cUNSUPP : Nat := 8
def cLIMIT : Nat := 9
def cSCHEDFULL : Nat := 10
def cTOOBIG : Nat := 11
def cREFUSED : Nat := 12
def cFAULTED : Nat := 13

/-- A REPLY payload (R319). -/
def replyPayload (op status cseq icred : Nat) (res : List Byte) : List Byte :=
  leBytes 2 op ++ leBytes 2 status ++ leBytes 2 cseq ++ leBytes 2 icred ++ res

/-- Inbound credits of a tenant, as a reply reports them. -/
def State.icred (s : State) (t : Nat) : Nat := min (s.queue (2 * t)).cred 0xFFFF

/-- Answer a command and keep the reply in the cache of 32 (R316, R317). -/
def State.reply (s : State) (t op seq code : Nat) (res : List Byte) : State :=
  let r : Reply := ⟨seq, op, code, if res.length ≤ 2 then res else [], decide (2 < res.length)⟩
  let s := s.updTenant t fun x => { x with cache := (r :: x.cache.filter fun c => c.seq ≠ seq).take 32 }
  s.sendReply t (replyPayload op code seq (s.icred t) res)

/-- What the sequence number makes of a CMD frame (R316). -/
inductive Verdict where
  | accept
  | again (r : Reply)
  | running
  | gap
  deriving DecidableEq, Repr

def Tenant.classify (x : Tenant) (seq : Nat) : Verdict :=
  match x.lastSeq with
  | none => .accept
  | some l =>
    if seq = (l + 1) % 65536 then .accept
    else if 31 < (l + 65536 - seq) % 65536 then .gap
    else match x.cache.find? fun r => r.seq = seq with
      | some r => .again r
      | none => if x.running.any fun c => c.2 = seq then .running else .gap

/-- How a command ends: with a reply, later when its hardware is done, or without one. -/
inductive Done where
  | reply (code : Nat) (res : List Byte)
  | pending
  | silent
  deriving DecidableEq, Repr

/-- CREDIT, RESET and CLOSE are the commands a tenant in FAULT keeps (R325); they and QUENCH never wait behind a
command that is still executing (R315). -/
def keptInFault (op : Nat) : Bool := decide (op = 0x0002 ∨ op = 0x0003 ∨ op = 0x0004)
def neverHeld (op : Nat) : Bool := keptInFault op || decide (op = 0x0005)

/-- Answer a repeated command from the cache (R316, R317), under a new SEQ (R318). -/
def State.replyAgain (s : State) (t : Nat) (r : Reply) : State :=
  (s.updTenant t fun x => { x with rep := satInc 16 x.rep }).sendReply t
    (replyPayload r.op (0x8000 + (if r.trunc then 0x4000 else 0) + r.status) r.seq (s.icred t) r.res)

/-- Answer a command out of sequence with the expected SEQ (R316). -/
def State.replyGap (s : State) (t op seq : Nat) : State :=
  let want := ((s.tenant t).lastSeq.getD 0 + 1) % 65536
  (s.updTenant t fun x => { x with gaps := satInc 16 x.gaps }).sendReply t
    (replyPayload op cSEQGAP seq (s.icred t) (leBytes 2 want))

/-- The Warden takes a command of tenant `t` with sequence number `seq` (R315, R316, R325) and carries `f` out. -/
def State.command (s : State) (t op seq : Nat) (f : State → Done × State) : State :=
  let x := s.tenant t
  if ¬ x.live ∨ (x.state = .fault ∧ ¬ keptInFault op) then s
  else match x.classify seq with
    | .again r => s.replyAgain t r
    | .running => s
    | .gap => s.replyGap t op seq
    | .accept =>
      if x.running ≠ [] ∧ ¬ neverHeld op then s
      else
        let (d, s) := f (s.updTenant t fun x => { x with lastSeq := some seq })
        match d with
        | .reply code res => s.reply t op seq code res
        | .pending => s.updTenant t fun x => { x with running := x.running ++ [(op, seq)] }
        | .silent => s

/-- The tenant whose command `op` is waiting for its hardware, with the command's SEQ. -/
def State.runner (s : State) (op : Nat) : Option (Nat × Nat) :=
  s.tn.tenants.findSome? fun e => (e.2.running.find? fun c => c.1 = op).map fun c => (e.1, c.2)

/-- The hardware of command `op` is done: the waiting tenant gets its reply. -/
def State.complete (s : State) (op code : Nat) (res : List Byte) : State :=
  match s.runner op with
  | some (t, seq) =>
    (s.updTenant t fun x => { x with running := x.running.filter fun c => c ≠ (op, seq) }).reply t op seq code res
  | none => s

/-- A command only tenant 0 may give (R320). -/
def ownerOnly (t : Nat) (f : State → Done × State) (s : State) : Done × State :=
  if t = 0 then f s else (.reply cRIGHTS [], s)

/-- A reply that carries only its code. -/
def done (code : Nat) (s : State) : Done × State := (.reply code [], s)

def argWord (ws : List Word) (i : Nat) : Nat := (ws.getD i 0).toNat

end Sys2Proof.Machine
end

