-- ==== Sys2Proof/Machine/Num.lean ====
section
/-! DEFINITION. The arithmetic the signal path is written with: whole roots and decibels compared exactly, the carrier replica and
its inverse in fixed point, and complex numbers as pairs. Where a rule gives a formula over the reals, these give it to the
precision said here, which no rule fixes (log entry 86). -/

namespace Sys2Proof.Machine

/-- A complex number: real part, imaginary part. -/
abbrev Cx := Int × Int

def cadd (a b : Cx) : Cx := (a.1 + b.1, a.2 + b.2)
def cmul (a b : Cx) : Cx := (a.1 * b.1 - a.2 * b.2, a.1 * b.2 + a.2 * b.1)
def conj (a : Cx) : Cx := (a.1, -a.2)
def norm2 (a : Cx) : Nat := (a.1 * a.1 + a.2 * a.2).toNat
def csum (l : List Cx) : Cx := l.foldl cadd (0, 0)
/-- Both parts divided by `n`, rounded to nearest. -/
def cdiv (a : Cx) (n : Int) : Cx := (roundDiv a.1 n, roundDiv a.2 n)
/-- Both parts divided by `n`, rounded down. -/
def cfloor (a : Cx) (n : Int) : Cx := (a.1 / n, a.2 / n)

def sumInt (l : List Int) : Int := l.foldl (· + ·) 0
def sumNat (l : List Nat) : Nat := l.foldl (· + ·) 0
/-- The sum of `f i` for `i` below `n`. -/
def sumTo (n : Nat) (f : Nat → Cx) : Cx := csum ((List.range n).map f)

-- roots and powers of ten

def rootBits (n k : Nat) : Nat → Nat → Nat
  | 0, r => r
  | b + 1, r => rootBits n k b (if (r + 2 ^ b) ^ n ≤ k then r + 2 ^ b else r)

/-- The greatest whole number whose `n`-th power is at most `k`. -/
def nthRoot (n k : Nat) : Nat := rootBits n k (Nat.log2 k / n + 1) 0
def isqrt (k : Nat) : Nat := nthRoot 2 k

/-- 10^(g/20), the amplitude of `g` dB, in 2^-16. -/
def gainQ16 (g : Nat) : Nat := nthRoot 20 (10 ^ g * 2 ^ 320)

/-- 10^(c/2000), the amplitude of `c` hundredths of a dB, in 2^-30. -/
def ampQ30 (c : Int) : Int := nthRoot 2000 (if 0 ≤ c then 10 ^ c.toNat * 2 ^ 60000 else 2 ^ 60000 / 10 ^ (-c).toNat)

/-- Is `n / d` at least `k` units of 1/u dB of power? Compared by the (10 u)-th powers. -/
def dbLe (u n d : Nat) (k : Int) : Bool :=
  if 0 ≤ k then decide (10 ^ k.toNat * d ^ (10 * u) ≤ n ^ (10 * u))
  else decide (d ^ (10 * u) ≤ 10 ^ (-k).toNat * n ^ (10 * u))

def dbBits (u n d : Nat) : Nat → Int → Int
  | 0, r => r
  | b + 1, r => dbBits u n d b (if dbLe u n d (r + 2 ^ b) then r + 2 ^ b else r)

/-- The power ratio `n / d` in units of 1/16 dB, rounded down, between -4,096 and 4,095 (R143, R144, R179). -/
def dB16 (n d : Nat) : Int := dbBits 16 n d 13 (-4096)

-- the circle

/-- 2 pi in 2^-62. -/
def twoPi : Nat := 28976077832308491369

/-- Terms of the series of sine and cosine: `t` is the term before, `x2` the angle squared, both in 2^-62. -/
def series (x2 : Int) : Nat → Nat → Int → Int
  | 0, _, t => t
  | fuel + 1, k, t => t + series x2 fuel (k + 2) (-(t * x2) / (2 ^ 62 * (k * (k + 1) : Nat)))

/-- (cos, sin) of `a / 2^32` of a cycle in 2^-30. -/
def cis (a : Int) : Cx :=
  let n := (a % 2 ^ 32).toNat
  let x : Int := (n % 2 ^ 30 * twoPi / 2 ^ 32 : Nat)
  let x2 := x * x / 2 ^ 62
  let c := roundDiv (series x2 16 1 (2 ^ 62)) (2 ^ 32)
  let s := roundDiv (series x2 16 2 x) (2 ^ 32)
  if n / 2 ^ 30 = 0 then (c, s) else if n / 2 ^ 30 = 1 then (-s, c) else if n / 2 ^ 30 = 2 then (-c, -s) else (s, -c)

def angleBits (v : Cx) : Nat → Nat → Nat
  | 0, r => r
  | b + 1, r =>
    let u := cis (r + 2 ^ b)
    angleBits v b (if 0 ≤ u.1 * v.2 - u.2 * v.1 then r + 2 ^ b else r)

/-- atan2(y, x) in 2^-32 cycle, rounded down, from -2^31 on. -/
def atan2 (y x : Int) : Int :=
  if 0 < y ∨ (y = 0 ∧ 0 ≤ x) then angleBits (x, y) 31 0 else (angleBits (-x, -y) 31 0 : Int) - 2 ^ 31

/-- Costas discriminator atan(Q / I) in 2^-32 cycle (R177). -/
def costas (v : Cx) : Int := if 0 ≤ v.1 then atan2 v.2 v.1 else atan2 (-v.2) (-v.1)

-- spectra (R109, R110)

/-- The Hann window of 4,096 points, in 2^-31: its mean square is 0.375. -/
def hann (n : Nat) : Int := 2 ^ 30 - (cis (n * 2 ^ 20)).1

/-- |X_b|^2 of a frame's samples in 2^-16 LSB, in LSB^2: bin b lies (b - 2,048) / 4,096 of the sample rate from the centre. -/
def binPower (xs : List Cx) (b : Nat) : Nat :=
  let x := csum (xs.zipIdx.map fun x =>
    let h := hann x.2
    let c := cis (-(((b : Int) - 2048) * x.2) * 2 ^ 20)
    cfloor (cmul (x.1.1 * h, x.1.2 * h) c) (2 ^ 31))
  norm2 x / 2 ^ 92

def framePower (xs : List Cx) : List Nat := (List.range 4096).map (binPower xs)

def addLists (a b : List Nat) : List Nat := (a.zip b).map fun x => x.1 + x.2

def insNat (x : Nat) : List Nat → List Nat
  | [] => [x]
  | y :: r => if x ≤ y then x :: y :: r else y :: insNat x r
/-- The median: the upper of the two middle values when there are two. -/
def median (l : List Nat) : Nat := (l.foldr insNat []).getD (l.length / 2) 0

end Sys2Proof.Machine
end

