-- ==== Sys2Proof/Machine/Sieve.lean ====
section
/-! DEFINITION. The Sieve (06: R100 to R119): notches, I/Q correction, the spectral monitor, and what a commit of
its pages does. -/

namespace Sys2Proof.Machine

def svPage (p : Nat) : Nat := 0x030 + p

def State.lane (s : State) (p : Nat) : LaneSt := Tab.get (fun _ => {}) s.sieve.lanes p
def State.setLane (s : State) (p : Nat) (x : LaneSt) : State := { s with sieve.lanes := Tab.set (fun _ => {}) s.sieve.lanes p x }
def State.laneOut (s : State) (p : Nat) : LaneOut := Tab.get (fun _ => {}) s.sieve.outs p
def State.setLaneOut (s : State) (p : Nat) (x : LaneOut) : State := { s with sieve.outs := Tab.set (fun _ => {}) s.sieve.outs p x }

def State.str (s : State) (m : Nat) : StrSt := Tab.get (fun _ => {}) s.sieve.strs m
def State.setStr (s : State) (m : Nat) (x : StrSt) : State := { s with sieve.strs := Tab.set (fun _ => {}) s.sieve.strs m x }

/-- The signed value of `w` bits. -/
def signed (w v : Nat) : Int := if v % 2 ^ w < 2 ^ (w - 1) then (v % 2 ^ w : Nat) else ((v % 2 ^ w : Nat) : Int) - 2 ^ w
/-- Two's complement of `v` in `w` bits. -/
def unsigned (w : Nat) (v : Int) : Nat := (v % 2 ^ w).toNat

-- notches (R106 to R108)

def ntOFF : Nat := 0
def ntFIXED : Nat := 1
def ntTRACK : Nat := 2
def ntAUTO : Nat := 3

def State.notchMode (s : State) (p k : Nat) : Nat := s.fget (F.NOTCH_MODE p k).act
def State.notchOn (s : State) (p k : Nat) : Bool := s.flag (F.NSTAT_ON p k)

/-- Do two frequency codes lie within `n` widths of notch `k`? A code is 163.68 MHz / 65,536 and a width 2^BW kHz. -/
def State.within (s : State) (p k n : Nat) (a b : Int) : Bool :=
  decide ((a - b).natAbs * 163680 ≤ n * 2 ^ min 9 (s.fget (F.NOTCH_BW p k).act) * 65536)

def State.notchFreq (s : State) (p k : Nat) : Int := signed 16 (s.fget (F.NSTAT_FREQ p k))

/-- A TRACK notch follows the strongest carrier within four widths of where it stands; `miss` counts the averages in a row in which a
TRACK or AUTO notch found none within that reach. -/
def State.notchTrack (s : State) (p : Nat) (cs : List Int) (k : Nat) : State :=
  let m := s.notchMode p k
  if (m = ntTRACK ∨ m = ntAUTO) ∧ s.notchOn p k then
    let o := s.laneOut p
    let put (n : Nat) : State := s.setLaneOut p { o with miss := (List.range 8).map fun j => if j = k then n else o.miss.getD j 0 }
    match cs.find? fun c => s.within p k 4 c (s.notchFreq p k) with
    | some c =>
      let s := (put 0).fputB (F.NSTAT_LOCKED p k) true
      if m = ntTRACK then s.fput (F.NSTAT_FREQ p k) (unsigned 16 c) else s
    | none => put (o.miss.getD k 0 + 1)
  else s

/-- A carrier more than one width from every notch in use goes to the lowest free AUTO notch. -/
def State.notchAssign (s : State) (p : Nat) (c : Int) : State :=
  if (List.range 8).any fun k => s.notchOn p k && s.within p k 1 c (s.notchFreq p k) then s
  else match (List.range 8).find? fun k => decide (s.notchMode p k = ntAUTO) && !s.notchOn p k with
    | some k => (((s.fputB (F.NSTAT_ON p k) true).fputB (F.NSTAT_LOCKED p k) true).fput (F.NSTAT_FREQ p k)
        (unsigned 16 c)).evRise (svPage p) 1
    | none => s

/-- Put a bin before the weaker ones. -/
def insBin (x : Nat × Nat) : List (Nat × Nat) → List (Nat × Nat)
  | [] => [x]
  | y :: r => if y.2 < x.2 then x :: y :: r else y :: insBin x r

/-- The carriers of an average (R107): bins that exceed the median bin by DETTHR dB, strongest first, as frequency codes; a bin is 16
codes wide. -/
def carriers (thr : Nat) (bins : List Nat) : List Int :=
  let med := median bins
  let hits := bins.zipIdx.filter fun x => decide (10 ^ thr * med ^ 10 < x.1 ^ 10)
  (hits.foldl (fun l x => insBin (x.2, x.1) l) []).map fun x => ((x.1 : Int) - 2048) * 16

/-- NOTCH_DETECT (R107): an average of 16 monitor frames taken before the notches is there, and carriers are followed and assigned,
strongest first. -/
def execNotchDetect (p : Fin 8) (s : State) : Host.Outcome State Fault Refusal :=
  let o := s.laneOut p
  .next (if s.byp ∨ o.detN < 16 then s
    else
      let cs := carriers (s.fget (F.NDET_DETTHR p)) o.det
      let s := s.setLaneOut p { o with detN := 0, det := [] }
      cs.foldl (fun s c => s.notchAssign p c) ((List.range 8).foldl (fun s k => s.notchTrack p cs k) s))

/-- NOTCH_LOST (R107): the carrier of a TRACK or AUTO notch has stayed below the threshold for 10 ms, which is 25 averages of
400.4 µs. -/
def execNotchLost (p k : Fin 8) (s : State) : Host.Outcome State Fault Refusal :=
  let m := s.notchMode p k
  .next (if ¬ s.byp ∧ s.notchOn p k ∧ (m = ntTRACK ∨ m = ntAUTO) ∧ 25 ≤ (s.laneOut p).miss.getD k 0 then
      let o := s.laneOut p
      let s := s.setLaneOut p { o with miss := (List.range 8).map fun j => if j = k.val then 0 else o.miss.getD j 0 }
      let s := s.fputB (F.NSTAT_LOCKED p k) false
      (s.when (decide (m = ntAUTO)) (·.fputB (F.NSTAT_ON p k) false)).evRise (svPage p) 2
    else s)

/-- Notch `k` restarts with its active settings (R106, R108). -/
def State.notchRestart (s : State) (p k : Nat) : State :=
  let m := s.notchMode p k
  let s := (s.fputB (F.NSTAT_LOCKED p k) false).fputB (F.NSTAT_ON p k) (decide (m = ntFIXED ∨ m = ntTRACK))
  if m = ntFIXED ∨ m = ntTRACK then s.fput (F.NSTAT_FREQ p k) (s.fget (F.NOTCH_FREQ p k).act) else s

/-- After a commit (R108): a notch whose MODE or FREQ changed restarts, but an AUTO notch in use keeps its carrier through every
commit that does not turn it off. -/
def State.notchCommitted (s old : State) (p : Nat) : State :=
  (List.range 8).foldl (fun s k =>
    let changed := decide (old.notchMode p k ≠ s.notchMode p k ∨
      old.fget (F.NOTCH_FREQ p k).act ≠ s.fget (F.NOTCH_FREQ p k).act)
    let keeps := decide (old.notchMode p k = ntAUTO ∧ s.notchMode p k ≠ ntOFF) && old.notchOn p k
    if changed && !keeps then s.notchRestart p k else s) s

-- DC and I/Q correction (R103)

/-- IQ_BLOCK: a 10 ms block ends. The corrected samples have the second moments A = sum I'^2, B = sum Q'^2 and C = sum I'Q'; the
estimates become those that would have made C zero and B equal to A: with r = sqrt(A B - C^2), g A / r and (p A - C) / r, in 2^-15.
IQEN = 0 and DCEN = 0 hold zero. -/
def execIqBlock (p : Fin 8) (s : State) : Host.Outcome State Fault Refusal :=
  let x := s.lane p
  let iq := s.flag (F.SV_CTL_IQEN p)
  let g := 2 ^ 15 + signed 16 (s.fget (F.SV_IQ_G p))
  let q := signed 16 (s.fget (F.SV_IQ_P p))
  let r : Int := isqrt (x.mII * x.mQQ - x.mIQ.natAbs ^ 2)
  let g' := if ¬ iq then 0 else if r = 0 then g - 2 ^ 15 else clampInt (-3276) 3276 (roundDiv (g * x.mII) r - 2 ^ 15)
  let q' := if ¬ iq then 0 else if r = 0 then q else clampInt (-6553) 6553 (roundDiv (q * x.mII - x.mIQ * 2 ^ 15) r)
  let lim := iq && decide (g' = 3276 ∨ g' = -3276 ∨ q' = 6553 ∨ q' = -6553)
  .next (if s.byp then s
    else (((s.setLane p { x with mII := 0, mQQ := 0, mIQ := 0 }).fput (F.SV_IQ_G p) (unsigned 16 g')).fput (F.SV_IQ_P p)
      (unsigned 16 q')).when lim (·.evRise (svPage p) 3))

-- spectral monitor (R109, R110)

/-- A readout begins: PATH, TAP and AVG as they stand, from the next whole frame on. -/
def State.readoutStart (s : State) : State :=
  let r : Readout := { path := s.fget F.SM_CTL_PATH, tap := s.fget F.SM_CTL_TAP, want := 2 ^ min 12 (s.fget F.SM_CTL_AVG),
                       since := s.adcN }
  { ((s.fputB F.SM_STAT_BUSY true).fput F.SM_STAT_DISC 0) with sieve.readout := some r }

/-- SM_CTL.GO: ignored while BUSY, with SMBUSY set. -/
def State.spectrumStart (s : State) : State := if s.flag F.SM_STAT_BUSY then s.fault 0x039 0 else s.readoutStart

def execSpectrumGo (via : Via) (s : State) : Host.Outcome State Fault Refusal :=
  .next (s.gated (.spectrumGo via) via 0x039 0x040 State.spectrumStart)

/-- The words of a readout (R110): the mean over its frames of |X_b|^2 / (4,096 x 0.375), saturating. -/
def Readout.words (r : Readout) : List Word :=
  (List.range 4096).map fun b => BitVec.ofNat 32 (min 0xFFFFFFFF (r.sums.getD b 0 / (1536 * r.want)))

/-- SPECTRUM_DONE: the frames a readout wants are in. A tenant's SPECTRUM command (R320) gets its words as its result. -/
def execSpectrumDone (s : State) : Host.Outcome State Fault Refusal :=
  .next (match s.sieve.readout with
    | none => s
    | some r =>
      if ¬ s.flag F.SM_STAT_BUSY ∨ r.n < r.want then s
      else
        let s := s.combWrite 5 (s.fget F.SM_ADDR_ADDR * 64) (wordBytes r.words)
        let s := ({ s with sieve.readout := none }.fputB F.SM_STAT_BUSY false).put96 F.SM_T r.t
        let s := (s.when (s.flag F.SM_CTL_CONT) State.readoutStart).evRise 0x039 0
        s.complete 0x0029 cOK (wordBytes (timeWords r.t ++ r.words)))

-- what a commit keeps (R117)

/-- SRC codes of R116. -/
def srcReserved (n : Nat) : Bool := decide ((9 < n ∧ n < 16) ∨ n = 23 ∨ 30 < n)

def State.strBad (s : State) (m : Nat) : Bool :=
  let src := s.fget (F.STR_SRC m)
  let sh := s.fget (F.STR_SHIFT m)
  let wd := s.fget (F.STR_WIDTH m)
  let dc := s.fget (F.STR_DECIM m)
  let slot (port k : Nat) : Bool :=
    decide (sh ≠ 0 ∨ dc ≠ s.fget (F.PP_SLOT_DECIM port k) ∨ wd ≠ s.fget (F.PP_SLOT_WIDTH port k))
  srcReserved src || decide (5120 < (signed 14 sh).natAbs) || (decide (2 ≤ wd) && decide (s.fget (F.STR_DEST m) ≠ 4)) ||
    (decide (wd = 3) && decide (dc ≠ 0 ∨ sh ≠ 0 ∨ 7 < src)) ||
    (decide (16 ≤ src ∧ src < 23) && slot 0 (src - 16)) || (decide (24 ≤ src ∧ src < 31) && slot 1 (src - 24))

/-- Streams that would run toward a Penholt port (bit 3 or 4 of DEST), by what the commit would make active. -/
def State.penStreams (s : State) (bit : Nat) : List Nat :=
  (List.range 24).filter fun m =>
    if s.strBad m then s.flag (F.STR_EN m).act && (s.fget (F.STR_DEST m).act).testBit bit
    else s.flag (F.STR_EN m) && (s.fget (F.STR_DEST m)).testBit bit

/-- The streams a commit keeps for BADSTREAM, and for PENFULL. -/
def State.strKeep (s : State) : List Nat × List Nat :=
  let bad := (List.range 24).filter s.strBad
  let full := [3, 4].filter fun b => decide (7 < (s.penStreams b).length)
  (bad, (List.range 24).filter fun m => full.any fun b => (s.fget (F.STR_DEST m)).testBit b)

/-- Does a commit of SIEVEX leave the active value at offset `o` as it is? -/
def State.sievexKeep (s : State) (o : Nat) : Bool :=
  let (bad, full) := s.strKeep
  if 0x050 ≤ o ∧ o < 0x070 then decide (s.fget (F.CMB_CTL_MODE ((o - 0x050) / 16)) = 2)
  else if 0x080 ≤ o ∧ o < 0x0E0 then bad.contains ((o - 0x080) / 4) || full.contains ((o - 0x080) / 4)
  else if 0x0E0 ≤ o ∧ o < 0x140 then bad.contains ((o - 0x0E0) / 4)
  else false

/-- Does stream `m` run, and differently from before a commit (R118), or newly? -/
def State.strMoved (s old : State) (m : Nat) : Bool :=
  s.flag (F.STR_EN m).act && decide (¬ old.flag (F.STR_EN m).act ∨
    old.fget (F.STR_SRC m).act ≠ s.fget (F.STR_SRC m).act ∨ old.fget (F.STR_SHIFT m).act ≠ s.fget (F.STR_SHIFT m).act ∨
    old.fget (F.STR_DECIM m).act ≠ s.fget (F.STR_DECIM m).act ∨ old.fget (F.STR_WIDTH m).act ≠ s.fget (F.STR_WIDTH m).act)

/-- After a commit of SIEVEX: the fault bits; streams that start or whose source, shift, rate or width changed are INVALID for 2 µs,
328 sample ticks (R117, R118); a group put into NULL mode has found no weights yet. -/
def State.sievexCommitted (s old : State) : State :=
  let (bad, full) := old.strKeep
  let s := (s.when (decide (bad ≠ [])) (·.fault 0x038 0)).when (decide (full ≠ [])) (·.fault 0x038 1)
  let s := (List.range 24).foldl (fun s m => if s.strMoved old m then s.setStr m { inv := 328 } else s) s
  let s := [0, 1].foldl (fun (s : State) g => if old.fget (F.CMB_CTL_MODE g).act ≠ s.fget (F.CMB_CTL_MODE g).act then
    { s with sieve.nullW := Tab.set (fun _ => none) s.sieve.nullW g none } else s) s
  s.streamsUpdate

end Sys2Proof.Machine
end

