-- ==== Sys2Proof/Machine/Signals.lean ====
section
/-! DEFINITION. Signals and the words of a channel (07: R120 to R128), what the streams carry (06: R116, 09: R154),
and the code stores of the Hives. -/

namespace Sys2Proof.Machine

-- CHk_SIG (R120, R121)

def sgSIG (w : Word) : Nat := w.toNat % 64
def sgCOMP (w : Word) : Nat := w.toNat / 64 % 4
def sgSECSTRIP (w : Word) : Bool := w.getLsbD 8
def sgFCN (w : Word) : Int := signed 4 (w.toNat / 4096)
def sgPRN (w : Word) : Nat := w.toNat / 65536 % 256

/-- PRN range of a signal, and whether PILOT and BOTH are allowed (R121). -/
def sigRow (n : Nat) : Option (Nat × Nat × Bool) :=
  if n = 1 then some (1, 32, false)
  else if 2 ≤ n ∧ n ≤ 4 then some (1, 32, true)
  else if 5 ≤ n ∧ n ≤ 8 then some (1, 50, true)
  else if n = 9 ∨ n = 12 then some (1, 63, false)
  else if n = 10 ∨ n = 11 then some (1, 63, true)
  else if n = 13 ∨ n = 14 then some (1, 24, false)
  else if n = 15 then some (0, 63, true)
  else if n = 16 then some (193, 202, false)
  else if 17 ≤ n ∧ n ≤ 19 then some (193, 202, true)
  else if n = 20 then some (1, 14, false)
  else if n = 21 then some (120, 158, false)
  else none

/-- R122 without the code store. -/
def sigOk (w : Word) : Bool :=
  match sigRow (sgSIG w) with
  | none => false
  | some (lo, hi, all) =>
    decide (sgCOMP w ≠ 3) && (all || decide (sgCOMP w = 0)) && decide (lo ≤ sgPRN w ∧ sgPRN w ≤ hi) &&
      decide (sgFCN w = 0 ∨ sgSIG w = 13 ∨ sgSIG w = 14) && decide (sgFCN w ≠ -8 ∧ sgFCN w ≠ 7)

/-- Carrier in Hz (R123). -/
def carrierHz (w : Word) : Int :=
  let n := sgSIG w
  if n = 3 ∨ n = 18 then 1227600000
  else if n = 4 ∨ n = 6 ∨ n = 11 ∨ n = 19 ∨ n = 20 then 1176450000
  else if n = 7 then 1207140000
  else if n = 8 then 1278750000
  else if n = 9 then 1561098000
  else if n = 12 then 1268520000
  else if n = 13 then 1602000000 + sgFCN w * 562500
  else if n = 14 then 1246000000 + sgFCN w * 437500
  else if n = 15 then 1202025000
  else 1575420000

/-- Length of the primary code the chip index follows (R123, R155). -/
def primaryLen (n : Nat) : Nat :=
  if n = 3 ∨ n = 18 then 1534500
  else if n = 1 ∨ n = 16 ∨ n = 20 ∨ n = 21 then 1023
  else if n = 5 then 4092
  else if n = 8 then 5115
  else if n = 9 then 2046
  else if n = 13 ∨ n = 14 then 511
  else 10230

/-- Chips of the tracked component's secondary code, 1 when it has none (R124). -/
def secondaryLen (w : Word) : Nat :=
  let n := sgSIG w
  let pilot := decide (sgCOMP w ≠ 0)
  if n = 2 ∨ n = 17 ∨ n = 10 then (if pilot then 1800 else 1)
  else if n = 4 ∨ n = 19 then (if pilot then 20 else 10)
  else if n = 5 then (if pilot then 25 else 1)
  else if n = 6 then (if pilot then 100 else 20)
  else if n = 7 then (if pilot then 100 else 4)
  else if n = 8 then (if pilot then 100 else 1)
  else if n = 9 ∨ n = 12 then (if 6 ≤ sgPRN w then 20 else 1)
  else if n = 11 then (if pilot then 100 else 5)
  else if n = 15 then (if pilot then 10 else 5)
  else 1

/-- Modulus of the chip index (R155). -/
def chipMod (w : Word) : Nat := primaryLen (sgSIG w) * (if sgSECSTRIP w then secondaryLen w else 1)

/-- Navigation symbols per second (R129). -/
def symbolHz (w : Word) : Nat :=
  let n := sgSIG w
  if n = 1 ∨ n = 16 ∨ n = 3 ∨ n = 18 ∨ n = 6 ∨ n = 20 then 50
  else if n = 5 ∨ n = 7 then 250
  else if n = 8 then 1000
  else if n = 9 ∨ n = 12 then (if 6 ≤ sgPRN w then 50 else 500)
  else if n = 11 ∨ n = 15 then 200
  else if n = 21 then 500
  else 100

/-- Units of 256 bytes a memory code of the signal takes (R123, R127); 0 for generated codes. -/
def memUnits (n : Nat) : Nat :=
  if n = 5 then 2 else if n = 8 then 3 else if n = 2 ∨ n = 10 ∨ n = 17 then 5 else 0

/-- Is the tracked component's secondary code a stored one (R124)? -/
def secStored (w : Word) : Bool :=
  let n := sgSIG w
  sgSECSTRIP w && decide (sgCOMP w ≠ 0) &&
    decide (n = 2 ∨ n = 6 ∨ n = 7 ∨ n = 8 ∨ n = 10 ∨ n = 11 ∨ n = 17)

/-- The runs of code-store units a channel names by its SIG and CODE words: first unit and count (R120, R127). -/
def namedUnits (sig code : Word) : List (Nat × Nat) :=
  let m := memUnits (sgSIG sig)
  let c := code.toNat
  (if m ≠ 0 then [(c % 1024, m)] else []) ++
    (if m ≠ 0 ∧ sgCOMP sig = 2 then [(c / 1024 % 1024, m)] else []) ++
    (if secStored sig then [(c / 2 ^ 20 % 1024, 1)] else [])

/-- Half-width B of the main lobes in Hz (R126). -/
def lobeHz (n : Nat) : Int :=
  if n = 13 ∨ n = 14 then 511000
  else if n = 2 ∨ n = 9 ∨ n = 10 ∨ n = 17 then 2046000
  else if n = 5 then 7161000
  else if n = 8 then 5115000
  else if n = 4 ∨ n = 6 ∨ n = 7 ∨ n = 11 ∨ n = 12 ∨ n = 15 ∨ n = 19 then 10230000
  else 1023000

/-- Chip rate in chips per second (R123); L2C counts combined chips. -/
def chipHz (w : Word) : Nat :=
  let n := sgSIG w
  if n = 9 then 2046000
  else if n = 8 then 5115000
  else if n = 13 ∨ n = 14 then 511000
  else if n = 4 ∨ n = 6 ∨ n = 7 ∨ n = 11 ∨ n = 12 ∨ n = 15 ∨ n = 19 then 10230000
  else 1023000

-- streams as their users see them (R116)

def State.strRun (s : State) (m : Nat) : Bool := decide (m < 24) && s.flag (F.STR_EN m).act
def State.strDest (s : State) (m bit : Nat) : Bool := (s.fget (F.STR_DEST m).act).testBit bit
/-- Sample ticks per stream sample. -/
def State.strD (s : State) (m : Nat) : Nat := 2 ^ s.fget (F.STR_DECIM m).act
/-- Stream rate in samples per second. -/
def State.strFs (s : State) (m : Nat) : Nat := 163680000 / s.strD m

/-- Centre frequency of a stream, in 1/8 Hz: LO + SHIFT x 15,984.375 Hz; none for an inbound Penholt slot, whose LO is
another device's. -/
def State.strCentre (s : State) (m : Nat) : Option Int :=
  let src := s.fget (F.STR_SRC m).act
  let sh := signed 14 (s.fget (F.STR_SHIFT m).act) * 127875
  if src < 8 then some ((s.loN src : Int) * 1023000 * 8 + sh)
  else if src < 10 then some ((s.loN (((maskPaths (s.groupMask (src - 8))).head?).getD 0) : Int) * 1023000 * 8 + sh)
  else none

/-- R126: the signal's main lobes lie inside 0.4 of the stream rate about its centre; `ofs` in Hz. -/
def State.lobesFit (s : State) (m n : Nat) (ofs : Int) : Bool :=
  decide ((ofs.natAbs + lobeHz n) * 10 ≤ 4 * (s.strFs m : Int))

-- code stores (R127, R128)

def State.unitLoaded (s : State) (h u : Nat) : Bool := decide (u < 1024) && Tab.get (fun _ => false) s.hive.loaded (1024 * h + u)

/-- Every unit of the codes a channel needs holds a loaded code (R122). -/
def State.codesLoaded (s : State) (h : Nat) (sig code : Word) : Bool :=
  (namedUnits sig code).all fun r => (List.range r.2).all fun i => s.unitLoaded h (r.1 + i)

def State.chan (s : State) (ch : Nat) : ChanSt := Tab.get (fun _ => {}) s.hive.chans ch
def State.setChan (s : State) (ch : Nat) (c : ChanSt) : State := { s with hive.chans := Tab.set (fun _ => {}) s.hive.chans ch c }

def tapsPage (h : Nat) : Nat := 0x086 + 8 * h

/-- Do units [u, u + n) of Hive `h` include one that a running channel names? -/
def State.unitsBusy (s : State) (h u n : Nat) : Bool :=
  (List.range 64).any fun l =>
    let ch := 64 * h + l
    decide (s.fget (F.CH_STAT_STATE ch) ≠ 0) &&
      (namedUnits (s.chan ch).sig (s.chan ch).code).any fun r => decide (r.1 < u + n ∧ u < r.1 + r.2)

/-- CS_CTL.GO (R127): refused when it would overwrite a code in use; ignored while a copy runs. -/
def State.codeCopy (s : State) (h : Nat) : State :=
  let u := s.fget (F.CS_CTL_UNIT h)
  let n := max 1 (s.fget (F.CS_CTL_NUNITS h))
  if s.flag (F.CS_STAT_BUSY h) then s
  else if s.unitsBusy h u n then (s.fputB (F.CS_STAT_REFUSED h) true).fault (tapsPage h) 0
  else
    let s := (s.fputB (F.CS_STAT_REFUSED h) false).fputB (F.CS_STAT_BUSY h) true
    { s with hive.copies := Tab.set (fun _ => none) s.hive.copies h (some ⟨s.fget (F.CS_SRC_V h) * 64, u, n⟩) }

def execCodeCopy (via : Via) (h : Fin 16) (s : State) : Host.Outcome State Fault Refusal :=
  .next (s.gated (.codeCopy via h) via (tapsPage h) 0x144 (·.codeCopy h))

/-- Put bytes into the code store of Hive `h` from byte `a` on; what lies past its 256 KiB is not there. -/
def State.storeCode (s : State) (h a : Nat) : List Byte → State
  | [] => s
  | b :: r =>
    let s := if a < 2 ^ 18 then { s with hive.store := Tab.set (fun _ => 0) s.hive.store (2 ^ 18 * h + a) b } else s
    s.storeCode h (a + 1) r

/-- The code table in Comb (R128, R295): its address and its units. -/
def codeTable : Nat := 0x800000
def tableUnits : Nat := 1868

/-- The unit of the code table at a Comb address, plus one; 0 elsewhere. -/
def tableAt (a : Nat) : Nat :=
  if codeTable ≤ a ∧ a < codeTable + 256 * tableUnits ∧ a % 256 = 0 then (a - codeTable) / 256 + 1 else 0

/-- `n` units from `u` on of Hive `h` hold the bytes copied from Comb address `src` (R127, R128). -/
def State.loadUnits (s : State) (h u n src : Nat) : State :=
  let (bs, _, s) := s.combRead 1 src (256 * n)
  let s := s.storeCode h (256 * u) bs
  let set {α : Type} [DecidableEq α] (t : Tab α) (d : α) (f : Nat → α) : Tab α := (List.range n).foldl (fun t i =>
    if u + i < 1024 then Tab.set (fun _ => d) t (1024 * h + (u + i)) (f i) else t) t
  { s with hive.loaded := set s.hive.loaded false fun _ => true, hive.codeAt := set s.hive.codeAt 0 fun i => tableAt (src + 256 * i) }

/-- CODE_COPY_DONE (R128): the units hold the bytes read from Comb, and CSDONE is raised; a copy whose units a channel started
meanwhile names writes nothing (R127). -/
def execCodeCopyDone (h : Fin 16) (s : State) : Host.Outcome State Fault Refusal :=
  .next (match Tab.get (fun _ => none) s.hive.copies h with
    | some j =>
      if s.unitsBusy h j.unit j.n then
        let s := { s with hive.copies := Tab.set (fun _ => none) s.hive.copies h none }
        (((s.fputB (F.CS_STAT_BUSY h) false).fputB (F.CS_STAT_REFUSED h) true).fault (tapsPage h) 0).evRise (tapsPage h) 0
      else
      let s := { s.loadUnits h j.unit j.n j.src with hive.copies := Tab.set (fun _ => none) s.hive.copies h none }
      (s.fputB (F.CS_STAT_BUSY h) false).evRise (tapsPage h) 0
    | none => s)

end Sys2Proof.Machine
end

