-- ==== Sys2Proof/Machine/Lane.lean ====
section
/-! DEFINITION. The samples' way from the converters to the streams (04: R67 to R70; 06: R101 to R106, R109 to R116, R118,
R119). One sample tick runs it once for every path, group and stream. The pipelines' delays are compensated (R111), so the model
works on the sample of the tick itself; where a stage needs samples that come after it, the pre-blanking and the decimation filter,
it looks ahead along the same lane with the settings of the tick (log entry 87). -/

namespace Sys2Proof.Machine

-- converters (R67, R69, R70)

/-- The converters of a path run in RECEIVE and TRANSMIT (R75, R99). -/
def State.converts (s : State) (p : Nat) : Bool := !s.byp && decide (rfRECEIVE ≤ s.rfState p)

/-- The converters' input `k` ticks on, 2^-16 LSB: the conversion gain is 30 + GAIN dB (R67), and the DC servo takes its value off
while DCEN = 1 (R69). -/
def State.adcIn (s : State) (p k : Nat) : Cx :=
  let inj := if s.rfState p = rfTRANSMIT then some (s.fget F.INJ_INJN, s.fget F.INJ_LVL, s.fget F.INJ_G2DLY % 1023) else none
  let x := Config.rf p (s.adcN + k) (s.loN p) (s.fget (F.RF_BB_BW p).act) inj
  let g : Int := gainQ16 (s.fget (F.RF_GAIN_GAIN p))
  let d := if s.flag (F.RF_CTL_DCEN p) then (s.rfp p).servo else (0, 0)
  (x.1 * g / 2 ^ 16 - d.1 / 2 ^ 24, x.2 * g / 2 ^ 16 - d.2 / 2 ^ 24)

/-- Ten bits of each rail. -/
def adcWord (x : Cx) : Cx := (clampInt (-512) 511 (x.1 / 2 ^ 16), clampInt (-512) 511 (x.2 / 2 ^ 16))

/-- The replay port's sample `k` ticks on, with its flag (R439): one that is not there is INVALID. -/
def State.replayed (s : State) (p k : Nat) : Int × Int × Nat := (Tab.get (fun _ => {}) s.ar.rp p).buf.getD k (0, 0, 2)

/-- The samples at the lane's input, whole LSB (R101 stage 1): converters, or the replay port. -/
def State.laneIn (s : State) (p k : Nat) : Cx :=
  if s.flag (F.SV_CTL_INSEL p) then ((s.replayed p k).1, (s.replayed p k).2.1)
  else if s.converts p then adcWord (s.adcIn p k) else (0, 0)

/-- 163.68 MHz / (2 pi 100 Hz): samples per radian of the servo's corner (R69). -/
def servoN : Int := 260505

/-- The path's own part of a tick (R67, R69, R70): the AGC's block sum, the servo, the sums for RF_DCOFS and the count for RF_SAT.
`bl`: the sample was blanked, by COEX_TXACT or the pulse blanker (R68). -/
def State.rfTick (s : State) (p : Nat) (bl : Bool) : State :=
  if ¬ s.converts p then s
  else
    let x := s.rfp p
    let a := s.adcIn p 0
    let w := adcWord a
    let edge (v : Int) : Bool := decide (v = -512 ∨ v = 511)
    let blk := x.blk || bl
    let rx := decide (s.rfState p = rfRECEIVE)
    let servo := if s.flag (F.RF_CTL_DCEN p) ∧ ¬ blk then
        (x.servo.1 + a.1 * 2 ^ 24 / servoN, x.servo.2 + a.2 * 2 ^ 24 / servoN) else x.servo
    s.setRfp p { x with blk := blk, pow := if rx then x.pow + norm2 w else x.pow, powN := if rx then x.powN + 1 else x.powN,
                        servo := servo, sum := cadd x.sum w, sumN := x.sumN + 1,
                        sat := if edge w.1 ∨ edge w.2 then x.sat + 1 else x.sat }

-- the path lane (R101 to R106)

/-- The corrected sample in 2^-16 LSB (R103): I - dcI, and g (Q - dcQ) + p I', with zero and unity where DCEN and IQEN are 0. -/
def State.corrected (s : State) (p : Nat) (x : LaneSt) (w : Cx) : Cx :=
  let dc := if s.flag (F.SV_CTL_DCEN p) then x.dc else (0, 0)
  let iq := s.flag (F.SV_CTL_IQEN p)
  let g := if iq then 2 ^ 15 + signed 16 (s.fget (F.SV_IQ_G p)) else 2 ^ 15
  let pp := if iq then signed 16 (s.fget (F.SV_IQ_P p)) else 0
  let i := w.1 * 2 ^ 16 - dc.1 / 2 ^ 24
  (i, (g * (w.2 * 2 ^ 16 - dc.2 / 2 ^ 24) + pp * i) / 2 ^ 15)

/-- The corrected sample is above the blanker's threshold (R104). -/
def State.overThr (s : State) (p : Nat) (x : Cx) : Bool :=
  let t := s.fget (F.PB_CFG_THR p)
  decide (t ≠ 0 ∧ t * 2 ^ 16 < x.1.natAbs + x.2.natAbs)

/-- The blanker's verdict on the sample `k` ticks on (R104): a sample above the threshold, the PRE before one, and the HOLD after. -/
def State.pulse (s : State) (p k : Nat) (x : LaneSt) : Bool :=
  decide (0 < x.hold) || (List.range (s.fget (F.PB_CFG_PRE p) + 1)).any fun j => s.overThr p (s.corrected p x (s.laneIn p (k + j)))

/-- A first-order loop in 2^-40 LSB: `w` LSB enters with time constant `n` samples. -/
def dcStep (n : Int) (d w : Int) : Int := d + (w * 2 ^ 40 - d) / n

/-- The residual DC loop (R103): 1 ms to 1 s, in samples. -/
def State.dcTau (s : State) (p : Nat) : Int := (163680 * 10 ^ s.fget (F.SV_CTL_DCTC p) : Nat)

/-- One notch on one sample (R106): a carrier estimate `c`, 2^-30 LSB, turns at the notch's frequency and follows what is left after
it is taken off, so that the notch has a zero at its centre and the -3 dB width 2^BW kHz; `hold`: the sample is flagged, the
estimate only turns. The constant is pi kHz / 163.68 MHz in 2^-40. -/
def State.notchStep (s : State) (p k : Nat) (hold : Bool) (x c : Cx) : Cx × Cx :=
  if s.flag (F.NSTAT_ON p k) then
    let c := cfloor (cmul c (cis (signed 16 (s.fget (F.NSTAT_FREQ p k)) * 2 ^ 16))) (2 ^ 30)
    let y : Cx := (x.1 - c.1 / 2 ^ 14, x.2 - c.2 / 2 ^ 14)
    let a : Int := 21103465 * 2 ^ min 9 (s.fget (F.NOTCH_BW p k).act)
    (y, if hold then c else (c.1 + y.1 * a / 2 ^ 26, c.2 + y.2 * a / 2 ^ 26))
  else (x, (0, 0))

/-- The eight notches in turn: the sample, and the estimates after it. -/
def State.notches (s : State) (p : Nat) (hold : Bool) (cs : List Cx) (x : Cx) : Cx × List Cx :=
  (List.range 8).foldl (fun (r : Cx × List Cx) k =>
    let (y, c) := s.notchStep p k hold r.1 (cs.getD k (0, 0))
    (y, r.2 ++ [c])) (x, [])

/-- One sample through stages 1 to 5, `k` ticks on (R101): the corrected sample, the sample after the notches, and the lane after it.
A flagged sample is zero (R102) and freezes the correction and the notches. -/
def State.laneStep (s : State) (p k : Nat) (x : LaneSt) : Smp × Smp × LaneSt :=
  let w := s.laneIn p k
  let y := s.corrected p x w
  let fl := if s.pathInvalid p then 2 else if s.blanked p || s.pulse p k x then 1 else 0
  let fl := if s.flag (F.SV_CTL_INSEL p) then max fl (s.replayed p k).2.2 else fl
  let hold := if s.overThr p y then s.fget (F.PB_CFG_HOLD p) else x.hold - 1
  let good := decide (fl = 0)
  let n := s.dcTau p
  let (z, cs) := s.notches p (!good) x.notch (if good then y else (0, 0))
  let out (v : Cx) : Smp := if good then ⟨v.1, v.2, 0⟩ else ⟨0, 0, fl⟩
  let x := { x with hold := hold, notch := cs }
  let dc := if s.flag (F.SV_CTL_DCEN p) then (dcStep n x.dc.1 w.1, dcStep n x.dc.2 w.2) else (0, 0)
  (out y, out z,
    if good then { x with dc := dc, mII := x.mII + (y.1 * y.1).toNat,
                          mQQ := x.mQQ + (y.2 * y.2).toNat, mIQ := x.mIQ + y.1 * y.2 } else x)

/-- The lane's outputs of the `n` ticks from `k` on, with the settings as they stand. -/
def State.laneAhead (s : State) (p : Nat) : Nat → Nat → LaneSt → List Smp
  | 0, _, _ => []
  | n + 1, k, x => let (_, z, x) := s.laneStep p k x; z :: s.laneAhead p n (k + 1) x

-- monitor frames and the detector (R107, R109, R110)

/-- A whole frame for the detector: sums of its bins over up to 16 frames. -/
def LaneOut.detect (x : LaneOut) : LaneOut :=
  if x.frame0.any fun y => y.fl = 2 then x
  else if 16 ≤ x.detN then x
  else
    let ps := framePower (x.frame0.map fun y => (y.i, y.q))
    { x with detN := x.detN + 1, det := if x.detN = 0 then ps else addLists x.det ps }

/-- A whole frame for a readout of path `p` (R110); one with an INVALID sample is discarded and counted. -/
def State.readFrame (s : State) (p : Nat) (x : LaneOut) : State :=
  match s.sieve.readout with
  | none => s
  | some r =>
    if r.path ≠ p ∨ x.start < r.since ∨ r.want ≤ r.n then s
    else
      let f := if r.tap = 0 then x.frame0 else x.frame1
      if f.any fun y => y.fl = 2 then s.finc F.SM_STAT_DISC
      else
        let ps := framePower (f.map fun y => (y.i, y.q))
        let t := if r.n = 0 then s.now - 4095 * s.inc / 2 ^ 32 else r.t
        { s with sieve.readout := some { r with n := r.n + 1, sums := if r.n = 0 then ps else addLists r.sums ps, t := t } }

/-- One tick of lane `p` while its domain is on. -/
def State.laneTick (s : State) (p : Nat) : State :=
  if ¬ s.powered (0x030 + p) then s
  else
    let (y, z, l) := s.laneStep p 0 (s.lane p)
    let s := ((s.setLane p l).fput (F.SV_DC_IDC p) (unsigned 16 (l.dc.1 / 2 ^ 36))).fput (F.SV_DC_QDC p) (unsigned 16 (l.dc.2 / 2 ^ 36))
    let s := s.rfTick p (decide (z.fl = 1))
    let o := s.laneOut p
    let first := decide (s.adcN % 4096 = 0)
    let o := { o with smp := z, blk := if z.fl = 1 then o.blk + 1 else o.blk, start := if first then s.adcN else o.start,
                      frame0 := if first then [y] else o.frame0 ++ [y], frame1 := if first then [z] else o.frame1 ++ [z] }
    if o.frame0.length = 4096 then (s.readFrame p o).setLaneOut p { o.detect with frame0 := [], frame1 := [] }
    else s.setLaneOut p o

-- the array combiner (R112 to R115)

/-- A member's calibration factor in 2^-30 (R112), by the values in force. -/
def State.calFactor (s : State) (p : Nat) : Cx :=
  let c := Tab.get (fun _ => (0, 0)) s.sieve.cal p
  cdiv (cmul (cis (-(c.2 * 2 ^ 16 : Nat))) (ampQ30 (-c.1), 0)) (2 ^ 30)

/-- A group's calibrated member samples, by path. -/
def State.members (s : State) (g : Nat) (x : Nat → Smp) : List (Nat × Cx × Nat) :=
  (maskPaths (s.groupMask g)).map fun p => (p, cdiv (cmul ((x p).i, (x p).q) (s.calFactor p)) (2 ^ 30), (x p).fl)

/-- A weight in 2^-14 (R113): NULL uses those it has found, and 1 for the lowest member before; SCARAB and FIXED the register. -/
def State.weight (s : State) (g p : Nat) : Cx :=
  let w : Word :=
    if s.fget (F.CMB_CTL_MODE g).act = 1 then
      match Tab.get (fun _ => none) s.sieve.nullW g with
      | some ws => ws.getD (p % 4) 0
      | none => if (maskPaths (s.groupMask g)).head? = some p then 0x40000000 else 0
    else s.reg (F.CMB_W_WI (4 * g + p % 4)).act.addr
  (signed 16 (w.toNat / 2 ^ 16), signed 16 w.toNat)

/-- c_g of R113 from the members' samples (R115): INVALID when the group is off or a member is, else BLANK when a member is. -/
def State.combine (s : State) (g : Nat) (x : Nat → Smp) : Smp :=
  let ms := s.members g x
  if s.fget (F.CMB_CTL_MODE g).act = 0 ∨ ms = [] then ⟨0, 0, 2⟩
  else
    let fl := ms.foldl (fun a m => max a m.2.2) 0
    if fl ≠ 0 then ⟨0, 0, fl⟩
    else
      let c := cdiv (csum (ms.map fun m => cmul (s.weight g m.1) m.2.1)) (2 ^ 14)
      ⟨c.1, c.2, 0⟩

/-- One tick of a group: its sample, and in NULL mode the covariance of the millisecond, without flagged samples (R114). -/
def State.combTick (s : State) (g : Nat) : State :=
  if ¬ s.powered 0x038 then s
  else
    let x (p : Nat) : Smp := (s.laneOut p).smp
    let s := { s with sieve.comb := Tab.set (fun _ => {}) s.sieve.comb g (s.combine g x) }
    let ms := s.members g x
    if (s.fget (F.CMB_CTL_MODE g).act ≠ 1 ∧ s.fget (F.CMB_CTL_MODE g).act ≠ 2) ∨ ms.any (fun m => m.2.2 ≠ 0) then s
    else
      let cov := ms.foldl (fun t a => ms.foldl (fun t b =>
        let k := 16 * g + 4 * (a.1 % 4) + b.1 % 4
        Tab.set (fun _ => (0, 0)) t k (cadd (Tab.get (fun _ => (0, 0)) t k) (cmul a.2.1 (conj b.2.1)))) t) s.sieve.cov
      { s with sieve.cov := cov, sieve.covN := Tab.set (fun _ => 0) s.sieve.covN g (Tab.get (fun _ => 0) s.sieve.covN g + 1) }

-- streams (R111, R116, R118, R119)

/-- What a stream's source gives at this tick and the `n` ticks after it: a path, a group (its members looked ahead of). -/
def State.srcAhead (s : State) (src n : Nat) : List Smp :=
  if src < 8 then (s.laneOut src).smp :: s.laneAhead src n 1 (s.lane src)
  else
    let g := src - 8
    let ls := (maskPaths (s.groupMask g)).map fun p => (p, s.laneAhead p n 1 (s.lane p))
    Tab.get (fun _ => {}) s.sieve.comb g :: (List.range n).map fun k =>
      s.combine g fun p => ((ls.find? fun l => l.1 = p).map fun l => l.2.getD k {}).getD {}

/-- The frequency shift of R116 at sample tick `n`: -SHIFT / 10,240 cycle a sample. -/
def mixShift (shift : Int) (n : Nat) (x : Smp) : Smp :=
  let c := cdiv (cmul (x.i, x.q) (cis (-(shift * n % 10240) * 2 ^ 32 / 10240))) (2 ^ 30)
  ⟨c.1, c.2, x.fl⟩

/-- The decimation filter at its centre: `past` newest first, `now` and after. A flag prevails over the inputs nearest this sample:
D of them, from D/2 before it (R116). -/
def decimate (d : Nat) (past future : List Smp) : Smp :=
  let term (k : Int) (x : Smp) : Cx := (x.i * Config.decimTap d k, x.q * Config.decimTap d k)
  let c := cadd (csum (future.zipIdx.map fun x => term x.2 x.1)) (csum (past.zipIdx.map fun x => term (-(x.2 + 1 : Nat)) x.1))
  let fl := ((past.take (d / 2)) ++ future.take (d - d / 2)).foldl (fun a x => max a x.fl) 0
  if fl ≠ 0 then ⟨0, 0, fl⟩ else let y := cdiv c (2 ^ 30); ⟨y.1, y.2, 0⟩

/-- Magnitude level of R119: twice the greatest k up to M with k steps of sigma STEP / 64 in |x|, plus one; compared by squares with
sigma^2 = pow / (2 n). -/
def level (pow n step m : Nat) (x : Int) : Int :=
  let k := ((List.range m).filter fun k => decide ((k + 1) ^ 2 * pow * step ^ 2 ≤ 2 * n * 64 ^ 2 * x.natAbs ^ 2)).length
  (if 0 ≤ x then 1 else -1) * (2 * k + 1 : Nat)

/-- Eight most significant bits of the ten of a corrected sample. -/
def topBits (x : Int) : Int := clampInt (-128) 127 (x / 2 ^ 18)

/-- The value a stream's WIDTH gives a GOOD sample (R119): 2 and 4 bits carry levels, 8 bits the corrected sample's most significant,
10 bits the converter's words `w`. -/
def State.quantize (s : State) (m : Nat) (x : StrSt) (y : Smp) (w : Cx) : Smp :=
  let width := s.fget (F.STR_WIDTH m).act
  let q := s.fget (F.STR_Q_STEP m).act
  let sg := x.sigma.getD (Config.sigma0 m, 1)
  if y.fl ≠ 0 then ⟨0, 0, y.fl⟩
  else if width = 0 then let st := if q = 0 then 64 else q; ⟨level sg.1 sg.2 st 1 y.i, level sg.1 sg.2 st 1 y.q, 0⟩
  else if width = 1 then let st := if q = 0 then 22 else q; ⟨level sg.1 sg.2 st 7 y.i, level sg.1 sg.2 st 7 y.q, 0⟩
  else if width = 2 then ⟨topBits y.i, topBits y.q, 0⟩
  else ⟨w.1, w.2, 0⟩

/-- A new 10 µs block opens: the sigma of the one before is used, unless it had no GOOD samples (R119). -/
def StrSt.roll (x : StrSt) (block : Nat) : StrSt :=
  if x.block = block then x
  else { x with sigma := if x.n = 0 then x.sigma else some (x.pow, x.n), pow := 0, n := 0, block := block }

/-- What an inbound source gives at this tick (R453): the sample that took the tick LAT ago, at the slot's own samples; INVALID where
no frame brought it. -/
def State.slotSample (s : State) (src d : Nat) : Option Smp :=
  let (w, k) := inSlot src
  let t := s.sky.smp - s.srcLat src
  let lost : Option Smp := if t % d = 0 then some ⟨0, 0, 2⟩ else none
  if s.slotDown w k then lost else (s.slotAt w k t).getD lost

/-- One tick of stream `m` (R111, R116, R118): a sample at every D-th sample tick. An inbound slot is forwarded unchanged. -/
def State.strTick (s : State) (m : Nat) : State :=
  let x := (s.str m).roll (s.sky.smp * 10 / 16368)
  let x := { x with inv := x.inv - 1 }
  let src := s.fget (F.STR_SRC m).act
  let d := s.strD m
  let bad := decide (0 < (s.str m).inv) || s.hopLimit m
  let flagged (y : Smp) : Smp := if bad then ⟨0, 0, 2⟩ else y
  if ¬ s.strRun m ∨ ¬ s.powered 0x038 then s.setStr m {}
  else if 16 ≤ src then
    s.setStr m { x with out := (s.slotSample src d).map flagged }
  else
    let half := if d = 1 then 0 else Config.decimHalf d
    let sh := signed 14 (s.fget (F.STR_SHIFT m).act)
    let due := decide (s.sky.smp % d = 0)
    let ahead := (s.srcAhead src (if due then half else 0)).zipIdx.map fun y => mixShift sh (s.sky.smp + y.2) y.1
    let here := ahead.getD 0 {}
    let y := flagged (if d = 1 then here else decimate d x.hist ahead)
    let out := s.quantize m x y (s.laneIn src 0)
    let x := { x with hist := (here :: x.hist).take half }
    if due then
      let good := decide (y.fl = 0)
      s.setStr m { x with out := some out, pow := if good then x.pow + norm2 (y.i, y.q) else x.pow,
                          n := if good then x.n + 1 else x.n }
    else s.setStr m { x with out := none }

/-- A sample tick of the Sieve: lanes, groups and streams in turn, and SX_INV follows (R101, R118). -/
def State.sieveTick (s : State) : State :=
  let s := paths.foldl State.laneTick s
  let s := [0, 1].foldl State.combTick s
  ((List.range 24).foldl State.strTick s).streamsUpdate

end Sys2Proof.Machine
end

