-- ==== Sys2Proof/Machine/Codes.lean ====
section
/-! DEFINITION. The code generator (07: R123 to R125; 08: R133; 09: R155 to R157): chips of primary and secondary codes, the
subcarriers, and the replica at a phase. -/

namespace Sys2Proof.Machine

/-- Chip value of a bit: 1 - 2b (R127). -/
def bitSign (b : Bool) : Int := if b then -1 else 1

/-- Bit `i` of the code store of Hive `h` from unit `u` on: chip 0 is bit 7 of the first byte (R127). -/
def State.storeBit (s : State) (h u i : Nat) : Bool :=
  (Tab.get (fun _ => 0) s.hive.store (2 ^ 18 * h + 256 * u + i / 8)).getLsbD (7 - i % 8)

/-- Bit `i` of a code in Comb from byte `a` on (R128, R136). -/
def State.combBit (s : State) (a i : Nat) : Bool := (s.combByte (a + i / 8)).getLsbD (7 - i % 8)

/-- The L2C components take turns chip by chip (R125): CM on even combined chips, CL on odd ones (log entry 88). -/
def l2cChip (n : Nat) (pilot : Bool) (i : Nat) : Option Nat :=
  if n = 3 ∨ n = 18 then (if decide (i % 2 = 1) = pilot then some (if pilot then i / 2 else i / 2 % 10230) else none) else some i

/-- The subcarrier at a chip fraction in 2^-40, in 2^-15 (R123): BOC(1,1), and CBOC(6,1,1/11) in four levels for E1, with + on the
data and - on the pilot; 1 for signals without one. -/
def subcarrier (n : Nat) (pilot : Bool) (frac : Nat) : Int :=
  let boc1 : Int := if frac < 2 ^ 39 then 1 else -1
  let boc6 : Int := if frac * 12 / 2 ^ 40 % 2 = 0 then 1 else -1
  if n = 2 ∨ n = 10 ∨ n = 17 then 2 ^ 15 * boc1
  else if n = 5 then 31243 * boc1 + (if pilot then -1 else 1) * 9880 * boc6
  else 2 ^ 15

/-- Chip `i` of a component's primary code, 0 where the other component of L2C has the chip: from the store unit `u` for a memory
code, else what the signal's interface specification gives (R123). -/
def State.primaryChip (s : State) (h : Nat) (sig : Word) (pilot : Bool) (u i : Nat) : Int :=
  let n := sgSIG sig
  match l2cChip n pilot (i % primaryLen n) with
  | none => 0
  | some j => bitSign (if memUnits n ≠ 0 then s.storeBit h u j else Config.gChip n pilot (sgPRN sig) j)

/-- Chip `k` of the tracked component's secondary code (R124): stored ones from CHk_CODE.SEC. -/
def State.secondaryChip (s : State) (h : Nat) (sig code : Word) (k : Nat) : Int :=
  let n := sgSIG sig
  let pilot := decide (sgCOMP sig ≠ 0)
  if secondaryLen sig = 1 then 1
  else bitSign (if secStored (sig ||| 0x100) then s.storeBit h (code.toNat / 2 ^ 20 % 1024) k else Config.secChip n pilot (sgPRN sig) k)

/-- Does tap `k` correlate the pilot (R125)? With BOTH all taps but the data prompt do. -/
def tapPilot (sig : Word) (k : Nat) : Bool := decide (sgCOMP sig = 1) || (decide (sgCOMP sig = 2) && decide (k ≠ 8))

/-- Early-late spacing in 1/64 chip: 0 acts as 1, above 64 as 64; a multipath offset is limited to 512 (R157). -/
def elSpacing (w : Word) : Int := max 1 (min 64 (w.toNat % 128) : Nat)
def tspOffset (w : Word) (odd : Bool) : Int := clampInt (-512) 512 (signed 16 (if odd then w.toNat / 65536 else w.toNat))

/-- Offset of tap `k` from the prompt in 1/64 chip, by the spacings in force (ELSP, TSP34, TSP56, TSP78) (R157). -/
def tapOffset (sig : Word) (sp : List Word) (k : Nat) : Int :=
  if k = 0 then -elSpacing (sp.getD 0 0)
  else if k = 1 then 0
  else if k = 2 then elSpacing (sp.getD 0 0)
  else if k = 9 then (primaryLen (sgSIG sig) / 2 * 64 + 32 : Nat)
  else if k = 8 ∧ sgCOMP sig = 2 then 0
  else tspOffset (sp.getD ((k - 1) / 2) 0) (decide (k % 2 = 0))

/-- The replica of tap `k` of a channel (R123 to R125, R155 to R157), in 2^-15: `ph` is the prompt phase in 2^-40 chip; `strip`: the
secondary code is applied. -/
def State.replica (s : State) (h : Nat) (sig code : Word) (sp : List Word) (strip : Bool) (ph k : Nat) : Int :=
  let n := sgSIG sig
  let m : Nat := chipMod sig * 2 ^ 40
  let at_ := (((ph : Int) + tapOffset sig sp k * 2 ^ 34) % m).toNat
  let i := at_ / 2 ^ 40
  let pilot := tapPilot sig k
  let unit := if sgCOMP sig = 2 ∧ k = 8 then code.toNat / 1024 % 1024 else code.toNat % 1024
  let sec := if strip ∧ ¬ (sgCOMP sig = 2 ∧ k = 8) then s.secondaryChip h sig code (i / primaryLen n) else 1
  s.primaryChip h sig pilot unit i * sec * subcarrier n pilot (at_ % 2 ^ 40)

/-- Chips between primary code epochs (R156). -/
def epochLen (n : Nat) : Nat := if n = 3 ∨ n = 18 then 20460 else primaryLen n

/-- The replica Dragonfly searches with (R133), at a code phase in 2^-40 chip of a segment: a memory code from Comb, BOC(1,1) or its
sign for the BOC signals, and the CM code for L2C. -/
def State.searchReplica (s : State) (sig : Word) (addr ph : Nat) : Int :=
  let n := sgSIG sig
  let i := ph / 2 ^ 40
  let b := if memUnits n ≠ 0 then s.combBit addr i else Config.gChip n (decide (sgCOMP sig = 1)) (sgPRN sig) i
  let boc := decide (n = 2 ∨ n = 5 ∨ n = 10 ∨ n = 17)
  bitSign b * (if boc ∧ 2 ^ 39 ≤ ph % 2 ^ 40 then -1 else 1)

end Sys2Proof.Machine
end

