-- ==== Sys2Proof/Machine/Dfly.lean ====
section
/-! DEFINITION. Dragonfly (08: R132 to R151): submitting, capturing, running and ending jobs, the result record, and
the Warden's searches for tenants. -/

namespace Sys2Proof.Machine

-- the dump grid (R50)

/-- Dump-grid boundaries per second, by the active GRID. -/
def State.gridRate (s : State) : Nat := if s.flag F.GRID_DUMP.act then 2000 else 1000
/-- Number of the last boundary at or before now, and the time of boundary `k` (R49). -/
def State.gridIndex (s : State) : Nat := s.now * s.gridRate / sec
def State.gridT (s : State) (k : Nat) : Nat := ceilT k s.gridRate
/-- The last boundary at or before now. -/
def State.gridNow (s : State) : Nat := s.gridT s.gridIndex
/-- The first boundary at or after `t`. -/
def State.gridAt (s : State) (t : Nat) : Nat := if t = 0 then 0 else (t - 1) * s.gridRate / sec + 1

-- descriptors (R133, R134, R136)

def jsFREE : Nat := 0
def jsWAITRAM : Nat := 1
def jsARMED : Nat := 2
def jsCAPTURE : Nat := 3
def jsREADY : Nat := 4
def jsRUN : Nat := 5
def jsSUSPENDED : Nat := 6
def jsDONE : Nat := 7

/-- Segment in ms, chips in it, code cells, and points P of a signal (R133). -/
def segRow (n : Nat) : Nat × Nat × Nat × Nat :=
  if n = 1 ∨ n = 16 ∨ n = 20 ∨ n = 21 then (1, 1023, 2046, 2048)
  else if n = 13 ∨ n = 14 then (1, 511, 1022, 1024)
  else if n = 9 then (1, 2046, 4092, 4096)
  else if n = 8 then (1, 5115, 10230, 16384)
  else if n = 3 ∨ n = 18 then (20, 10230, 20460, 32768)
  else if n = 5 then (4, 4092, 16368, 16384)
  else if n = 2 ∨ n = 10 ∨ n = 17 then (10, 10230, 40920, 65536)
  else (1, 10230, 20460, 32768)

def jdBits (d : List Word) (i lo w : Nat) : Nat := (d.getD i 0).toNat / 2 ^ lo % 2 ^ w
def jdSig (d : List Word) : Word := BitVec.ofNat 32 (jdBits d 0 0 24 &&& 0xFFFEFF)
def jdPrio (d : List Word) : Nat := jdBits d 1 20 2
def jdTenant (d : List Word) : Nat := jdBits d 1 0 12
def jdTcoh (d : List Word) : Nat := jdBits d 6 0 8
def jdNc (d : List Word) : Nat := jdBits d 6 24 8
def jdNpeak (d : List Word) : Nat := jdBits d 6 16 5
def jdStart (d : List Word) : Nat := jdBits d 11 0 32 * 2 ^ 64 + jdBits d 12 0 32 * 2 ^ 32 + jdBits d 13 0 32
/-- Doppler bins B. -/
def jdBins (d : List Word) : Nat := 2 * jdBits d 4 0 11 + 1
/-- Segments S. -/
def jdSegs (d : List Word) : Nat := jdTcoh d / (segRow (sgSIG (jdSig d))).1 * jdNc d
/-- Points of the snapshot, and its blocks of 64 KiB (R135). -/
def jdPoints (d : List Word) : Nat := (segRow (sgSIG (jdSig d))).2.2.2 * jdSegs d
def jdBlocks (d : List Word) : Nat := (jdPoints d + 65535) / 65536
def jdCells (d : List Word) : Nat := (segRow (sgSIG (jdSig d))).2.2.1
/-- Code cells searched: CPLEN, 0 for all (R136). -/
def jdCpLen (d : List Word) : Nat := if jdBits d 5 16 16 = 0 then jdCells d else jdBits d 5 16 16
/-- Forward FFTs per segment F (R134): min(m, B) with m = (1 / Tseg) / DBIN where that is whole, else B. -/
def jdFfts (d : List Word) : Nat :=
  let w := jdBits d 4 16 16 * (segRow (sgSIG (jdSig d))).1
  if 8000 % w = 0 then min (8000 / w) (jdBins d) else jdBins d
/-- Hive clock cycles of R141 and work W of R142. -/
def jdCycles (d : List Word) : Nat :=
  ((segRow (sgSIG (jdSig d))).2.2.2 * (1 + (jdFfts d + jdBins d) * jdSegs d) + 15) / 16
def jdWork (d : List Word) : Nat := jdCells d * jdBins d * jdSegs d
/-- The bin processed `k`-th, from the centre outward (R134). -/
def binAt (k : Nat) : Int := if k % 2 = 1 then ((k + 1) / 2 : Nat) else -((k / 2 : Nat) : Int)

def State.jsState (s : State) (n : Nat) : Nat := s.fget (F.JS_STATE n)
def State.job (s : State) (n : Nat) : Option Job := Tab.get (fun _ => none) s.dfly.jobs n
def State.setJob (s : State) (n : Nat) (j : Option Job) : State := { s with dfly.jobs := Tab.set (fun _ => none) s.dfly.jobs n j }

/-- Why a submit is refused: the first code of R137 that applies, 0 when none does. -/
def State.jobCheck (s : State) (d : List Word) : Nat :=
  let sig := jdSig d
  let n := sgSIG sig
  let seg := segRow n
  let m := jdBits d 1 24 5
  let wd := s.fget (F.STR_WIDTH m).act
  if (List.range 64).all fun k => decide (s.jsState k ≠ jsFREE) then 1
  else if ¬ sigOk sig ∨ sgCOMP sig = 2 ∨ (sgCOMP sig = 1 ∧ (n = 3 ∨ n = 18)) ∨ (memUnits n ≠ 0 ∧ jdBits d 8 0 24 = 0) then 2
  else if ¬ s.strRun m ∨ ¬ s.strDest m 1 ∨ 2 ≤ wd ∨ s.strFs m * seg.1 < seg.2.2.2 * 1000 ∨
      ¬ s.lobesFit m n (signed 32 (jdBits d 2 0 32)) then 3
  else if jdTcoh d = 0 ∨ 200 < jdTcoh d ∨ jdTcoh d % seg.1 ≠ 0 ∨ jdNc d = 0 then 4
  else if 20 < jdTcoh d ∧ jdBits d 1 16 1 = 0 then 5
  else if jdBits d 4 16 16 = 0 ∨ 1023 < jdBits d 4 0 11 ∨ 8000 < jdBits d 4 16 16 * jdTcoh d then 6
  else if 128 < jdBlocks d then 7
  else if jdCells d < jdBits d 5 0 16 + jdCpLen d ∨ jdNpeak d = 0 ∨ 16 < jdNpeak d then 8
  else 0

-- slots, blocks and the status register

/-- DF_STAT as the slots and SNAP_MAP stand; the allocator's vote stands while a slot is in use or a request waits (R132). -/
def State.dfStat (s : State) : State :=
  let st := (List.range 64).map s.jsState
  let cnt (x : Nat) := (st.filter (· = x)).length
  let used := ((List.range 128).filter fun b => s.mapBit F.SNAP_MAP b).length
  let s := ((s.fput F.DF_STAT_FREEBLK (128 - used)).fput F.DF_STAT_NFREE (cnt jsFREE)).fput F.DF_STAT_CAPS (cnt jsCAPTURE)
  let s := match (List.range 64).find? fun k => st.getD k 0 = jsRUN with
    | some k => (s.fputB F.DF_STAT_RUNNING true).fput F.DF_STAT_RUNSLOT k
    | none => s.fputB F.DF_STAT_RUNNING false
  let busy := decide (cnt jsFREE ≠ 64 ∨ s.dfly.waiting ≠ [])
  (s.when busy (·.castVote 33 4096 true)).castVote 12 4096 busy

def State.freeBlocks (s : State) : List Nat := (List.range 128).filter fun b => !s.mapBit F.SNAP_MAP b

/-- Give slot `n` its blocks, lowest first, and arm it. -/
def State.jobArm (s : State) (n : Nat) (j : Job) : State :=
  let bs := s.freeBlocks.take (jdBlocks j.desc)
  let s := bs.foldl (fun s b => s.setMapBit F.SNAP_MAP b true) s
  (s.setJob n (some { j with blocks := bs, armT := s.now })).fput (F.JS_STATE n) jsARMED

/-- Slots in WAITRAM are served in order of submission (R138). -/
def State.jobRam (s : State) : Nat → State
  | 0 => s
  | fuel + 1 =>
    let wait := (List.range 64).filterMap fun n => if s.jsState n = jsWAITRAM then (s.job n).map fun j => (j.order, n, j) else none
    match wait.foldl (fun (m : Option (Nat × Nat × Job)) x => match m with
      | none => some x
      | some y => if x.1 < y.1 then some x else some y) none with
    | some (_, n, j) => if jdBlocks j.desc ≤ s.freeBlocks.length then (s.jobArm n j).jobRam fuel else s
    | none => s

/-- The pipes take the READY or SUSPENDED job of highest PRIO, earliest READY first (R139, R140). -/
def State.jobSelect (s : State) : State :=
  if s.flag F.DF_CTL_HOLD ∨ s.byp ∨ (List.range 64).any (fun n => s.jsState n = jsRUN) then s
  else
    let can := (List.range 64).filterMap fun n =>
      if s.jsState n = jsREADY ∨ s.jsState n = jsSUSPENDED then (s.job n).map fun j => (s.fget (F.JS_PRIO n), j.ready, n) else none
    match can.foldl (fun (m : Option (Nat × Nat × Nat)) x => match m with
      | none => some x
      | some y => if y.1 < x.1 ∨ (y.1 = x.1 ∧ x.2.1 < y.2.1) then some x else some y) none with
    | some (_, _, n) => s.fput (F.JS_STATE n) jsRUN
    | none => s

/-- Take a free slot for descriptor `d`; the slot. -/
def State.jobTake (s : State) (d : List Word) (search : Option Nat) : Nat × State :=
  let n := ((List.range 64).find? fun k => s.jsState k = jsFREE).getD 0
  let j : Job := { desc := d, order := s.dfly.orders, search := search }
  let s := { s with dfly.orders := s.dfly.orders + 1 }
  let s := ((s.setReg (F.JS_STATE n).addr 0).fput (F.JS_TENANT n) (jdTenant d)).fput (F.JS_PRIO n) (jdPrio d)
  let s := if jdBlocks d ≤ s.freeBlocks.length then s.jobArm n j
    else ((s.setJob n (some j)).fput (F.JS_STATE n) jsWAITRAM).evRise 0x040 2
  (n, s.dfStat)

def State.jobRet (s : State) (code slot : Nat) : State :=
  ((s.fputB F.JOB_RET_VALID true).fput F.JOB_RET_CODE code).fput F.JOB_RET_SLOT slot

/-- The charge of a job to the Ledger's ACQ class, mJ: W (R142, R148, R404). -/
def State.acqCost (s : State) (d : List Word) : Nat := s.fget F.COST_ACQ.act * jdWork d / 1000000000

/-- Submit descriptor `d` (R137, R138), charged to the plan (R148). -/
def State.jobSubmit (s : State) (d : List Word) (search : Option Nat) : State :=
  let c := s.jobCheck d
  if c ≠ 0 then (s.jobRet c 0).fault 0x040 0
  else
    let s := s.fput F.LG_PLAN (min 0xFFFFFFFF (s.fget F.LG_PLAN + s.acqCost d))
    let (n, s) := s.jobTake d search
    s.jobRet 0 n

def State.stagedJob (s : State) : List Word := (List.range 16).map fun i => s.reg (F.JD i).addr

def execJobSubmit (via : Via) (s : State) : Host.Outcome State Fault Refusal :=
  .next (s.gated (.jobSubmit via) via 0x041 0x080 fun s => s.jobSubmit s.stagedJob none)

-- searches for tenants (R147, R149)

/-- Put `x` before the first element it may stand before. -/
def insertBy (le : α → α → Bool) (x : α) : List α → List α
  | [] => [x]
  | y :: r => if le x y then x :: y :: r else y :: insertBy le x r

/-- Sorted by `le`; equals keep their order. -/
def sortBy (le : α → α → Bool) (l : List α) : List α := l.foldr (insertBy le) []

/-- May peak `a` stand before `b`? By PMR, then Doppler, then code phase (R149). -/
def Peak.before (a b : Peak) : Bool :=
  decide (b.pmr.toNat < a.pmr.toNat ∨ (b.pmr = a.pmr ∧ (a.dop.toInt < b.dop.toInt ∨ (a.dop = b.dop ∧ a.code.toNat ≤ b.code.toNat))))

def peakWords (p : Peak) : List Word :=
  [BitVec.ofNat 32 p.code.toNat, p.dop, BitVec.ofNat 32 (p.bin.toNat * 65536 + p.pmr.toNat), p.pow]

/-- The result record (R144). -/
def jobRecord (tag : Word) (flags slot status tsnap : Nat) (mean : Word) (inv blk : Nat) (ps : List Peak) : List Word :=
  [tag, BitVec.ofNat 32 (flags * 2 ^ 24 + slot * 65536 + ps.length * 256 + status)] ++ timeWords tsnap ++
    [mean, BitVec.ofNat 32 inv, BitVec.ofNat 32 blk] ++ ps.flatMap peakWords

def State.setSearch (s : State) (i : Nat) (x : Option Search) : State :=
  { s with dfly.searches := Tab.set (fun _ => none) s.dfly.searches i x }

/-- A part of search `i` is done: merge its peaks. When it was the last, a tenant gets its ACQ frame with the record of R144, and the
allocator its own search. -/
def State.searchPart (s : State) (i flags slot status tsnap : Nat) (mean : Word) (inv blk : Nat) (ps : List Peak) : State :=
  match Tab.get (fun _ => none) s.dfly.searches i with
  | none => s
  | some x =>
    let fs := ps.map fun p => (⟨p, tsnap, flags.testBit 1⟩ : Found)
    let x : Search := { x with left := x.left - 1, status := max x.status status, flags := x.flags ||| flags, tsnap := tsnap,
                               mean := mean, inv := x.inv + inv, blk := x.blk + blk,
                               peaks := (sortBy (fun a b => a.peak.before b.peak) (x.peaks ++ fs)).take x.npeak }
    if x.left ≠ 0 then s.setSearch i (some x)
    else if x.chan.isSome then { s.setSearch i none with dfly.ended := s.dfly.ended ++ [x] }
    else (s.setSearch i none).sendFrame x.tenant 6
      (wordBytes (jobRecord x.tag x.flags slot x.status x.tsnap x.mean x.inv x.blk (x.peaks.map Found.peak)))

/-- Jobs a tenant has in slots. -/
def State.jobsOf (s : State) (t : Nat) : Nat :=
  ((List.range 64).filter fun n => decide (s.jsState n ≠ jsFREE) && decide (s.fget (F.JS_TENANT n) = t)).length

/-- Does the plan cover a request (R148)? A shed acquisition waits; priority 7 is never held back (R405). -/
def State.planCovers (s : State) (r : Req) : Bool :=
  decide ((s.tenant r.tenant).prio = 7) ||
    (s.pwr.shed.all (fun x => decide (x.cls ≠ 1 ∨ x.unit ≠ r.search.getD 0)) &&
      (match s.pwr.allow with
        | none => true
        | some a => decide (s.fget F.LG_PLAN + s.acqCost r.desc ≤ a)))

/-- The waiting request served next (R147): highest PRIO, tenants in turn; those with 8 jobs in slots wait on. -/
def State.nextRequest (s : State) : Option Req :=
  let can := s.dfly.waiting.filter fun r => decide (s.jobsOf r.tenant < 8) && s.planCovers r
  let key (r : Req) : Nat := (3 - jdPrio r.desc) * 4096 + (r.tenant + 4095 - s.dfly.rr) % 4096
  can.foldl (fun (m : Option Req) x => match m with
    | none => some x
    | some y => if key x < key y then some x else some y) none

/-- The Warden submits waiting requests while slots are free; one that Dragonfly refuses ends without peaks. -/
def State.serveRequests (s : State) : Nat → State
  | 0 => s
  | fuel + 1 =>
    match s.nextRequest with
    | some r =>
      if s.fget F.DF_STAT_NFREE = 0 ∨ s.domState 12 ≠ dON then s
      else
        let s := { s with dfly.waiting := s.dfly.waiting.erase r, dfly.rr := r.tenant }
        let s := s.jobSubmit r.desc r.search
        let s := if s.fget F.JOB_RET_CODE = 0 then s
          else match r.search with
            | some i => s.searchPart i 0 0 3 0 0 0 0 []
            | none => s
        s.serveRequests fuel
    | none => s

-- what a search asks of Dragonfly (R147, R149)

/-- One job's descriptor: the words 0 to 9 of a request with TENANT, PRIO, RESADDR and TAG set, a centre moved by `bins` bins and
a half-width of its own. -/
def searchJob (t prio id : Nat) (ws : List Word) (bins : Int) (half : Nat) : List Word :=
  let w (i : Nat) := ws.getD i 0
  let w1 := BitVec.ofNat 32 (((w 1).toNat / 2 ^ 24 * 2 ^ 24) + prio * 2 ^ 20 + ((w 1).toNat / 2 ^ 16 % 2) * 2 ^ 16 + t)
  let dc := BitVec.ofInt 32 ((w 3).toInt + bins * (jdBits ws 4 16 16 : Nat))
  let w4 := BitVec.ofNat 32 (jdBits ws 4 16 16 * 65536 + half)
  [w 0, w1, w 2, dc, w4, w 5, w 6, w 7, w 8, w 9, BitVec.ofNat 32 (0xF00000 + 512 * (id % 128)), 0, 0, 0, BitVec.ofNat 32 id, 0]

/-- The jobs of a request: one, or three over adjacent ranges when it needs more than 2,047 bins (R149). -/
def searchJobs (t prio id : Nat) (ws : List Word) : List (List Word) :=
  let n := jdBits ws 4 0 11
  if n ≤ 1023 then [searchJob t prio id ws 0 n]
  else
    let side := (n - 1) / 3
    let mid := n - 1 - 2 * side
    let d : Int := (mid + side + 1 : Nat)
    [searchJob t prio id ws (-d) side, searchJob t prio id ws 0 mid, searchJob t prio id ws d side]

/-- Open a search of tenant `t` at a PRIO by the descriptor `ws`, for channel `ch` when it is the allocator's: its jobs wait in the
Warden (R147). -/
def State.openSearch (s : State) (t prio : Nat) (ws : List Word) (ch : Option Nat) : State :=
  let id := s.dfly.nextSearch
  let js := searchJobs t prio id ws
  let x : Search := { tenant := t, tag := BitVec.ofNat 32 id, left := js.length, npeak := jdBits ws 6 16 5, chan := ch, desc := js.headD [] }
  { s.setSearch id (some x) with dfly.nextSearch := id % (2 ^ 32 - 1) + 1,
                                 dfly.waiting := s.dfly.waiting ++ js.map fun d => ⟨t, some id, d⟩ }

-- the end of a job (R138, R142 to R145)

/-- Slot `n` reaches DONE with a status, its mean and its peaks: record, blocks, counters, event. -/
def State.jobEnd (s : State) (n status : Nat) (mean : Word) (ps : List Peak) : State :=
  match s.job n with
  | none => s
  | some j =>
    let begun := decide (jsCAPTURE ≤ s.jsState n)
    let flags := (if s.flag (F.JS_PREEMPTED n) then 4 else 0) + (if j.stepped then 2 else 0) + (if s.flag (F.JS_LATE n) then 1 else 0)
    let ts := if begun then j.tsnap else 0
    let s := s.combWrite 4 (jdBits j.desc 10 6 18 * 64)
      (wordBytes (jobRecord (j.desc.getD 14 0) flags n status ts mean j.inv j.blk ps))
    let s := j.blocks.foldl (fun s b => s.setMapBit F.SNAP_MAP b false) s
    let s := (s.fput (F.JS_STATE n) jsDONE).setMapBit F.JS_DONE n true
    let s := (s.setJob n (some { j with blocks := [] })).finc F.DF_JOBS
    let s := s.put64 F.DF_CELLS_HI F.DF_CELLS_LO ((s.get64 F.DF_CELLS_HI F.DF_CELLS_LO + jdCells j.desc * j.bins * jdSegs j.desc) % 2 ^ 64)
    let s := s.evRise 0x040 (if status = 0 then 0 else 1)
    let s := if status = 2 then { s with dfly.waiting := s.dfly.waiting ++ [⟨jdTenant j.desc, j.search, j.desc⟩] }
      else match j.search with
        | some i => s.searchPart i flags n status ts mean j.inv j.blk ps
        | none => s
    ((s.jobRam 64).jobSelect).dfStat

/-- A job ended before its last bin: its mean is what the spec does not say (log entry 5). -/
def State.jobStop (s : State) (n status : Nat) : State :=
  let (m, s) := s.draw 32
  s.jobEnd n status (BitVec.ofNat 32 m) []

/-- ABORT of a slot (R137, R138). -/
def State.jobAbort (s : State) (n : Nat) : State :=
  let st := s.jsState n
  if st = jsFREE then s.jobRet 9 n
  else if st = jsDONE then s.jobRet 0 n
  else (s.jobStop n 3).jobRet 0 n

def execJobAbort (via : Via) (slot : Fin 64) (s : State) : Host.Outcome State Fault Refusal :=
  .next (s.gated (.jobAbort via slot) via 0x041 0x080 (·.jobAbort slot.val))

/-- DF_CTL.ABORTALL. -/
def State.abortAll (s : State) : State :=
  (List.range 64).foldl (fun s n => if s.jsState n = jsFREE ∨ s.jsState n = jsDONE then s else s.jobStop n 3) s

def execAbortall (via : Via) (s : State) : Host.Outcome State Fault Refusal :=
  .next (s.gated (.abortall via) via 0x040 0x040 State.abortAll)

/-- DF_CTL.HOLD (R140). -/
def State.dfHold (s : State) (on : Bool) : State := ((s.fputB F.DF_CTL_HOLD on).jobSelect).dfStat

def execDfHold (via : Via) (on : Bool) (s : State) : Host.Outcome State Fault Refusal :=
  .next (s.gated (.dfHold via on) via 0x040 0x040 (·.dfHold on))

/-- CAPTURE_START (R138, R139): at a boundary at or after START, with a port free and no bypass. -/
def execCaptureStart (slot : Fin 64) (s : State) : Host.Outcome State Fault Refusal :=
  let n := slot.val
  .next (match s.job n with
    | none => s
    | some j =>
      let k0 := if jdStart j.desc = 0 then j.armT * s.gridRate / sec + 1 else s.gridAt (jdStart j.desc)
      if s.jsState n ≠ jsARMED ∨ s.byp ∨ s.fget F.DF_STAT_CAPS = 8 ∨ s.gridIndex < k0 then s
      else (((s.setJob n (some { j with tsnap := s.gridNow })).fput (F.JS_STATE n) jsCAPTURE).fputB (F.JS_LATE n)
        (decide (k0 < s.gridIndex))).dfStat)

-- the capture front end (R135)

/-- The point that sample tick `t` of the capture belongs to: P / Tseg points a second, times 1 + DCENTRE / fc. -/
def Job.pointAt (j : Job) (t : Nat) : Nat :=
  let (tseg, _, _, p) := segRow (sgSIG (jdSig j.desc))
  let fc := 8 * carrierHz (jdSig j.desc)
  ((t : Int) * p * 1000 * (fc + (j.desc.getD 3 0).toInt) / (163680000 * tseg * fc)).toNat

/-- Close the points before `q`: the mean of the samples that fell in the point, requantized as R119 does for 4-bit streams with the
default step (log entry 91); zero, and counted, with a flagged one. A point without a sample repeats the one before. -/
def Job.flush (j : Job) (slot q : Nat) : Job :=
  let n := min (q - j.q) (jdPoints j.desc - j.pts.length)
  let v := cdiv j.sum (max 1 j.cnt)
  let sg := j.sigma.getD (Config.sigma0 (24 + slot), 1)
  let good := decide (j.fl = 0 ∧ 0 < j.cnt)
  let pt : Cx := if good then (level sg.1 sg.2 22 7 v.1, level sg.1 sg.2 22 7 v.2) else if j.fl ≠ 0 then (0, 0) else j.pts.headD (0, 0)
  { j with q := q, sum := (0, 0), cnt := 0, fl := 0, pts := List.replicate n pt ++ j.pts,
           inv := if j.fl = 2 then j.inv + n else j.inv, blk := if j.fl = 1 then j.blk + n else j.blk,
           pow := if good then j.pow + norm2 v else j.pow, powN := if good then j.powN + 1 else j.powN }

/-- One sample tick of a capture: the stream's sample, mixed down by FOFS + DCENTRE. A stream that runs no more gives INVALID (R146). -/
def State.capTick (s : State) (n : Nat) : State :=
  match s.job n with
  | none => s
  | some j =>
    if s.jsState n ≠ jsCAPTURE then s
    else
      let m := jdBits j.desc 1 24 5
      let b := s.sky.smp * 10 / 16368
      let j := if j.block = b then j
        else { j with sigma := if j.powN = 0 then j.sigma else some (j.pow, j.powN), pow := 0, powN := 0, block := b }
      let q := j.pointAt j.ticks
      let j := if q = j.q then j else j.flush n q
      let f := 8 * (j.desc.getD 2 0).toInt + (j.desc.getD 3 0).toInt
      let j := match if s.strRun m then (s.str m).out else some {} with
        | none => j
        | some y =>
          let c := cdiv (cmul (y.i * 2 ^ 16, y.q * 2 ^ 16) (cis (-(f * j.ticks) * 2 ^ 32 / 1309440000))) (2 ^ 30)
          { j with sum := cadd j.sum c, cnt := j.cnt + 1, fl := max j.fl y.fl }
      s.setJob n (some { j with ticks := j.ticks + 1 })

/-- One sample tick of every capture. -/
def State.dflyTick (s : State) : State := (List.range 64).foldl State.capTick s

/-- CAPTURE_DONE (R135, R138): S x Tseg has elapsed. -/
def execCaptureDone (slot : Fin 64) (s : State) : Host.Outcome State Fault Refusal :=
  let n := slot.val
  .next (match s.job n with
    | none => s
    | some j =>
      if s.jsState n ≠ jsCAPTURE ∨ j.ticks < jdSegs j.desc * (segRow (sgSIG (jdSig j.desc))).1 * 163680 then s
      else
        let s := { s with dfly.orders := s.dfly.orders + 1 }
        (((s.setJob n (some { j.flush n (j.q + 1) with ready := s.dfly.orders })).fput (F.JS_STATE n) jsREADY).jobSelect).dfStat)

-- the search (R133, R134, R143)

/-- The correlation of segment `k` at point `q` in bin `i`: the code phase of the point at TSNAP, the bin's Doppler taken off with the
rotation to the segment's start, and the segment's sign from the table at ASSADDR. -/
def State.segCorr (s : State) (j : Job) (i : Int) (k q : Nat) : Cx :=
  let d := j.desc
  let (tseg, chips, _, p) := segRow (sgSIG (jdSig d))
  let pts := j.pts.reverse
  let sign : Int := if jdBits d 1 16 1 = 1 then bitSign (s.combBit (jdBits d 9 0 24) k) else 1
  let term (x : Nat) : Cx :=
    let v := pts.getD (k * p + x) (0, 0)
    let r := sign * s.searchReplica (jdSig d) (jdBits d 8 0 24) ((x + q) % p * chips * 2 ^ 40 / p)
    cmul (v.1 * r, v.2 * r) (cis (-(i * jdBits d 4 16 16 * (k * p + x : Nat) * tseg * 2 ^ 32 / (8000 * p : Nat))))
  cfloor (sumTo p term) (2 ^ 30)

/-- Power of a point: coherent blocks of TCOH summed, their squared magnitudes over the NC blocks. -/
def State.binPoint (s : State) (j : Job) (i : Int) (q : Nat) : Nat :=
  let c := jdSegs j.desc / max 1 (jdNc j.desc)
  sumNat ((List.range (jdNc j.desc)).map fun b => norm2 (sumTo c fun k => s.segCorr j i (b * c + k) q))

/-- The grid of powers: bins in the order they are processed, each with all P points. -/
def State.searchGrid (s : State) (j : Job) : List (Int × List Nat) :=
  (List.range (jdBins j.desc)).map fun k => (binAt k, (List.range (segRow (sgSIG (jdSig j.desc))).2.2.2).map (s.binPoint j (binAt k)))

def gridAt? (g : List (Int × List Nat)) (i : Int) : Option (List Nat) := (g.find? fun r => r.1 = i).map Prod.snd

/-- Not less than any point within two points, modulo P, in its own bin and the bins beside it. -/
def topPoint (g : List (Int × List Nat)) (p : Nat) (v : Nat) (i : Int) (q : Nat) : Bool :=
  [i - 1, i, i + 1].all fun b => match gridAt? g b with
    | some r => [p - 2, p - 1, 0, 1, 2].all fun k => decide (r.getD ((q + k) % p) 0 ≤ v)
    | none => true

/-- The vertex of the parabola through `a`, `b`, `c`: offset from the middle as numerator and denominator. -/
def vertex (a b c : Nat) : Int × Int :=
  let d : Int := 2 * (2 * (b : Int) - a - c)
  if d = 0 then (0, 1) else ((c : Int) - a, d)

/-- The peak at bin `i` and point `q` of power `v`, refined (R143, R144). `mean` and `cnt`: the sum of all powers and their number. -/
def peakAt (d : List Word) (g : List (Int × List Nat)) (unit total cnt v : Nat) (i : Int) (q : Nat) : Peak :=
  let (_, chips, _, p) := segRow (sgSIG (jdSig d))
  let row := (gridAt? g i).getD []
  let c := vertex (row.getD ((q + p - 1) % p) 0) v (row.getD ((q + 1) % p) 0)
  let b := match gridAt? g (i - 1), gridAt? g (i + 1) with
    | some lo, some hi => vertex (lo.getD q 0) v (hi.getD q 0)
    | _, _ => (0, 1)
  { code := BitVec.ofInt 24 (roundDiv ((q * c.2 + c.1) * (chips * 64 : Nat)) (p * c.2) % (chips * 64 : Nat)),
    dop := BitVec.ofInt 32 ((d.getD 3 0).toInt + roundDiv ((i * b.2 + b.1) * (jdBits d 4 16 16 : Nat)) b.2),
    bin := BitVec.ofInt 16 i, pmr := BitVec.ofInt 16 (clampInt 0 0xFFFF (dB16 (v * cnt) total)),
    pow := BitVec.ofNat 32 (min 0xFFFFFFFF (v / unit)) }

/-- The mean and the peaks of a job whose last bin is done (R143), powers in the engine's units (log entry 92). -/
def State.jobPeaks (s : State) (j : Job) : Word × List Peak :=
  let d := j.desc
  let (_, _, nc, p) := segRow (sgSIG (jdSig d))
  let g := s.searchGrid j
  let total := sumNat (g.map fun r => sumNat r.2)
  let cnt := p * jdBins d
  let unit := Config.powerUnit d + 1
  let cand := (sortBy (fun a b => decide (a.1 ≤ b.1)) g).flatMap fun r => r.2.zipIdx.filterMap fun x =>
    if 0 < x.1 ∧ jdBits d 5 0 16 * p ≤ x.2 * nc ∧ x.2 * nc < (jdBits d 5 0 16 + jdCpLen d) * p ∧ topPoint g p x.1 r.1 x.2 ∧
        dbLe 16 (x.1 * cnt) total (jdBits d 7 0 16) then some (x.1, r.1, x.2) else none
  (BitVec.ofNat 32 (min 0xFFFFFFFF (total / cnt / unit)),
    ((sortBy (fun a b => decide (b.1 ≤ a.1)) cand).take (jdNpeak d)).map fun x => peakAt d g unit total cnt x.1 x.2.1 x.2.2)

/-- The slot in RUN. -/
def State.running (s : State) : Option Nat := (List.range 64).find? fun n => s.jsState n = jsRUN

/-- Cells searched, for the Ledger's ACQ class (R142, R399). -/
def State.ranCells (s : State) (n : Nat) : State := { s with pwr.ranCells := s.pwr.ranCells + n }

/-- BIN_DONE (R138, R140): a bin that is not the last; a READY job of higher PRIO, or HOLD, suspends the job. -/
def execBinDone (s : State) : Host.Outcome State Fault Refusal :=
  .next (match s.running with
    | none => s
    | some n => match s.job n with
      | none => s
      | some j =>
        if s.byp ∨ jdBins j.desc ≤ j.bins + 1 then s
        else
          let s := (s.setJob n (some { j with bins := j.bins + 1 })).ranCells (jdCells j.desc * jdSegs j.desc)
          let out := s.flag F.DF_CTL_HOLD || (List.range 64).any fun k =>
            decide (s.jsState k = jsREADY ∧ s.fget (F.JS_PRIO n) < s.fget (F.JS_PRIO k))
          if out then ((((s.fput (F.JS_STATE n) jsSUSPENDED).fputB (F.JS_PREEMPTED n) true)).jobSelect).dfStat else s)

/-- JOB_DONE (R138, R143 to R145): the last bin is done; the mean power and the peaks are formed. -/
def execJobDone (s : State) : Host.Outcome State Fault Refusal :=
  .next (match s.running with
    | none => s
    | some n => match s.job n with
      | none => s
      | some j =>
        if s.byp ∨ j.bins + 1 < jdBins j.desc then s
        else
          let s := (s.setJob n (some { j with bins := jdBins j.desc })).ranCells (jdCells j.desc * jdSegs j.desc)
          let (mean, ps) := s.jobPeaks j
          if jdPoints j.desc < 8 * j.inv then s.jobEnd n 1 mean [] else s.jobEnd n 0 mean ps)

/-- A JS_DONE bit cleared frees its slot (R138), and the Warden submits what waits. -/
def State.jobFree (s : State) (n : Nat) : State :=
  if s.jsState n = jsDONE then
    ((((s.setMapBit F.JS_DONE n false).setReg (F.JS_STATE n).addr 0).setJob n none).dfStat).serveRequests 64
  else s

def execJsDoneClear (via : Via) (slot : Fin 64) (s : State) : Host.Outcome State Fault Refusal :=
  .next (s.gated (.jsDoneClear via slot) via 0x042 (0x140 + 4 * (slot.val / 32)) (·.jobFree slot.val))

/-- BYP rises (R138, R146): jobs in CAPTURE and RUN end BYPASS. -/
def State.dfBypass (s : State) : State :=
  (List.range 64).foldl (fun s n => if s.jsState n = jsCAPTURE ∨ s.jsState n = jsRUN then s.jobStop n 2 else s) s

/-- DFLY is forced off (R146): every slot is lost with no record; the Warden will submit its searches again. -/
def State.dfLost (s : State) : State :=
  let again := (List.range 64).filterMap fun n => match s.job n with
    | some j => if s.jsState n = jsDONE then none else some (⟨jdTenant j.desc, j.search, j.desc⟩ : Req)
    | none => none
  { s with dfly.jobs := [], dfly.waiting := s.dfly.waiting ++ again }

end Sys2Proof.Machine
end

