-- ==== Sys2Proof/Machine/Model.lean ====
section
/-! DEFINITION. The Scarab model table (10: R186, R188): its fields, the built-in table and the check of a new one. -/

namespace Sys2Proof.Machine

/-- The built-in table: the defaults of R188. -/
def modelDefault : List Word :=
  [0x00840001, 0x00000021, 0x01401000, 0x03E80000, 0x00640190, 0x0000007F, 0x00600003, 0x04960014, 0x40600006, 0x01400C64,
   0x03E807D0, 0x05406401, 0x0705010A, 0x019001F4, 0x00640064, 0x0030000A, 0x000A000A, 0x00960000] ++ List.replicate 15 0

/-- Bits [lo + w - 1 : lo] of the word at byte offset `o`. -/
def mfld (m : List Word) (o lo w : Nat) : Nat := (m.getD (o / 4) 0).toNat / 2 ^ lo % 2 ^ w

def State.model (s : State) : List Word := s.scarab.model.getD modelDefault
def State.mf (s : State) (o lo w : Nat) : Nat := mfld s.model o lo w

def mVEC (s : State) : Bool := s.mf 0x04 0 1 = 1
def mBEAM (s : State) : Bool := s.mf 0x04 1 1 = 1
def mRTK (s : State) : Bool := s.mf 0x04 2 1 = 1
def mVCARR (s : State) : Bool := s.mf 0x2C 0 1 = 1

/-- States in use: 21 + NSAT + NBIAS + NAMB (R186). -/
def modelStates (m : List Word) : Nat := 21 + mfld m 0x08 16 8 + mfld m 0x08 8 8 + mfld m 0x08 0 8

/-- A field outside its stated range, or RTK without ambiguities (R188). -/
def modelBadVal (m : List Word) : Bool :=
  let between (o lo w a b : Nat) : Bool := decide (a ≤ mfld m o lo w ∧ mfld m o lo w ≤ b)
  !(between 0x04 4 4 0 3 && between 0x08 24 8 1 255 && between 0x10 16 16 0 900 && between 0x18 0 8 1 255 &&
    between 0x1C 0 8 5 100 && between 0x20 0 8 4 255 && between 0x2C 24 8 1 255 && between 0x2C 16 8 1 255 &&
    between 0x30 8 8 0 2 && between 0x40 16 16 1 1000 && between 0x40 0 16 1 1000) ||
    decide (mfld m 0x04 2 1 = 1 ∧ mfld m 0x08 0 8 = 0)

/-- SC_MRES.CODE of a table (R189): 1 BADFMT, 2 BADCRC, 4 BADVAL, 3 TOOMANY, 0 OK. -/
def modelCode (m : List Word) : Nat :=
  if mfld m 0 16 16 ≠ 0x84 ∨ mfld m 0 0 16 ≠ 1 then 1
  else if mfld m 0x80 0 32 ≠ crc32c (wordBytes (m.take 32)) then 2
  else if modelBadVal m then 4
  else if 192 < modelStates m then 3
  else 0

def lightMps : Int := 299792458

/-- System code of a signal (R188, SYSEN). -/
def sysOf (n : Nat) : Nat :=
  if n ≤ 4 then 0 else if n ≤ 8 then 1 else if n ≤ 12 then 2 else if n ≤ 15 then 3 else if n ≤ 19 then 4
  else if n = 20 then 5 else 6

end Sys2Proof.Machine
end

