-- ==== Sys2Proof/Machine/Hive.lean ====
section
/-! DEFINITION. Hives (09: R152 to R171, R174): starting and stopping channels, changes, the correlators and their dumps. -/

namespace Sys2Proof.Machine

def chIDLE : Nat := 0
def chARMED : Nat := 1
def chPULLIN : Nat := 2
def chTRACK : Nat := 3
def chVECTOR : Nat := 4
def chCOAST : Nat := 5
def chLOST : Nat := 6

-- causes of CHk_STAT.EVC
def evLOCK : Nat := 0
def evLOSS : Nat := 1
def evSLIP : Nat := 2
def evSYNC : Nat := 3
def evDECFAIL : Nat := 4
def evSTOPPED : Nat := 5
def evLATE : Nat := 6

def hvPage (h : Nat) : Nat := 0x080 + 8 * h
/-- Slot base of channel `ch` (R152) and its register at offset `o`. -/
def chOff (ch : Nat) : Nat := 0x040 + 0xF0 * (ch % 16)
def chReg (ch o : Nat) : Fld := ⟨chPage ch * 4096 + chOff ch + o, 0, 32⟩

def State.chState (s : State) (ch : Nat) : Nat := s.fget (F.CH_STAT_STATE ch)
def State.grid (s : State) (h : Nat) : Bool := !s.flag (F.HV_CTL_DMODE h)
def State.live (s : State) (ch : Nat) : Bool := decide (chPULLIN ≤ s.chState ch ∧ s.chState ch ≤ chVECTOR)
def localChans (h : Nat) : List Nat := (List.range 64).map (64 * h + ·)
def allChans : List Nat := List.range 1024

-- loads (R159)

def popcount : Nat → Nat → Nat
  | 0, _ => 0
  | n + 1, v => v % 2 + popcount n (v / 2)

/-- ELEM: 0 acts as 1 (R160). -/
def elems (strm : Word) : Nat := max 1 (strm.toNat % 8)
def strmOf (strm : Word) : Nat := strm.toNat / 65536 % 32
def tapsOf (ctl : Word) : Nat := ctl.toNat / 65536 % 1024

def State.chanLoad (s : State) (ctl strm : Word) : Nat :=
  popcount 10 (tapsOf ctl) * (8 / s.strD (strmOf strm)) * elems strm

/-- Work the allocator has on Hive `h`: running channels, channels chosen for a subscription, pins (R14, R15). -/
def State.placedOn (s : State) (h : Nat) : Bool :=
  decide (s.fget (F.HV_LOAD_NCH h) ≠ 0) || (s.tn.pins.any fun e => e.2.isSome && decide (e.1 / 64 = h)) ||
    s.tn.tenants.any fun e => e.2.subs.any fun b => b.place.any fun ch => decide (ch / 64 = h)

/-- The allocator's vote for a Hive domain stands while it has work there (R15). -/
def State.hiveVote (s : State) (h : Nat) : State := s.castVote (13 + h) 4096 (s.placedOn h)

def ALLOCATOR : Nat := 4096

def State.anySub (s : State) (p : Sub → Bool) : Bool := s.tn.tenants.any fun e => e.2.subs.any p

/-- Has the allocator work placed in a domain (R15, R294)? The Hives' and Dragonfly's votes follow their own work. -/
def State.workIn (s : State) (d : Nat) : Bool :=
  let placed := (List.range 16).any s.placedOn
  let stream (m : Nat) := s.anySub fun b => decide (b.kind = 7 ∧ b.sel % 32 = m)
  let streams := (List.range 24).any stream
  if 3 ≤ d ∧ d ≤ 10 then
    (List.range 24).any fun m => decide (s.fget (F.STR_SRC m).act = d - 3) && s.strRun m && (stream m || placed)
  else if d = 11 then placed || streams
  else if d = 29 ∨ d = 31 then placed
  else if d = 32 then s.flag F.SM_STAT_BUSY || decide (s.hive.copies ≠ [])
  else if d = 33 then
    decide (s.fget F.UP_STAT_STATE ≠ 0 ∨ s.fget F.DF_STAT_NFREE ≠ 64 ∨ s.dfly.waiting ≠ []) ||
      (List.range 24).any fun m => stream m && (s.strDest m 2 || s.strDest m 3 || s.strDest m 4)
  else if d = 35 then (List.range 24).any fun m => stream m && s.strDest m 2
  else if d = 36 then (List.range 24).any fun m => stream m && (s.strDest m 3 || s.strDest m 4)
  else false

/-- The domains whose allocator vote follows `workIn`. -/
def allocDomains : List Nat := [3, 4, 5, 6, 7, 8, 9, 10, 11, 29, 31, 32, 33, 35, 36]

/-- The allocator's votes follow its work (R15). -/
def State.allocVotes (s : State) : State :=
  (List.range 16).foldl State.hiveVote (allocDomains.foldl (fun s d => s.castVote d ALLOCATOR (s.workIn d)) s)

/-- Count a channel's load, or take it back; the allocator's votes follow. -/
def State.setLoad (s : State) (ch u : Nat) (on : Bool) : State :=
  let h := ch / 64
  let l := ch % 64
  let sgn (a b : Nat) : Nat := if on then a + b else a - b
  ((((s.fput (F.HV_LOAD_LOAD h) (sgn (s.fget (F.HV_LOAD_LOAD h)) u)).fput (F.HV_LOAD_NCH h)
    (sgn (s.fget (F.HV_LOAD_NCH h)) 1)).setMapBit (F.HV_RUN h) l on).fput (F.TLOAD_V h l) (if on then u else 0)).allocVotes

-- START (R162)

/-- R160: the element streams of a beam-mode channel. -/
def State.beamOk (s : State) (h m e : Nat) : Bool :=
  let ms := (List.range e).map (m + ·)
  let src (x : Nat) := s.fget (F.STR_SRC x).act
  s.grid h && ms.all (fun x => decide (x < 24 ∧ src x < 8) && s.strRun x && s.strDest x 0 &&
    decide (s.strD x = s.strD m ∧ s.fget (F.STR_WIDTH x).act = s.fget (F.STR_WIDTH m).act)) &&
    decide (2 ≤ popcount 8 (s.groupMask (src m / 4))) && ms.all (fun x => (s.groupMask (src m / 4)).testBit (src x))

/-- The PG_FAULT bit of HIVEn.CTL a start is refused with: RUNNING 5, BADSIG 0, BADTAPS 3, BADSTRM 4, BADLOAD 2. -/
def State.startFault (s : State) (ch : Nat) : Option Nat :=
  let h := ch / 64
  let ctl := s.reg (chReg ch 0).addr
  let sig := s.reg (chReg ch 4).addr
  let code := s.reg (chReg ch 8).addr
  let strm := s.reg (chReg ch 12).addr
  let m := strmOf strm
  let e := strm.toNat % 8
  if s.chState ch ≠ chIDLE then some 5
  else if ¬ sigOk sig ∨ ¬ s.codesLoaded h sig code then some 0
  else if ¬ (tapsOf ctl).testBit 1 ∨ (sgCOMP sig = 2 ∧ ¬ (tapsOf ctl).testBit 8) then some 3
  else if ¬ s.strRun m ∨ ¬ s.strDest m 0 ∨ 2 ≤ s.fget (F.STR_WIDTH m).act ∨ 4 < e ∨ (2 ≤ e ∧ ¬ s.beamOk h m e) ∨
      2 ^ 39 < s.get64 (F.CH_CODE_FH_CCW ch) (F.CH_CODE_FL ch) then some 4
  else if 5120 < s.fget (F.HV_LOAD_LOAD h) + s.chanLoad ctl strm then some 2
  else none

def State.setWeights (s : State) (ch : Nat) (ws : List Word) : State :=
  (List.range 4).foldl (fun s m => s.setReg (chReg ch (0x50 + 4 * m)).addr (ws.getD m 0)) s

/-- START of a channel (R120, R160 to R162): armed, or refused with its fault and HV_LASTF. -/
def State.chStart (s : State) (ch : Nat) : State :=
  match s.startFault ch with
  | some b => (s.fault (hvPage (ch / 64)) b).fput (F.HV_LASTF_L (ch / 64)) (ch % 64)
  | none =>
    let ctl := s.reg (chReg ch 0).addr
    let strm := s.reg (chReg ch 12).addr
    let u := s.chanLoad ctl strm
    let c : ChanSt := { ctl := ctl, sig := s.reg (chReg ch 4).addr, code := s.reg (chReg ch 8).addr, strm := strm,
                        load := u, armT := s.now, first := true }
    (((s.setChan ch c).setLoad ch u true).fput (F.CH_STAT_STATE ch) chARMED).setWeights ch [0x40000000, 0, 0, 0]

/-- STOP (R161, R165): the open integration is discarded. -/
def State.chStop (s : State) (ch : Nat) : State :=
  if s.chState ch = chIDLE then s
  else
    let s := s.setMapBit F.VC_TAKEN ch false
    ((s.setLoad ch (s.chan ch).load false).fput (F.CH_STAT_STATE ch) chIDLE).setChan ch {}

def execChStart (via : Via) (ch : Fin 1024) (s : State) : Host.Outcome State Fault Refusal :=
  .next (s.gated (.chStart via ch) via (chPage ch.val) (chOff ch.val) (·.chStart ch.val))

def execChStop (via : Via) (ch : Fin 1024) (s : State) : Host.Outcome State Fault Refusal :=
  .next (s.gated (.chStop via ch) via (chPage ch.val) (chOff ch.val) (·.chStop ch.val))

/-- HV_START (R162): the channels it names, in ascending order. -/
def State.hvStart (s : State) (h mask : Nat) : State :=
  ((List.range 64).filter mask.testBit).foldl (fun s l => s.chStart (64 * h + l)) s

/-- HV_START of both words: each is judged as its own register. -/
def execHvStart (via : Via) (h : Fin 16) (mask : BitVec 64) (s : State) : Host.Outcome State Fault Refusal :=
  let lo := mask.toNat % 2 ^ 32
  let hi := mask.toNat / 2 ^ 32 * 2 ^ 32
  let s := if lo = 0 then s else s.gated (.hvStart via h (BitVec.ofNat 64 lo)) via (hvPage h.val) 0x050 (·.hvStart h.val lo)
  .next (if hi = 0 then s else s.gated (.hvStart via h (BitVec.ofNat 64 hi)) via (hvPage h.val) 0x054 (·.hvStart h.val hi))

/-- HV_CTL.DMODE (R166). -/
def State.dmode (s : State) (h : Nat) (d : Bool) : State :=
  if s.flag (F.HV_CTL_DMODE h) = d then s
  else if s.fget (F.HV_LOAD_NCH h) ≠ 0 then s.fault (hvPage h) 5
  else s.fputB (F.HV_CTL_DMODE h) d

def execDmodeWrite (via : Via) (h : Fin 16) (d : Bool) (s : State) : Host.Outcome State Fault Refusal :=
  .next (s.gated (.dmodeWrite via h d) via (hvPage h.val) 0x040 (·.dmode h.val d))

/-- A write of a word or spacing (R164): a running channel takes it at its next dump close, a pair with its high
word; while in VECTOR a Weevil's writes of the NCO words are dropped. -/
def State.ncoWrite (s : State) (via : Via) (ch o : Nat) (v : Word) : State :=
  let weevil : Bool := match via with | .hive _ => true | _ => false
  if o < 0x2C ∧ s.chState ch = chVECTOR ∧ weevil then s
  else
    let s := s.store (chPage ch) (chOff ch + o) v
    let c := s.chan ch
    if ¬ s.live ch ∧ s.chState ch ≠ chCOAST then s
    else if o = 0x1C then s.setChan ch { c with newCar := some (s.get64 (F.CH_CAR_FH_FCW ch) (F.CH_CAR_FL ch)) }
    else if o = 0x24 then s.setChan ch { c with newCode := some (s.get64 (F.CH_CODE_FH_CCW ch) (F.CH_CODE_FL ch)) }
    else if 0x38 ≤ o ∧ o ≤ 0x44 then s.setChan ch { c with newSp := true }
    else s

def execNcoWordWrite (via : Via) (ch : Fin 1024) (off : BitVec 8) (v : Word) (s : State) : Host.Outcome State Fault Refusal :=
  let o := off.toNat
  .next (if (0x1C ≤ o ∧ o ≤ 0x28 ∨ 0x38 ≤ o ∧ o ≤ 0x44) ∧ o % 4 = 0 then
      s.gated (.ncoWordWrite via ch off v) via (chPage ch.val) (chOff ch.val + o) (·.ncoWrite via ch.val o v)
    else s)

-- NCOs (R154, R155, R163)

def State.carNow (s : State) (ch : Nat) : Int := signed 48 (s.get64 (F.CH_CAR_NOWH ch) (F.CH_CAR_NOWL ch))
def State.codeNow (s : State) (ch : Nat) : Nat := s.get64 (F.CH_CODE_NOWH ch) (F.CH_CODE_NOWL ch)

/-- Advance a channel's NCOs by `n` stream samples. -/
def ChanSt.advance (c : ChanSt) (fcw : Int) (ccw n : Nat) : ChanSt :=
  let p : Int := c.carP + fcw * n
  let q := c.chip * 2 ^ 40 + c.frac + ccw * n
  { c with carP := (p % 2 ^ 48).toNat, cyc := c.cyc + p / 2 ^ 48,
           chip := q / 2 ^ 40 % chipMod c.sig, frac := q % 2 ^ 40 }

def State.setWords (s : State) (ch car code : Nat) : State :=
  (s.put64 (F.CH_CAR_NOWH ch) (F.CH_CAR_NOWL ch) car).put64 (F.CH_CODE_NOWH ch) (F.CH_CODE_NOWL ch) code

/-- Latch the phases at a dump. -/
def State.latchPhases (s : State) (ch : Nat) (c : ChanSt) : State :=
  (((s.fput (F.CH_LCP_I_V ch) c.chip).fput (F.CH_LCP_F ch) (c.frac / 256)).fput (F.CH_CYC ch) (unsigned 32 c.cyc)).fput
    (F.CH_LCA ch) (c.carP / 65536)

def State.spacing (s : State) (ch : Nat) : List Word := [0x38, 0x3C, 0x40, 0x44].map fun o => s.reg (chReg ch o).addr

/-- An armed channel starts at the boundary `t` (R161, R163). -/
def State.chPullin (s : State) (ch t : Nat) : State :=
  let c := s.chan ch
  let st := s.get96 fun i => chReg ch (0x10 + 4 * i)
  if st ≠ 0 ∧ t < st then s
  else
    let car := s.get64 (F.CH_CAR_FH_FCW ch) (F.CH_CAR_FL ch)
    let code := s.get64 (F.CH_CODE_FH_CCW ch) (F.CH_CODE_FL ch)
    let c := { c with carP := s.fget (F.CH_CAR_P0 ch) * 65536, cyc := 0, chip := s.fget (F.CH_CPI_PH ch) % chipMod c.sig,
                      frac := s.fget (F.CH_CPF ch) * 256, sp := s.spacing ch }
    let late := decide (st ≠ 0 ∧ st < t)
    let c := if late then { c.advance (signed 48 car) code ((t - st) * s.strFs (strmOf c.strm) / sec) with cyc := 0 } else c
    let s := ((s.setChan ch c).setWords ch car code).fput (F.CH_STAT_STATE ch) chPULLIN
    let s := (s.setReg (F.CH_FLAGS_PLOCK ch).addr 0).fputB (F.CH_FLAGS_HALFC ch) (decide (sgCOMP c.sig = 0))
    (s.fput (F.CH_LOCKT ch) 0).when late (·.chEvent ch evLATE)

-- dumps (R167 to R171, R181, R185)

/-- RTK of a full filter with base data (R207): FIX while at least 5 ambiguities are fixed, else FLOAT; each change raises RTK. -/
def State.setRtk (s : State) (r : Nat) : State :=
  if s.fget F.SC_STAT_RTK = r then s else (s.fput F.SC_STAT_RTK r).evRise 0x101 3

/-- A fixed ambiguity whose channel slips returns to float (R207). -/
def State.unfix (s : State) (ch : Nat) : State :=
  if s.scarab.ambFix.contains ch then
    let l := s.scarab.ambFix.filter (· ≠ ch)
    { s with scarab.ambFix := l }.when (decide (l.length < 5)) (·.setRtk 1)
  else s

/-- FLAGS.SLIP is set and LOCKT cleared (R181). -/
def State.slip (s : State) (ch : Nat) : State :=
  let c := s.chan ch
  ((((s.setChan ch { c with phi0 := none }).fputB (F.CH_FLAGS_SLIP ch) true).fput (F.CH_LOCKT ch) 0).chEvent ch evSLIP).unfix ch

def tapMax : Int := 2 ^ 23 - 1
def clampTap (x : Int × Int) : Int × Int := (clampInt (-tapMax) tapMax x.1, clampInt (-tapMax) tapMax x.2)

/-- The status byte of a dump (R170). -/
def dumpStatus (inval sub blank stepped newset sat first : Bool) : Nat :=
  let b (c : Bool) (n : Nat) := if c then 2 ^ n else 0
  128 + b inval 6 + b sub 5 + b blank 4 + b stepped 3 + b newset 2 + b sat 1 + b first 0

/-- A channel leaves VECTOR or TRACK for LOST (R161); the allocator will look for its signal at PRIO 3 (R147). -/
def State.chLost (s : State) (ch : Nat) : State :=
  { (((s.fput (F.CH_STAT_STATE ch) chLOST).setMapBit F.VC_TAKEN ch false).chEvent ch evLOSS) with
    dfly.again := s.dfly.again ++ [(ch, 3)] }

/-- Steering commands at the dump close: LOST before RELEASE before TAKE (R185). -/
def State.steered (s : State) (ch : Nat) : State :=
  let c := s.chan ch
  let s := s.setChan ch { c with take := false, release := false, lost := false }
  if c.lost then s.chLost ch
  else if c.release then
    if s.chState ch = chVECTOR then (s.fput (F.CH_STAT_STATE ch) chTRACK).setMapBit F.VC_TAKEN ch false else s
  else if c.take ∧ s.chState ch = chTRACK ∧ s.flag (F.CH_CTL_VECOK ch) ∧ s.grid (ch / 64) then
    (s.fput (F.CH_STAT_STATE ch) chVECTOR).setMapBit F.VC_TAKEN ch true
  else s

/-- Changes written since the last close take effect (R164). -/
def State.applyNew (s : State) (ch : Nat) : State :=
  let c := s.chan ch
  let s := s.setWords ch (c.newCar.getD (s.get64 (F.CH_CAR_NOWH ch) (F.CH_CAR_NOWL ch))) (c.newCode.getD (s.codeNow ch))
  s.setChan ch { c with newset := c.newCar.isSome || c.newCode.isSome || c.newSp, newCar := none, newCode := none,
                        newSp := false, sp := if c.newSp then s.spacing ch else c.sp, first := false }

-- the correlators (R154 to R160, R167 to R171)

/-- The generator applies the secondary code: SECSTRIP, once its phase has been found (R124, R180). -/
def State.strips (s : State) (ch : Nat) (c : ChanSt) : Bool := sgSECSTRIP c.sig && s.flag (F.CH_FLAGS_SECSYNC ch)

/-- One stream sample into accumulator `k` of element `m`: the sample, the carrier replica of the top six bits of the phase (R154),
and the tap's code replica. -/
def State.corrTerm (s : State) (ch : Nat) (c : ChanSt) (y : Smp) (k : Nat) : Cx :=
  let r := s.replica (ch / 64) c.sig c.code c.sp (s.strips ch c) (c.chip * 2 ^ 40 + c.frac) k
  cmul (y.i * r, y.q * r) (cis (-(c.carP / 2 ^ 42 * 2 ^ 26 : Nat)))

/-- The stream samples of this tick of a channel's elements; none between samples of its stream. -/
def State.elemSamples (s : State) (c : ChanSt) : Option (List Smp) :=
  ((List.range (elems c.strm)).map fun m => (s.str (strmOf c.strm + m)).out).foldr (fun x l => match x, l with
    | some y, some r => some (y :: r)
    | _, _ => none) (some [])

/-- Accumulate one sample of every element: flagged samples contribute zero and leave their mark (R170). -/
def State.accumulate (s : State) (ch : Nat) (c : ChanSt) (ys : List Smp) : ChanSt :=
  let acc := ys.zipIdx.flatMap fun y => (List.range 10).map fun k =>
    let a := c.acc.getD (10 * y.2 + k) (0, 0)
    if y.1.fl = 0 ∧ (tapsOf c.ctl).testBit k then cadd a (s.corrTerm ch c y.1 k) else a
  { c with acc := acc, nsamp := c.nsamp + 1, n := c.n + 1, inval := c.inval || ys.any (fun y => decide (y.fl = 2)),
           blank := c.blank || ys.any fun y => decide (y.fl = 1) }

/-- The weights of an element's accumulators in 2^-14 (R160): a channel of one element takes its own whole. -/
def State.elemWeight (s : State) (ch m : Nat) : Cx :=
  let w := (s.reg (chReg ch (0x50 + 4 * m)).addr).toNat
  (signed 16 (w / 65536), signed 16 w)

/-- A tap's dump from the elements' accumulators `acc`: the sum of w_m acc_m, whole units (R160). -/
def State.tapSum (s : State) (ch e : Nat) (acc : Nat → Cx) : Cx :=
  if e < 2 then cfloor (acc 0) (2 ^ 45) else cfloor (sumTo e fun m => cmul (s.elemWeight ch m) (acc m)) (2 ^ 59)

/-- The data-bearing prompt (R169): tap 8 with BOTH, else tap 1. -/
def dataTap (sig : Word) : Nat := if sgCOMP sig = 2 then 8 else 1

/-- Close one channel's integration (R160, R167 to R171, R181): phases, status byte, sub-integration and element prompts; changes and
steering take effect. -/
def State.closeDump (s : State) (ch : Nat) : Dump × State :=
  let c := s.chan ch
  let e := elems c.strm
  let sub := if s.flag (F.CH_CTL_SUBEN ch) ∧ s.grid (ch / 64) then
      c.sub.map fun x => clampTap (s.tapSum ch e fun m => x.getD m (0, 0)) else none
  let taps := (List.range 10).map fun k =>
    if (tapsOf c.ctl).testBit k then s.tapSum ch e fun m => c.acc.getD (10 * m + k) (0, 0) else (0, 0)
  let sat := taps.any fun x => decide (clampTap x ≠ x)
  let st := dumpStatus c.inval sub.isSome c.blank s.sky.stepDump c.newset sat c.first
  let put24 (s : State) (f : Fld) (v : Int) : State := s.fput f (unsigned 24 (clampInt (-tapMax) tapMax v))
  let c' := { c with dumps := (c.dumps + 1) % 65536, epInval := c.epInval || c.inval, epBlank := c.epBlank || c.blank,
                     acc := [], nsamp := 0, inval := false, blank := false, sub := none, nEpDump := c.nEp }
  let s := ((s.setChan ch c').latchPhases ch c').fput (F.CH_STAT_LASTDS ch) st
  let s := put24 (put24 s (F.CH_SUBI_V ch) (sub.getD (0, 0)).1) (F.CH_SUBQ_V ch) (sub.getD (0, 0)).2
  let s := if 2 ≤ e then (List.range e).foldl (fun s m =>
      let x := cfloor (c.acc.getD (10 * m + 1) (0, 0)) (2 ^ 45)
      put24 (put24 s { chReg ch (0x94 + 8 * m) with w := 24 } x.1) { chReg ch (0x98 + 8 * m) with w := 24 } x.2) s else s
  let s := if c.inval then s.slip ch else s
  let s := match c.weights with
    | some ws => (s.setWeights ch ws).setChan ch { s.chan ch with weights := none }
    | none => s
  (⟨ch, st, taps.map clampTap, sub, c.nsamp, c.nEp⟩, (s.applyNew ch).steered ch)

/-- Dump interval of a code-synchronous channel, in primary epochs: 0 acts as 1, above 20 as 20 (R168). -/
def State.csInt (s : State) (ch : Nat) : Nat := max 1 (min 20 (s.fget (F.CH_CTL_CSINT ch)))

/-- The chip index passes a primary code epoch (R156) when `c` advances to `c'`. -/
def ChanSt.epoch (c c' : ChanSt) : Bool := decide (c.chip / epochLen (sgSIG c.sig) ≠ c'.chip / epochLen (sgSIG c.sig)) ||
  decide (c'.chip < c.chip)

/-- A primary epoch of a channel (R168, R169, R180): the first in a grid window latches the data-bearing prompt; a secondary phase
that waits is taken; in code-synchronous mode every CSINT-th closes the dump. -/
def State.chanEpoch (s : State) (ch : Nat) : State :=
  let c := s.chan ch
  let k := dataTap c.sig
  let chip := match c.newSec with
    | some j => j % secondaryLen c.sig * primaryLen (sgSIG c.sig) + c.chip % primaryLen (sgSIG c.sig)
    | none => c.chip
  let c := { c with chip := chip, newSec := none, epochs := c.epochs + 1, nEp := c.nEp + 1,
                    sub := if c.sub.isSome then c.sub else some ((List.range (elems c.strm)).map fun m => c.acc.getD (10 * m + k) (0, 0)) }
  let s := s.setChan ch c
  if s.grid (ch / 64) ∨ c.epochs < s.csInt ch then s
  else
    let (d, s) := (s.setChan ch { c with epochs := 0 }).closeDump ch
    { s with hive.csOut := s.hive.csOut ++ [((s.chan ch).dumps, d)] }

/-- One sample tick of a channel. -/
def State.chanTick (s : State) (ch : Nat) : State :=
  let c := s.chan ch
  match s.elemSamples c with
  | none => s
  | some ys =>
    let a := s.accumulate ch c ys
    let b := a.advance (s.carNow ch) (s.codeNow ch) 1
    let s := s.setChan ch b
    if a.epoch b then s.chanEpoch ch else s

/-- LAT of a channel's stream (R453). -/
def State.chLat (s : State) (ch : Nat) : Nat := s.srcLat (s.fget (F.STR_SRC (strmOf (s.chan ch).strm)).act)

/-- A channel on an inbound stream closes its window, or starts, LAT ticks after boundary `t`; its dump joins the boundary's frame. -/
def State.lateClose (s : State) (ch t : Nat) (stepped : Bool) : State :=
  if s.live ch then
    let now := s.sky.stepDump
    let (d, s) := ({ s with sky.stepDump := stepped } : State).closeDump ch
    let s := { s with sky.stepDump := now }
    match s.hive.frame with
    | some f => if f.t = t then { s with hive.frame := some { f with dumps := f.dumps ++ [d] } } else s
    | none => s
  else if s.chState ch = chARMED ∧ s.domPowered (13 + ch / 64) then s.chPullin ch t
  else s

/-- The windows of inbound streams that close at this tick. -/
def State.lateDue (s : State) : State :=
  let due := s.hive.late.filter fun x => decide (x.1 ≤ s.sky.smp)
  due.foldl (fun (s : State) x => s.lateClose x.2.1 x.2.2.1 x.2.2.2)
    { s with hive.late := s.hive.late.filter fun x => decide (s.sky.smp < x.1) }

/-- One sample tick of every Hive: the channels in PULLIN, TRACK and VECTOR. -/
def State.hiveTick (s : State) : State :=
  let s := s.lateDue
  (s.hive.chans.map Prod.fst).foldl (fun s ch => if s.live ch ∧ s.domPowered (13 + ch / 64) then s.chanTick ch else s) s

/-- LOCKT counts the milliseconds in PLOCK. -/
def State.lockMs (s : State) (ch : Nat) : State :=
  if s.flag (F.CH_FLAGS_PLOCK ch) ∧ ¬ (s.fget (F.CH_STAT_LASTDS ch)).testBit 6 then s.finc (F.CH_LOCKT ch) else s

def tapBytes (x : Int × Int) : List Byte := leBytes 3 (unsigned 24 x.1) ++ leBytes 3 (unsigned 24 x.2)

/-- The 64-byte record of a code-synchronous dump (R174). -/
def Dump.record (d : Dump) (count : Nat) : List Byte :=
  [BitVec.ofNat 8 (d.ch % 64), BitVec.ofNat 8 d.status] ++ leBytes 2 count ++ d.taps.flatMap tapBytes

/-- The record of a code-synchronous dump enters its Hive's ring, or is dropped when that is full (R174). -/
def State.csWrite (s : State) (count : Nat) (d : Dump) : State :=
  let h := d.ch / 64
  let len := s.fget (F.HV_CSLEN_V h)
  let wp := s.fget (F.HV_CSWP_V h)
  if len = 0 ∨ (wp + 1) % len = s.fget (F.HV_CSRP_V h) % len then (s.finc (F.HV_CSDROP h)).evRise (hvPage h) 0
  else ((s.combWrite 1 (s.fget (F.HV_CSBASE_V h) * 64 + 64 * wp) (d.record count)).fput (F.HV_CSWP_V h)
    ((wp + 1) % len)).coreLine h 1

/-- All dumps of a grid boundary `t` (R161, R163, R167), and Gather's frame when it is enabled (R172). `start`: it is a boundary, where
armed channels start, and not a step of the clock, which only closes the open windows (R52). Channels on an inbound stream follow
LAT ticks later (R453). -/
def State.gridDumps (s : State) (t : Nat) (start : Bool) : State :=
  let hs := (List.range 16).filter fun h => s.grid h && s.domPowered (13 + h)
  let live := (s.hive.chans.map Prod.fst).filter fun ch => hs.contains (ch / 64) && s.live ch
  let armed := (s.hive.chans.map Prod.fst).filter fun ch => decide (s.chState ch = chARMED) && s.domPowered (13 + ch / 64)
  let ms := (s.hive.chans.map Prod.fst).filter fun ch => s.live ch && s.domPowered (13 + ch / 64)
  let later := (live ++ if start then armed else []).filter fun ch => decide (s.chLat ch ≠ 0)
  let s := { s with hive.late := s.hive.late ++ later.map fun ch => (s.sky.smp + s.chLat ch, ch, t, s.sky.stepDump) }
  let live := live.filter fun ch => !later.contains ch
  let armed := armed.filter fun ch => !later.contains ch
  let (rs, s) := live.foldl (fun (x : List Dump × State) ch =>
    let (r, s) := x.2.closeDump ch
    (x.1 ++ [r], s)) ([], s)
  let s := if start ∧ t % sec * 1000 % sec < 1000 then ms.foldl State.lockMs s else s
  let s := if start then armed.foldl (fun s ch => s.chPullin ch t) s else s
  if s.flag F.GA_CTL_EN ∧ s.domPowered 30 then
    { s with hive.frame := some ⟨s.hive.gseq, t, s.sky.stepDump, hs, 0, rs⟩, hive.gseq := (s.hive.gseq + 1) % 2 ^ 32 }
  else s

end Sys2Proof.Machine
end

