-- ==== Sys2Proof/Machine/Loops.lean ====
section
/-! DEFINITION. The loop program of a Hive Weevil (09: R177 to R182) and Gather (09: R172 to R175): discriminators, filters,
synchronisation and detectors over the dumps, and the frame in Comb. The bandwidths become filter constants by the usual relations
of a first-, second- and third-order loop, which the spec does not write out (log entry 89). -/

namespace Sys2Proof.Machine

def State.loopUpd (s : State) (ch : Nat) (f : LoopSt → LoopSt) : State :=
  s.setChan ch { s.chan ch with loop := f (s.chan ch).loop }

-- synchronisation (R180)

/-- The sync code of the tracked component (R124, R180): its secondary code, or the 10 ms meander of signals 13 and 14. -/
def syncLen (sig : Word) : Nat := if sgSIG sig = 13 ∨ sgSIG sig = 14 then 20 else secondaryLen sig
def State.syncChip (s : State) (ch : Nat) (c : ChanSt) (k : Nat) : Int :=
  if sgSIG c.sig = 13 ∨ sgSIG c.sig = 14 then (if k % 20 < 10 then 1 else -1)
  else s.secondaryChip (ch / 64) c.sig c.code (k % max 1 (secondaryLen c.sig))

/-- Primary periods per symbol of the message (R129). -/
def symPeriods (sig : Word) : Nat := max 1 (chipHz sig / epochLen (sgSIG sig) / symbolHz sig)

def addAt : Nat → List Nat → List Nat
  | _, [] => []
  | 0, x :: r => (x + 1) :: r
  | k + 1, x :: r => x :: addAt k r

/-- One position holds at least 60 % of at least ten changes and at least twice the next. -/
def bitFound (h : List Nat) : Option Nat :=
  let total := sumNat h
  let top := h.foldl max 0
  let at_ := h.findIdx fun x => x = top
  let next := (h.zipIdx.filter fun x => x.2 ≠ at_).foldl (fun a x => max a x.1) 0
  if 10 ≤ total ∧ total * 60 ≤ top * 100 ∧ 2 * next ≤ top then some at_ else none

/-- The secondary chip of the oldest of the last `n` periods, by signs newest first: all chips agree at one offset, or with `both` all
disagree. -/
def State.secFound (s : State) (ch : Nat) (c : ChanSt) (n : Nat) (signs : List Bool) : Option Nat :=
  let xs := (signs.take n).reverse
  if xs.length < n then none
  else (List.range n).find? fun o =>
    let agree (inv : Bool) := xs.zipIdx.all fun x => decide ((x.1 = inv) = (s.syncChip ch c (o + x.2) < 0))
    agree true || (decide (sgCOMP c.sig = 0) && agree false)

/-- Two preambles at the frame spacing among the last symbols, newest first: none, or whether they stand inverted. -/
def frameFound (sig : Nat) (syms : List Bool) : Option Bool :=
  let pat := Config.preamble sig
  let n := Config.frameSyms sig
  let at_ (d : Nat) (inv : Bool) : Bool := decide (((syms.drop d).take pat.length).reverse = pat.map fun b => b != inv)
  if pat = [] then none
  else if at_ 0 false ∧ at_ n false then some false
  else if at_ 0 true ∧ at_ n true then some true
  else none

/-- Frame synchronisation fixes the polarity (R180, R181). -/
def State.frameSync (s : State) (ch : Nat) (inv : Bool) : State :=
  let first := !s.flag (F.CH_FLAGS_FRAMESYNC ch)
  let s := ((s.fputB (F.CH_FLAGS_FRAMESYNC ch) true).fputB (F.CH_FLAGS_POLINV ch) inv).fputB (F.CH_FLAGS_HALFC ch) false
  (s.setChan ch { s.chan ch with halfAdj := inv }).when first (·.chEvent ch evSYNC)

/-- A whole symbol (R129): its decision joins the last ones, and the message's frame is looked for. -/
def State.symbol (s : State) (ch : Nat) (p : Cx) : State :=
  let c := s.chan ch
  let n := sgSIG c.sig
  let syms := (decide (p.1 < 0) :: c.loop.syms).take (Config.frameSyms n + (Config.preamble n).length)
  let s := s.loopUpd ch fun l => { l with syms := syms }
  match frameFound n syms with
  | some inv => s.frameSync ch inv
  | none => s

/-- The prompt `p` of `m` whole primary periods, the first of them the `k`-th since PULLIN (R180): bit edges, the secondary phase, and
the symbols. -/
def State.period (s : State) (ch : Nat) (p : Cx) (k m : Nat) : State :=
  let c := s.chan ch
  let l := c.loop
  let n := syncLen c.sig
  let per := symPeriods c.sig
  let change := match l.last with | some q => decide (p.1 * q.1 + p.2 * q.2 < 0) | none => false
  let hist := if l.hist = [] then List.replicate per 0 else l.hist
  let hist := if change then addAt (k % per) hist else hist
  let signs := (decide (p.1 < 0) :: l.signs).take n
  let s := s.loopUpd ch fun l => { l with last := some p, hist := hist, signs := signs }
  let s := if n = 1 then
      match (if s.flag (F.CH_FLAGS_BITSYNC ch) ∨ per = 1 then none else bitFound hist) with
      | some e => ((s.loopUpd ch fun l => { l with edge := e, sym := (0, 0), symN := 0 }).fputB (F.CH_FLAGS_BITSYNC ch) true).chEvent ch evSYNC
      | none => s
    else
      match (if s.flag (F.CH_FLAGS_SECSYNC ch) then none else s.secFound ch c n signs) with
      | some o =>
        let first := (o + n - 1 + n - k % n) % n
        let s := s.loopUpd ch fun l => { l with sec := some first, edge := 0, sym := (0, 0), symN := 0 }
        let now := (o + n) % n
        let s := if sgSECSTRIP c.sig then ((s.setChan ch { s.chan ch with newSec := some now }).setReg (F.CH_CPI_PH ch).addr
            (BitVec.ofNat 32 (now * primaryLen (sgSIG c.sig)))) else s
        (s.fputB (F.CH_FLAGS_SECSYNC ch) true).chEvent ch evSYNC
      | none => s
  let strip : Int := match l.sec with
    | some f => if s.strips ch c then 1 else s.syncChip ch c (f + k)
    | none => 1
  let p : Cx := (p.1 * strip, p.2 * strip)
  if (n = 1 ∧ per ≠ 1 ∧ ¬ s.flag (F.CH_FLAGS_BITSYNC ch)) ∨ (n ≠ 1 ∧ ¬ s.flag (F.CH_FLAGS_SECSYNC ch)) then s
  else
    let start := if n = 1 then k % per = l.edge % per else ((l.sec.getD 0) + k) % max 1 (min n per) = 0
    let sum := if start then p else cadd l.sym p
    let cnt := if start then m else l.symN + m
    let s := s.loopUpd ch fun l => { l with sym := sum, symN := cnt }
    if cnt = per then s.symbol ch sum else s

/-- A dump's data-bearing prompt split at the primary epoch inside it (R169): the part before ends a period. -/
def State.periods (s : State) (ch : Nat) (d : Dump) : State :=
  let x := d.taps.getD (dataTap (s.chan ch).sig) (0, 0)
  let part := (s.chan ch).loop.part
  if s.grid (ch / 64) then
    match d.sub with
    | some b => (s.loopUpd ch fun l => { l with part := (x.1 - b.1, x.2 - b.2) }).period ch (cadd part b) (d.ep - 1) 1
    | none => s.loopUpd ch fun l => { l with part := cadd part x }
  else s.period ch x (d.ep - s.csInt ch) (s.csInt ch)

-- the loops (R177)

/-- Dump length in ns: the grid's, or the epochs of a code-synchronous channel. -/
def State.dumpNs (s : State) (ch : Nat) : Nat :=
  let sig := (s.chan ch).sig
  if s.grid (ch / 64) then 1000000000 / s.gridRate
  else s.csInt ch * epochLen (sgSIG sig) * 1000000000 / chipHz sig

/-- Has bit synchronisation been reached? A signal whose symbol is one period, or whose secondary phase is known, needs no other. -/
def State.synced (s : State) (ch : Nat) : Bool :=
  let sig := (s.chan ch).sig
  s.flag (F.CH_FLAGS_BITSYNC ch) || s.flag (F.CH_FLAGS_SECSYNC ch) || (decide (syncLen sig = 1) && decide (symPeriods sig = 1))

/-- Dumps of a coherent interval: one before bit synchronisation, TCOH ms after it (0 acts as 1, above 20 as 20). -/
def State.cohDumps (s : State) (ch : Nat) : Nat :=
  if s.synced ch then max 1 (max 1 (min 20 (s.fget (F.CH_LOOP_TCOH ch))) * 1000000 / s.dumpNs ch) else 1

/-- FLL discriminator of successive prompts, 2^-32 cycle. -/
def fllDisc (a b : Cx) : Int := atan2 (a.1 * b.2 - a.2 * b.1) (a.1 * b.1 + a.2 * b.2)

/-- PLL discriminator, 2^-32 cycle: Costas for DATA, four-quadrant for PILOT and BOTH. -/
def pllDisc (sig : Word) (p : Cx) : Int := if sgCOMP sig = 0 then costas p else atan2 p.2 p.1

/-- DLL discriminator (|E| - |L|) / (|E| + |L|), scaled by EL: in 2^-22 of 1/64 chip. -/
def dllDisc (sp : List Word) (e l : Cx) : Int :=
  let a : Int := isqrt (norm2 e * 2 ^ 32)
  let b : Int := isqrt (norm2 l * 2 ^ 32)
  if a + b = 0 then 0 else (a - b) * elSpacing (sp.getD 0 0) * 2 ^ 22 / (a + b)

/-- The carrier word's rate of a Doppler-free carrier: fc less the stream's centre (R154), in Hz / 8; none for a stream whose LO is
another device's. -/
def State.offsetHz8 (s : State) (ch : Nat) : Option Int :=
  let c := s.chan ch
  (s.strCentre (strmOf c.strm)).map fun x => carrierHz c.sig * 8 - x

/-- FCW for a frequency in 2^-20 Hz (R154). -/
def fcwOf (f : Int) (fs : Nat) : Int := roundDiv (f * 2 ^ 28) fs
/-- CCW for a Doppler in 2^-20 Hz (R155). -/
def ccwOf (sig : Word) (fd : Int) (fs : Nat) : Int :=
  roundDiv ((chipHz sig : Int) * (carrierHz sig * 2 ^ 20 + fd) * 2 ^ 20) (carrierHz sig * fs)

/-- The Doppler a carrier word stands for, in 2^-20 Hz: its frequency less the offset of R154. -/
def State.wordDoppler (s : State) (ch : Nat) (fcw : Int) : Option Int :=
  (s.offsetHz8 ch).map fun o => fcw * s.strFs (strmOf (s.chan ch).strm) / 2 ^ 28 - o * 2 ^ 17

/-- One step of the carrier loops over an interval of `n` samples (R177), rates in 2^-16 of a carrier word: a first-order FLL (4 B of
the discriminator), and a second- or third-order PLL with natural frequency B / 0.53 or B / 0.7845 and the damping of 1.414, or of
1.1 and 2.4. Bandwidths are in 0.1 Hz. -/
def LoopSt.carrier (l : LoopSt) (fll pll : Bool) (third : Bool) (bf bp fs n : Nat) (ef ep : Int) : Int × LoopSt :=
  let v0 := l.vel.getD 0
  let v := if fll then v0 + 4 * bf * ef * 2 ^ 32 / (10 * fs) else v0
  if ¬ pll then (v, { l with vel := some v })
  else if third then
    let a := l.acc + bp ^ 3 * n * ep * 2 ^ 32 * 1000 / (482805 * fs ^ 2)
    let v := v + a * n / fs + 1100 * bp ^ 2 * n * ep * 2 ^ 32 / (61544 * fs ^ 2)
    (v + 2400 * bp * ep * 2 ^ 32 / (7845 * fs), { l with vel := some v, acc := a })
  else
    let v := v + bp ^ 2 * n * ep * 2 ^ 32 * 100 / (2809 * fs ^ 2)
    (v + 1414 * bp * ep * 2 ^ 32 / (5300 * fs), { l with vel := some v })

/-- Close the loops of one channel over a whole coherent interval: its sums are the interval's. In VECTOR the discriminators are
evaluated and the words are Scarab's (R177). -/
def State.closeLoops (s : State) (ch : Nat) : State :=
  let c := s.chan ch
  let l := c.loop
  let fs := s.strFs (strmOf c.strm)
  let ns := s.dumpNs ch * l.n
  let samples := ns * fs / 1000000000
  let lock := s.flag (F.CH_FLAGS_PLOCK ch)
  let pull := decide (s.chState ch = chPULLIN)
  let pll := !pull || decide (10000000 ≤ l.fll)
  let fll := pull || !lock
  let ef := match l.prev with | some q => fllDisc q l.p | none => 0
  let ep := pllDisc c.sig l.p
  let l0 := { l with vel := some (l.vel.getD (s.carNow ch * 2 ^ 16)) }
  let (f, l1) := l0.carrier (fll && l.prev.isSome) pll (decide (s.fget (F.CH_LOOP_PLLORD ch) = 3)) (s.fget (F.CH_LOOP_FLLBW ch))
    (s.fget (F.CH_LOOP_PLLBW ch)) fs samples ef ep
  let fcw := f / 2 ^ 16
  let code := 4 * (s.fget (F.CH_LOOP_DLLBW ch) : Int) * dllDisc c.sp l.e l.l * 2 ^ 12 / (100 * fs)
  let ccw := match s.wordDoppler ch fcw with
    | some fd => ccwOf c.sig fd fs + code
    | none => (s.codeNow ch : Int) + code
  let s := if ¬ pll ∨ ep.natAbs * 5 ≤ 2 ^ 32 then s else s.slip ch
  let fresh := { l1 with n := 0, p := (0, 0), e := (0, 0), l := (0, 0), prev := some l.p, fll := l.fll + ns }
  if s.chState ch = chVECTOR then s.loopUpd ch fun x => { x with n := 0, p := (0, 0), e := (0, 0), l := (0, 0), prev := some l.p, vel := none }
  else
    let s := (s.put64 (F.CH_CAR_FH_FCW ch) (F.CH_CAR_FL ch) (unsigned 48 fcw)).put64 (F.CH_CODE_FH_CCW ch) (F.CH_CODE_FL ch) (unsigned 40 ccw)
    s.setChan ch { s.chan ch with newCar := some (unsigned 48 fcw), newCode := some (unsigned 40 ccw), loop := fresh }

/-- What the loop program makes of one dump (R177 to R180): an INVAL dump enters nothing but the record of the last 20 ms. -/
def State.loopDump (s : State) (d : Dump) : State :=
  let ch := d.ch
  if ¬ s.live ch then s
  else
    let t (k : Nat) : Cx := d.taps.getD k (0, 0)
    let inval := d.status.testBit 6
    let keep := 20000000 / max 1 (s.dumpNs ch)
    let s := s.loopUpd ch fun l => { l with recent := ((t 1, t 9, inval) :: l.recent).take (max 1 keep) }
    if inval then s.loopUpd ch fun l => { l with prev := none, part := (0, 0), last := none, n := 0, p := (0, 0), e := (0, 0), l := (0, 0) }
    else
      let s := s.periods ch d
      let c := s.chan ch
      let strip : Int := match c.loop.sec with
        | some f => if s.strips ch c ∨ sgCOMP c.sig = 0 then 1 else s.syncChip ch c (f + d.ep)
        | none => 1
      let sg (x : Cx) : Cx := (x.1 * strip, x.2 * strip)
      let s := s.loopUpd ch fun l => { l with n := l.n + 1, p := cadd l.p (sg (t 1)), e := cadd l.e (sg (t 0)), l := cadd l.l (sg (t 2)) }
      if s.cohDumps ch ≤ (s.chan ch).loop.n then s.closeLoops ch else s

-- Gather (R172, R173, R175)

def State.frameBase (s : State) (seq : Nat) : Nat :=
  s.fget F.GA_FBASE_V * 65536 + 65536 * (seq % max 2 (s.fget F.GA_NFR_V))

/-- A Hive's block of a frame: 64 status bytes and 64 x 10 taps. -/
def GFrame.block (f : GFrame) (h : Nat) : List Byte :=
  let row (l : Nat) := f.dumps.find? fun r => r.ch = 64 * h + l
  ((List.range 64).map fun l => match row l with | some r => BitVec.ofNat 8 r.status | none => 0) ++
    (List.range 64).flatMap fun l => match row l with | some r => r.taps.flatMap tapBytes | none => List.replicate 60 0

/-- GATHER_BLOCK_WRITE (R173, R176): the Hive's block is in Comb and its Weevil gets BLOCK, on which its loop program handles the
block in cycles only the image knows (log entry 79). A BLOCK still pending is an OVERRUN, and this block's update is missed. -/
def execGatherBlockWrite (h : Fin 16) (s : State) : Host.Outcome State Fault Refusal :=
  .next (match s.hive.frame with
    | some f =>
      if f.todo.contains h.val then
        let s := s.combWrite 2 (s.frameBase f.seq + 0x40 + 0xF40 * h.val) (f.block h.val)
        let s := { s with hive.frame := some { f with todo := f.todo.erase h.val, hmask := f.hmask + 2 ^ h.val } }
        let again := (s.core h.val).ipend.getLsbD 0
        let s := s.coreLine h.val 0
        if again then s.evRise (0x081 + 8 * h.val) 1
        else
          let (n, s) := s.draw 19
          let s := s.setCore h.val { s.core h.val with busy := (s.core h.val).busy + n }
          (f.dumps.filter fun d => decide (d.ch / 64 = h.val)).foldl State.loopDump s
      else s
    | none => s)

/-- CODE_EPOCH_DUMP (R168, R174): a code-synchronous channel has closed a dump at its epoch; Gather writes the oldest such dump of the
channel to its Hive's ring, and the loop program handles it. -/
def execCodeEpochDump (ch : Fin 1024) (s : State) : Host.Outcome State Fault Refusal :=
  .next (match s.hive.csOut.find? fun d => d.2.ch = ch.val with
    | some d =>
      if s.grid (ch.val / 64) ∨ s.byp ∨ ¬ s.domPowered (13 + ch.val / 64) then s
      else (({ s with hive.csOut := s.hive.csOut.erase d }).csWrite d.1 d.2).loopDump d.2
    | none => s)

/-- GATHER_FRAME_DONE (R172, R173): the header is written last; `cycles` from the boundary to the last write. -/
def execGatherFrameDone (cycles : Nat) (s : State) : Host.Outcome State Fault Refusal :=
  .next (match s.hive.frame with
    | some f =>
      if f.todo ≠ [] then s
      else
        let hd := [BitVec.ofNat 32 f.seq] ++ timeWords f.t ++ [BitVec.ofNat 32 f.hmask, if f.stepped then 1 else 0] ++ List.replicate 10 0
        let s := (s.combWrite 2 (s.frameBase f.seq) (wordBytes hd)).fput F.GA_SEQ f.seq
        let s := s.fput F.GA_MAXLAT_V (max (s.fget F.GA_MAXLAT_V) (min cycles 0xFFFF))
        let s := { s with hive.frame := none, hive.last := some f }
        (s.when (decide (2618 < cycles)) fun s => (s.finc F.GA_LATE).evRise 0x100 1).evRise 0x100 0
    | none => s)

/-- GA_CLRLAT. -/
def execGaClrlat (via : Via) (s : State) : Host.Outcome State Fault Refusal :=
  .next (s.guarded via 0x100 0x040 (·.fput F.GA_MAXLAT_V 0))

/-- A write of GA_CTL: SEQ counts from 0 at enable. -/
def State.gaCtl (s : State) (v : Word) : State :=
  let was := s.flag F.GA_CTL_EN
  let s := s.store 0x100 0x040 v
  let s := if v.getLsbD 1 then s.fput F.GA_MAXLAT_V 0 else s
  if ¬ was ∧ s.flag F.GA_CTL_EN then { s with hive.gseq := 0 }
  else if ¬ s.flag F.GA_CTL_EN then { s with hive.frame := none } else s

-- what the loop program decides (R161, R178, R179, R181, R182)

/-- The dumps of the last `ns` nanoseconds. -/
def State.recent (s : State) (ch ns : Nat) : List (Cx × Cx × Bool) :=
  (s.chan ch).loop.recent.take (max 1 (ns / max 1 (s.dumpNs ch)))

/-- LOCK_ESTIMATE (R178), over the prompts of the preceding 10 ms. With their sums both zero the spec gives m no value: it is a free
one. -/
def execLockEstimate (ch : Fin 1024) (s : State) : Host.Outcome State Fault Refusal :=
  let c := ch.val
  let ps := (s.recent c 10000000).map fun d => d.1
  let i2 := sumNat (ps.map fun p => p.1.natAbs ^ 2)
  let q2 := sumNat (ps.map fun p => p.2.natAbs ^ 2)
  let thr : Int := s.fget (F.CH_LOCK_PLLTHR c)
  let (x, s') := if i2 + q2 = 0 then s.draw 10 else (0, s)
  let num : Int := if i2 + q2 = 0 then (x : Int) - 512 else 256 * ((i2 : Int) - q2)
  let den : Int := if i2 + q2 = 0 then 1 else (i2 + q2 : Nat)
  let good := decide (thr * den ≤ num)
  let bad := decide (num < (thr - 64) * den)
  .next (if ¬ s.live c ∨ ps = [] then s
    else
      let n := if good then (s'.chan c).okM + 1 else 0
      let s := s'.setChan c { s'.chan c with okM := min n 2 }
      if 2 ≤ n ∧ ¬ s.flag (F.CH_FLAGS_PLOCK c) then
        let s := s.fputB (F.CH_FLAGS_PLOCK c) true
        if s.chState c = chPULLIN then (s.fput (F.CH_STAT_STATE c) chTRACK).chEvent c evLOCK else s
      else if bad ∧ s.flag (F.CH_FLAGS_PLOCK c) then ((s.fputB (F.CH_FLAGS_PLOCK c) false).setChan c { s.chan c with halfAdj := false }).slip c
      else s)

/-- The ratio of R179 as a fraction whose decibels are C/N0: with the noise tap (mean |P|^2 - Pn) / (Pn Td) over the dumps without
INVAL; without it the narrowband to wideband prompt power over the 20 ms, (NB - WB) / ((M WB - NB) Td) (log entry 89). None where the
ratio is no positive number. -/
def cn0Ratio (noise : Bool) (ds : List (Cx × Cx × Bool)) (td : Nat) : Option (Nat × Nat) :=
  let ds := ds.filter fun d => !d.2.2
  let wb := sumNat (ds.map fun d => norm2 d.1)
  let pn := sumNat (ds.map fun d => norm2 d.2.1)
  let nb := norm2 (csum (ds.map fun d => d.1))
  let (n, d) := if noise then (wb - pn, pn * td) else (nb - wb, (ds.length * wb - nb) * td)
  if n = 0 ∨ d = 0 then none else some (n * 1000000000, d)

/-- CN0_ESTIMATE (R179), every 20 ms. Where the ratio has no logarithm the spec states no result: C/N0 takes a free value. -/
def execCn0Estimate (ch : Fin 1024) (s : State) : Host.Outcome State Fault Refusal :=
  let c := ch.val
  let ds := s.recent c 20000000
  let r := cn0Ratio ((tapsOf (s.chan c).ctl).testBit 9) ds (s.dumpNs c)
  let (v, s') : Int × State := match r with
    | some x => (clampInt 0 0xFFFF (dB16 x.1 x.2), s)
    | none => let (x, s) := s.draw 16; ((x : Int), s)
  .next (if ¬ s.live c ∨ ds = [] then s
    else
      let s := s'
      let low := decide (v < 16 * (s.fget (F.CH_LOCK_LOSSCN0 c) : Int))
      let x := s.chan c
      let vlow := decide (v < 16 * (s.mf 0x24 8 8 : Int))
      (s.fput (F.CH_CN0_V c) v.toNat).setChan c { x with low := if low then min 255 (x.low + 2) else 0,
                                                         vlow := if vlow then min 255 (x.vlow + 2) else 0 })

/-- CN0_LOSS (R182): in TRACK, C/N0 below LOSSCN0 for LOSST x 10 ms. -/
def execCn0Loss (ch : Fin 1024) (s : State) : Host.Outcome State Fault Refusal :=
  let c := ch.val
  .next (if s.chState c = chTRACK ∧ s.fget (F.CH_CN0_V c) < 16 * s.fget (F.CH_LOCK_LOSSCN0 c) ∧
      s.fget (F.CH_LOCK_LOSST c) ≤ (s.chan c).low then s.chLost c else s)

/-- CHANNEL_LOCK_TIMEOUT (R151): no lock within 50 ms of the start: the Warden stops the channel, and goes on with the rest of the
list its peak came from. -/
def execChannelLockTimeout (ch : Fin 1024) (s : State) : Host.Outcome State Fault Refusal :=
  .next (if s.chState ch.val = chPULLIN ∧ ¬ s.flag (F.CH_FLAGS_PLOCK ch.val) then
      let s := s.chStop ch.val
      match Tab.get (fun _ => none) s.dfly.tries ch.val with
      | some x => { s with dfly.tries := Tab.set (fun _ => none) s.dfly.tries ch.val none, dfly.ended := s.dfly.ended ++ [x] }
      | none => s
    else s)

-- bypass (R97, R161, R202)

/-- BYP rises: channels coast with their NCOs frozen, and the open integration closes INVAL. What that closing leaves behind is not
stated: in the model it sets LASTDS alone, with no record, ring entry, phase latch or count, and the words that wait for a dump close
(R164) go on waiting through COAST (log entry 90). -/
def State.hiveBypass (s : State) : State :=
  (s.hive.chans.map Prod.fst).foldl (fun s ch =>
    if s.live ch then
      let c := s.chan ch
      let s := (s.setChan ch { c with coast := s.chState ch, epInval := true, pred := none, acc := [], nsamp := 0, inval := false,
                                      blank := false, sub := none, 
                                      loop := { c.loop with recent := [], prev := none, part := (0, 0), last := none } }).fput (F.CH_STAT_LASTDS ch)
        (dumpStatus true false false s.sky.stepDump c.newset false c.first)
      (s.slip ch).fput (F.CH_STAT_STATE ch) chCOAST
    else s) s

/-- Primary epochs that have passed when a channel that coasted for `t` goes on at chip `chip` + `frac` 2^-40: the whole number that
fits the code's advance at the word it coasted with. -/
def State.coastEpochs (s : State) (ch : Nat) (c : ChanSt) (t chip frac : Nat) : Nat :=
  let len : Int := epochLen (sgSIG c.sig)
  let at_ (i f : Nat) : Int := ((i : Int) % len) * 2 ^ 40 + f
  let moved : Int := s.codeNow ch * (t * s.strFs (strmOf c.strm) / sec : Nat)
  (c.nEp + roundDiv (at_ c.chip c.frac + moved - at_ chip frac) (len * 2 ^ 40)).toNat

/-- The resume point: each coasting channel returns to the state it held, its NCOs loaded from the latest prediction. -/
def State.hiveResume (s : State) : State :=
  (s.hive.chans.map Prod.fst).foldl (fun s ch =>
    if s.chState ch = chCOAST then
      let c := s.chan ch
      let s := (s.fput (F.CH_STAT_STATE ch) c.coast).setChan ch { c with retT := some s.now, first := false }
      let s := match c.pred with
        | some (cpi, cpf, p0, fcw, ccw) =>
          if c.coast = chPULLIN then s
          else
            let chip := cpi.toNat % chipMod c.sig
            let n := s.coastEpochs ch c (s.now - s.scarab.bypT) chip (cpf.toNat * 256)
            (s.setChan ch { s.chan ch with chip := chip, frac := cpf.toNat * 256, carP := p0.toNat * 65536, nEp := n }).setWords
              ch fcw.toNat ccw.toNat
        | none => s
      s.slip ch
    else s) s

-- a commit that stops or changes a stream (R161)

/-- Channels on a stream that stops or changes SRC, DECIM or WIDTH go IDLE with STOPPED. -/
def State.streamsChanged (s old : State) : State :=
  let gone := (List.range 24).filter fun m => old.strRun m && decide (¬ s.strRun m ∨
    old.fget (F.STR_SRC m).act ≠ s.fget (F.STR_SRC m).act ∨ old.fget (F.STR_DECIM m).act ≠ s.fget (F.STR_DECIM m).act ∨
    old.fget (F.STR_WIDTH m).act ≠ s.fget (F.STR_WIDTH m).act)
  (s.hive.chans.map Prod.fst).foldl (fun s ch =>
    let c := s.chan ch
    if s.chState ch ≠ chIDLE ∧ (List.range (elems c.strm)).any (fun k => gone.contains (strmOf c.strm + k)) then
      (s.chStop ch).chEvent ch evSTOPPED
    else s) s

end Sys2Proof.Machine
end

