-- ==== Sys2Proof/Machine/Alloc.lean ====
section
/-! DEFINITION. The allocator (01: R12 to R17; 07: R126, R128; 08: R147, R150, R151): codes for a Hive's store, searches for the signals
it is to carry, starting a channel from a peak, and moving channels. Where no rule says how the Warden chooses, the stream, the taps
and the search of the chapters' worked examples are taken (log entry 93). -/

namespace Sys2Proof.Machine

def WARDEN : Nat := 4097
def GLOWWORM : Nat := 4098

-- what a channel is chosen for (R13, R14)

/-- The SIG word the allocator gives a subscribed signal: BOTH with the secondary code where the signal has a pilot, but for L2C,
whose search leaves the pilot's phase open. -/
def subSig (sel : Nat) : Word :=
  let n := sel % 64
  let both := (sigRow n).any (fun r => r.2.2) && decide (n ≠ 3 ∧ n ≠ 18)
  BitVec.ofNat 32 (sel / 256 % 256 * 65536 + (if both then 0x180 else 0) + n)

/-- Same signal and satellite? -/
def sameSig (a b : Word) : Bool := decide (sgSIG a = sgSIG b ∧ sgPRN a = sgPRN b)

/-- A subscription to one signal of one satellite (R304). -/
def Sub.oneSignal (b : Sub) : Bool := decide ((b.kind = 1 ∨ b.kind = 2) ∧ b.sel % 64 ≠ 0 ∧ b.sel / 256 % 256 ≠ 0)

def State.pinned (s : State) (ch : Nat) : Option (Word × Word) := Tab.get (fun _ => none) s.tn.pins ch

/-- The signal a channel is chosen or pinned for, and the tenant it is for. -/
def State.purpose (s : State) (ch : Nat) : Option (Word × Nat) :=
  match s.pinned ch with
  | some p => some (p.1, 0)
  | none => s.tn.tenants.findSome? fun e => (e.2.subs.find? fun b => decide (b.place = some ch)).map fun b => (subSig b.sel, e.1)

/-- A channel is chosen for a subscription, or pinned. -/
def State.chosen (s : State) (ch : Nat) : Bool := (s.purpose ch).isSome

/-- May the allocator choose channel `ch` for a signal (R13, R14, R17)? It is idle, neither pinned to nor chosen for another signal,
and its Hive is not forced off. -/
def State.placeable (s : State) (sig : Word) (ch : Nat) : Bool :=
  decide (s.chState ch = chIDLE ∧ s.domState (13 + ch / 64) ≠ dFORCED) &&
    (s.purpose ch).all (fun p => sameSig p.1 sig)

-- codes (R128)

/-- First unit of a primary code in the code table, and of a stored secondary code: by SIG, then PRN, DATA before PILOT (log entry
94). -/
def tablePrimary (n : Nat) (pilot : Bool) (prn : Nat) : Nat :=
  let m := memUnits n
  let base := if n = 2 then 0 else if n = 5 then 320 else if n = 8 then 520 else if n = 10 then 820 else 1450
  base + 2 * m * (prn - ((sigRow n).getD (0, 0, false)).1) + (if pilot then m else 0)
def tableSecondary (n prn : Nat) : Nat :=
  let base := if n = 2 then 1550 else if n = 6 then 1582 else if n = 7 then 1632 else if n = 8 then 1682 else if n = 10 then 1732
    else if n = 11 then 1795 else 1858
  base + (prn - ((sigRow n).getD (0, 0, false)).1)

/-- Units [u, u + m) that no running or pinned channel names, nor one of `runs`. -/
def State.unitsFree (s : State) (h u m : Nat) (runs : List (Nat × Nat)) : Bool :=
  let clash (r : Nat × Nat) : Bool := decide (r.1 < u + m ∧ u < r.1 + r.2)
  !s.unitsBusy h u m && !runs.any clash &&
    !s.tn.pins.any fun e => decide (e.1 / 64 = h) && e.2.any fun p => (namedUnits p.1 p.2).any clash

/-- The `m` units of table unit `want` in the store of Hive `h`: where they are already, else copied to the lowest free place. -/
def State.placeCode (s : State) (h want m : Nat) (runs : List (Nat × Nat)) : Nat × State :=
  let here (u : Nat) : Bool := (List.range m).all fun i =>
    s.unitLoaded h (u + i) && decide (Tab.get (fun _ => 0) s.hive.codeAt (1024 * h + (u + i)) = want + i + 1)
  match (List.range 1024).find? here with
  | some u => (u, s)
  | none => match (List.range (1025 - m)).find? fun u => s.unitsFree h u m runs with
    | some u => (u, s.loadUnits h u m (codeTable + 256 * want))
    | none => (0, s)

/-- The CODE word of a channel of Hive `h` for a signal, its codes in the store (R120, R128). -/
def State.placeCodes (s : State) (h : Nat) (sig : Word) : Word × State :=
  let n := sgSIG sig
  let m := memUnits n
  let pilot := decide (sgCOMP sig ≠ 0)
  let (trk, s) := if m = 0 then (0, s) else s.placeCode h (tablePrimary n pilot (sgPRN sig)) m []
  let both := decide (m ≠ 0 ∧ sgCOMP sig = 2)
  let (dat, s) := if both then s.placeCode h (tablePrimary n false (sgPRN sig)) m [(trk, m)] else (0, s)
  let (sec, s) := if secStored sig then s.placeCode h (tableSecondary n (sgPRN sig)) 1 [(trk, m), (dat, if both then m else 0)] else (0, s)
  (BitVec.ofNat 32 (sec * 2 ^ 20 + dat * 1024 + trk), s)

-- streams (R126)

/-- Carrier offset from a stream's centre, 1/8 Hz. -/
def State.offset8 (s : State) (m : Nat) (sig : Word) : Option Int := (s.strCentre m).map fun c => carrierHz sig * 8 - c

/-- The lowest stream of DEST bit `bit` that passes a signal's main lobes. -/
def State.fitStream (s : State) (bit : Nat) (sig : Word) : Option Nat :=
  (List.range 24).find? fun m => s.strRun m && s.strDest m bit && decide (s.fget (F.STR_WIDTH m).act < 2) &&
    (s.offset8 m sig).any fun o => s.lobesFit m (sgSIG sig) ((o + 7) / 8)

-- searches of the allocator (R147, R150, R151)

/-- The cold search for a signal: 50 kHz either side in bins of 500 Hz over a segment, one segment, four peaks above 13 dB. -/
def State.coldSearch (s : State) (sig : Word) : Option (List Word) :=
  (s.fitStream 1 sig).map fun m =>
    let n := sgSIG sig
    let t := (segRow n).1
    let w (v : Nat) : Word := BitVec.ofNat 32 v
    [w (sig.toNat / 65536 * 65536 + sig.toNat / 4096 % 16 * 4096 + n), w (m * 2 ^ 24), BitVec.ofInt 32 (((s.offset8 m sig).getD 0) / 8), 0,
     w (4000 / t * 65536 + 100 * t), 0, w (2 ^ 24 + 4 * 65536 + t), 208,
     w (if memUnits n = 0 then 0 else codeTable + 256 * tablePrimary n false (sgPRN sig)), 0]

/-- Is a search for channel `ch` under way? -/
def State.searching (s : State) (ch : Nat) : Bool :=
  (s.dfly.searches.any fun e => e.2.any fun x => decide (x.chan = some ch)) || s.dfly.ended.any fun x => decide (x.chan = some ch)

/-- Look for the signal channel `ch` is chosen for. -/
def State.acquire (s : State) (ch prio : Nat) : State :=
  match s.purpose ch with
  | none => s
  | some (sig, t) =>
    if s.searching ch ∨ s.domState (13 + ch / 64) = dFORCED then s
    else match s.coldSearch sig with
      | some ws => { s with dfly.tries := Tab.set (fun _ => none) s.dfly.tries ch none }.openSearch t prio ws (some ch)
      | none => s

/-- Chip rate of the code searched (R133). -/
def searchHz (sig : Word) : Nat := if sgSIG sig = 3 ∨ sgSIG sig = 18 then 511500 else chipHz sig

/-- The code phase of a peak predicted at `t`, in 2^-40 chip of the code searched (R150). -/
def Found.phase (x : Found) (sig : Word) (t : Nat) : Nat :=
  let fc8 := 8 * carrierHz sig
  let dt : Int := (t : Int) - x.tsnap
  let adv := dt * searchHz sig * (fc8 + x.peak.dop.toInt) / (2 ^ 8 * fc8)
  ((x.peak.code.toNat * 2 ^ 34 + adv) % ((segRow (sgSIG sig)).2.1 * 2 ^ 40 : Nat)).toNat

/-- R150: may a channel start at `t` from a peak? No step, and half a bin's drift within half a code cell. -/
def Found.usable (x : Found) (sig : Word) (dbin t : Nat) : Bool :=
  let n := sgSIG sig
  let k := if n = 2 ∨ n = 5 ∨ n = 10 ∨ n = 17 then 8 else 4
  !x.stepped && decide (x.tsnap ≤ t) && decide (((t - x.tsnap) * searchHz sig * dbin * k : Nat) ≤ 16 * carrierHz sig * 2 ^ 48)

/-- Write a channel's slot to start at boundary `t` with Doppler `fd` (1/8 Hz) and a code phase in 2^-40 chip, and start it: the first
stream that fits, all ten taps, and the reset values of the rest. -/
def State.startAt (s : State) (ch : Nat) (sig : Word) (t : Nat) (fd : Int) (phase : Nat) : State :=
  match s.fitStream 0 sig with
  | none => s
  | some m =>
    let (code, s) := match s.pinned ch with | some p => (p.2, s) | none => s.placeCodes (ch / 64) sig
    let f := (((s.offset8 m sig).getD 0) + fd) * 2 ^ 17
    let reg (s : State) (o : Nat) (v : Word) : State := s.setReg (chReg ch o).addr v
    let s := reg (reg (reg s 0x04 sig) 0x08 code) 0x0C (BitVec.ofNat 32 (m * 65536 + 1))
    let s := s.put96 (fun i => chReg ch (0x10 + 4 * i)) t
    let s := s.put64 (F.CH_CAR_FH_FCW ch) (F.CH_CAR_FL ch) (unsigned 48 (fcwOf f (s.strFs m)))
    let s := s.put64 (F.CH_CODE_FH_CCW ch) (F.CH_CODE_FL ch) (unsigned 40 (ccwOf sig (fd * 2 ^ 17) (s.strFs m)))
    let s := reg (reg (reg s 0x2C (BitVec.ofNat 32 (phase / 2 ^ 40))) 0x30 (BitVec.ofNat 32 (phase / 256 % 2 ^ 32))) 0x34 0
    (reg s 0x00 0x03FF01C0).chStart ch

/-- The boundary the allocator starts a channel at: the next one. -/
def State.nextGrid (s : State) : Nat := s.gridT (s.gridIndex + 1)

/-- R150 and R151: start channel `ch` from the first peak of a search's list, or search again: narrowly around a peak that has become
too old, and as before when the list is exhausted. -/
def State.tryPeaks (s : State) (ch : Nat) (x : Search) : State :=
  match s.purpose ch with
  | none => s
  | some (sig, t) =>
    let prio := jdPrio x.desc
    match x.peaks with
    | [] => if x.status = 3 then s else s.openSearch t prio x.desc (some ch)
    | p :: r =>
      let at_ := s.nextGrid
      let k := if sgSIG sig = 3 ∨ sgSIG sig = 18 then 2 else 1
      if p.usable sig (jdBits x.desc 4 16 16) at_ then
        let s := if s.chState ch = chIDLE then s else s.chStop ch
        let s := { s with dfly.tries := Tab.set (fun _ => none) s.dfly.tries ch (some { x with peaks := r }) }
        s.startAt ch sig at_ p.peak.dop.toInt (k * p.phase sig at_)
      else
        let (_, chips, nc, _) := segRow (sgSIG sig)
        let cell := p.phase sig at_ * nc / (chips * 2 ^ 40)
        let w (i : Nat) := x.desc.getD i 0
        let ws := [w 0, w 1, w 2, p.peak.dop, BitVec.ofNat 32 (jdBits x.desc 4 16 16 * 65536 + 2),
          BitVec.ofNat 32 (17 * 65536 + min (cell - 8) (nc - 17)), w 6, w 7, w 8, w 9]
        s.openSearch t prio ws (some ch)

/-- What the Warden does for the allocator between commands (R147 to R151): it opens the searches it owes, goes on with those that
have ended, once their Hive is on, and submits what the plan covers; channels start only after the start-up calibrations (R415). -/
def State.allocate (s : State) : State :=
  if s.rf.start.isSome then s else
  let again := s.dfly.again
  let ended := s.dfly.ended
  let s := again.foldl (fun s x => s.acquire x.1 x.2) { s with dfly.again := [] }
  let s : State := ended.foldl (fun (s : State) (x : Search) => match x.chan with
    | some ch => if s.domState (13 + ch / 64) = dON then s.tryPeaks ch x else { s with dfly.ended := s.dfly.ended ++ [x] }
    | none => s) { s with dfly.ended := [] }
  if s.dfly.waiting = [] then s else s.dfStat.serveRequests 64

-- moving channels (R16)

/-- Give slot `b` the words of slot `a` for a signal that goes on there: codes in its own store, and, when `a` runs, the words in
force and the phases they reach at the next boundary. -/
def State.copySlot (s : State) (a b : Nat) : State :=
  let c := s.chan a
  let t := s.nextGrid
  let s := (List.range 19).foldl (fun s k =>
    let o := 4 * (k + 1)
    s.setReg (chReg b o).addr (s.reg (chReg a o).addr)) s
  let s := s.setReg (chReg b 0).addr (s.reg (chReg a 0).addr)
  let (code, s) := s.placeCodes (b / 64) (s.reg (chReg a 4).addr)
  let s := s.setReg (chReg b 8).addr code
  if ¬ s.live a then s
  else
    let d := c.advance (s.carNow a) (s.codeNow a) ((t - s.now) * s.strFs (strmOf c.strm) / sec)
    let s := s.put96 (fun i => chReg b (0x10 + 4 * i)) t
    let s := s.put64 (F.CH_CAR_FH_FCW b) (F.CH_CAR_FL b) (unsigned 48 (s.carNow a))
    let s := s.put64 (F.CH_CODE_FH_CCW b) (F.CH_CODE_FL b) (s.codeNow a)
    ((s.setReg (chReg b 0x2C).addr (BitVec.ofNat 32 d.chip)).setReg (chReg b 0x30).addr (BitVec.ofNat 32 (d.frac / 256))).setReg
      (chReg b 0x34).addr (BitVec.ofNat 32 (d.carP / 65536))

/-- The lowest channel of another Hive that is ON where the work of channel `ch` can go on. -/
def State.moveTarget (s : State) (ch : Nat) : Option Nat :=
  allChans.find? fun b => decide (b / 64 ≠ ch / 64 ∧ s.domState (13 + b / 64) = dON ∧ s.chState b = chIDLE) &&
    !s.chosen b && (decide (s.chState ch = chIDLE) || (((s.copySlot ch b).startFault b).isNone &&
      (s.offset8 (strmOf (s.chan ch).strm) (s.chan ch).sig).any fun o => s.lobesFit (strmOf (s.chan ch).strm) (sgSIG (s.chan ch).sig) ((o + 7) / 8)))

/-- Move a channel, a stop followed by a start, and with it what was placed on it; one not yet started takes its search along. -/
def State.moveChan (s : State) (ch : Nat) : State :=
  match s.moveTarget ch with
  | none => s
  | some b =>
    let s := if s.chState ch = chIDLE then s else ((s.copySlot ch b).chStop ch).chStart b
    let follow (x : Sub) : Sub := if x.place = some ch then { x with place := some b } else x
    let turn (x : Search) : Search := if x.chan = some ch then { x with chan := some b } else x
    { s with tn.tenants := s.tn.tenants.map fun (e : Nat × Tenant) => (e.1, { e.2 with subs := e.2.subs.map follow }),
             dfly.searches := s.dfly.searches.map fun (e : Nat × Option Search) => (e.1, e.2.map turn),
             dfly.ended := s.dfly.ended.map turn,
             dfly.again := s.dfly.again.map fun x => if x.1 = ch then (b, x.2) else x }

/-- The unpinned work on a Hive: channels that run, and channels chosen for a subscription. -/
def State.movable (s : State) (h : Nat) : List Nat :=
  (localChans h).filter fun ch => (decide (s.chState ch ≠ chIDLE) || s.chosen ch) && (s.pinned ch).isNone

/-- Only the allocator's vote is left for a domain (R16): a Hive's work is moved as far as it can be; the vote goes when
nothing is left there. -/
def State.allocLeave (s : State) (d : Nat) : State :=
  if s.holders d = 1 ∧ s.voted d ALLOCATOR then
    if 13 ≤ d ∧ d ≤ 28 then ((s.movable (d - 13)).foldl State.moveChan s).hiveVote (d - 13) else s
  else s

/-- Withdraw a client's vote (R16, R384). -/
def State.withdraw (s : State) (d c : Nat) : State :=
  let had := s.voted d c
  let s := s.castVote d c false
  if had ∧ c ≠ ALLOCATOR then s.allocLeave d else s

/-- The codes of the image go to the code table when the image runs and COMB2 is on (R128). -/
def State.loadCodeTable (s : State) : State :=
  if s.domPowered 32 ∧ s.fget F.SYS_BOOT_STATE = 1 then
    let n := min 0x100000 (ofLe (s.combBytes 0x18 4))
    s.combPut codeTable ((Config.imageCodes (s.combBytes 0 n)).take (256 * tableUnits))
  else s

/-- A pinned channel's slot names its signal whenever its Hive comes up (R14). -/
def State.pinSlots (s : State) (h : Nat) : State :=
  (localChans h).foldl (fun s ch => match s.pinned ch with
    | some (sig, code) => if s.chState ch = chIDLE then (s.setReg (chReg ch 4).addr sig).setReg (chReg ch 8).addr code else s
    | none => s) s

end Sys2Proof.Machine
end

