-- ==== Sys2Proof/Machine/Group.lean ====
section
/-! DEFINITION. Words to the other devices of a group (24: R444, R445): the port a word leaves by, and the internal group messages. -/

namespace Sys2Proof.Machine

def rlNONE : Nat := 0
def rlMASTER : Nat := 1
def rlFOLLOWER : Nat := 2

def devAddr (s : State) : Nat := s.fget F.SYS_STRAP_DEVADDR
def State.penState (s : State) (w : Nat) : Nat := s.fget (F.PP_STAT_STATE w)
def State.penRole (s : State) : Nat := s.fget F.PH_STAT_ROLE
def State.updPen (s : State) (w : Nat) (f : PenPort → PenPort) : State := s.setPenPort w (f (s.penPort w))

/-- A Penholt follower forms no solution (R210, R220). -/
def State.follower (s : State) : Bool := decide (s.penRole = rlFOLLOWER)

def putPen (x : PenPort) (ct : Nat) (word : List Nat) : PenPort := { x with sent := x.sent ++ [(ct, word)] }

/-- Hand a control word of the port's own to it. -/
def State.penSend (s : State) (w ct : Nat) (word : List Nat) : State :=
  if s.penState w = ptUP then s.updPen w fun x => putPen x ct word else s

def busWord (tgt src : Nat) (bs : List Byte) : List Nat := [tgt, src, ofLe (bs.take 7)]

/-- A GROUP or DATA word leaves by a port, or waits there, 256 at most. -/
def State.penForward (s : State) (w ct tgt src : Nat) (bs : List Byte) : State :=
  if s.penState w = ptUP then s.penSend w ct (busWord tgt src bs)
  else if (s.penPort w).queue.length < 256 then s.updPen w fun x => { x with queue := x.queue ++ [(ct, tgt, src, bs)] }
  else s.finc (F.PP_CNT_DROP w)

/-- Hops to a device through a port. -/
def State.penHops (s : State) (w d : Nat) : Option Nat := ((s.penPort w).hops.find? fun h => h.1 = d).map fun h => h.2 + 1

/-- The port toward a device: fewer hops, east on a tie. -/
def State.penRoute (s : State) (d : Nat) : Nat :=
  match s.penHops 0 d, s.penHops 1 d with
  | none, some _ => 1
  | some a, some b => if b < a then 1 else 0
  | _, _ => 0

/-- An internal group message to a device (R444): its bytes, seven to a GROUP word. How a message is framed is not stated: a measurement
block and a solution record go as they are (log entry 101). -/
def State.groupSend (s : State) (d : Nat) (bs : List Byte) : State :=
  (chunks 7 bs).foldl (fun s x => s.penForward (s.penRoute d) 6 d (devAddr s) x) s

/-- The other devices present (R448). -/
def State.peers (s : State) : List Nat :=
  (List.range 8).filter fun d => decide (d ≠ devAddr s) && (s.fget F.PH_TOPO_PRES).testBit d

end Sys2Proof.Machine
end

