-- ==== Sys2Proof/Machine/Scarab.lean ====
section
/-! DEFINITION. Scarab (10: R183 to R210): measurement models, the full filter's states and tests, the vector core with its
discriminators, fallback and hand-back, model tables, coasting and weights. The filters' own matrix arithmetic is not the spec's; its
results are operands (log entry 3). -/

namespace Sys2Proof.Machine

def fsNOFIX : Nat := 0
def fsFIX : Nat := 1
def fsDEGRADED : Nat := 2
def fsFAULT : Nat := 3

def vsOFF : Nat := 0
def vsSTANDBY : Nat := 1
def vsACTIVE : Nat := 2
def vsHOLD : Nat := 3
def vsCOAST : Nat := 4

def gcCMD : Nat := 5

def State.fstate (s : State) : Nat := s.fget F.SC_STAT_FSTATE
def State.vstate (s : State) : Nat := s.fget F.VC_STAT_VSTATE
def State.scOn (s : State) : Bool := s.domPowered 29

/-- The solution the core runs on is a FIX or DEGRADED one (R196): on a follower, whose own FSTATE is NOFIX, that of the master's last
record (R210). -/
def State.fixed (s : State) : Bool :=
  let f := if s.follower then (s.scarab.sol.getD 3 0).toNat % 4 else s.fstate
  decide (f = fsFIX ∨ f = fsDEGRADED)

/-- VSTATE changes; every change raises VSTATE (R196). -/
def State.setV (s : State) (v : Nat) : State := if s.vstate = v then s else (s.fput F.VC_STAT_VSTATE v).evRise 0x102 3

/-- After a change of the solution's state: the run of FIX or DEGRADED that ends HOLD, which was `was` before, and STANDBY's end
(R196). -/
def State.fixedNow (s : State) (was : Bool) : State :=
  let s := if s.fixed = was then s else { s with scarab.holdT := if s.fixed then some s.now else none }
  if s.vstate = vsSTANDBY ∧ s.fixed then s.setV vsACTIVE else s

/-- FSTATE changes; every change raises FSTATE (R192). -/
def State.setF (s : State) (v : Nat) : State :=
  if s.fstate = v then s else ((s.fput F.SC_STAT_FSTATE v).evRise 0x101 0).fixedNow s.fixed

/-- NVEC counts VC_TAKEN. -/
def State.nvec (s : State) : State :=
  s.fput F.VC_STAT_NVEC ((s.hive.chans.map Prod.fst).filter fun ch => s.mapBit F.VC_TAKEN ch).length

/-- The channels in VECTOR, and those that coast from it. -/
def State.vecChans (s : State) : List Nat :=
  (s.hive.chans.map Prod.fst).filter fun ch =>
    decide (s.chState ch = chVECTOR ∨ (s.chState ch = chCOAST ∧ (s.chan ch).coast = chVECTOR))

/-- RELEASE for one channel; its release counts from the next boundary (R185, R199). -/
def State.relChan (s : State) (ch : Nat) : State :=
  s.setChan ch { s.chan ch with release := true, relT := some (s.gridNow + ms 1), passT := none, overZ := 0, win := [] }

/-- Every VECTOR channel is released (R199): cause, time, and the state the core goes to. -/
def State.globalFall (s : State) (cause t v : Nat) : State :=
  let s := s.vecChans.foldl State.relChan s
  let s := ((s.put96 F.VC_GT t).fput F.VC_STAT_GCAUSE cause).finc F.VC_CNT_GFALL
  let s := (s.evRise 0x102 1).setV v
  { s with scarab.holdT := if s.fixed then some s.now else none }

/-- The conditions of OFF and STANDBY (R196), after a change of VEC, of the active grid or of Gather's enable. -/
def State.vcUpdate (s : State) : State :=
  if ¬ s.scOn then s
  else if mVEC s ∧ ¬ s.flag F.GRID_DUMP.act ∧ s.flag F.GA_CTL_EN then
    let s := if s.vstate = vsOFF then s.setV vsSTANDBY else s
    if s.vstate = vsSTANDBY ∧ s.fixed then s.setV vsACTIVE else s
  else if s.vstate = vsOFF then s
  else s.globalFall gcCMD s.gridNow vsOFF

-- excluded satellites (R208)

def exclEntry (l : List (Nat × Nat)) (i : Nat) : Nat :=
  match l[i]? with
  | some (y, p) => 32768 + y * 4096 + p
  | none => 0

/-- IN_EXCL and NEXCLD as the list stands: the first four entries. -/
def State.exclRegs (s : State) : State :=
  let l := s.scarab.excl
  ((s.setReg (F.IN_EXCL_V 0).addr (BitVec.ofNat 32 (exclEntry l 1 * 65536 + exclEntry l 0))).setReg (F.IN_EXCL_V 1).addr
    (BitVec.ofNat 32 (exclEntry l 3 * 65536 + exclEntry l 2))).fput F.IN_STAT_NEXCLD (min 255 l.length)

def State.exclude (s : State) (sats : List (Nat × Nat)) : State :=
  let new := sats.filter fun x => !s.scarab.excl.contains x
  if new = [] then s
  else { s with scarab.excl := s.scarab.excl ++ new }.exclRegs.evRise 0x103 1

def State.satExcluded (s : State) (sig : Word) : Bool :=
  s.scarab.excl.any fun x => decide (x.1 = sysOf (sgSIG sig) ∧ (x.2 = 0xFF ∨ x.2 = sgPRN sig))

/-- EXCLUSION_READMIT (R208): residuals have passed for 60 s. -/
def execExclusionReadmit (sys : Fin 8) (prn : Byte) (s : State) : Host.Outcome State Fault Refusal :=
  .next { s with scarab.excl := s.scarab.excl.filter fun x => x ≠ (sys.val, prn.toNat) }.exclRegs

-- the full filter (R190 to R192, R204, R206 to R208)

/-- A pending model table activates (R189). -/
def State.modelActivate (s : State) : State :=
  match s.scarab.pending with
  | some m =>
    let s := { s with scarab.model := some m, scarab.pending := none }
    (((s.fputB F.SC_MRES_PENDING false).fput F.SC_NST_NST (modelStates m)).evRise 0x101 1).vcUpdate
  | none => s

def State.setFlagEv (s : State) (f : Fld) (b : Bool) (p bit : Nat) : State :=
  let was := s.flag f
  (s.fputB f b).when (b && !was) (·.evRise p bit)

-- measurement models (R187): ranges in 2^-20 m

/-- c t for a time in 2^-48 s, and c r for a rate in 10^-15 s/s. -/
def metres (t : Int) : Int := roundDiv (lightMps * t) (2 ^ 28)
def mps (r : Int) : Int := roundDiv (lightMps * 2 ^ 20 * r) (10 ^ 15)

/-- The system offset o_s of a system: GPS and SBAS have none (R186). -/
def sysOffset (u : FullIn) (sys : Nat) : Int := if sys = 0 ∨ sys = 6 then 0 else u.offs.getD (sys - 1) 0

/-- What code and phase have in common: rho + c (b + o_s - dt_s) + m_T T_w + T_d. -/
def common (u : FullIn) (w : Word) (g : SatGeo) : Int :=
  g.range + metres (u.clk.offset + sysOffset u (sysOf (sgSIG w)) - g.satClk) + g.mapT * u.wet / 2 ^ 16 + g.dry

/-- k I: the ionosphere at the signal's carrier. -/
def ionoAt (w : Word) (i : Int) : Int := roundDiv (i * 1575420000 ^ 2) (carrierHz w ^ 2)

/-- lambda x for `x` in 2^-24 cycle. -/
def lambda24 (w : Word) (x : Int) : Int := roundDiv (lightMps * x) (16 * carrierHz w)

def modelP (u : FullIn) (w : Word) (g : SatGeo) : Int := common u w g + ionoAt w g.iono + g.bias
def modelPhi (u : FullIn) (w : Word) (g : SatGeo) : Int := common u w g - ionoAt w g.iono + lambda24 w g.amb
def modelRate (u : FullIn) (g : SatGeo) : Int := g.rate + mps (u.clk.drift - g.satDrift)

/-- The RF path whose delay a channel's measurements carry: of a combined stream, the group's lowest. -/
def State.chanPath (s : State) (ch : Nat) : Option Nat :=
  let src := s.fget (F.STR_SRC (strmOf (s.chan ch).strm)).act
  if src < 8 then some src else if src < 10 then (maskPaths (s.groupMask (src - 8))).head? else none

/-- c times the delay a channel's measurements carry (R78, R187): RF_CALD of the path; for an inbound stream that of the sender's path,
less tau, by which the sender's ticks come after this device's (R453; log entry 101). -/
def State.calRange (s : State) (ch : Nat) : Int :=
  let src := s.fget (F.STR_SRC (strmOf (s.chan ch).strm)).act
  let ps : Int := match s.chanPath ch with
    | some p => s.fget (F.RF_CALD_DELAY p)
    | none =>
      let (w, k) := inSlot src
      if 16 ≤ src then ((Tab.get (fun _ => 0) (s.penPort w).cald k : Nat) : Int) - signed 32 (s.fget (F.PP_TOFS w k)) else 0
  roundDiv (lightMps * 2 ^ 20 * ps) (10 ^ 12)

/-- sigma^2 = sigma0^2 / sin^2(elevation) + thermal term. -/
def weightVar (el : Int) (cn0 : Nat) : Nat :=
  let sn := (cis (el * 2 ^ 32 / 3600)).2.natAbs
  Config.sigma0m * 2 ^ 60 / max 1 (sn * sn) + Config.thermal cn0

def entryWord (e : List Word) (i : Nat) : Nat := (e.getD i 0).toNat
def entryCh (e : List Word) : Nat := entryWord e 0 % 8192

/-- Does the full filter use a measurement of this channel at this elevation (R187, R208)? -/
def State.admits (s : State) (ch : Nat) (el : Int) : Bool :=
  let w := (s.chan ch).sig
  let sys := sysOf (sgSIG w)
  decide ((s.mf 0x10 16 16 : Int) < el) && decide (s.mf 0x10 0 16 < s.fget (F.CH_CN0_V ch)) && decide (s.mf 0x14 sys 1 = 1) &&
    (decide (s.mf 0x04 3 1 = 0 ∨ sys ≠ 1) || decide (Tab.get (fun _ => 0) s.meas.auth (sgPRN w) = 2)) && !s.satExcluded w

def State.satOf (s : State) (ch : Nat) : Nat × Nat := (sysOf (sgSIG (s.chan ch).sig), sgPRN (s.chan ch).sig)

/-- The channels the update uses, and how many satellites were usable: of more satellites than NSAT those of lowest elevation stay
out (R186). -/
def State.used (s : State) (u : FullIn) : List SatGeo × Nat :=
  let gs := sortBy (fun a b => decide (b.el ≤ a.el)) (u.geo.filter fun g => s.admits g.ch.val g.el &&
    s.meas.last.any fun e => decide (entryCh e = g.ch.val))
  let sats := (gs.map fun g => s.satOf g.ch.val).eraseDups
  let keep := sats.take (s.mf 0x08 16 8)
  (gs.filter fun g => keep.contains (s.satOf g.ch.val), sats.length)

/-- Measured minus modelled, with the path's delay and a step of the clock taken off (R187, R190), and the variance. -/
def State.innovation (s : State) (u : FullIn) (g : SatGeo) : Nat × Int × Int × Int × Nat :=
  let ch := g.ch.val
  let w := (s.chan ch).sig
  let e := (s.meas.last.find? fun e => decide (entryCh e = ch)).getD []
  let fix := s.calRange ch + metres s.meas.lastStep
  let p := signed 64 (entryWord e 1 + entryWord e 2 * 2 ^ 32) - fix
  let phi := lambda24 w (signed 64 (entryWord e 3 + entryWord e 4 * 2 ^ 32)) - fix
  let rate := -roundDiv (lightMps * 2 ^ 10 * signed 32 (entryWord e 5)) (carrierHz w)
  (ch, p - modelP u w g, phi - modelPhi u w g, rate - modelRate u g, weightVar g.el (s.fget (F.CH_CN0_V ch)))

/-- The measurements of the epoch enter: their innovations, NSV, and since when satellites have been few. -/
def State.measUse (s : State) (u : FullIn) : State :=
  let (gs, n) := s.used u
  let s := { s with scarab.innov := gs.map (s.innovation u),
                    scarab.fewT := if 4 ≤ n then none else some (s.scarab.fewT.getD s.now),
                    scarab.clkBias := u.clk.offset, scarab.clkDrift := u.clk.drift }
  s.fput F.SC_STAT_NSV (min 255 (gs.map fun g => s.satOf g.ch.val).eraseDups.length)

-- protection levels and fault detection (R208)

/-- The satellites of the update by weight, greatest first: a satellite weighs what its best measurement does. -/
def State.bySatWeight (s : State) : List (Nat × Nat) :=
  ((sortBy (fun (a b : Nat × Int × Int × Int × Nat) => decide (a.2.2.2.2 ≤ b.2.2.2.2)) s.scarab.innov).map fun x => s.satOf x.1).eraseDups

/-- The subsets formed: one without each of the 63 satellites of greatest weight, and with NEXCL = 2 one without each system. -/
def State.subsets (s : State) (u : FullIn) : List SubsetIn :=
  u.subs.filter fun x =>
    if x.prn.toNat = 0xFF then decide (s.mf 0x30 8 8 = 2) else !(s.bySatWeight.drop 63).contains (x.sys.val, x.prn.toNat)

/-- max over the subsets of |separation| + K_md sigma, along one axis, in the unit of the operands, rounded up. -/
def State.protect (s : State) (u : FullIn) (f : SubsetIn → Nat × Nat) : Nat :=
  let xs := s.subsets u
  let k := Config.kMd (s.mf 0x30 24 8) xs.length
  xs.foldl (fun a x => max a ((f x).1 + ((f x).2 * k + 65535) / 65536)) 0

/-- HPL and VPL in cm, TPL in ns. -/
def State.levels (s : State) (u : FullIn) : Nat × Nat × Nat :=
  ((s.protect u (fun x => (x.sep.1, x.sd.1)) + 9) / 10, (s.protect u (fun x => (x.sep.2.1, x.sd.2.1)) + 9) / 10,
   (s.protect u (fun x => (x.sep.2.2, x.sd.2.2)) + 999) / 1000)

/-- A separation exceeds K_fa times its deviation on any axis. -/
def State.faultFound (s : State) (u : FullIn) : Bool :=
  let xs := s.subsets u
  let k := Config.kFa (s.mf 0x30 16 8) xs.length
  xs.any fun x => decide (k * x.sepSd.1 < x.sep.1 * 65536 ∨ k * x.sepSd.2.1 < x.sep.2.1 * 65536 ∨ k * x.sepSd.2.2 < x.sep.2.2 * 65536)

/-- What leaves the fault out: with NEXCL at least 1, the one subset that passes all its own tests. -/
def State.culprit (s : State) (u : FullIn) : Option (Nat × Nat) :=
  match (s.subsets u).filter SubsetIn.passes with
  | [x] => if s.mf 0x30 8 8 = 0 then none else some (x.sys.val, x.prn.toNat)
  | _ => none

/-- The new FSTATE and what goes with it (R192, R208). -/
def State.fsUpdate (s : State) (u : FullIn) : State :=
  let pl := s.levels u
  let hal := decide (s.mf 0x34 16 16 ≤ pl.1)
  let val := decide (s.mf 0x34 0 16 ≤ pl.2.1)
  let tal := decide (s.mf 0x38 16 16 ≤ pl.2.2)
  let plOk := !(hal || val || tal)
  let fault := s.faultFound u
  let out := s.culprit u
  let s := ((s.fputB F.IN_STAT_HALM hal).fputB F.IN_STAT_VALM val).fputB F.IN_STAT_TALM tal
  let s := match out with
    | some x => if fault then s.exclude [x] else s
    | none => s
  let s := { s with scarab.okPl := if plOk then s.scarab.okPl + 1 else 0, scarab.okRes := if u.residOk then s.scarab.okRes + 1 else 0 }
  let f := s.fstate
  if f = fsNOFIX then (if u.posSdM < 100 ∧ u.residOk then s.setF fsFIX else s)
  else if f = fsFAULT then
    if 3 ≤ s.scarab.okRes then s.setF (if plOk then fsFIX else fsDEGRADED) else s
  else if fault ∧ out = none then
    let s := { s with scarab.okRes := 0 }.setF fsFAULT
    let s := s.evRise 0x101 2
    if s.vstate = vsACTIVE then { s with scarab.g4 := some s.now } else s
  else if f = fsFIX then (if plOk then s else ({ s with scarab.okPl := 0 }.setF fsDEGRADED).evRise 0x103 0)
  else if 3 ≤ s.scarab.okPl then s.setF fsFIX else s

/-- Attitude (R204): fixed by the mount, or valid once the heading's deviation is below 2 degrees; held at zero unless BEAM = 1 (R186). -/
def State.attUpdate (s : State) (u : FullIn) : State :=
  if ¬ mBEAM s then
    ((s.setReg (F.BM_ATT_HEAD 0).addr 0).setReg (F.BM_ATT_HEAD 1).addr 0).fputB F.IN_STAT_ATTV false
  else
    let fix := decide (s.mf 0x44 0 1 = 1)
    let head := (signed 16 (s.mf 0x78 16 16) % 36000).toNat
    let a0 := if fix then head * 65536 + s.mf 0x78 0 16 else (u.att.getD 0 0).toNat
    let a1 := if fix then s.mf 0x7C 0 16 else (u.att.getD 1 0).toNat
    let s := (s.setReg (F.BM_ATT_HEAD 0).addr (BitVec.ofNat 32 a0)).setReg (F.BM_ATT_HEAD 1).addr (BitVec.ofNat 32 a1)
    s.setFlagEv F.IN_STAT_ATTV (s.flag F.IN_STAT_ATTV || fix || decide (u.headSd < 200)) 0x103 3

/-- The set R207 accepts: the first whose residual ratio reaches RATIO / 16 and that holds at least 5 ambiguities, all of carriers
without an open half cycle (R206). -/
def State.ambAccept (s : State) (u : FullIn) : List Nat :=
  match u.ambSets.find? fun x => decide (5 ≤ x.1.length ∧ s.mf 0x3C 16 16 * x.2.1 ≤ 16 * x.2.2) &&
      x.1.all fun ch => !s.flag (F.CH_FLAGS_HALFC ch.val) with
  | some x => x.1.map Fin.val
  | none => []

/-- RTK state (R206, R207): a fixed ambiguity stays so until its channel slips or its residual exceeds 0.25 cycle. -/
def State.rtkUpdate (s : State) (u : FullIn) : State :=
  let young : Bool := match s.scarab.baseT with | some t => decide (s.now ≤ t + s.mf 0x3C 0 16 * sec) | none => false
  let on := mRTK s && young
  let kept := s.scarab.ambFix.filter fun ch => !s.flag (F.CH_FLAGS_SLIP ch) && !u.ambOff.any fun x => decide (x.val = ch)
  let fix := if on then ((kept ++ s.ambAccept u).eraseDups).take (s.mf 0x08 0 8) else []
  let s := { s with scarab.ambFix := fix }
  let r := if ¬ (on = true) then 0 else if 5 ≤ fix.length then 2 else 1
  s.setRtk r

/-- Full updates in a row with a channel's satellite excluded are counted in every state; a channel in TRACK is declared LOST at EXCLT of
them (R183). -/
def State.exclLost (s : State) : State :=
  (s.hive.chans.map Prod.fst).foldl (fun s ch =>
    let c := s.chan ch
    if s.satExcluded c.sig then
      s.setChan ch { c with exclN := c.exclN + 1, lost := c.lost || decide (s.chState ch = chTRACK ∧ s.mf 0x30 0 8 ≤ c.exclN + 1) }
    else s.setChan ch { c with exclN := 0 }) s

/-- The epoch boundary now closing (R50). -/
def epochMs (s : State) : Nat :=
  [10, 20, 25, 40, 50, 100, 125, 200, 250, 500, 1000, 2000, 5000, 10000, 30000, 60000].getD (s.fget F.GRID_EPOCH.act) 1000
def State.epochIndex (s : State) : Nat := s.now * 1000 / (sec * epochMs s)
def State.epochT (s : State) : Nat := ceilT (s.epochIndex * epochMs s) 1000

/-- D of R190. -/
def State.fullD (s : State) : Nat := max (max 1 (s.mf 0x08 24 8)) ((50 + epochMs s - 1) / epochMs s)

/-- Words followed by the CRC-32C of their bytes. -/
def withCrc (r : List Word) : List Word := r ++ [BitVec.ofNat 32 (crc32c (wordBytes r))]

/-- The solution record (R220). -/
def State.solRecord (s : State) (u : FullIn) : List Word :=
  let no := decide (s.fstate = fsNOFIX)
  let b (f : Fld) (n : Nat) : Nat := if s.flag f then 2 ^ n else 0
  let w3 := s.fget F.IN_STAT_NEXCLD * 2 ^ 24 + s.fget F.SC_STAT_NSV * 65536 + s.vstate * 512 + b F.IN_STAT_ATTV 8 +
    b F.IN_STAT_SPOOF 7 + b F.IN_STAT_TALM 6 + b F.IN_STAT_VALM 5 + b F.IN_STAT_HALM 4 + s.fget F.SC_STAT_RTK * 4 + s.fstate
  let g (i : Nat) : Word := if no then 0 else u.sol.getD i 0
  let sd (i : Nat) : Word := if no then 0xFFFFFFFF else u.sol.getD i 0
  let ps (t : Int) : Int := if no then 0 else roundDiv (t * 10 ^ 12) (2 ^ 48)
  let bias := unsigned 64 (ps u.clk.offset)
  let zwd := if no then 0 else unsigned 16 (roundDiv (u.wet * 1000) (2 ^ 20))
  withCrc (timeWords s.epochT ++ (BitVec.ofNat 32 w3 :: BitVec.ofNat 32 s.scarab.seq :: (List.range 9).map g) ++
    [BitVec.ofNat 32 bias, BitVec.ofNat 32 (bias / 2 ^ 32), if no then 0 else BitVec.ofInt 32 u.clk.drift, sd 9, sd 10,
     s.reg F.SC_CLKSD.addr, s.reg F.IN_PL_HPL.addr, BitVec.ofNat 32 (zwd * 65536 + s.fget F.IN_TPL_TPL)] ++
    (List.range 5).map (fun i => BitVec.ofInt 32 (ps (u.offs.getD i 0))) ++
    [s.reg (F.IN_EXCL_V 0).addr, s.reg (F.IN_EXCL_V 1).addr, s.reg (F.BM_ATT_HEAD 0).addr, s.reg (F.BM_ATT_HEAD 1).addr])

/-- Write the record into the solution ring. -/
def State.solWrite (s : State) (r : List Word) : State :=
  let n := max 1 (s.fget F.SC_SOLB_NREC)
  let s := s.combWrite 3 (s.fget F.SC_SOLB_ADDR * 64 + 128 * (s.scarab.seq % n)) (wordBytes r)
  { s with scarab.seq := (s.scarab.seq + 1) % 2 ^ 32, scarab.sol := r }

/-- The results of an update in its registers (R190 to R192). -/
def State.fullRegs (s : State) (u : FullIn) : State :=
  let pl := s.levels u
  let s := (s.put96 F.SC_FT s.epochT).fput F.SC_CLKSD (min u.clk.sdPs 0xFFFFFFFF)
  let s := s.fput F.SC_NST_LATMAX (max (s.fget F.SC_NST_LATMAX) (min u.latencyUs 0xFFFF))
  ((s.fput F.IN_PL_HPL (min pl.1 0xFFFF)).fput F.IN_PL_VPL (min pl.2.1 0xFFFF)).fput F.IN_TPL_TPL (min pl.2.2 0xFFFF)

/-- A full update of the master reaches a follower (R210, R220): states 0 to 16 start from it, and its record is the device's. -/
def State.reseed (s : State) (u : FullIn) : State :=
  if u.master.length ≠ 32 then s
  else { s with scarab.clkBias := u.clk.offset, scarab.clkDrift := u.clk.drift, scarab.sol := u.master }.fixedNow s.fixed

/-- SPOOF clears 60 s after the last DOA failure (R209). -/
def State.spoofEnd (s : State) : State :=
  match s.scarab.spoofT with
  | some t => if t + 60 * sec ≤ s.now then { s.fputB F.IN_STAT_SPOOF false with scarab.spoofT := none } else s
  | none => s

/-- A clock estimate good enough is delivered to the Sky Clock (R43, R191). -/
def State.clockOut (s : State) (u : FullIn) : State :=
  if s.fixed ∧ u.clk.sdPs ≤ s.mf 0x38 0 16 * 1000 ∧ s.skyState ≠ skFOLLOW then
    s.timeInput false u.clk.offset (s.driftBase u.clk.drift) ((u.clk.sdPs + 999) / 1000)
  else s

/-- A full update (R190 to R192): the model that waits, the filter's states, the registers, the record, and the clock
estimate delivered to the Sky Clock. -/
def State.fullUpdate (s : State) (u : FullIn) : State :=
  let s := ((s.modelActivate.measUse u).fsUpdate u).fullRegs u
  let s := (((s.attUpdate u).rtkUpdate u).exclLost).spoofEnd
  let s := s.solWrite (s.solRecord u)
  let s := if s.penRole = rlMASTER then s.peers.foldl (fun s d => s.groupSend d (wordBytes s.scarab.sol)) s else s
  s.clockOut u

/-- The filter starts again (R192): states 0 to 20, the runs of its tests, and NOFIX. -/
def State.resetf (s : State) : State :=
  let s := { s with scarab.okPl := 0, scarab.okRes := 0, scarab.innov := [], scarab.clkBias := 0, scarab.clkDrift := 0, scarab.ambFix := [] }
  (s.when (decide (s.fget F.SC_STAT_RTK = 2)) (·.setRtk 1)).setF fsNOFIX

/-- FIX_LOSS_TIMEOUT (R192): fewer than 4 usable satellites for 2 s. -/
def execFixLossTimeout (s : State) : Host.Outcome State Fault Refusal :=
  .next (if s.scOn ∧ (s.scarab.fewT.any fun t => decide (t + 2 * sec ≤ s.now)) then s.resetf else s)

/-- RESETF. -/
def execResetf (via : Via) (s : State) : Host.Outcome State Fault Refusal :=
  .next (s.gated (.resetf via) via 0x101 0x040 State.resetf)

/-- RELALL (R196, R199). -/
def State.relall (s : State) : State := if s.vstate = vsACTIVE then s.globalFall gcCMD s.gridNow vsHOLD else s

def execRelall (via : Via) (s : State) : Host.Outcome State Fault Refusal :=
  .next (s.gated (.relall via) via 0x101 0x040 State.relall)

/-- GHOLD_EXPIRY (R196): GHOLD seconds with FIX or DEGRADED throughout. -/
def execGholdExpiry (s : State) : Host.Outcome State Fault Refusal :=
  .next (match s.scarab.holdT with
    | some t => if s.vstate = vsHOLD ∧ s.fixed ∧ t + s.mf 0x2C 24 8 * sec ≤ s.now then s.setV vsACTIVE else s
    | none => s)

-- model tables (R189)

/-- SC_MCMD.LOAD: no effect while a table waits, with MDLBUSY set; a check already running goes on. -/
def State.modelLoad (s : State) : State :=
  if s.flag F.SC_MRES_PENDING then s.fault 0x101 0
  else if s.flag F.SC_MRES_BUSY then s
  else
    let (bs, _, s) := s.combRead 3 (s.fget F.SC_MTAB_ADDR * 64) 132
    { s.fputB F.SC_MRES_BUSY true with scarab.check := some (bytesWords bs) }

def execModelLoad (via : Via) (s : State) : Host.Outcome State Fault Refusal :=
  .next (s.gated (.modelLoad via) via 0x101 0x04C State.modelLoad)

/-- MODEL_CHECK_DONE (R189): the code, PENDING when the table passes, and the reply a tenant's MODEL waits for (R320). -/
def execModelCheckDone (s : State) : Host.Outcome State Fault Refusal :=
  .next (match s.scarab.check with
    | some m =>
      let c := modelCode m
      let s := { (s.fputB F.SC_MRES_BUSY false).fput F.SC_MRES_CODE c with scarab.check := none }
      let s := if c = 0 then { s.fputB F.SC_MRES_PENDING true with scarab.pending := some m } else s
      (s.evRise 0x101 1).complete 0x0038 (if c = 0 then cOK else cREFUSED) (leBytes 2 c)
    | none => s)

-- the vector core (R193 to R200, R209)

/-- The dump of a channel in the frame last written. -/
def State.frameDump (s : State) (ch : Nat) : Option Dump := s.hive.last.bind fun f => f.dumps.find? fun d => d.ch = ch

/-- A tap of that dump. -/
def State.frameTap (s : State) (ch k : Nat) : Cx := ((s.frameDump ch).map fun d => d.taps.getD k (0, 0)).getD (0, 0)

/-- Is a channel's dump of the frame usable (R197)? Neither INVAL nor STEPPED, and not within WIN ms of the return from COAST. -/
def State.dumpUsable (s : State) (x : VecChan) : Bool :=
  let ch := x.ch.val
  let back := match (s.chan ch).retT with | some t => decide (t + ms (s.mf 0x1C 0 8) ≤ s.now) | none => true
  (s.frameDump ch).any (fun d => !d.status.testBit 6 && !d.status.testBit 3) && back

/-- The discriminators of a channel's dump in 2^-20 m (R177, R193): code, and carrier phase with VCARR = 1, else the phase turned since
the dump before. -/
def State.discs (s : State) (ch : Nat) : Int × Int :=
  let c := s.chan ch
  let t := s.frameTap ch
  let code := dllDisc c.sp (t 0) (t 2)
  let prev := (c.loop.recent.getD 1 ((0, 0), (0, 0), false)).1
  let car := if mVCARR s then pllDisc c.sig (t 1) else fllDisc prev (t 1)
  (roundDiv (lightMps * code) (2 ^ 8 * chipHz c.sig), roundDiv (lightMps * car) (2 ^ 12 * carrierHz c.sig))

/-- The normalized innovations z_c and z_f in 1/16 sigma. -/
def State.zs (s : State) (x : VecChan) : Int × Int :=
  let d := s.discs x.ch.val
  (roundDiv (16 * d.1) (max 1 x.sigC : Nat), roundDiv (16 * d.2) (max 1 x.sigF : Nat))
def State.zSq (s : State) (x : VecChan) : Int := (s.zs x).1 * (s.zs x).1 + (s.zs x).2 * (s.zs x).2

/-- Take a usable tick into the channel's test history. -/
def State.noteTick (s : State) (x : VecChan) : State :=
  let ch := x.ch.val
  let c := s.chan ch
  let z := s.zs x
  let beyond := decide (s.mf 0x18 16 16 < z.1.natAbs ∨ s.mf 0x18 16 16 < z.2.natAbs)
  if s.dumpUsable x then
    s.setChan ch { c with overZ := if beyond then min 255 (c.overZ + 1) else 0,
                          win := (s.zSq x :: c.win).take (s.mf 0x1C 0 8), useT := some s.now }
  else s

/-- The R197 code a channel fails with, 0 when it passes. -/
def State.vecCause (s : State) (x : VecChan) : Nat :=
  let ch := x.ch.val
  let c := s.chan ch
  if s.dumpUsable x ∧ s.mf 0x18 0 8 ≤ c.overZ then 1
  else if s.dumpUsable x ∧ 16 * (s.mf 0x1C 16 16 : Int) < c.win.sum then 2
  else if mVCARR s ∧ ¬ s.flag (F.CH_FLAGS_PLOCK ch) then 3
  else if s.fget (F.CH_CN0_V ch) + 48 < s.mf 0x24 16 16 then 4
  else if ¬ s.dumpUsable x ∧ (c.useT.getD 0) + ms (s.mf 0x2C 8 8) ≤ s.now then 5
  else if s.flag F.IN_STAT_ATTV ∧ 2 ≤ elems c.strm ∧ s.mf 0x44 16 16 < x.doa then 6
  else 0

/-- The global cause of a tick (R198), 0 when it passes: tested over the VECTOR channels with a usable dump, when there
are any. -/
def State.globalCause (s : State) (vs : List VecChan) (singular : Bool) : Nat :=
  let us_ := vs.filter s.dumpUsable
  let n := us_.length
  let bad := vs.filter fun x => decide (s.vecCause x ≠ 0)
  let pass := us_.filter fun x => decide (s.vecCause x = 0)
  let sum : Int := (us_.map s.zSq).sum
  let exc := sum - 512 * n
  let gk : Int := s.mf 0x20 16 8
  if 4 ≤ bad.length ∧ s.mf 0x20 24 8 * n ≤ bad.length * 256 then 1
  else if n = 0 then (if singular then 4 else 0)
  else if 0 < exc ∧ 1024 * gk * gk * n < exc * exc then 2
  else if pass.length < s.mf 0x20 0 8 ∨ ((pass.map fun x => s.satOf x.ch.val).eraseDups).length < 4 then 3
  else if singular then 4
  else 0

/-- One channel fails (R199): RELEASE, VC_REL, VC_LASTCH, VFALL; a DOA failure is a spoofed satellite (R209). -/
def State.vecFall (s : State) (x : VecChan) : State :=
  let ch := x.ch.val
  let k := s.vecCause x
  let s := ((s.relChan ch).setMapBit F.VC_REL ch true).finc F.VC_CNT_CFALL
  let s := ((s.fput F.VC_LASTCH_CAUSE k).fput F.VC_LASTCH_CH ch).evRise 0x102 0
  if k = 6 then
    let s := { s.fputB F.IN_STAT_SPOOF true with scarab.spoofT := some s.now }
    (s.exclude [s.satOf ch]).evRise 0x103 2
  else s

/-- The predicted Doppler (R194) in 2^-20 Hz: -(range rate + c (drift + offset rate - satellite drift)) / lambda. -/
def State.doppler (s : State) (ch : Nat) (rate offRate satDrift : Int) : Int :=
  -roundDiv ((rate + mps (s.scarab.clkDrift + offRate - satDrift)) * carrierHz (s.chan ch).sig) lightMps

/-- The words for a Doppler (R154, R155); without a stated stream centre the carrier word in force stays. -/
def State.wordsFor (s : State) (ch : Nat) (fd : Int) : Int × Int :=
  let c := s.chan ch
  let fs := s.strFs (strmOf c.strm)
  ((match s.offsetHz8 ch with | some o => fcwOf (o * 2 ^ 17 + fd) fs | none => s.carNow ch), ccwOf c.sig fd fs)

/-- New words for a channel, in force at its next dump close (R194, R195): the predicted Doppler; with VCARR = 1 a usable dump's phase
discriminator through the second-order residual filter of 3 Hz; and the predicted code-phase error spread over the next dump. -/
def State.steerWords (s : State) (x : VecChan) : State :=
  let ch := x.ch.val
  let c := s.chan ch
  let fs := s.strFs (strmOf c.strm)
  let (f, g) := s.wordsFor ch (s.doppler ch x.rate x.offRate x.satDrift)
  let p := s.frameTap ch 1
  let l : LoopSt := { vel := some c.vres }
  let (r, l) := if mVCARR s ∧ s.dumpUsable x then l.carrier false true false 0 30 fs (fs / 1000) 0 (pllDisc c.sig p) else (c.vres, l)
  let v := if mVCARR s then r else 0
  s.setChan ch { c with newCar := some (unsigned 48 (f + v / 2 ^ 16)), newCode := some (unsigned 40 (g + x.codeErr / (fs / 1000 : Nat))),
                        vres := l.vel.getD 0 }

/-- May a TRACK channel be taken (R200)? -/
def State.canTake (s : State) (x : VecChan) : Bool :=
  let ch := x.ch.val
  let c := s.chan ch
  decide (s.chState ch = chTRACK) && s.flag (F.CH_CTL_VECOK ch) && (!mVCARR s || s.flag (F.CH_FLAGS_PLOCK ch)) &&
    decide (s.mf 0x24 16 16 ≤ s.fget (F.CH_CN0_V ch)) &&
    (match c.passT with | some t => decide (t + ms (s.mf 0x28 16 16) ≤ s.now) | none => false) &&
    (match c.relT with | some t => decide (t + ms (s.mf 0x28 0 16) ≤ s.now) | none => true)

/-- A TRACK channel's own tests (R200): since when it has passed. -/
def State.shadowTest (s : State) (x : VecChan) : State :=
  let ch := x.ch.val
  let c := s.chan ch
  if ¬ s.dumpUsable x then s
  else if s.mf 0x18 0 8 ≤ c.overZ ∨ 16 * (s.mf 0x1C 16 16 : Int) < c.win.sum then s.setChan ch { c with passT := none }
  else s.setChan ch { c with passT := some (c.passT.getD s.now) }

/-- Take channels, at most TAKEMAX, in ascending order (R200). -/
def State.takes (s : State) (xs : List VecChan) : State :=
  let ts := (xs.filter s.canTake).take (s.mf 0x2C 16 8)
  let s := ts.foldl (fun s x =>
    let s := s.steerWords x
    s.setChan x.ch.val { s.chan x.ch.val with take := true }) s
  s.when (decide (ts ≠ [])) (·.evRise 0x102 2)

def insertVec (x : VecChan) : List VecChan → List VecChan
  | [] => [x]
  | y :: r => if x.ch.val ≤ y.ch.val then x :: y :: r else y :: insertVec x r

/-- A tick of the vector core (R193). -/
def State.vectorTick (s : State) (chans : List VecChan) (singular : Bool) (cycles : Nat) : State :=
  let xs := chans.foldr insertVec []
  let s := xs.foldl State.noteTick s
  let vs := xs.filter fun x => decide (s.chState x.ch.val = chVECTOR)
  let tr := xs.filter fun x => decide (s.chState x.ch.val = chTRACK)
  let s := tr.foldl State.shadowTest s
  let g := s.globalCause vs singular
  let s := vs.foldl (fun (s : State) x =>
    let c := s.chan x.ch.val
    if s.mf 0x24 0 8 ≤ c.vlow ∧ c.vlow ≠ 0 then s.setChan x.ch.val { c with lost := true } else s) s
  let s := match s.scarab.g4 with
    | some t => if s.vstate = vsACTIVE then { s.globalFall 4 t vsHOLD with scarab.g4 := none } else { s with scarab.g4 := none }
    | none =>
      if s.vstate = vsACTIVE ∧ g ≠ 0 then s.globalFall g s.gridNow vsHOLD
      else
        let s := vs.foldl (fun (s : State) x => if s.vecCause x = 0 then s.steerWords x else s.vecFall x) s
        if s.vstate = vsACTIVE then s.takes tr else s
  (s.fput F.VC_TMAX_CYC (max (s.fget F.VC_TMAX_CYC) (min cycles 0xFFFF))).nvec

/-- VECTOR_TICK: what the core forms from the Gather frame; `cycles` to the last steering delivery. -/
def execVectorTick (chans : List VecChan) (singular : Bool) (cycles : Nat) (s : State) : Host.Outcome State Fault Refusal :=
  .next (if s.scOn ∧ mVEC s ∧ ¬ s.flag F.GRID_DUMP.act ∧ s.flag F.GA_CTL_EN ∧ (s.vstate = vsACTIVE ∨ s.vstate = vsHOLD) then
      s.vectorTick chans singular cycles
    else s)

-- coasting (R183, R196, R201, R202)

/-- BYP rises. -/
def State.scarabBypass (s : State) : State :=
  let s := { s with scarab.bypT := s.now }
  if s.vstate = vsOFF ∨ s.vstate = vsCOAST then s else { s with scarab.coastFrom := s.vstate }.setV vsCOAST

/-- The resume point. -/
def State.scarabResume (s : State) : State :=
  if s.vstate = vsCOAST then (s.setV s.scarab.coastFrom).vcUpdate else s

/-- The set for a channel whose satellite is not in the state: its words in force times the samples elapsed since BYP rose. -/
def State.coastPlain (s : State) (ch : Nat) : State :=
  let c := s.chan ch
  let d := c.advance (s.carNow ch) (s.codeNow ch) ((s.nextGrid - s.scarab.bypT) * s.strFs (strmOf c.strm) / sec)
  s.setChan ch { c with pred := some (BitVec.ofNat 25 d.chip, BitVec.ofNat 32 (d.frac / 256), BitVec.ofNat 32 (d.carP / 65536),
                                      BitVec.ofInt 48 (s.carNow ch), BitVec.ofNat 40 (s.codeNow ch)) }

/-- COAST_REFRESH (R202): the predicted sets for channels in COAST; `sets` holds those of the satellites in the state. -/
def execCoastRefresh (sets : List CoastSet) (s : State) : Host.Outcome State Fault Refusal :=
  .next (if s.scOn then
      ((s.hive.chans.map Prod.fst).filter fun ch => decide (s.chState ch = chCOAST)).foldl (fun s ch =>
        match sets.find? fun x => x.ch.val = ch with
        | some x =>
          let (f, g) := s.wordsFor ch (s.doppler ch x.rate x.offRate x.satDrift)
          s.setChan ch { s.chan ch with pred := some (x.cpi, x.cpf, x.carP, BitVec.ofInt 48 f, BitVec.ofInt 40 g) }
        | none => s.coastPlain ch) s
    else s)

/-- COAST_TIMEOUT (R183, R202): 5 s after BYP rose every channel still in COAST is LOST. -/
def execCoastTimeout (s : State) : Host.Outcome State Fault Refusal :=
  .next (if s.scarab.bypT + 5 * sec ≤ s.now then
      (s.hive.chans.map Prod.fst).foldl (fun s ch => if s.chState ch = chCOAST then s.chLost ch else s) s
    else s)

-- weights (R203 to R205)

/-- Turn (a, b) by an angle given as (cos, sin) in 2^-30. -/
def turn (cs : Cx) (a b : Int) : Int × Int := ((a * cs.1 - b * cs.2) / 2 ^ 30, (a * cs.2 + b * cs.1) / 2 ^ 30)

/-- Hundredths of a degree as 2^-32 cycle. -/
def centideg (d : Int) : Int := d * 2 ^ 32 / 36000

/-- A body vector in east, north, up (R188): roll about y, pitch about x, then heading clockwise from north. -/
def bodyEnu (head pitch roll : Int) (p : Int × Int × Int) : Int × Int × Int :=
  let (z, x) := turn (cis (centideg roll)) p.2.2 p.1
  let (y, z) := turn (cis (centideg pitch)) p.2.1 z
  let (n, e) := turn (cis (centideg head)) y x
  (e, n, z)

/-- EPOS of element `m` of group `g`, mm (R188). -/
def State.epos (s : State) (g m : Nat) : Int × Int × Int :=
  let a (k : Nat) : Int :=
    let o := 0x48 + 24 * g + 6 * m + 2 * k
    signed 16 (s.mf (o / 4 * 4) (8 * (o % 4)) 16)
  (a 0, a 1, a 2)

/-- phi_m: the lead of element `m` toward `u` (2^-30, east, north, up) at carrier `f` Hz, in 2^-32 cycle. -/
def State.lead (s : State) (g m : Nat) (u : Int × Int × Int) (f : Int) : Int :=
  let sc (v : Int × Int × Int) : Int × Int × Int := (v.1 * 2 ^ 30, v.2.1 * 2 ^ 30, v.2.2 * 2 ^ 30)
  let p := bodyEnu (s.fget (F.BM_ATT_HEAD 0)) (signed 16 (s.fget (F.BM_ATT_PITCH 0))) (signed 16 (s.fget (F.BM_ATT_PITCH 1))) (sc (s.epos g m))
  roundDiv ((p.1 * u.1 + p.2.1 * u.2.1 + p.2.2 * u.2.2) * 4 * f) (2 ^ 30 * 1000 * lightMps)

/-- A weight as WI and WQ in Q1.14, from its parts in 2^-30. -/
def weightWord (w : Cx) : Word :=
  let q (x : Int) : Nat := unsigned 16 (clampInt (-32767) 32767 (roundDiv x (2 ^ 16)))
  BitVec.ofNat 32 (q w.1 * 65536 + q w.2)

/-- The weight of R203 for the element on path `p`, the `m`-th of group `g`. -/
def State.beamWeight (s : State) (g m p : Nat) (u : Int × Int × Int) (f : Int) : Word :=
  let c := cis (-(s.lead g m u f + (s.fget (F.RF_CALPG_PHASE p) * 2 ^ 16 : Nat)))
  let a := ampQ30 (-signed 16 (s.fget (F.RF_CALPG_GAIN p)))
  weightWord (cdiv (c.1 * a, c.2 * a) (2 ^ 30))

/-- The weights of a beam-mode channel toward `u`; element 0 is the lowest path of its group, with weight 1. -/
def State.beamWords (s : State) (ch : Nat) (u : Int × Int × Int) : List Word :=
  let c := s.chan ch
  (List.range (elems c.strm)).map fun k =>
    let p := s.fget (F.STR_SRC (strmOf c.strm + k)).act
    let ps := maskPaths (s.groupMask (p / 4))
    let m := ps.findIdx fun x => x = p
    if m = 0 then 0x40000000 else s.beamWeight (p / 4) m p u (carrierHz c.sig)

/-- BEAM_WEIGHTS (R203, R204): the unit vector from the solution toward each channel's satellite, in 2^-30; the weights are taken at the
next boundary by beam-mode channels, once the attitude is valid. -/
def execBeamWeights (us : List (Fin 1024 × Int × Int × Int)) (s : State) : Host.Outcome State Fault Refusal :=
  .next (if s.scOn ∧ mBEAM s ∧ s.flag F.IN_STAT_ATTV then
      us.foldl (fun s x =>
        let ch := x.1.val
        if s.live ch ∧ 2 ≤ elems (s.chan ch).strm then s.setChan ch { s.chan ch with weights := some (s.beamWords ch x.2) } else s) s
    else s)

/-- A determinant, by its first row. -/
def det : Nat → List (List Cx) → Cx
  | 0, _ => (1, 0)
  | n + 1, r :: rs => csum (r.zipIdx.map fun x =>
      let d := cmul x.1 (det n (rs.map fun q => q.eraseIdx x.2))
      if x.2 % 2 = 0 then d else (-d.1, -d.2))
  | _ + 1, [] => (1, 0)

/-- R^-1 a / (a^H R^-1 a) in 2^-30, by determinants; none when that has no value. -/
def capon (r : List (List Cx)) (a : List Cx) : Option (List Cx) :=
  let n := a.length
  let d := (List.range n).map fun i => det n ((r.zip a).map fun x => x.1.set i x.2)
  let den := csum ((a.zip d).map fun x => cmul (conj x.1) x.2)
  if norm2 den = 0 then none else some (d.map fun x => cdiv (let y := cmul x (conj den); (y.1 * 2 ^ 30, y.2 * 2 ^ 30)) (norm2 den))

/-- The response of a group toward the local vertical, by the group's LO; the members are already calibrated (R113). -/
def State.vertical (s : State) (g : Nat) : List Cx :=
  let ps := maskPaths (s.groupMask g)
  let f : Int := (s.loN (ps.headD 0) : Int) * 1023000
  ps.zipIdx.map fun x => if x.2 = 0 then ((2 ^ 30, 0) : Cx) else cis (s.lead g x.2 (0, 0, 2 ^ 30) f)

/-- The members' covariance over the last window (R114). -/
def State.groupCov (s : State) (g : Nat) : List (List Cx) :=
  let ps := maskPaths (s.groupMask g)
  ps.map fun p => ps.map fun q => Tab.get (fun _ => (0, 0)) s.sieve.covLast (16 * g + 4 * (p % 4) + q % 4)

/-- Weights in the order of the registers of a group's members: 0 for a path outside the group. -/
def State.memberWords (s : State) (g : Nat) (w : List Cx) : List Word :=
  let ps := maskPaths (s.groupMask g)
  (List.range 4).map fun m => match ps.findIdx? fun p => p % 4 = m with
    | some k => weightWord (w.getD k (0, 0))
    | none => 0

/-- COMBINER_WEIGHTS (R205): for a group in SCARAB mode, taken at the next dump-grid boundary. -/
def execCombinerWeights (g : Fin 2) (s : State) : Host.Outcome State Fault Refusal :=
  .next (if s.scOn ∧ s.fget (F.CMB_CTL_MODE g.val).act = 2 then
      match capon (s.groupCov g.val) (s.vertical g.val) with
      | some w => { s with sieve.weights := Tab.set (fun _ => none) s.sieve.weights g.val (some (s.memberWords g.val w)) }
      | none => s
    else s)

end Sys2Proof.Machine
end

