-- ==== Sys2Proof/Machine/Meas.lean ====
section
/-! DEFINITION. Measurements, solutions and output records (11: R211 to R235): the entries of an epoch, what each tenant
gets of them, navigation records, and RTCM input. -/

namespace Sys2Proof.Machine

/-- Whole seconds from the signal's system time to GPS time (R214); LEAP.CUR is signed. -/
def State.sysShift (s : State) (n : Nat) : Int :=
  if sysOf n = 2 then 14
  else if sysOf n = 3 then signed 8 (s.fget F.LEAP_CUR) - 3 * 3600
  else 0

/-- Chips between repetitions of the tracked primary code: the CM code of L2C for DATA. -/
def primChips (w : Word) : Nat := if sgCOMP w = 0 then epochLen (sgSIG w) else primaryLen (sgSIG w)

/-- The units of a time on a signal: 2^80 chips-per-second parts of a second. -/
def tUnit (w : Word) : Int := 2 ^ 80 * (chipHz w : Int)

/-- The latched code phase with `k` primary epochs before it, as a time in those units. -/
def State.codeTime (s : State) (ch : Nat) (k : Int) : Int :=
  let len := epochLen (sgSIG (s.chan ch).sig)
  ((k * len + (s.fget (F.CH_LCP_I_V ch) % len : Nat)) * 2 ^ 32 + s.fget (F.CH_LCP_F ch)) * 2 ^ 48

/-- A channel's own transmit time in 2^-80 s of its system (R215): with FRAMESYNC and a decoded time. -/
def State.ownTime (s : State) (ch : Nat) : Option Int :=
  let c := s.chan ch
  if s.flag (F.CH_FLAGS_FRAMESYNC ch) then c.origin.map fun o => s.codeTime ch (o + c.nEpDump) / chipHz c.sig else none

/-- The transmit time in the units of the signal (R215): its own, or as another channel of the satellite has it, to the nearest whole
primary code period. -/
def State.txTime (s : State) (ch : Nat) : Option Int :=
  let c := s.chan ch
  match s.ownTime ch with
  | some _ => c.origin.map fun o => s.codeTime ch (o + c.nEpDump)
  | none =>
    let other := (s.hive.chans.map Prod.fst).findSome? fun x => if s.satOf x = s.satOf ch then s.ownTime x else none
    let len : Int := epochLen (sgSIG c.sig)
    other.map fun t => s.codeTime ch (roundDiv (t * chipHz c.sig - s.codeTime ch 0) (len * 2 ^ 80))

/-- PRMOD (R215). -/
def State.prmod (s : State) (ch : Nat) : Nat :=
  if (s.txTime ch).isSome then 0
  else if s.flag (F.CH_FLAGS_BITSYNC ch) ∨ s.flag (F.CH_FLAGS_SECSYNC ch) then 2
  else 1

/-- Primary epochs since the symbol or the secondary code began, by what synchronisation found (R180). -/
def State.symEpochs (s : State) (ch : Nat) : Nat :=
  let c := s.chan ch
  match c.loop.sec with
  | some f => f + c.nEpDump
  | none => c.nEpDump + symPeriods c.sig - c.loop.edge % symPeriods c.sig

/-- t_rx - t_tx in those units, reduced as PRMOD says (R214, R215). -/
def State.flight (s : State) (ch t : Nat) : Int :=
  let w := (s.chan ch).sig
  let rx : Int := t * (chipHz w : Int) * 2 ^ 32 - s.sysShift (sgSIG w) * tUnit w
  match s.txTime ch with
  | some x => rx - x
  | none =>
    if s.prmod ch = 1 then (rx - s.codeTime ch 0) % (primChips w * 2 ^ 80)
    else if s.flag (F.CH_FLAGS_SECSYNC ch) ∧ 1 < secondaryLen w then
      (rx - s.codeTime ch (s.symEpochs ch % secondaryLen w : Nat)) % (epochLen (sgSIG w) * secondaryLen w * 2 ^ 80)
    else (rx - s.codeTime ch (s.symEpochs ch % symPeriods w : Nat)) % (tUnit w / symbolHz w)

/-- PR in 2^-20 m. -/
def State.pr (s : State) (ch t : Nat) : Int :=
  roundDiv (lightMps * 2 ^ 20 * s.flight ch t) (tUnit (s.chan ch).sig)

/-- DOP in 2^-10 Hz (R217). -/
def State.dop (s : State) (ch : Nat) (off : Int) : Int :=
  roundDiv (s.carNow ch * s.strFs (strmOf (s.chan ch).strm) * 1024 - off * 128 * 2 ^ 48) (2 ^ 48)

/-- -(A - (fc - f_LO) n / fs) in 2^-32 cycle (R216). -/
def State.cpRest (s : State) (ch : Nat) (off : Int) : Int :=
  let c := s.chan ch
  let a : Int := signed 32 (s.fget (F.CH_CYC ch)) * 2 ^ 32 + s.fget (F.CH_LCA ch)
  roundDiv (off * c.n * 2 ^ 32) (8 * s.strFs (strmOf c.strm)) - a

/-- Phi0, fixed at the first entry after PLOCK or a SLIP: the whole number of cycles nearest to P / lambda. -/
def State.phi0 (s : State) (ch t : Nat) (off : Int) : Int :=
  let w := (s.chan ch).sig
  roundDiv (s.flight ch t * carrierHz w * 2 ^ 32 / tUnit w - s.cpRest ch off) (2 ^ 32)

/-- CP in 2^-24 cycle, with the half cycle of R216 and the steps of R218. -/
def State.carPhase (s : State) (ch : Nat) (off : Int) : Int :=
  let c := s.chan ch
  roundDiv (c.phi0.getD 0 * 2 ^ 32 + s.cpRest ch off) 256 + (if c.halfAdj then 2 ^ 23 else 0) +
    roundDiv (c.stepAcc * carrierHz c.sig) (2 ^ 24)

def State.authOf (s : State) (sig : Nat) (prn : Nat) : Nat :=
  if 5 ≤ sig ∧ sig ≤ 8 then Tab.get (fun _ => 0) s.meas.auth prn else 0

def bitAt (b : Bool) (n : Nat) : Nat := if b then 2 ^ n else 0

/-- FLAGS of an entry (R213). -/
def State.entryFlags (s : State) (ch : Nat) (prmod : Nat) : Nat :=
  let c := s.chan ch
  let plock := s.flag (F.CH_FLAGS_PLOCK ch)
  prmod + bitAt (plock && !c.epInval) 2 + bitAt (!(s.fget (F.CH_STAT_LASTDS ch)).testBit 6) 3 + bitAt plock 4 +
    bitAt (s.flag (F.CH_FLAGS_SLIP ch)) 5 + bitAt (s.flag (F.CH_FLAGS_HALFC ch)) 6 + bitAt c.halfAdj 7 +
    bitAt (decide (s.chState ch = chVECTOR)) 8 + bitAt c.epBlank 9 + bitAt s.sky.stepEpoch 10 +
    s.authOf (sgSIG c.sig) (sgPRN c.sig) * 2 ^ 11 + sgCOMP c.sig * 2 ^ 13

/-- Form the entry of a channel at the boundary `t` (R213): its eight words. Where the stream's centre is not stated, or no
Phi0 is fixed yet, CP (and DOP) are free values. -/
def State.formEntry (s : State) (ch t : Nat) : List Word × State :=
  let c := { s.chan ch with stepAcc := (s.chan ch).stepAcc + s.sky.stepSum }
  let s := s.setChan ch c
  let off := s.offsetHz8 ch
  let s := match c.phi0, off with
    | none, some o => if s.flag (F.CH_FLAGS_PLOCK ch) then s.setChan ch { c with phi0 := some (s.phi0 ch t o) } else s
    | _, _ => s
  let (dop, s) := match off with
    | some o => (unsigned 32 (s.dop ch o), s)
    | none => s.draw 32
  let (cp, s) := match off, (s.chan ch).phi0 with
    | some o, some _ => (unsigned 64 (s.carPhase ch o), s)
    | _, _ => s.draw 64
  let pr := unsigned 64 (s.pr ch t)
  let w0 := sgPRN c.sig * 2 ^ 24 + unsigned 4 (sgFCN c.sig) * 2 ^ 20 + sgSIG c.sig * 2 ^ 14 + ch
  let w6 := s.entryFlags ch (s.prmod ch) * 65536 + s.fget (F.CH_CN0_V ch)
  ([w0, pr % 2 ^ 32, pr / 2 ^ 32, cp % 2 ^ 32, cp / 2 ^ 32, dop, w6, s.fget (F.CH_LOCKT ch)].map (BitVec.ofNat 32), s)

/-- The channels that give an entry (R211). -/
def State.measChans (s : State) : List Nat :=
  (s.hive.chans.map Prod.fst).filter fun ch =>
    decide (s.chState ch = chTRACK ∨ s.chState ch = chVECTOR) && (s.fget (F.CH_STAT_LASTDS ch)).testBit 7

def State.formEntries (s : State) (t : Nat) : List (List Word) × State :=
  s.measChans.foldl (fun x ch =>
    let (e, s) := x.2.formEntry ch t
    (x.1 ++ [e], s)) ([], s)

-- blocks (R212, R227)

def EpochSet.part (e : EpochSet) (dev part nparts total : Nat) (group : Bool) (es : List (List Word)) : List Word :=
  timeWords e.t ++ [BitVec.ofNat 32 (part * 2 ^ 24 + bitAt (decide (part + 1 = nparts)) 23 + e.hd + es.length), BitVec.ofNat 32 e.seq,
    e.unc, BitVec.ofNat 32 (total * 65536 + bitAt group 8 + dev), e.leap] ++ es.flatten

/-- The parts of a block: at most 2,046 entries each. -/
def EpochSet.parts (e : EpochSet) (dev : Nat) (group : Bool) (es : List (List Word)) : List (List Word) :=
  let cs := chunks 2046 es
  cs.zipIdx.map fun c => e.part dev c.2 cs.length es.length group c.1

def ringBase : Nat := 0x480000
def ringSize : Nat := 0x100000

/-- Put a block part into the measurement ring: one after the other on 64-byte lines, from the base again when the rest of the
ring is too short. -/
def State.ringWrite (s : State) (t : Nat) (ws : List Word) : State :=
  let n := (4 * ws.length + 63) / 64 * 64
  let a := if ringSize < s.meas.ring + n then 0 else s.meas.ring
  { s.combWrite 0 (ringBase + a) (wordBytes ws) with meas.ring := a + n, meas.toArc := s.meas.toArc ++ [(t, wordBytes ws)] }

-- what a tenant gets (R211, R227, R304)

/-- Advance the counters of a tenant's subscriptions that satisfy `p`; those due now. -/
def State.subsDue (s : State) (t : Nat) (p : Sub → Bool) (interval : Nat) : List Sub × State :=
  let due (b : Sub) : Bool := p b && decide (max 1 interval * max 1 b.div ≤ b.cnt + 1)
  let next (b : Sub) : Sub := if p b then { b with cnt := if due b then 0 else b.cnt + 1 } else b
  let subs := (s.tenant t).subs
  (subs.filter due, s.updTenant t fun x => { x with subs := subs.map next })

/-- Does a subscription select a signal and PRN? -/
def Sub.selects (b : Sub) (sig prn : Nat) : Bool :=
  decide (b.sel % 64 = 0 ∨ b.sel % 64 = sig) && decide (b.sel / 256 % 256 = 0 ∨ b.sel / 256 % 256 = prn)

def entrySig (e : List Word) : Nat := argWord e 0 / 2 ^ 14 % 64
def entryPrn (e : List Word) : Nat := argWord e 0 / 2 ^ 24
def entryPrmod (e : List Word) : Nat := argWord e 6 / 65536 % 4

-- RTCM output (R230, R231)

/-- The MSM7 message number of a system code (R230). -/
def msmNumber (sys : Nat) : Nat := [1077, 1097, 1127, 1087, 1117, 1137, 1107].getD sys 0

/-- Satellites of entries, ascending PRN, without repeats. -/
def insertNat (x : Nat) : List Nat → List Nat
  | [] => [x]
  | y :: r => if x < y then x :: y :: r else if x = y then y :: r else y :: insertNat x r
def prnsOf (es : List (List Word)) : List Nat := es.foldl (fun l e => insertNat (entryPrn e) l) []

/-- Cells of an MSM: satellites x signals. -/
def cells (es : List (List Word)) : Nat := (prnsOf es).length * (es.map entrySig).eraseDups.length

/-- Spread satellites over messages of at most 64 cells. -/
def msmSplit (es : List (List Word)) : List Nat → List (List Word) → List (List (List Word))
  | [], cur => if cur = [] then [] else [cur]
  | p :: r, cur =>
    let mine := es.filter fun e => entryPrn e = p
    if cur ≠ [] ∧ 64 < cells (cur ++ mine) then cur :: msmSplit es r mine else msmSplit es r (cur ++ mine)

/-- The MSM7 messages of one number for an epoch. -/
def msmFrames (number t : Nat) (es : List (List Word)) : List (List Byte) :=
  let mine := es.filter fun e => decide (msmNumber (sysOf (entrySig e)) = number ∧ entryPrmod e = 0 ∧ entrySig e ≠ 15)
  let ms := msmSplit mine (prnsOf mine) []
  ms.zipIdx.map fun m => Config.msm7 number (decide (m.2 + 1 < ms.length)) t m.1

/-- One tenant's MEAS and RTCM payloads of an epoch. -/
def State.epochSet (s : State) (t : Nat) (e : EpochSet) (gs : List (List Word)) : (List (List Byte) × List (List Byte)) × State :=
  let dev := s.fget F.SYS_STRAP_DEVADDR
  let (ms, s) := s.subsDue t (fun b => b.kind = 1) 1
  let (rs, s) := s.subsDue t (fun b => b.kind = 5) Config.msmEpochs
  let pick (l : List (List Word)) := l.filter fun x => ms.any fun b => b.selects (entrySig x) (entryPrn x)
  (((e.parts dev false (pick e.entries) ++ e.parts dev true (pick gs)).map wordBytes,
    rs.flatMap fun b => msmFrames (b.sel % 4096) e.t e.entries), s)

/-- A full update belongs to this epoch (R190). -/
def State.updateDue (s : State) : Bool :=
  s.scOn && !s.follower && decide (s.epochIndex % s.fullD = 0)

/-- Send what was kept for a full update, with the solution and NMEA payloads of each tenant. -/
def State.sendHeld (s : State) (sol : Nat → State → (List (List Byte) × List (List Byte)) × State) : State :=
  let h := s.meas.held
  h.foldl (fun (s : State) x =>
    let ((so, nm), s) := sol x.1 s
    s.sendSet x.1 (x.2.1.map (2, ·) ++ so.map (3, ·) ++ x.2.2.map (8, ·) ++ nm.map (9, ·)))
    { s with meas := { s.meas with held := [] } }

/-- Renumber another device's entry for a group block (R10, R219). -/
def groupEntry (dev : Nat) (e : List Word) : List Word :=
  match e with
  | w :: r => BitVec.ofNat 32 (w.toNat / 8192 * 8192 + 1024 * dev + w.toNat % 1024) :: r
  | [] => []

/-- After an epoch window: SLIP and the window's flags start again (R181, R213); the window after a step is STEPPED too (R52). -/
def State.epochEnd (s : State) (step : Bool) : State :=
  let s := (s.hive.chans.map Prod.fst).foldl (fun s ch =>
    (s.setChan ch { s.chan ch with epInval := false, epBlank := false }).fputB (F.CH_FLAGS_SLIP ch) false) s
  { s with sky.stepEpoch := step, sky.stepSum := 0, meas.epseq := (s.meas.epseq + 1) % 2 ^ 32, meas.epIdx := s.epochIndex }

/-- The Warden forms the block of the epoch closed last (R211, R219): into the ring, and to the tenants, with what waits for a full
update of the epoch kept. `others`: the entries the other devices of a group have sent for it. -/
def State.epochOut (s : State) (others : List (Nat × List Word)) : State :=
  match s.meas.open_ with
  | none => s
  | some e =>
    let s := { s with meas.open_ := none }.sendHeld fun _ s => (([], []), s)
    let dev := s.fget F.SYS_STRAP_DEVADDR
    let master := decide (s.fget F.PH_STAT_ROLE = 1)
    let gs := if master ∧ others ≠ [] then e.entries.map (groupEntry dev) ++ others.map fun x => groupEntry x.1 x.2 else []
    let s := (e.parts dev false e.entries ++ e.parts dev true gs).foldl (fun s ws => s.ringWrite e.t ws) s
    let s := if s.follower then (e.parts dev false e.entries).foldl (fun s ws => s.groupSend (s.fget F.PH_STAT_MASTER) (wordBytes ws)) s
      else s
    s.openTenants.foldl (fun s k =>
      let ((ms, rs), s) := s.epochSet k e gs
      if e.due then { s with meas.held := s.meas.held ++ [(k, ms, rs)] }
      else s.sendSet k (ms.map (2, ·) ++ rs.map (8, ·))) s

/-- The open epoch window closes at `t` (R50, R52): its entries are taken. `step`: a step of the clock closes it. -/
def State.epochClose (s : State) (t : Nat) (step : Bool) : State :=
  let s := s.epochOut []
  let (es, s) := s.formEntries t
  let e : EpochSet := { t := t, idx := s.epochIndex, entries := es,
                        hd := s.skyState * 2 ^ 21 + bitAt s.sky.stepEpoch 20 + s.fget F.GRID_EPOCH.act * 65536, seq := s.meas.epseq,
                        unc := s.reg F.UNC.addr, leap := BitVec.ofNat 32 (bitAt (s.flag F.LEAP_VALID) 8 + s.fget F.LEAP_CUR),
                        due := !step && s.updateDue }
  { s with meas.open_ := some e, meas.last := es, meas.lastStep := s.sky.stepSum }.epochEnd step

/-- An epoch boundary has been crossed and its window is still open. -/
def State.epochDue (s : State) : Bool := !s.srcAON && decide (s.meas.epIdx ≠ s.epochIndex)

/-- EPOCH_BOUNDARY (R181, R211 to R219, R227, R230): a boundary crossed on a sample tick closes its window, and the Warden forms the
block. -/
def execEpochBoundary (others : List (Fin 8 × List Word)) (s : State) : Host.Outcome State Fault Refusal :=
  .next ((s.when s.epochDue fun s => s.epochClose s.epochT false).epochOut (others.map fun x => (x.1.val, x.2)))

/-- UTC of the Sky Clock, while LEAP.VALID (R235). -/
def State.utc (s : State) : Option Nat :=
  if s.flag F.LEAP_VALID then some (((s.now : Int) - signed 8 (s.fget F.LEAP_CUR) * sec).toNat) else none

/-- GGA quality, and RMC status, mode and navigational status as characters, from FSTATE and RTK of a solution record (R234). -/
def nmeaStatus (r : List Word) : Nat × List Byte :=
  let f := entryWord r 3 % 4
  let k := entryWord r 3 / 4 % 4
  let nav : Byte := if f = fsFIX then 0x53 else 0x55
  if f = fsNOFIX ∨ f = fsFAULT then (0, [0x56, 0x4E, 0x56])
  else if k = 1 then (5, [0x41, 0x46, nav])
  else if k = 2 then (4, [0x41, 0x52, nav])
  else (1, [0x41, 0x41, nav])

/-- One tenant's SOL and NMEA payloads of an update (R227, R233). -/
def State.solSet (t : Nat) (s : State) : (List (List Byte) × List (List Byte)) × State :=
  let (ss, s) := s.subsDue t (fun b => b.kind = 3) 1
  let (ns, s) := s.subsDue t (fun b => b.kind = 6) Config.nmeaUpdates
  let age := s.scarab.baseT.map fun b => (s.now - b) / sec
  ((if ss = [] then [] else [wordBytes s.scarab.sol],
    ns.flatMap fun b => Config.nmea (b.sel % 8) (nmeaStatus s.scarab.sol) s.scarab.sol s.utc age s.scarab.baseId s.meas.updates), s)

/-- Count a full update; without an epoch set waiting, every tenant's set is empty so far. -/
def State.noteUpdate (s : State) : State :=
  let h := if s.meas.held = [] then s.openTenants.map fun t => (t, [], []) else s.meas.held
  { s with meas := { s.meas with updates := s.meas.updates + 1, held := h } }

/-- FULL_UPDATE (R190 to R192, R201, R210, R220, R227, R233): every D-th epoch boundary; then the epoch's sets go out whole. In bypass
there are time updates only, which a model table that waits still begins with. A follower takes the master's update. -/
def execFullUpdate (u : FullIn) (s : State) : Host.Outcome State Fault Refusal :=
  .next (if ¬ s.scOn ∨ s.epochIndex % s.fullD ≠ 0 then s
    else if s.byp then s.modelActivate
    else if s.follower then ((s.modelActivate.reseed u).noteUpdate).sendHeld State.solSet
    else (({ s with pwr.ranFull := s.pwr.ranFull + 1 }.fullUpdate u).noteUpdate).sendHeld State.solSet)

-- authentication states (R229)

def authNONE : Nat := 0
def authPENDING : Nat := 1
def authOK : Nat := 2
def authFAIL : Nat := 3
def State.setAuth (s : State) (prn v : Nat) : State := { s with meas.auth := Tab.set (fun _ => 0) s.meas.auth prn v }

/-- The Galileo satellites tracked now (R229). -/
def State.trackedGal (s : State) : List Nat :=
  ((s.hive.chans.map Prod.fst).filter fun ch => decide (s.chState ch = chTRACK ∨ s.chState ch = chVECTOR) &&
    decide (sysOf (sgSIG (s.chan ch).sig) = 1)).map fun ch => sgPRN (s.chan ch).sig

/-- When each of them was tracked last. -/
def State.noteTracked (s : State) : State :=
  { s with meas.trackT := s.trackedGal.foldl (fun t p => Tab.set (fun _ => none) t p (some s.now)) s.meas.trackT }

/-- AUTH_TIMEOUT (R229): 300 s without tracking the satellite. -/
def execAuthTimeout (prn : Byte) (s : State) : Host.Outcome State Fault Refusal :=
  let gone := match Tab.get (fun _ => none) s.meas.trackT prn.toNat with
    | some t => decide (t + 300 * sec ≤ s.now)
    | none => true
  .next (if !s.trackedGal.contains prn.toNat && gone then s.setAuth prn.toNat authNONE else s)

-- RTCM input (R232)

def rtcmNumber (m : List Byte) : Nat := ofBe ((m.drop 3).take 2) / 16
def rtcmStation (m : List Byte) : Nat := ofBe ((m.drop 4).take 2) % 4096
/-- The multiple-message bit of an MSM header: bit 54 of the message. -/
def rtcmMore (m : List Byte) : Bool := ((m.drop 9).head?.getD 0).getLsbD 1

/-- Preamble, length and CRC-24Q of an RTCM 3 message. -/
def rtcmWhole (m : List Byte) : Bool :=
  let n := ofBe ((m.drop 1).take 2) % 1024
  decide (m.head? = some 0xD3 ∧ m.length = n + 6 ∧ 2 ≤ n) && decide (crc24q (m.take (n + 3)) = ofBe (m.drop (n + 3)))

/-- The system of an accepted MSM number: MSM4 to MSM7, GLONASS only MSM5 and MSM7. -/
def msmAccepted (k : Nat) : Option Nat :=
  if 1071 ≤ k ∧ k ≤ 1137 ∧ 4 ≤ k % 10 ∧ k % 10 ≤ 7 then
    (if k / 10 = 108 ∧ (k % 10 = 4 ∨ k % 10 = 6) then none else some (k / 10))
  else none

/-- The open base epoch closes and becomes the newest. -/
def State.baseClose (s : State) : State := { s with scarab.baseOpen := none, scarab.baseT := s.scarab.baseAt }

def State.baseMsm (s : State) (sys : Nat) (more : Bool) : State :=
  let l := s.scarab.baseOpen.getD []
  let s := if s.scarab.baseOpen = none then { s with scarab.baseAt := some s.now } else s
  let l := if l.any fun x => x.1 = sys then l.map fun x => if x.1 = sys then (sys, !more) else x else l ++ [(sys, !more)]
  let s := { s with scarab.baseOpen := some l }
  if l.all Prod.snd then s.baseClose else s

/-- RTCM_INPUT (R232): one message from tenant `t`. -/
def execRtcmInput (t : Fin 4096) (msg : List Byte) (s : State) : Host.Outcome State Fault Refusal :=
  let k := rtcmNumber msg
  let bad : State := { s with scarab.baseBad := s.scarab.baseBad + 1 }
  .next (if s.tn.base ≠ some t.val ∨ ¬ rtcmWhole msg then bad
    else if k = 1005 ∨ k = 1006 then { s with scarab.baseId := some (rtcmStation msg) }
    else match msmAccepted k with
      | some sys => s.baseMsm sys (rtcmMore msg)
      | none => bad)

/-- BASE_EPOCH_CLOSE (R232): 200 ms after the epoch's first message. -/
def execBaseEpochClose (s : State) : Host.Outcome State Fault Refusal :=
  .next (match s.scarab.baseOpen, s.scarab.baseAt with
    | some _, some t => if t + ms 200 ≤ s.now then s.baseClose else s
    | _, _ => s)

end Sys2Proof.Machine
end

