-- ==== Sys2Proof/Machine/Archive.lean ====
section
/-! DEFINITION. The Archive (23: R431 to R439): records, gaps, extents and replay. -/

namespace Sys2Proof.Machine

def arPage : Nat := 0x170
def srcMeas : Nat := 24

def State.arOn (s : State) : Bool := s.powered arPage
/-- Recording goes on: enabled and not exhausted. -/
def State.arRun (s : State) : Bool := s.flag F.AR_STAT_RUNNING

/-- Is a source recorded (R431)? A stream needs its bit, its destination and a STREAM subscription not shed. -/
def State.recorded (s : State) (src : Nat) : Bool :=
  if src = srcMeas then s.arRun && s.flag F.AR_CTL_MEAS
  else s.arRun && (s.fget F.AR_SEL_S).testBit src && s.strRun src && s.strDest src 2 &&
    s.openTenants.any fun t => (s.tenant t).subs.any fun b => decide (b.kind = 7 ∧ b.sel % 32 = src) && !b.shed

/-- The unrecorded samples of a source. -/
def State.gapsOf (s : State) (src : Nat) : List Gap := Tab.get (fun _ => []) s.ar.gaps src
def State.setGaps (s : State) (src : Nat) (l : List Gap) : State := { s with ar.gaps := Tab.set (fun _ => []) s.ar.gaps src l }
def State.openRec (s : State) (src : Nat) : Option RecSt := Tab.get (fun _ => none) s.ar.recs src
def State.setRec (s : State) (src : Nat) (r : Option RecSt) : State := { s with ar.recs := Tab.set (fun _ => none) s.ar.recs src r }

/-- Samples of a recorded stream go unrecorded from tick `tick` on (R435): 1 BYPASS, 2 SHED, 3 OVERFLOW, 4 PAUSE. While a gap is open and
nothing has been recorded since, it goes on. -/
def State.gapOpen (s : State) (src cause t tick : Nat) : State :=
  if s.gapsOf src ≠ [] ∧ (s.openRec src).isNone then s else s.setGaps src (s.gapsOf src ++ [⟨t, tick, cause⟩])

/-- A gap from the next sample tick on. -/
def State.gapNow (s : State) (src cause : Nat) : State := s.gapOpen src cause s.now (s.sky.smp + 1)

def State.aaddr (s : State) : Nat := s.fget F.AR_AADDR_HI_A * 2 ^ 32 + s.fget F.AR_AADDR_LO
def State.setAaddr (s : State) (a : Nat) : State := (s.fput F.AR_AADDR_HI_A (a / 2 ^ 32)).fput F.AR_AADDR_LO a

/-- The 80-byte header of a record with its CRC, and the payload (R432). -/
def State.arcBytes (s : State) (kind src : Nat) (r : RecSt) (flags : Nat) (payload : List Byte) : List Byte :=
  let n := Tab.get (fun _ => 0) s.ar.seq src
  let ws (v : Nat) : List Word := [BitVec.ofNat 32 v, BitVec.ofNat 32 (v / 2 ^ 32)]
  let runs : List Word := r.runs.map fun x => BitVec.ofNat 32 (x.1 * 2 ^ 30 + x.2.2 * 65536 + x.2.1)
  let body := (payload ++ List.replicate 4016 0).take 4016
  let head : List Word := [0x5241544B, BitVec.ofNat 32 (kind * 2 ^ 28 + (if src = srcMeas then 0 else src * 65536) + r.bitofs)] ++
    timeWords r.t ++ ws r.tick ++ [BitVec.ofNat 32 (runs.length * 65536 + r.nsamp)] ++ (runs ++ [0, 0, 0, 0]).take 4 ++ ws n ++
    ws s.aaddr ++ [r.str, BitVec.ofNat 32 (s.fget F.SYS_STRAP_DEVADDR * 2 ^ 29 + flags), 0]
  let hb := wordBytes head
  hb ++ leBytes 4 (crc32c (hb ++ body)) ++ body

/-- Place one record in the staging ring (R438). -/
def State.arcPlace (s : State) (src : Nat) (bytes : List Byte) : State :=
  let s := s.combWrite 6 (s.fget F.AR_BUF_ADDR * 64 + 4096 * (s.ar.placed % 256)) bytes
  { s.setAaddr (s.aaddr + 4096) with
    pwr.ranArc := s.pwr.ranArc + 4096, ar.placed := s.ar.placed + 1, ar.inRing := s.ar.inRing + 1,
    ar.seq := Tab.set (fun _ => 0) s.ar.seq src ((Tab.get (fun _ => 0) s.ar.seq src + 1) % 2 ^ 64) }

/-- The KIND 2 record of a gap that ends at sample tick `tick` (R435). -/
def State.gapRecord (s : State) (src tick : Nat) (g : Gap) : State :=
  let n := (tick - g.tick) / (if src = srcMeas then 1 else s.strD src)
  let str : Word := if src = srcMeas then 0 else s.reg (F.STR_EN src).act.addr
  let s := s.arcPlace src (s.arcBytes 2 src { t := g.t, tick := g.tick, str := str } 0 (leBytes 8 n ++ [BitVec.ofNat 8 g.cause]))
  (s.finc F.AR_GAPS).evRise arPage 2

/-- The gaps that come before a record which begins at `tick`, and those that come after it. -/
def State.gapsBefore (s : State) (src tick : Nat) : List Gap := (s.gapsOf src).filter fun g => decide (g.tick ≤ tick)

/-- Write a closed record, after the gaps before it, or drop it when the ring is full. -/
def State.arcWrite (s : State) (src : Nat) (r : RecSt) (last : Bool) : State :=
  let gs := s.gapsBefore src r.tick
  if 256 < s.ar.inRing + 1 + gs.length then
    let s := s.finc F.AR_DROP
    if gs = [] then s.setGaps src (⟨r.t, r.tick, 3⟩ :: s.gapsOf src) else s
  else
    let s := s.setGaps src ((s.gapsOf src).filter fun g => decide (r.tick < g.tick))
    let s := gs.foldl (fun s g => s.gapRecord src r.tick g) s
    let flags := (if r.stepped then 1 else 0) + (if last then 2 else 0) + (if r.early then 4 else 0)
    s.arcPlace src (s.arcBytes (if src = srcMeas then 1 else 0) src r flags (leBytes 4016 r.acc))

-- the records as they fill (R433, R434)

/-- The open record of a source closes. -/
def State.recClose (s : State) (src : Nat) (early stepped : Bool) : State :=
  match s.openRec src with
  | some r => { s.setRec src none with ar.closed := s.ar.closed ++ [(src, { r with early := early, stepped := stepped })] }
  | none => s

/-- The open record closes early when the clock has stepped, when its stream's STRm has changed, or when recording of it has stopped or
pauses (R434). -/
def State.recBreaks (s : State) (src : Nat) : State :=
  let stepped := s.ar.stepped.contains src
  let str : Word := if src = srcMeas then 0 else s.reg (F.STR_EN src).act.addr
  let stop := !s.recorded src || (decide (src ≠ srcMeas) && s.byp)
  let moved := (s.openRec src).any fun r => decide (r.str ≠ str)
  let s := { s with ar.stepped := s.ar.stepped.filter (· ≠ src) }
  let s := if stepped ∨ moved ∨ stop then s.recClose src true stepped else s
  if stop ∨ stepped ∨ moved then { s with ar.carry := Tab.set (fun _ => (0, 0)) s.ar.carry src (0, 0) } else s

/-- Bits a rail by WIDTH, and the code of a rail's value in them (R119, R433). -/
def railBits (width : Nat) : Nat := [2, 4, 8, 10].getD width 10
def railCode (width : Nat) (v : Int) : Nat :=
  if width = 0 then ((v + 3) / 2).toNat % 4 else if width = 1 then ((v + 15) / 2).toNat % 16 else unsigned (railBits width) v

/-- Does a sample of flag `fl` go on with the last run? -/
def RecSt.joins (r : RecSt) (fl : Nat) : Bool :=
  match r.runs.getLast? with
  | some x => decide (x.1 = fl ∧ x.2.1 + x.2.2 = r.nsamp)
  | none => false

/-- A record after one sample more, whose bits are `v`. -/
def RecSt.add (r : RecSt) (b v fl : Nat) : RecSt :=
  let runs := if fl = 0 then r.runs
    else if r.joins fl then r.runs.dropLast ++ (r.runs.getLast?.map fun x => (x.1, x.2.1, x.2.2 + 1)).toList
    else r.runs ++ [(fl, r.nsamp, 1)]
  { r with acc := r.acc + v * 2 ^ r.nbits, nbits := r.nbits + 2 * b, nsamp := r.nsamp + 1, runs := runs }

def payBits : Nat := 8 * 4016

/-- A stream's sample enters its record (R433, R434): I below Q; a flagged one as zero bits. A fifth run closes the record before it, a
full payload after it, and the bits past the payload go on in the next. -/
def State.recSample (s : State) (m : Nat) (y : Smp) : State :=
  let w := s.fget (F.STR_WIDTH m).act
  let b := railBits w
  let v := if y.fl = 0 then railCode w y.i + railCode w y.q * 2 ^ b else 0
  let fifth := (s.openRec m).any fun r => decide (y.fl ≠ 0 ∧ r.runs.length = 4) && !r.joins y.fl
  let s := if fifth then s.recClose m true false else s
  let c := if fifth then (0, 0) else Tab.get (fun _ => (0, 0)) s.ar.carry m
  let lat := s.srcLat (s.fget (F.STR_SRC m).act)
  let new : RecSt := { t := s.now - lat * s.inc / 2 ^ 32, tick := s.sky.smp - lat, acc := c.1, nbits := c.2, bitofs := c.2, str := s.reg (F.STR_EN m).act.addr }
  let r := ((s.openRec m).getD new).add b v y.fl
  let s := { s with ar.carry := Tab.set (fun _ => (0, 0)) s.ar.carry m (0, 0) }
  if r.nbits < payBits then s.setRec m (some r)
  else
    let s := (s.setRec m (some { r with acc := r.acc % 2 ^ payBits })).recClose m false false
    { s with ar.carry := Tab.set (fun _ => (0, 0)) s.ar.carry m (r.acc / 2 ^ payBits, r.nbits - payBits) }

/-- A byte of a measurement block enters the measurement record; `first`: it begins a block, of epoch `t` (R432). -/
def State.recByte (s : State) (t : Nat) (first : Bool) (b : Byte) : State :=
  let r := (s.openRec srcMeas).getD { t := 0, tick := 0, bitofs := 0xFFFF }
  let r := if first ∧ r.bitofs = 0xFFFF then { r with t := t, bitofs := r.nbits / 8 } else r
  let r := { r with acc := r.acc + b.toNat * 2 ^ r.nbits, nbits := r.nbits + 8 }
  let s := s.setRec srcMeas (some r)
  if r.nbits < payBits then s else s.recClose srcMeas false false

/-- Measurement blocks that have entered the ring. -/
def State.recBlocks (s : State) : State :=
  let bs := s.meas.toArc
  let s := { s with meas.toArc := [] }
  if s.recorded srcMeas then
    bs.foldl (fun s x => x.2.zipIdx.foldl (fun s b => s.recByte x.1 (decide (b.2 = 0)) b.1) s) s
  else s

/-- The recorder's part of a tick: records that must close do so first; on a sample tick the samples of the tick follow. -/
def State.arTick (s : State) (sample : Bool) : State :=
  let s := (List.range 25).foldl State.recBreaks s
  let s := if sample then (List.range 24).foldl (fun s m =>
      match (s.str m).out with
      | some y => if s.recorded m ∧ ¬ s.byp then s.recSample m y else s
      | none => s) s else s
  s.recBlocks

/-- ARCHIVE_RECORD_CLOSE (R432 to R435, R438): the oldest closed record of a source is written, or an open one that must close. `taken`:
records the host's link has taken from the ring meanwhile. When the archive is to end, which only the host's table tells, `last` marks
the final record of its source (R437; log entry 96). -/
def execArchiveRecordClose (src : Fin 25) (last : Bool) (taken : Nat) (s : State) : Host.Outcome State Fault Refusal :=
  .next (if s.arOn ∧ ¬ s.flag F.AR_STAT_FULL then
      let s := { s with ar.inRing := s.ar.inRing - taken }.recBreaks src.val
      match s.ar.closed.find? fun x => x.1 = src.val with
      | some x => { s with ar.closed := s.ar.closed.erase x }.arcWrite src.val x.2 last
      | none => s
    else s)

/-- EXTENT_FULL (R436, R437): the engine reads the next entry of the extent table - host address and LEN - 1 in MiB, none
when not VALID; in WRAP the entry it goes back to is entry 0. With no extent open yet it opens extent 0. -/
def State.extentFull (s : State) (next : Option (Nat × Nat)) : State :=
  let open_ (s : State) (i base : Nat) : State :=
    match next with
    | some (h, l) => { s.fput F.AR_STAT_EXT i with ar.ext := some (h, base, base + (l + 1) * 2 ^ 20) }
    | none => s
  let stop (s : State) : State := ((s.fputB F.AR_STAT_FULL true).fputB F.AR_STAT_RUNNING false).evRise arPage 0
  match s.ar.ext with
  | none => if s.arRun then open_ s 0 0 else s
  | some (_, _, e) =>
    if s.aaddr < e then s
    else
      let i := s.fget F.AR_STAT_EXT
      if i < 65535 ∧ next.isSome then open_ s (i + 1) e
      else if s.flag F.AR_CTL_MODE then
        let s := { ((s.setAaddr 0).fput F.AR_STAT_EXT 0).finc F.AR_WRAPS with ar.ext := none }
        s.evRise arPage 1
      else stop s

def execExtentFull (next : Option (BitVec 64 × Half)) (s : State) : Host.Outcome State Fault Refusal :=
  .next (if s.arOn then s.extentFull (next.map fun x => (x.1.toNat, x.2.toNat)) else s)

/-- AR_CTL.RESTART (R432): extent 0, archive address 0, SEQ 0; an exhausted archive may record again. -/
def State.arRestart (s : State) : State :=
  let s := { s with ar.seq := [], ar.ext := none }
  let s := ((s.setAaddr 0).fput F.AR_STAT_EXT 0).fputB F.AR_STAT_FULL false
  s.fputB F.AR_STAT_RUNNING (s.flag F.AR_CTL_EN)

def execArRestart (via : Via) (s : State) : Host.Outcome State Fault Refusal :=
  .next (s.gated (.arRestart via) via arPage 0x040 State.arRestart)

/-- Writes of AR_CTL and AR_SEL: recording starts and stops; a source switched off pauses. -/
def State.arCtl (s : State) (v : Word) : State :=
  let s := s.store arPage 0x040 v
  let s := s.fputB F.AR_STAT_RUNNING (s.flag F.AR_CTL_EN && !s.flag F.AR_STAT_FULL)
  if v.getLsbD 3 then s.arRestart else s

def State.arSel (s : State) (v : Word) : State :=
  let gone := (List.range 24).filter fun m => s.recorded m && !v.getLsbD m
  gone.foldl (fun s m => s.gapNow m 4) (s.store arPage 0x044 v)

/-- BYP rises (R97, R435): recording of streams stops with BYPASS. -/
def State.arBypass (s : State) : State :=
  ((List.range 24).filter s.recorded).foldl (fun s m => s.gapNow m 1) s

-- replay (R439)

def State.rpSt (s : State) (n : Nat) : RpSt := Tab.get (fun _ => {}) s.ar.rp n
def State.setRp (s : State) (n : Nat) (x : RpSt) : State := { s with ar.rp := Tab.set (fun _ => {}) s.ar.rp n x }

/-- RPn_CTL.GO: the channel starts at RPn_AADDR, its first sample at the next dump-grid boundary. -/
def State.rpGo (s : State) (n : Nat) : State :=
  let s := (s.fputB (F.RP_STAT_ERR n) false).fputB (F.RP_STAT_ACTIVE n) true
  let a := s.fget (F.RP_AADDR_HI_A n) * 2 ^ 32 + s.fget (F.RP_AADDR_LO n)
  { s.setRp n { next := a } with ar.rpWait := n :: s.ar.rpWait.filter (· ≠ n) }.streamsUpdate

def State.rpStop (s : State) (n : Nat) : State :=
  { s.fputB (F.RP_STAT_ACTIVE n) false with ar.rpWait := s.ar.rpWait.filter (· ≠ n) }.streamsUpdate

def execRpGo (via : Via) (n : Fin 8) (s : State) : Host.Outcome State Fault Refusal :=
  .next (s.gated (.rpGo via n) via arPage (0x080 + 16 * n.val) (·.rpGo n.val))

def execRpStop (via : Via) (n : Fin 8) (s : State) : Host.Outcome State Fault Refusal :=
  .next (s.gated (.rpStop via n) via arPage (0x080 + 16 * n.val) (·.rpStop n.val))

/-- The samples of a stream record (R439): the one begun in the record before, completed by the carried bits, then those that lie whole in
it, with the flags of its runs; and what is begun of the next. -/
def rpSamples (x : RpSt) (b : List Byte) : RpSt :=
  let fld (o n : Nat) : Nat := ofLe ((b.drop o).take n)
  let ofs := fld 4 2
  let n := fld 0x1C 2
  let pay := ofLe ((b.drop 80).take 4016)
  let rows := (List.range (fld 0x1E 1 % 8)).map fun k => fld (0x20 + 4 * k) 4
  let flag (j : Nat) : Nat := ((rows.find? fun r => decide (r % 8192 ≤ j ∧ j < r % 8192 + r / 65536 % 8192)).map (· / 2 ^ 30)).getD 0
  let smp (v fl : Nat) : Int × Int × Nat := if fl = 0 then (signed 10 v, signed 10 (v / 1024), 0) else (0, 0, fl)
  let whole := (List.range n).filter fun j => decide (ofs + 20 * (j + 1) ≤ payBits)
  let head := if x.carry.2.1 = 0 then [] else [smp (x.carry.1 + pay % 2 ^ ofs * 2 ^ x.carry.2.1) x.carry.2.2]
  let rest := ofs + 20 * whole.length
  { x with buf := x.buf ++ head ++ whole.map fun j => smp (pay / 2 ^ (ofs + 20 * j)) (flag j),
           carry := if whole.length < n then (pay / 2 ^ rest, payBits - rest, flag whole.length) else (0, 0, 0) }

/-- The engine takes the next record once it is delivered (R439): a record that is not one of the source's ends the replay with ERR. -/
def State.rpFetch (s : State) (n : Nat) : State :=
  let x := s.rpSt n
  if 2048 ≤ x.buf.length ∨ x.gap ≠ 0 then s
  else match Config.hostRecord x.next s.adcN with
    | none => s
    | some b =>
      let kind := ofLe ((b.drop 4).take 4) / 2 ^ 28
      let src := ofLe ((b.drop 6).take 1) % 32
      let ok := decide (b.length = 4096 ∧ b.take 4 = leBytes 4 0x5241544B ∧ kind ≠ 1 ∧ crc32c (b.take 0x4C ++ b.drop 80) = ofLe ((b.drop 0x4C).take 4)) &&
        x.src.all (· = src)
      let x := { x with next := (x.next + 4096) % 2 ^ 52, src := some src }
      if ¬ ok then ((s.fputB (F.RP_STAT_ERR n) true).fputB (F.RP_STAT_ACTIVE n) false)
      else if kind = 2 then s.setRp n { x with gap := ofLe ((b.drop 80).take 8) }
      else s.setRp n (rpSamples x b)

/-- After the tick's sample of a running replay has entered its lane: the next comes up; one that was not there counts in UNDER. -/
def State.rpStep (s : State) (n : Nat) : State :=
  if ¬ s.flag (F.RP_STAT_ACTIVE n) ∨ s.ar.rpWait.contains n then s
  else
    let x := s.rpSt n
    match x.buf with
    | _ :: r => s.setRp n { x with buf := r }
    | [] => if x.gap ≠ 0 then s.setRp n { x with gap := x.gap - 1 } else s.finc (F.RP_STAT_UNDER n)

/-- One sample tick of the replay channels: after the lanes have taken their samples. -/
def State.rpTick (s : State) : State :=
  paths.foldl (fun s n => (s.rpStep n).when (s.flag (F.RP_STAT_ACTIVE n)) (·.rpFetch n)) s

/-- At a dump-grid boundary waiting replays begin. -/
def State.replayGrid (s : State) : State := { s with ar.rpWait := [] }.streamsUpdate

end Sys2Proof.Machine
end

