-- ==== Sys2Proof/Machine/Commit.lean ====
section
/-! DEFINITION. Commits (02: R33; 04: R66, R71, R81, R82; 05: R95; 06: R113, R117; 20: R400) and the dump-grid boundary
(04: R70; 06: R105, R112 to R114; 09: R167; 23: R439). -/

namespace Sys2Proof.Machine

-- copying shadows (R33)

/-- Copy the shadow bits of one register at offset `o` of page `p`. -/
def State.copyReg (s : State) (d : RegDef) (p o : Nat) : State :=
  let a := p * 4096 + o
  let m := d.bits .RWS
  s.setReg (a + 0x800) ((s.reg (a + 0x800) &&& ~~~m) ||| (s.reg a &&& m))

/-- Copy all shadows of a page but those at the offsets `keep` names. -/
def State.copyPage (s : State) (p : Nat) (keep : Nat → Bool) : State :=
  match findPage p with
  | none => s
  | some (r, _, _) => r.regs.foldl (fun s d =>
      if d.shadowed then (List.range d.count).foldl (fun s k =>
        let o := d.off + k * d.stride
        if keep o then s else s.copyReg d p o) s
      else s) s

-- RF pages (R66, R67, R71, R72)

/-- Keep the previous value of a field that a commit may not make active. -/
def State.keepField (s old : State) (f : Fld) : State := s.fput f.act (old.fget f.act)

def State.commitRf (s : State) (p : Nat) (retunes : Bool) : State :=
  let old := s
  let badN := decide (s.fget (F.RF_LO_N p) < 1124 ∨ 1584 < s.fget (F.RF_LO_N p))
  let badBW := decide (5 < s.fget (F.RF_BB_BW p))
  let s := s.copyPage (rfPage p) fun _ => false
  let s := if badN then (s.keepField old (F.RF_LO_N p)).fault (rfPage p) 0 else s
  let s := if badBW then (s.keepField old (F.RF_BB_BW p)).fault (rfPage p) 1 else s
  let s := if s.flag (F.RF_CTL_AGCEN p) then s else s.fput (F.RF_GAIN_GAIN p) (s.fget (F.RF_BB_MGAIN p).act)
  if retunes ∧ old.fget (F.RF_LO_N p).act ≠ s.fget (F.RF_LO_N p).act then s.retune (2 ^ p) else s

/-- The ARRAY commit (R81, R82): paths whose LO source changed retune, and it counts as a retune of the enabled groups. -/
def State.commitArray (s : State) : State :=
  let old := s
  let few (en mask : Fld) : Bool := s.flag en && decide (popcount 4 (s.fget mask) < 2)
  if few F.ARRAY_AG0EN F.ARRAY_AG0MASK ∨ few F.ARRAY_AG1EN F.ARRAY_AG1MASK then s.fault 0x028 1
  else
    let s := s.copyPage 0x028 fun _ => false
    let s := s.arrayM
    let moved := paths.foldl (fun a p => if old.loMaster p ≠ s.loMaster p then a + 2 ^ p else a) 0
    let s := if moved = 0 then s else s.retune moved
    let gs := [0, 1].filter fun g => s.groupMask g ≠ 0
    { s with rf.auto := if s.flag F.ARRAY_AUTOCAL.act then gs else [] }

-- clock outputs (R95)

/-- A CFG the commit may not make active. -/
def State.clkBad (s : State) (n : Nat) : Bool :=
  let fmt := s.fget (F.CLKOUT_CFG_FMT n)
  let fsel := s.fget (F.CLKOUT_CFG_FSEL n)
  decide (4 < fmt ∨ 5 < fsel ∨ (fmt = 4 ∧ ¬ s.flag F.CLKOUT_STAT_VIO2HI) ∨
    (¬ s.flag (F.CLKOUT_CFG_SRC n) ∧ ((fmt = 3 ∧ fsel = 5) ∨ (fmt = 4 ∧ (fsel = 4 ∨ fsel = 5)))))

def outBit (f : Fld) (n : Nat) : Fld := ⟨f.addr, f.lo + n, 1⟩

/-- The commit of the CLKOUT page: outputs whose FMT or SRC changes are held inactive until CLKOUT_APPLY. -/
def State.commitClk (s : State) : State :=
  let old := s
  let bad := (List.range 4).filter s.clkBad
  let s := s.copyPage 0x012 fun o => bad.contains ((o - 0x040) / 4)
  let s := s.when (decide (bad ≠ [])) (·.fault 0x012 0)
  (List.range 4).foldl (fun s n =>
    if old.fget (F.CLKOUT_CFG_FMT n).act ≠ s.fget (F.CLKOUT_CFG_FMT n).act ∨
        old.fget (F.CLKOUT_CFG_SRC n).act ≠ s.fget (F.CLKOUT_CFG_SRC n).act then
      s.fputB (outBit F.CLKOUT_STAT_RUN n) false
    else s) s

-- the Ledger's tariff table (R400)

def State.tarBad (s : State) : Bool :=
  (List.range 8).any fun i => (List.range i).any fun j =>
    s.flag (F.TAR_V i) && s.flag (F.TAR_V j) && decide (s.fget (F.TAR_START i) = s.fget (F.TAR_START j))

def State.commitLedger (s : State) : State :=
  let bad := s.tarBad
  (s.copyPage 0x008 fun o => bad && decide (0x0C0 ≤ o ∧ o < 0x0E0)).when bad (·.fault 0x008 0)

-- COMMIT

/-- Commit of a page (R33): only while its domain is ON; `retunes` is false inside a RETUNE action, which retunes the mask
itself. -/
def State.commitPage (s : State) (p : Nat) (retunes : Bool) : State :=
  match findPage p with
  | none => s
  | some (r, _, _) =>
    if s.domState (pageDom p) ≠ dON then s.fault p faultUNPWR
    else if ¬ r.shadow then s
    else if 0x020 ≤ p ∧ p < 0x028 then s.commitRf (p - 0x020) retunes
    else if p = 0x028 then s.commitArray
    else if p = 0x012 then s.commitClk
    else if p = 0x008 then s.commitLedger
    else if p = 0x110 then { s with sky.gridPend := some (s.reg F.GRID_DUMP.addr, wholeSec s.now) }
    else if p = 0x038 then
      let s' := (s.copyPage p (s.sievexKeep)).sievexCommitted s
      (s'.streamsChanged s).allocVotes
    else if 0x030 ≤ p ∧ p < 0x038 then (s.copyPage p fun _ => false).notchCommitted s (p - 0x030)
    else s.copyPage p fun _ => false

/-- COMMIT (R33, R34): PG_CTL.COMMIT written 1. -/
def execCommit (via : Via) (page : Fin 1024) (s : State) : Host.Outcome State Fault Refusal :=
  .next (s.guarded via page.val 0x00C (·.commitPage page.val true))

/-- The RETUNE action (R57, R72): the pages of the mask are committed in one cycle, and its paths retune. R57 retunes each masked
path, while R72's last sentence has a commit that leaves N unchanged retune nothing; for an action that leaves a masked path's N
unchanged the model follows R57 and retunes it (log entry 85). -/
def State.retuneAction (s : State) (m : Nat) : State :=
  let on := (maskPaths m).filter fun p => s.domState (pageDom (rfPage p)) = dON
  let s := (maskPaths m).foldl (fun s p => s.commitPage (rfPage p) false) s
  s.retune (on.foldl (fun a p => a + 2 ^ p) 0)

-- DUMP_GRID_BOUNDARY

/-- A path's results of the last whole grid millisecond: samples at a converter limit (R70), the mean residual of the servo (R69), and
blanked samples (R105). -/
def State.pathMs (s : State) (p : Nat) : State :=
  let x := s.rfp p
  let n : Int := x.sumN
  let s := if s.powered (rfPage p) then
      let s := s.fput (F.RF_SAT_CNT p) x.sat
      if x.sumN = 0 then s
      else (s.fput (F.RF_DCOFS_IRES p) (unsigned 10 (roundDiv x.sum.1 n))).fput (F.RF_DCOFS_QRES p) (unsigned 10 (roundDiv x.sum.2 n))
    else s
  let s := s.setRfp p { x with sat := 0, sum := (0, 0), sumN := 0 }
  let o := s.laneOut p
  let s := s.setLaneOut p { o with blk := 0 }
  if s.powered (svPage p) then
    (s.fput (F.PB_CNT_CNT p) o.blk).when (decide (s.fget (F.PB_MAX_BLMAX p) * 163680 < o.blk * 100)) (·.evRise (svPage p) 0)
  else s

/-- Put weights into force for a combiner. -/
def State.combWeights (s : State) (g : Nat) (ws : List Word) : State :=
  (ws.take 4).zipIdx.foldl (fun s w => s.setReg (F.CMB_W_WI (4 * g + w.2)).act.addr w.1) s

/-- The covariance of a group's members over the millisecond, by rows (R114). -/
def State.covRows (s : State) (g : Nat) : List (List Cx) :=
  let ps := maskPaths (s.groupMask g)
  ps.map fun p => ps.map fun q => Tab.get (fun _ => (0, 0)) s.sieve.cov (16 * g + 4 * (p % 4) + q % 4)

/-- Of eigenvalues with their vectors, greatest first, those above the least by more than `thr` dB. -/
def dominant (thr : Nat) (es : List (Nat × List Cx)) : List (List Cx) :=
  let least := es.foldl (fun a e => min a e.1) ((es.head?.map Prod.fst).getD 0)
  (es.filter fun e => decide (10 ^ thr * least ^ 10 < e.1 ^ 10)).map Prod.snd

/-- Weights of `n` members, 2^-30, orthogonal to unit vectors `vs` (2^-30), with the first of them 1; none when the first member lies in
their span. -/
def nullWeights (n : Nat) (vs : List (List Cx)) : Option (List Cx) :=
  let w (m : Nat) : Cx :=
    let d : Cx := if m = 0 then (2 ^ 30, 0) else (0, 0)
    let x := csum (vs.map fun v => cdiv (cmul (conj (v.getD m (0, 0))) (v.getD 0 (0, 0))) (2 ^ 30))
    (d.1 - x.1, d.2 - x.2)
  let w0 := (w 0).1
  if w0 ≤ 0 then none
  else some ((2 ^ 30, 0) :: (List.range (n - 1)).map fun m => cdiv ((w (m + 1)).1 * 2 ^ 30, (w (m + 1)).2 * 2 ^ 30) w0)

/-- The end of a group's covariance millisecond (R114, R205). In NULL mode the eigenvectors that stand out are nulled, strongest first;
a millisecond without GOOD samples changes nothing. -/
def State.combMs (s : State) (g : Nat) : State :=
  let ps := maskPaths (s.groupMask g)
  let n := Tab.get (fun _ => 0) s.sieve.covN g
  let rows := s.covRows g
  let clear (t : Tab Cx) : Tab Cx := (List.range 16).foldl (fun t k => Tab.set (fun _ => (0, 0)) t (16 * g + k) (0, 0)) t
  let last := (List.range 16).foldl (fun t k => Tab.set (fun _ => (0, 0)) t (16 * g + k) (Tab.get (fun _ => (0, 0)) s.sieve.cov (16 * g + k)))
    s.sieve.covLast
  let s := { s with sieve.cov := clear s.sieve.cov, sieve.covN := Tab.set (fun _ => 0) s.sieve.covN g 0,
                    sieve.covLast := if n = 0 then s.sieve.covLast else last }
  if s.fget (F.CMB_CTL_MODE g).act = 1 ∧ ps ≠ [] ∧ s.powered 0x038 ∧ n ≠ 0 then
    let most := min (max 1 (s.fget (F.CMB_CTL_NMAX g).act)) (ps.length - 1)
    let vs := dominant (s.fget (F.CMB_CTL_NULTHR g).act) (Config.eigen rows)
    let s := s.fput (if g = 0 then F.CMB_STAT_NULLS0 else F.CMB_STAT_NULLS1) (min vs.length most)
    let s := match nullWeights ps.length (vs.take most) with
      | some w =>
        let ws := (List.range 4).map fun m => match ps.findIdx? fun p => p % 4 = m with
          | some k => weightWord (w.getD k (0, 0))
          | none => 0
        { s with sieve.nullW := Tab.set (fun _ => none) s.sieve.nullW g (some ws) }
      | none => s
    s.when (decide (most < vs.length)) (·.evRise 0x038 g)
  else s

/-- Weights of Scarab that wait for the boundary (R113, R205). -/
def State.combScarab (s : State) (g : Nat) : State :=
  match Tab.get (fun _ => none) s.sieve.weights g with
  | some ws =>
    let s := { s with sieve.weights := Tab.set (fun _ => none) s.sieve.weights g none }
    if s.fget (F.CMB_CTL_MODE g).act = 2 then s.combWeights g ws else s
  | none => s

/-- New calibration values take effect (R112). -/
def State.calTake (s : State) : State :=
  if s.sieve.calUpd then
    let cal := paths.foldl (fun t p => Tab.set (fun _ => (0, 0)) t p
      (signed 16 (s.fget (F.RF_CALPG_GAIN p)), s.fget (F.RF_CALPG_PHASE p))) s.sieve.cal
    { s with sieve.calUpd := false, sieve.cal := cal }.evRise 0x038 3
  else s

/-- What happens at a dump-grid boundary; counts and covariances are of whole milliseconds. -/
def State.dumpGrid (s : State) : State :=
  let whole := decide (s.gridRate = 1000) || decide (s.gridIndex % 2 = 0)
  let s := s.gridDumps s.gridNow true
  let s := if whole then ((paths.foldl State.pathMs s).combMs 0).combMs 1 else s
  let s := ((s.combScarab 0).combScarab 1).calTake
  let s := s.replayGrid
  { s with sky.stepDump := false, hive.gridIdx := s.gridIndex }

/-- A dump-grid boundary has been crossed and its window is still open: on a sample tick, so not while there is none (R51). -/
def State.gridDue (s : State) : Bool := !s.srcAON && decide (s.hive.gridIdx ≠ s.gridIndex)

/-- The windows open at a step of the clock close at the step, and so do those whose boundary has been crossed (R18, R51, R52): the dump
first, then the epoch. The window after a step is STEPPED as well. -/
def State.closeDue (s : State) : State :=
  let s := if s.sky.stepClose then
      let s := s.gridDumps s.now false
      { s with hive.gridIdx := s.gridIndex, sky.stepClose := false }.epochClose s.now true
    else s
  let s := s.when s.gridDue State.dumpGrid
  s.when s.epochDue fun s => s.epochClose s.epochT false

/-- DUMP_GRID_BOUNDARY: a boundary has been crossed on a sample tick. -/
def execDumpGridBoundary (s : State) : Host.Outcome State Fault Refusal :=
  .next (s.when s.gridDue State.dumpGrid)

/-- GRID_ACTIVATE (R51): the active GRID takes the committed value at the whole second, after the windows that close there. -/
def execGridActivate (s : State) : Host.Outcome State Fault Refusal :=
  .next (match s.sky.gridPend with
    | some (w, t) =>
      if t ≤ s.now then
        let s := s.closeDue
        let s := { s.setReg (F.GRID_DUMP.addr + 0x800) w with sky.gridPend := none }.vcUpdate
        { s with hive.gridIdx := s.gridIndex, meas.epIdx := s.epochIndex }
      else s
    | none => s)

end Sys2Proof.Machine
end

