-- ==== Sys2Proof/Machine/Carapace.lean ====
section
/-! DEFINITION. Carapace (22: R416 to R426): jobs and slots, the owner's session, OSNMA results, and the checks of an image.
Ciphers and signatures are functions of Config. -/

namespace Sys2Proof.Machine

def cpPage : Nat := 0x160

-- jobs (R417 to R419)

def cpFREE : Nat := 0
def cpQUEUED : Nat := 1
def cpRUN : Nat := 2
def cpSUSPENDED : Nat := 3
def cpDONE : Nat := 4

def slots4 : List Nat := [0, 1, 2, 3]
def State.cpJob (s : State) (n : Nat) : Option CpJob := Tab.get (fun _ => none) s.cp.jobs n
def State.cpState (s : State) (n : Nat) : Nat := s.fget (F.CP_SLOT_STATE n)
def State.cpRunning (s : State) : Option Nat := slots4.find? fun n => decide (s.cpState n = cpRUN)

/-- The job the datapath takes next (R419): the highest class, the earliest accepted among equals. -/
def State.cpNext (s : State) : Option Nat :=
  (slots4.foldl (fun (m : Option (Nat × Nat × Nat)) n =>
    match s.cpJob n with
    | some j =>
      if s.cpState n = cpQUEUED ∨ s.cpState n = cpSUSPENDED then
        match m with
        | none => some (j.cls, j.order, n)
        | some (c, o, _) => if c < j.cls ∨ (c = j.cls ∧ j.order < o) then some (j.cls, j.order, n) else m
      else m
    | none => m) none).map fun x => x.2.2

/-- A free datapath takes the next job. -/
def State.cpDispatch (s : State) : State :=
  if s.cpRunning.isSome then s
  else match s.cpNext with
    | some n => s.fput (F.CP_SLOT_STATE n) cpRUN
    | none => s

/-- An INTEGRITY job suspends a running SHA-256, HMAC, CMAC or GCM job of a lower class. -/
def State.cpPreempt (s : State) (cls : Nat) : State :=
  match s.cpRunning with
  | some n =>
    match s.cpJob n with
    | some j => if cls = 2 ∧ j.cls < 2 ∧ j.op ≤ 5 then (s.fput (F.CP_SLOT_STATE n) cpSUSPENDED).finc F.CP_CNT_SUSP else s
    | none => s
  | none => s

def State.cpRet (s : State) (code slot : Nat) : State :=
  ((s.fputB F.CP_RET_VALID true).fput F.CP_RET_CODE code).fput F.CP_RET_SLOT slot

/-- Submit a job (R418): the state after, and whether it was accepted. -/
def State.cpSubmit (s : State) (j : CpJob) : Bool × State :=
  if j.op = 0 ∨ 8 < j.op ∨ 2 < j.cls then (false, s.cpRet 2 0)
  else match slots4.find? fun n => decide (s.cpState n = cpFREE) with
    | none => (false, ((s.cpRet 1 0).finc F.CP_CNT_BUSY).evRise cpPage 2)
    | some n =>
      let s := { s with cp.jobs := Tab.set (fun _ => none) s.cp.jobs n (some { j with order := s.cp.orders }), cp.orders := s.cp.orders + 1 }
      let s := ((s.fput (F.CP_SLOT_TENANT n) j.tenant).fput (F.CP_SLOT_CLASS n) j.cls).fput (F.CP_SLOT_RESULT n) 0
      (true, (((s.fput (F.CP_SLOT_STATE n) cpQUEUED).cpRet 0 n).cpPreempt j.cls).cpDispatch)

/-- CP_CMD.GO with an OP: the job the registers describe. -/
def State.cpGo (s : State) (op : Nat) : State :=
  let s := s.fput F.CP_CMD_OP op
  (s.cpSubmit { op := op, cls := s.fget F.CP_CMD_CLASS, tenant := s.fget F.CP_CMD_TENANT, src := s.fget F.CP_SRC_V,
                len := s.fget F.CP_LEN_V, dst := s.fget F.CP_DST_V, key := s.fget F.CP_KEY_V, order := 0 }).2

def execCpSha256 (via : Via) (s : State) : Host.Outcome State Fault Refusal := .next (s.gated (.cpSha256 via) via cpPage 0x040 (·.cpGo 1))
def execCpHmac (via : Via) (s : State) : Host.Outcome State Fault Refusal := .next (s.gated (.cpHmac via) via cpPage 0x040 (·.cpGo 2))
def execCpCmac (via : Via) (s : State) : Host.Outcome State Fault Refusal := .next (s.gated (.cpCmac via) via cpPage 0x040 (·.cpGo 3))
def execCpGcmenc (via : Via) (s : State) : Host.Outcome State Fault Refusal := .next (s.gated (.cpGcmenc via) via cpPage 0x040 (·.cpGo 4))
def execCpGcmdec (via : Via) (s : State) : Host.Outcome State Fault Refusal := .next (s.gated (.cpGcmdec via) via cpPage 0x040 (·.cpGo 5))
def execCpEcdsa256 (via : Via) (s : State) : Host.Outcome State Fault Refusal := .next (s.gated (.cpEcdsa256 via) via cpPage 0x040 (·.cpGo 6))
def execCpEcdsa521 (via : Via) (s : State) : Host.Outcome State Fault Refusal := .next (s.gated (.cpEcdsa521 via) via cpPage 0x040 (·.cpGo 7))
def execCpRandom (via : Via) (s : State) : Host.Outcome State Fault Refusal := .next (s.gated (.cpRandom via) via cpPage 0x040 (·.cpGo 8))

/-- Draw `n` bytes from the TRNG. -/
def State.random : Nat → State → List Byte × State
  | 0, s => ([], s)
  | n + 1, s =>
    let (r, s') := State.random n { s with fresh := s.fresh + 1 }
    (BitVec.ofNat 8 (Config.trng s.fresh).toNat :: r, s')

/-- Bytes of a key as the job's OP takes it from CP_KEY: 32 for HMAC, 16 for CMAC and GCM, and for ECDSA the public key
with the signature after it. -/
def keyLen (op : Nat) : Nat := if op = 2 then 32 else if op = 6 then 128 else if op = 7 then 264 else 16

/-- What an OP makes of key and data: the bytes it gives, none when a check fails. -/
def cpResult (op : Nat) (key data : List Byte) : Option (List Byte) :=
  if op = 1 then some (Config.sha256 data)
  else if op = 2 then some (Config.hmac key data)
  else if op = 3 then some (Config.cmac key data)
  else if op = 4 then some (Config.gcmEnc key data)
  else if op = 5 then Config.gcmDec key data
  else if op = 6 then (if Config.ecdsa 256 (key.take 64) (Config.sha256 data) (key.drop 64) then some [] else none)
  else (if Config.ecdsa 521 (key.take 132) (Config.sha256 data) (key.drop 132) then some [] else none)

/-- The slot is DONE with a result: 0 OK, 1 FAIL, 2 ACCESS. -/
def State.cpFinish (s : State) (n result : Nat) : State :=
  let s := (s.fput (F.CP_SLOT_RESULT n) result).fput (F.CP_SLOT_STATE n) cpDONE
  (s.fput F.CP_DONE_S (s.fget F.CP_DONE_S ||| 2 ^ n)).cpDispatch

/-- A tenant's running command of OP `op` is answered. -/
def State.completeOf (s : State) (t op code : Nat) (res : List Byte) : State :=
  match (s.tenant t).running.find? fun c => c.1 = op with
  | some c => (s.updTenant t fun x => { x with running := x.running.filter fun d => d ≠ c }).reply t op c.2 code res
  | none => s

/-- Carry a job out: result code, bytes and state. -/
def State.cpWork (s : State) (j : CpJob) : Nat × List Byte × State :=
  match j.own with
  | some (k, d) =>
    if j.op = 8 then let (r, s) := s.random j.len; (0, r, s)
    else match cpResult j.op k d with
      | some r => (0, r, s)
      | none => (1, [], s)
  | none =>
    if j.op = 8 then let (r, s) := s.random j.len; (0, r, s.combWrite 10 j.dst r)
    else
      let (d, bad, s) := s.combRead 10 j.src j.len
      let (k, bad', s) := if j.op = 1 then ([], false, s) else s.combRead 10 j.key (keyLen j.op)
      if bad ∨ bad' then (2, [], s)
      else match cpResult j.op k d with
        | some r => (0, r, if 6 ≤ j.op then s else s.combWrite 10 j.dst r)
        | none => (1, [], s)

/-- What an OSNMA verification found (R228, R229, R422). -/
def State.osnma (s : State) : Osnma → State
  | .none => s
  | .tagOk p =>
    if Tab.get (fun _ => 0) s.meas.auth p.toNat = authPENDING ∧ s.skyState ≠ skUNSTEERED then s.setAuth p.toNat authOK else s
  | .tagFail p =>
    let a := Tab.get (fun _ => 0) s.meas.auth p.toNat
    if (a = authPENDING ∨ a = authOK) ∧ s.skyState ≠ skUNSTEERED then
      (s.setAuth p.toNat authFAIL).evRiseD cpPage 0 (some (BitVec.ofNat 32 p.toNat))
    else s
  | .keyFail => s.evRiseD cpPage 0 (some 0x100)

/-- CP_DONE bit written 1: the slot is free again. -/
def State.cpClear (s : State) (n : Nat) : State :=
  if s.cpState n = cpDONE then
    let s := { s.fput (F.CP_SLOT_STATE n) cpFREE with cp.jobs := Tab.set (fun _ => none) s.cp.jobs n none }
    s.fputB ⟨F.CP_DONE_S.addr, n, 1⟩ false
  else s

/-- CP_JOB_DONE (R419, R422): the running job ends; the tenant of a CRYPTO gets its reply; an OSNMA verification gives what the
interface specification makes of the page pair, with the pairs before it. -/
def execCpJobDone (s : State) : Host.Outcome State Fault Refusal :=
  .next (match s.cpRunning with
    | some n =>
      match s.cpJob n with
      | some j =>
        if j.osnma.isSome then (s.cpFinish n 0).cpClear n |>.osnma (Config.osnma s.cp.root s.cp.pages)
        else
          let (code, res, s) := s.cpWork j
          let s := s.cpFinish n code
          if j.own.isSome then s.completeOf j.tenant 0x0058 cOK (if 6 ≤ j.op then leBytes 2 code else res) else s
      | none => s
    | none => s)

def execCpDoneClear (via : Via) (slot : Fin 4) (s : State) : Host.Outcome State Fault Refusal :=
  .next (s.gated (.cpDoneClear via slot) via cpPage 0x070 (·.cpClear slot.val))

-- image checks (R423, R424)

def imgField (b : List Byte) (o n : Nat) : Nat := ofLe ((b.drop o).take n)

/-- What a header states, with the banks its body brings: the words of K0 to K2 stand at the start of the body. -/
def parseImage (b : List Byte) : Image :=
  let entry (o : Nat) : Nat × Nat := (imgField b (o + 2) 1 % 4, imgField b o 2)
  { owner := (b.drop 0x60).take 64, secver := imgField b 0x0C 1, setfmt := imgField b 0x1E 2, week := imgField b 0x1C 2,
    version := imgField b 0x20 4, boot := entry 0x24, restart := entry 0x28, hand := entry 0x2C,
    bankcrc := imgField b 0x30 4, hover := imgField b 0x34 2,
    banks := (chunks 2 (((b.take (imgField b 0x18 4)).drop 0x200).take 393216)).map fun c => BitVec.ofNat 16 (ofLe c) }

def uidBytes (f : Fuses) : List Byte := leBytes 8 f.uid.toNat

/-- Checks 1 to 4 of R424, which look at the header alone. -/
def headerOk (f : Fuses) (b : List Byte) : Bool :=
  let len := imgField b 0x18 4
  let unitb := decide (imgField b 0x0A 1 % 2 = 1)
  decide (imgField b 0 4 = 0x4D49544B ∧ imgField b 6 2 = 0x200 ∧ imgField b 4 2 = 1 ∧ 0x200 ≤ len ∧ len ≤ 0x100000) &&
    decide (imgField b 8 2 = 0x1024) &&
    decide (1 ≤ imgField b 0x0C 1 ∧ imgField b 0x0C 1 ≤ 64 ∧ f.arb ≤ imgField b 0x0C 1) &&
    (!unitb || (decide (f.grade = 2) && decide ((b.drop 0x10).take 8 = uidBytes f)))

/-- Check 6: VSIG, with the key in the ROM. -/
def vsigOk (b : List Byte) : Bool :=
  Config.ecdsa 521 Config.romKey (Config.sha256 (b.take 0xA0)) ((b.drop 0xA0).take 132)

def ownerMatches (f : Fuses) (b : List Byte) : Bool := decide (f.keyHash = some (Config.sha256 ((b.drop 0x60).take 64)))

/-- The seven checks of R424. -/
def imageOk (f : Fuses) (b : List Byte) : Bool :=
  headerOk f b && decide ((b.drop 0x40).take 32 = Config.sha256 ((b.take (imgField b 0x18 4)).drop 0x200)) && vsigOk b &&
    (decide (f.grade ≠ 2) || (decide (imgField b 0x0A 1 / 2 % 2 = 1) && ownerMatches f b &&
      Config.ecdsa 256 ((b.drop 0x60).take 64) (Config.sha256 (b.take 0x124)) ((b.drop 0x124).take 64)))

def flashDefault : Nat → Byte := fun _ => 0xFF
def State.flashBytes (s : State) (a n : Nat) : List Byte := (List.range n).map fun i => Tab.get flashDefault s.xspi.flash (a + i)

/-- The owner key (R420, R421): of the running image, or in service boot of a qualifying header in flash. -/
def State.ownerKey (s : State) : Option (List Byte) :=
  match s.upd.image with
  | some i => some i.owner
  | none =>
    let h := s.flashBytes 0 0x200
    if headerOk s.fuses h && (if s.fuses.grade = 2 then ownerMatches s.fuses h else vsigOk h) then some ((h.drop 0x60).take 64)
    else none

-- the owner's session (R420)

def State.challenge (s : State) : List Byte := (List.range 8).flatMap fun i => leBytes 4 (s.fget (F.CP_CHAL i))

/-- A new challenge from the TRNG. -/
def State.newChallenge (s : State) : State :=
  (List.range 8).foldl (fun s i => { s.setReg (F.CP_CHAL i).addr (Config.trng s.fresh) with fresh := s.fresh + 1 }) s

/-- May an attempt be made? -/
def State.sessionBarred (s : State) : Bool := match s.cp.barred with | some t => decide (s.now < t) | none => false

/-- An attempt with the response r, s: whether it passes, and the state with a new challenge. -/
def State.session (s : State) (resp : List Byte) : Bool × State :=
  if s.sessionBarred then (false, s)
  else
    let h := Config.sha256 ([0x4B, 0x54, 0x4F, 0x57] ++ uidBytes s.fuses ++ s.challenge)
    let ok := match s.ownerKey with | some k => Config.ecdsa 256 k h resp | none => false
    let s := s.newChallenge
    if ok then (true, s)
    else
      let fs := s.now :: s.cp.fails.filter fun t => decide (s.now < t + 60 * sec)
      let s := { s with cp.fails := if 8 ≤ fs.length then [] else fs,
                        cp.barred := if 8 ≤ fs.length then some (s.now + 60 * sec) else s.cp.barred }
      (false, s.evRise cpPage 1)

end Sys2Proof.Machine
end

