-- ==== Sys2Proof/Machine/NavRec.lean ====
section
/-! DEFINITION. Navigation messages (07: R129, R130; 11: R221, R228, R229; 03: R39, R40): the check of a message by its signal, its
record, the time it carries, and what goes to Carapace. -/

namespace Sys2Proof.Machine

-- the checks (R129), over the bits as broadcast, first bit first; the codes' equations are the interface specifications' (log entry 95)

def oddOnes (l : List Bool) : Bool := l.foldl (· != ·) false

/-- Bits as bytes, from the first on, the rest of the last byte zero. -/
def bitBytes (l : List Bool) : List Byte :=
  (chunks 8 l).map fun c => BitVec.ofNat 8 (((List.range 8).map fun i => if c.getD i false then 2 ^ (7 - i) else 0).foldl (· + ·) 0)

/-- CRC-24Q of bits: the register after them from zero. -/
def crcOfBits (l : List Bool) : Nat :=
  l.foldl (fun r b =>
    let r := 2 * r + (if b then 1 else 0)
    if 2 ^ 24 ≤ r then r ^^^ 0x1864CFB else r) 0

/-- The bits CRC-24Q is over, its field last: of an I/NAV page pair without the tails and what follows the field; of F/NAV, C/NAV and
NavIC without the tail. -/
def crcSpan (sig : Nat) (l : List Bool) : List Bool :=
  if sig = 5 ∨ sig = 7 then l.take 114 ++ (l.drop 120).take 106
  else if sig = 6 ∨ sig = 8 ∨ sig = 20 then l.take (l.length - 6)
  else l

/-- The oddOnes rows of an LNAV word: whether D30* is used (else D29*), and the data bits. -/
def lnavRows : List (Bool × List Nat) :=
  [(false, [1, 2, 3, 5, 6, 10, 11, 12, 13, 14, 17, 18, 20, 23]), (true, [2, 3, 4, 6, 7, 11, 12, 13, 14, 15, 18, 19, 21, 24]),
   (false, [1, 3, 4, 5, 7, 8, 12, 13, 14, 15, 16, 19, 20, 22]), (true, [2, 4, 5, 6, 8, 9, 13, 14, 15, 16, 17, 20, 21, 23]),
   (true, [1, 3, 5, 6, 7, 9, 10, 14, 15, 16, 17, 18, 21, 22, 24]), (false, [3, 5, 6, 8, 9, 10, 11, 13, 15, 19, 22, 23, 24])]

/-- One LNAV word after D29* and D30*. -/
def lnavWord (star : Bool × Bool) (w : List Bool) : Bool :=
  decide (w.length = 30) && lnavRows.zipIdx.all fun r =>
    (oddOnes (r.1.2.map fun i => w.getD (i - 1) false != star.2) != (if r.1.1 then star.2 else star.1)) = w.getD (24 + r.2) false

def lnavOk : Bool × Bool → List (List Bool) → Bool
  | _, [] => true
  | star, w :: r => lnavWord star w && lnavOk (w.getD 28 false, w.getD 29 false) r

/-- A BCH(15,11) codeword by x^4 + x + 1. -/
def bch15 (c : List Bool) : Bool :=
  decide (c.foldl (fun r b =>
    let r := 2 * r + (if b then 1 else 0)
    if 16 ≤ r then r ^^^ 0x13 else r) 0 = 0)

/-- A word of D1 or D2: two codewords bit by bit; of the first word only the last 15 bits are coded. -/
def bchWord (first : Bool) (w : List Bool) : Bool :=
  let odd (k : Nat) := (List.range 15).map fun i => w.getD (2 * i + k) false
  if first then bch15 (w.drop 15) else bch15 (odd 0) && bch15 (odd 1)

/-- A GLONASS string, bit 85 first: the eight check bits of its Hamming code. Data bits 9 to 85 stand at the places that are no powers
of two. -/
def glonassOk (l : List Bool) : Bool :=
  let r := l.reverse
  let places := (List.range 85).filter fun n => decide (n ≠ 0) && !(List.range 7).any fun k => decide (n = 2 ^ k)
  let syn : Nat := ((r.drop 8).zip places).foldl (fun a x => if x.1 then a ^^^ x.2 else a) 0
  let chk : Nat := ((r.take 7).zipIdx).foldl (fun a x => if x.1 then a + 2 ^ x.2 else a) 0
  decide (l.length = 85) && decide (syn = chk) && !oddOnes l

/-- Does a message pass the check of its signal (R129)? Subframe 1 of CNAV-2 and B-CNAV1, of fewer bits than a CRC, has none. -/
def navOk (sig : Nat) (star : Bool × Bool) (l : List Bool) : Bool :=
  if sig = 1 ∨ sig = 16 then lnavOk star (chunks 30 l)
  else if sig = 9 ∨ sig = 12 then (chunks 30 l).zipIdx.all fun w => bchWord (decide (w.2 = 0)) w.1
  else if sig = 13 ∨ sig = 14 then glonassOk l
  else if (sig = 2 ∨ sig = 17 ∨ sig = 10) ∧ l.length < 24 then true
  else decide (24 < l.length ∧ crcOfBits (crcSpan sig l) = 0)

-- what becomes of a message

/-- The record (R221): header, then the bits, zero-padded to 32. -/
def State.navRecord (s : State) (m : NavMsg) : List Byte :=
  let w := (s.chan m.ch.val).sig
  let auth := if sgSIG w = 5 ∨ sgSIG w = 7 then s.authOf (sgSIG w) (sgPRN w) else 0
  let n := m.bits.length
  wordBytes (timeWords m.t.toNat ++ [BitVec.ofNat 32 (sgPRN w * 2 ^ 24 + unsigned 4 (sgFCN w) * 2 ^ 20 + sgSIG w * 2 ^ 14 + auth * 4096 + n),
    BitVec.ofNat 32 m.ch.val]) ++ (bitBytes m.bits ++ [0, 0, 0]).take ((n + 31) / 32 * 4)

/-- The UTC parameters a message carries set the leap registers (R40). -/
def State.utcParams (s : State) (u : Byte × Byte × BitVec 96 × Bool) : State :=
  let s := ((s.fput F.LEAP_CUR u.1.toNat).fputB F.LEAP_VALID true).fput F.LEAP_NEXT u.2.1.toNat
  (s.put96 F.LEAP_T u.2.2.1.toNat).fputB F.LEAP_PEND u.2.2.2

/-- The primary epochs from the origin of the signal's time to the channel's start (R39, R215): from the week the message names, or
without a week number from the day that brings the transmit time nearest to the Sky Clock. -/
def State.origin (s : State) (ch : Nat) (n week : Nat) (k : Int) : Int :=
  let w := (s.chan ch).sig
  let per (secs : Int) : Int := secs * chipHz w / epochLen (sgSIG w)
  if n = 0 then
    let t : Int := (s.now / sec : Nat) - s.sysShift (sgSIG w)
    roundDiv (per t - k - (s.chan ch).nEp) (per 86400) * per 86400 + k
  else per ((s.fullWeek n week : Nat) * 604800) + k

/-- A channel knows its transmit time from a message on (R215). -/
def State.navTime (s : State) (m : NavMsg) : State :=
  match m.time with
  | some (n, week, k) => s.setChan m.ch.val { s.chan m.ch.val with origin := some (s.origin m.ch.val n week k) }
  | none => s

/-- A checked I/NAV page pair of SIG 5 goes to Carapace for verification (R130, R228): an INTEGRITY job. -/
def State.osnmaPage (s : State) (prn t : Nat) (l : List Bool) : State :=
  let (ok, s') := s.cpSubmit { op := 2, cls := 2, tenant := 0, src := 0, len := 0, dst := 0, key := 0, order := 0, osnma := some prn }
  if ok then { s' with cp.pages := ((prn, t, l) :: s.cp.pages).take 1024 } else s'

/-- A message of a channel that passed its check: times and parameters, authentication, record. -/
def State.navTake (s : State) (m : NavMsg) : State :=
  let w := (s.chan m.ch.val).sig
  let s := match m.utc with | some u => s.utcParams u | none => s
  let s := s.navTime m
  let a := Tab.get (fun _ => 0) s.meas.auth (sgPRN w)
  let s := if (sgSIG w = 5 ∨ sgSIG w = 7) ∧ m.newIod ∧ a ≠ authPENDING then s.setAuth (sgPRN w) authPENDING else s
  let s := if sgSIG w = 5 then s.osnmaPage (sgPRN w) m.t.toNat m.bits else s
  let r := s.navRecord m
  s.openTenants.foldl (fun s t =>
    let (bs, s) := s.subsDue t (fun b => b.kind = 2 && b.selects (sgSIG w) (sgPRN w)) 1
    if bs = [] then s else s.sendFrame t 4 r) s

/-- NAV_MESSAGE: a message of a live channel that passes its check is recorded and forwarded; one that fails is counted. -/
def execNavMessage (m : NavMsg) (s : State) : Host.Outcome State Fault Refusal :=
  let ch := m.ch.val
  .next (if ¬ s.live ch then s
    else if navOk (sgSIG (s.chan ch).sig) m.star m.bits then s.navTake m
    else (s.finc (F.CH_DECFAIL_V ch)).chEvent ch evDECFAIL)

end Sys2Proof.Machine
end

