-- ==== Sys2Proof/Machine/Tenant.lean ====
section
/-! DEFINITION. The life of a tenant (16: R300 to R303, R320 to R325): opening, cleanup, the loss of a client, and the quench paths. -/

namespace Sys2Proof.Machine

-- subscriptions that go (R303, R304)

/-- After subscriptions have gone: channels no subscription needs any more stop, recordings pause, and votes follow. -/
def State.subsGone (s old : State) : State :=
  let needs := s.anySub fun b => decide (b.kind = 3 ∨ b.kind = 5 ∨ b.kind = 6)
  let s := (allChans.filter old.chosen).foldl (fun s ch =>
    if needs ∨ s.chosen ch then s else s.chStop ch) s
  let s := (List.range 24).foldl (fun s m => if old.recorded m ∧ ¬ s.recorded m then s.gapNow m 4 else s) s
  s.allocVotes

-- opening (R300, R310)

def icGrant (ic : Nat) : Nat := if ic = 0 then 256 else min (max 16 ic) 16384
def ocGrant (oc : Nat) : Nat := if oc = 0 then 16384 else min oc 65535

/-- Both queues of a tenant empty, their credits as at OPEN (R303, R310). -/
def State.freshQueues (s : State) (t : Nat) : State :=
  let x := s.tenant t
  let s := (s.putQueue (2 * t) { limit := x.icmax }).putQueue (2 * t + 1) { limit := x.ocmax }
  ((s.grantQ (2 * t)).grantQ (2 * t + 1)).regrant

def State.openTenant (s : State) (t : Nat) (port : Port) (client oc ic seq : Nat) : State :=
  let free := s.poolFree
  let s := ((s.setTenant t { state := .opened, port := port, client := client, lastSeq := some seq,
                             ocmax := ocGrant oc, icmax := icGrant ic,
                             prio := if t = 0 then 7 else 3 }).poolCheck free).freshQueues t
  let s := if t = 0 then (s.setSlot 0 (some (0, s.now))).setSlot 1 (some (1, s.now)) else s
  (s.fput F.TN_OPEN_NOPEN (s.fget F.TN_OPEN_NOPEN + 1)).evRise 0x140 0

/-- The lowest FREE context from 1. -/
def State.freeContext (s : State) : Option Nat :=
  ((List.range 4095).map (· + 1)).find? fun t => decide ((s.tenant t).state = .free)

/-- Judge an OPEN (R300) and carry it out: status, result, the tenant field of the reply, and the state after. -/
def State.openJudge (s : State) (port : Port) (client t arg0 seq : Nat) (ws : List Word) : Nat × Nat × State :=
  let any := arg0.testBit 0
  let owner := arg0.testBit 1
  if ws.length ≠ (if owner then 18 else 2) then (cBADCMD, t, s)
  else if (owner ∧ t ≠ 0) ∨ (¬ owner ∧ ¬ any ∧ t = 0) then (cBADARG, t, s)
  else
    let (pass, s) := if owner then s.session (wordBytes (ws.drop 2)) else (true, s)
    if ¬ pass then (cAUTH, t, s)
    else if ¬ any ∨ owner then
      if (s.tenant t).state ≠ .free then (cINUSE, t, s)
      else (cOK, t, s.openTenant t port client (argWord ws 0) (argWord ws 1) seq)
    else match s.freeContext with
      | none => (cNOCTX, t, (s.finc F.TN_OPEN_REFUSED).evRise 0x140 3)
      | some u => (cOK, u, s.openTenant u port client (argWord ws 0) (argWord ws 1) seq)

/-- Hand a reply to the port and client an OPEN came from (R300, R333, R339). -/
def State.openAnswer (s : State) (port : Port) (client : Nat) (bytes : List Byte) : State :=
  match port with
  | .pcie => { s with pcie.reply := frameItems 2 bytes, pcie.busy := false }.msix 1
  | .usb => { s with usb.reply := bytes }
  | p => { s with tn.openOut := s.tn.openOut ++ [(p, client, bytes)] }

/-- The Warden executes an OPEN frame (R300). An accepted OPEN's reply is the tenant's first frame: a byte port sends it from
the tenant's queue, a queue port gives it in its mailbox. -/
def State.openCommand (s : State) (port : Port) (client t seq arg0 : Nat) (ws : List Word) : State :=
  let s := { s with tn.openIn := s.tn.openIn.eraseP fun x => decide (x.1 = port ∧ x.2.1 = client) }
  let (code, u, s) := s.openJudge port client t arg0 seq ws
  let x := s.tenant u
  let res := if code = cOK then leBytes 2 u ++ leBytes 2 x.ocmax ++ leBytes 2 x.icmax else []
  if code = cOK then
    if port = .pcie ∨ port = .usb then
      let s' := s.updTenant u fun x => { x with cache := [⟨seq, 1, cOK, [], true⟩], outSeq := 1 }
      s'.openAnswer port client (frameBytes 1 u 0 (replyPayload 1 code seq (s.icred u) res))
    else s.reply u 1 seq cOK res
  else s.openAnswer port client (frameBytes 1 u 0 (replyPayload 1 code seq 0 res))

-- cleanup (R303)

/-- The tenant's pages become unowned. -/
def State.unown (s : State) (t : Nat) : State :=
  s.regs.foldl (fun s e =>
    let p := e.1 / 4096
    if e.1 % 4096 = 0x024 ∧ s.flag (PG_OWNED p) ∧ s.fget (PG_TENANT p) = t then
      (s.fputB (PG_OWNED p) false).fput (PG_TENANT p) 0
    else s) s

/-- Its searches are discarded and its jobs aborted. -/
def State.dropJobs (s : State) (t : Nat) : State :=
  let s := { s with dfly.waiting := s.dfly.waiting.filter (fun r => decide (r.tenant ≠ t)),
                    dfly.searches := s.dfly.searches.filter fun e => (e.2.map Search.tenant) ≠ some t }
  ((List.range 64).filter fun n => decide (s.jsState n ≠ jsFREE ∧ s.fget (F.JS_TENANT n) = t)).foldl State.jobAbort s

/-- The cleanup of R303, for a RESET (then with the number set that the tenant's own RESET brings) or a CLOSE. -/
def State.cleanup (s : State) (t : Nat) (st : TnState) (seq : Option Nat) : State :=
  let old := s
  let s := s.updTenant t fun x => { x with state := st, q := false, cause := 0, lastSeq := seq, outSeq := 0, cache := [],
                                           subs := [], running := [], ferrT := [] }
  let s := { s with meas.held := s.meas.held.filter fun h => decide (h.1 ≠ t) }
  let s := (s.freshQueues t).subsGone old
  let s := (List.range 38).foldl (fun s d => s.withdraw d t) s
  let s := (s.unown t).dropJobs t
  (s.armedList.filter fun i => decide (ownerOf (s.entry i) = t)).foldl State.disarm s

def State.resetTenant (s : State) (t : Nat) (seq : Option Nat) : State :=
  if (s.tenant t).live then s.cleanup t .opened seq else s

/-- CLOSE of a tenant, or the loss of its client. -/
def State.closeTenant (s : State) (t : Nat) : State :=
  if (s.tenant t).live then s.cleanup t .closing none else s

/-- CLEANUP_DONE (R302): a closing context is free again. -/
def State.freeTenant (s : State) (t : Nat) : State :=
  if (s.tenant t).state = .closing then
    let s := ((s.setTenant t {}).putQueue (2 * t) {}).putQueue (2 * t + 1) {}
    let s := if t = 0 then (s.setSlot 0 none).setSlot 1 none else s
    ((s.fput F.TN_OPEN_NOPEN (s.fget F.TN_OPEN_NOPEN - 1)).regrant).evRise 0x140 1
  else s

def execCleanupDone (t : Fin 4096) (s : State) : Host.Outcome State Fault Refusal := .next (s.freeTenant t.val)

/-- A port reports the loss of a client (R301): every tenant bound to it is closed. -/
def State.clientLost (s : State) (port : Port) (client : Nat) : State :=
  (s.openTenants.filter fun t => decide ((s.tenant t).port = port ∧ (s.tenant t).client = client)).foldl State.closeTenant s

def execClientLoss (port : Port) (client : Fin 8) (s : State) : Host.Outcome State Fault Refusal :=
  .next (s.clientLost port client.val)

-- quench (R323, R324)

/-- Quench or unquench one tenant, or with `all` every open one. -/
def State.quench (s : State) (on discard all : Bool) (t : Nat) : State :=
  let one (s : State) (t : Nat) := if on then s.quenchOn t discard else s.quenchOff t
  if all then s.openTenants.foldl one s
  else if (s.tenant t).state = .free then s
  else one s t

-- TN_CMD (16)

/-- READ fills TN_STAT, TN_SEQ, TN_CNT and TN_REP from the context TN_IDX of the reader names. -/
def State.tnRead (s : State) (t : Nat) : State :=
  let x := s.tenant t
  let port := match x.port with
    | .pcie => 0 | .usb => 1 | .spi => 2 | .uart n => 3 + n.val | .penEast => 7 | .penWest => 8
  let st := match x.state with | .free => 0 | .opened => 1 | .fault => 2 | .closing => 3
  let s := ((s.fputB F.TN_STAT_Q x.q).fput F.TN_STAT_NSUB x.subs.length).fput F.TN_STAT_CAUSE x.cause
  let s := ((s.fput F.TN_STAT_PORT port).fputB F.TN_STAT_SEQV x.lastSeq.isSome).fput F.TN_STAT_STATE st
  let s := (s.fput F.TN_SEQ_HI x.outSeq).fput F.TN_SEQ_LO (x.lastSeq.getD 0)
  let s := (s.fput F.TN_CNT_HI x.odrop).fput F.TN_CNT_LO x.ferr
  (s.fput F.TN_REP_HI x.rep).fput F.TN_REP_LO x.gaps

/-- TN_IDX of the reader behind an access (R299). -/
def State.tnIdx (s : State) (via : Via) : Nat := (s.latched (viaReader via) F.TN_IDX_T.addr).toNat % 4096

def State.tnDo (s : State) (via : Via) (f : State → Nat → State) : State := s.guarded via 0x140 0x044 fun s => f s (s.tnIdx via)

/-- TN_CMD: 1 READ, 2 RESET, 3 CLOSE, 4 QUENCH, 5 QUENCH with DISCARD, 6 UNQUENCH. -/
def execTnRead (via : Via) (s : State) : Host.Outcome State Fault Refusal := .next (s.tnDo via State.tnRead)
def execTnReset (via : Via) (s : State) : Host.Outcome State Fault Refusal :=
  .next (s.tnDo via fun s t => s.resetTenant t none)
def execTnClose (via : Via) (s : State) : Host.Outcome State Fault Refusal := .next (s.tnDo via State.closeTenant)
def execTnQuench (via : Via) (s : State) : Host.Outcome State Fault Refusal :=
  .next (s.tnDo via fun s t => s.quench true false false t)
def execTnQuenchDiscard (via : Via) (s : State) : Host.Outcome State Fault Refusal :=
  .next (s.tnDo via fun s t => s.quench true true false t)
def execTnUnquench (via : Via) (s : State) : Host.Outcome State Fault Refusal :=
  .next (s.tnDo via fun s t => s.quench false false false t)

/-- GLOBAL_QUENCH (R323): TN_GQ.GQ. -/
def execGlobalQuench (via : Via) (on : Bool) (s : State) : Host.Outcome State Fault Refusal :=
  .next (s.guarded via 0x140 0x05C (·.setGQ on))

end Sys2Proof.Machine
end

