-- ==== Sys2Proof/Machine/Ports.lean ====
section
/-! DEFINITION. The host ports (17: R326 to R348) and frames on byte ports (11: R222 to R225; 16: R301, R306, R325), but
for register accesses, which pass through Bus.lean. -/

namespace Sys2Proof.Machine

-- frames (R222, R224, R225)

def frameLen (b : List Byte) : Nat := ofLe ((b.drop 6).take 2) + 12
def frameCls (b : List Byte) : Nat := ofLe ((b.drop 2).take 2) / 4096
def frameTenant (b : List Byte) : Nat := ofLe ((b.drop 2).take 2) % 4096
def frameSeq (b : List Byte) : Nat := ofLe ((b.drop 4).take 2)
def framePayload (b : List Byte) : List Byte := (b.drop 8).take (frameLen b - 12)
/-- OP of a CMD frame; none for other frames and for a payload too short to hold one. -/
def frameOp (b : List Byte) : Option Nat :=
  if frameCls b = 0 ∧ 16 ≤ b.length then some (ofLe ((b.drop 8).take 2)) else none

/-- SYNC, LEN and CRC of a whole frame. -/
def frameOk (b : List Byte) : Bool :=
  decide (12 ≤ b.length ∧ b.take 2 = [0x4B, 0x54] ∧ frameLen b = b.length) &&
    decide (ofLe (b.drop (b.length - 4)) = crc32c ((b.drop 2).take (b.length - 6)))

/-- The receiver of a byte port (R225): the frames found, CRC mismatches, and the bytes kept for later. -/
def frameScan : Nat → List Byte → List (List Byte) × Nat × List Byte
  | 0, l => ([], 0, l)
  | _, [] => ([], 0, [])
  | n + 1, b :: r =>
    if b ≠ 0x4B then frameScan n r
    else match r with
      | [] => ([], 0, [b])
      | c :: _ =>
        let l := b :: r
        if c ≠ 0x54 then frameScan n r
        else if l.length < 8 ∨ l.length < frameLen l then ([], 0, l)
        else if frameOk (l.take (frameLen l)) then
          let (fs, e, rest) := frameScan n (l.drop (frameLen l))
          (l.take (frameLen l) :: fs, e, rest)
        else
          let (fs, e, rest) := frameScan n r
          (fs, e + 1, rest)

/-- A port's frame-error count. -/
def State.portFerr (s : State) (port : Port) : State :=
  match port with
  | .spi => (s.finc F.SPI_CNT_FERR).evRise 0x152 0
  | .usb => s.finc F.USB_CNT_FERR
  | .uart n => s.finc (F.U_CNT_FERR n.val)
  | _ => s

/-- Take the last message of an inbound queue away again, its credits returned. -/
def State.dropLast (s : State) (i : Nat) : State :=
  let q := s.queue i
  (s.putQueue i { q with ready := q.ready.dropLast }).grantQ i

/-- A frame error of tenant `t` (R306, R325): 16 within a second fault it. -/
def State.frameError (s : State) (t : Nat) : State :=
  let s := s.updTenant t fun x =>
    { x with ferr := satInc 16 x.ferr, ferrT := s.now :: x.ferrT.filter fun u => decide (s.now < u + sec) }
  if 16 ≤ (s.tenant t).ferrT.length then s.faultTenant t 3 else s

/-- Judge the message that has just become readable (R306); in FAULT all but CREDIT, RESET and CLOSE are discarded (R325). -/
def State.checkIn (s : State) (t : Nat) : State :=
  match (s.queue (2 * t)).ready.getLast? with
  | none => s
  | some m =>
    let b := msgBytes m
    if ¬ frameOk b then (s.dropLast (2 * t)).frameError t
    else if (s.tenant t).state = .fault ∧ ¬ (frameOp b).any keptInFault then s.dropLast (2 * t)
    else s

/-- A tenant or its port pushes an inbound item. -/
def State.pushIn (s : State) (t : Nat) (x : Item) : State :=
  let room := decide ((s.queue (2 * t)).cred ≠ 0)
  let s := s.pushItem (2 * t) x true
  if room ∧ itemEnd x then s.checkIn t else s

/-- A byte port pushes a frame (R306, R309): dropped whole and counted when its items exceed the credit. -/
def State.pushFrame (s : State) (port : Port) (t pri : Nat) (b : List Byte) : State :=
  let items := frameItems pri b
  if (s.queue (2 * t)).cred < items.length then s.portFerr port
  else items.foldl (fun s x => s.pushIn t x) s

def isPen (p : Port) : Bool := p = .penEast ∨ p = .penWest

/-- Is the tenant bound to the port and client (R301)? A Penholt client is bound by DEVADDR, whichever port delivers (R445). -/
def State.boundTo (s : State) (t : Nat) (port : Port) (client : Nat) : Bool :=
  (s.tenant t).live && decide ((s.tenant t).client = client) &&
    (decide ((s.tenant t).port = port) || (isPen port && isPen (s.tenant t).port))

/-- A frame received whole on a byte port (R225, R300, R301, R306). -/
def State.receiveFrame (s : State) (port : Port) (client pri : Nat) (b : List Byte) : State :=
  if ¬ frameOk b ∨ 11 ≤ frameCls b then s.portFerr port
  else if frameOp b = some 0x0001 then { s with tn.openIn := s.tn.openIn ++ [(port, client, b)] }
  else if ¬ s.boundTo (frameTenant b) port client then s.portFerr port
  else s.pushFrame port (frameTenant b) pri b

def State.receiveAll (s : State) (port : Port) (client : Nat) (fs : List (List Byte)) (bad : Nat) : State :=
  (List.replicate bad ()).foldl (fun s _ => s.portFerr port) (fs.foldl (fun s f => s.receiveFrame port client (classPri (frameCls f)) f) s)

/-- The power domain of a port. -/
def portDom (port : Port) : Nat := match port with | .penEast => 36 | .penWest => 36 | _ => 2

/-- FRAME_RECEIVE (R225), on a byte port that is on. -/
def execFrameReceive (port : Port) (client : Fin 8) (bytes : List Byte) (s : State) : Host.Outcome State Fault Refusal :=
  .next (if port = .pcie ∨ port = .usb ∨ ¬ s.domPowered (portDom port) then s else s.receiveFrame port client.val (classPri (frameCls bytes)) bytes)

-- outbound messages

/-- Pop the rest of one message. -/
def Queue.popMsg : Nat → Queue → List Item × Queue
  | 0, q => ([], q)
  | n + 1, q =>
    match q.pop with
    | none => ([], q)
    | some (x, q') =>
      if itemEnd x then ([x], q')
      else
        let (xs, q'') := Queue.popMsg n q'
        (x :: xs, q'')

/-- Items in the message read next. -/
def Queue.nextMsg (q : Queue) : List Item × Queue := q.popMsg (q.held + 1)

/-- The next tenant in turn with a readable outbound message, among those that satisfy `p`. -/
def State.turn (s : State) (rr : Nat) (p : Tenant → Bool) : Option Nat :=
  let can := (s.tn.tenants.filter fun e => e.2.live && p e.2 && (s.queue (2 * e.1 + 1)).readable).map Prod.fst
  let key (t : Nat) : Nat := (t + 4095 - rr) % 4096
  can.foldl (fun (m : Option Nat) t => match m with | none => some t | some u => if key t < key u then some t else some u) none

/-- Take a tenant's next outbound message whole and free its items. -/
def State.takeMsg (s : State) (t : Nat) : List Byte × State :=
  let (m, q) := (s.queue (2 * t + 1)).nextMsg
  (msgBytes m, ((s.putQueue (2 * t + 1) q).touch (2 * t + 1)).queueOp (2 * t + 1) Queue.release)

/-- The reply of a refused OPEN that waits for a byte port. -/
def State.takeOpenOut (s : State) (p : Port × Nat × List Byte → Bool) : Option ((Port × Nat × List Byte) × State) :=
  (s.tn.openOut.find? p).map fun x => (x, { s with tn.openOut := s.tn.openOut.erase x })

-- PCIe (R328 to R337)

/-- The host ports answer: HOSTIO is powered, and the device is not Dead, where their balls float (R425). -/
def State.portsOn (s : State) : Bool := s.domPowered 2 && !s.boot.dead

def State.pcieUp (s : State) : Bool := s.portsOn && s.flag F.PCIE_LINK_UP

/-- A window that may be used (R331); its tenant in FAULT keeps it, so that CREDIT, RESET and CLOSE can come (R325). -/
def State.windowOk (s : State) (t : Nat) : Bool := s.boundTo t .pcie 0

def State.winErr (s : State) : State := ((s.finc F.PCIE_CNT_WINERR).evRise 0x150 2)

/-- An access to tenant `t`'s window. -/
def State.window (s : State) (t : Nat) (f : State → State) : State :=
  if ¬ s.pcieUp then s else if s.windowOk t then f s else { s.winErr with out := [0, 0] }

def execWindowPush (t : Fin 4096) (x : Item) (s : State) : Host.Outcome State Fault Refusal :=
  .next (s.window t.val (·.pushIn t.val x))

/-- The reader number under which a window waits and latches. -/
def windowReader (t : Nat) : Nat := 100 + t

/-- A pop by a reader that waits QWAIT on an empty queue (R314). -/
def State.popWait (s : State) (r i : Nat) : State :=
  if (s.queue i).readable then
    let (x, s) := s.popItem i
    s.popAnswer r x
  else { s with out := [], tn.waiting := s.tn.waiting.filter (fun w => decide (w.1 ≠ r)) ++ [(r, i)],
                     tn.waitT := Tab.set (fun _ => 0) s.tn.waitT r (s.now + us (min (s.fget F.Q_CFG_QWAIT) 100)) }

def execWindowPop (t : Fin 4096) (s : State) : Host.Outcome State Fault Refusal :=
  .next (s.window t.val fun s => s.popWait (windowReader t.val) (2 * t.val + 1))

def execOutopMark (t : Fin 4096) (s : State) : Host.Outcome State Fault Refusal :=
  .next (s.window t.val (·.queueOp (2 * t.val + 1) Queue.mark))
def execOutopRewind (t : Fin 4096) (s : State) : Host.Outcome State Fault Refusal :=
  .next (s.window t.val (·.queueOp (2 * t.val + 1) Queue.rewind))
def execOutopRelease (t : Fin 4096) (s : State) : Host.Outcome State Fault Refusal :=
  .next (s.window t.val (·.queueOp (2 * t.val + 1) Queue.release))

/-- PCIE_QUENCH, PCIE_GQ (R332). -/
def execPcieQuench (t : Fin 4096) (on discard : Bool) (s : State) : Host.Outcome State Fault Refusal :=
  .next (s.window t.val (·.quench on discard false t.val))
def execPcieGq (on : Bool) (s : State) : Host.Outcome State Fault Refusal :=
  .next (if s.pcieUp then s.setGQ on else s)

/-- OPENPUSH (R333): dropped while an OPEN is in progress or its reply waits. A frame that fails its check leaves the mailbox
free. -/
def State.openPush (s : State) (x : Item) : State :=
  if s.pcie.busy ∨ s.pcie.reply ≠ [] then s.finc F.PCIE_CNT_MBXBUSY
  else
    let m := s.pcie.mbox ++ [x]
    if itemEnd x then
      let b := msgBytes m
      let s := { s with pcie.mbox := [] }
      if frameOk b ∧ frameOp b = some 0x0001 then
        { s with pcie.busy := true, tn.openIn := s.tn.openIn ++ [(.pcie, 0, b)] }
      else s
    else { s with pcie.mbox := m }

def execOpenpush (x : Item) (s : State) : Host.Outcome State Fault Refusal := .next (if s.pcieUp then s.openPush x else s)

/-- OPENPOP: EMPTY when there is no reply. -/
def execOpenpop (s : State) : Host.Outcome State Fault Refusal :=
  .next (if ¬ s.pcieUp then s
    else match s.pcie.reply with
      | x :: r => { s with pcie.reply := r, out := [x.truncate 32, (x >>> 32).truncate 32] }
      | [] => { s with out := [0, 0] })

-- DMA (R335)

def dmaLen (n : Nat) : Nat := if n = 0 then 2 ^ 24 else n

def State.dmaGo (s : State) (n : Nat) : State :=
  if s.pcie.dma.contains n then s
  else { (s.fputB (F.DMA_CTL_DONE n) false).fputB (F.DMA_CTL_ERR n) false with pcie.dma := s.pcie.dma ++ [n] }

def execDmaGo (via : Via) (n : Fin 4) (s : State) : Host.Outcome State Fault Refusal :=
  .next (s.gated (.dmaGo via n) via 0x150 (0x08C + 16 * n.val) (·.dmaGo n.val))

/-- DMA_DONE: `host` is what the host's memory gave for a transfer into Comb; a transfer out of Comb gives its bytes. -/
def execDmaDone (n : Fin 4) (host : List Byte) (s : State) : Host.Outcome State Fault Refusal :=
  .next (if s.pcie.dma.contains n.val ∧ s.pcieUp then
      let k := dmaLen (s.fget (F.DMA_CTL_LEN n.val))
      let a := s.fget (F.DMA_CB_CADDR n.val)
      let s := { s with pcie.dma := s.pcie.dma.erase n.val }
      let s := if s.flag (F.DMA_CTL_DIR n.val) then s.combWrite 7 a ((host ++ List.replicate k 0).take k)
        else
          let (bs, _, s') := s.combRead 7 a k
          { s' with out := bytesWords bs }
      ((s.fputB (F.DMA_CTL_DONE n.val) true).evRise 0x150 1).msix 1
    else s)

/-- The link goes down, or the function is reset (R326, R336); after an FLR the link stays up. -/
def State.pcieDown (s : State) (flr : Bool) : State :=
  let s := s.pcie.dma.foldl (fun s n => s.fputB (F.DMA_CTL_ERR n) true) s
  let waiting := s.tn.waiting.filter fun w => decide (w.1 < 100)
  let openIn := s.tn.openIn.filter fun x => decide (x.1 ≠ .pcie)
  let s := { s with pcie := { s.pcie with dma := [], mbox := [], busy := false, reply := [] }, tn.waiting := waiting, tn.openIn := openIn }
  let s := if flr then s else ((s.fputB F.PCIE_LINK_UP false).fput F.PCIE_LINK_WIDTH 0).fput F.PCIE_LINK_GEN 0
  (s.evRise 0x150 0).clientLost .pcie 0

def execPcieLinkDown (flr : Bool) (s : State) : Host.Outcome State Fault Refusal :=
  .next (if s.pcieUp then s.pcieDown flr else s)

/-- PCIE_LINK_UP (R328): a link comes up with 1, 2 or 4 lanes at Gen1 to Gen4. -/
def execPcieLinkUp (width gen : BitVec 4) (s : State) : Host.Outcome State Fault Refusal :=
  .next (if s.portsOn ∧ ¬ s.flag F.PCIE_LINK_UP ∧ (width = 1 ∨ width = 2 ∨ width = 4) ∧ 1 ≤ gen.toNat ∧ gen.toNat ≤ 4 then
      ((s.fputB F.PCIE_LINK_UP true).fput F.PCIE_LINK_WIDTH width.toNat).fput F.PCIE_LINK_GEN gen.toNat
    else s)

-- USB (R338 to R342)

def State.usbUp (s : State) : Bool := s.portsOn && s.flag F.USB_STAT_VBUS

/-- Discard a control write that has not committed (R340). -/
def State.usbDiscard (s : State) : State :=
  match s.usb.held with
  | some _ => { s with usb.held := none }.finc F.USB_CNT_DISC
  | none => s

/-- A new control request, and its answer with STALL (R339). -/
def State.usbRequest (s : State) : State := { s.usbDiscard with usb.stall := false }
def State.usbStall (s : State) : State := { s with usb.stall := true }

/-- USB_REGWR (R339, R340): the words are held; a new SETUP discards what was held. A field outside its range is a STALL. -/
def execUsbRegwr (page : Fin 1024) (off : BitVec 12) (t : Half) (ws : List Word) (s : State) : Host.Outcome State Fault Refusal :=
  .next (if ¬ s.usbUp then s
    else
      let s := s.usbRequest
      if off.toNat % 4 ≠ 0 ∨ ws.length = 0 ∨ 64 < ws.length ∨ 4096 ≤ t.toNat then s.usbStall
      else { s with usb.held := some (page.val, off.toNat, t.toNat, ws) })

/-- USB_QUENCH: wValue [0] ON, [1] DISCARD, [2] ALL; wIndex the tenant. -/
def execUsbQuench (v t : Half) (s : State) : Host.Outcome State Fault Refusal :=
  .next (if ¬ s.usbUp then s
    else
      let s := s.usbRequest
      if 8 ≤ v.toNat ∨ 4096 ≤ t.toNat then s.usbStall
      else s.quench (v.getLsbD 0) (v.getLsbD 1) (v.getLsbD 2) t.toNat)

/-- USB_OPEN: the OPEN frame, at most 128 bytes. -/
def execUsbOpen (frame : List Byte) (s : State) : Host.Outcome State Fault Refusal :=
  .next (if ¬ s.usbUp then s
    else
      let s := s.usbRequest
      if 128 < frame.length then s.usbStall
      else if ¬ frameOk frame ∨ frameOp frame ≠ some 0x0001 then s
      else { s with tn.openIn := s.tn.openIn ++ [(.usb, 0, frame)] })

/-- OPENRD: the reply frame, or nothing. -/
def execOpenrd (s : State) : Host.Outcome State Fault Refusal :=
  .next (if ¬ s.usbUp then s
    else { s.usbRequest with usb.reply := [], out := s.usb.reply.map (fun (b : Byte) => b.zeroExtend 32) })

/-- PKT and CRED of a tenant. -/
def State.qstat (s : State) (t : Nat) : Word :=
  BitVec.ofNat 32 (min 0xFFFF (s.queue (2 * t + 1)).pkt * 65536 + min 0xFFFF (s.queue (2 * t)).cred)

def execQstat (t : Half) (s : State) : Host.Outcome State Fault Refusal :=
  .next (if ¬ s.usbUp then s
    else
      let s := s.usbRequest
      if 4096 ≤ t.toNat then s.usbStall else { s with out := [s.qstat t.toNat] })

/-- Rewind the message in flight on EP1 IN. -/
def State.ep1Rewind (s : State) : State :=
  match s.usb.ep1 with
  | some t => { s with usb.ep1 := none }.queueOp (2 * t + 1) Queue.rewind
  | none => s

/-- SET_CONFIGURATION (R326): 1 configures; 0 is a loss of the client; there is no other configuration. -/
def execSetConfiguration (v : Byte) (s : State) : Host.Outcome State Fault Refusal :=
  .next (if ¬ s.usbUp then s
    else
      let s := s.usbRequest
      if v = 1 then s.fputB F.USB_STAT_CONF true
      else if v = 0 then (s.ep1Rewind.fputB F.USB_STAT_CONF false).clientLost .usb 0
      else s.usbStall)

/-- The device's own state after a bus reset: default address, not configured (the bus standard's). -/
def State.usbDefault (s : State) : State := (s.ep1Rewind.fput F.USB_STAT_ADDR 0).fputB F.USB_STAT_CONF false

/-- USB_BUS_RESET (R340, R342). -/
def execUsbBusReset (s : State) : Host.Outcome State Fault Refusal :=
  .next (if s.usbUp then
      (((s.usbDiscard.usbDefault).fputB F.USB_STAT_HS true).finc F.USB_RST_CNT).evRise 0x151 0
    else s)

/-- VBUS is gone (R326). -/
def State.usbGone (s : State) : State :=
  let s := ((s.usbDiscard.usbDefault).fputB F.USB_STAT_HS false).fputB F.USB_STAT_VBUS false
  ({ s with usb.reply := [], tn.openIn := s.tn.openIn.filter fun x => decide (x.1 ≠ Port.usb) }.evRise 0x151 1).clientLost .usb 0

def execUsbDetach (s : State) : Host.Outcome State Fault Refusal := .next (if s.usbUp then s.usbGone else s)

/-- USB_ATTACH. -/
def execUsbAttach (s : State) : Host.Outcome State Fault Refusal :=
  .next (if s.portsOn then s.fputB F.USB_STAT_VBUS true else s)

/-- EP1_OUT_MESSAGE (R341): `whole` is false when the message ends in a packet whose length is no multiple of 8. -/
def execEp1OutMessage (items : List Item) (whole : Bool) (s : State) : Host.Outcome State Fault Refusal :=
  .next (if ¬ s.usbUp ∨ ¬ s.flag F.USB_STAT_CONF then s
    else
      let t := ((items.head?.getD 0).toNat / 65536) % 4096
      if ¬ whole ∨ ¬ s.boundTo t .usb 0 then s.finc F.USB_CNT_FERR
      else items.foldl (fun s x => s.pushIn t x) s)

/-- Start the next message on EP1 IN (R342): the queue is marked, and its items go out. -/
def State.ep1Start (s : State) : State :=
  match s.usb.ep1, s.turn s.usb.ep1rr (fun x => decide (x.port = .usb)) with
  | none, some t =>
    let s := s.queueOp (2 * t + 1) Queue.mark
    let (m, q) := (s.queue (2 * t + 1)).nextMsg
    { (s.putQueue (2 * t + 1) q).touch (2 * t + 1) with usb.ep1 := some t, usb.ep1rr := t,
                                                        out := (msgBytes m).map (fun (b : Byte) => b.zeroExtend 32) }
  | _, _ => s

/-- EP1_IN_ACK: the last packet of the message in flight is acknowledged, and the next message starts. -/
def execEp1InAck (s : State) : Host.Outcome State Fault Refusal :=
  .next (if ¬ s.usbUp ∨ ¬ s.flag F.USB_STAT_CONF then s
    else
      let s := s.ep1Start
      match s.usb.ep1 with
      | some t => ({ s with usb.ep1 := none }.queueOp (2 * t + 1) Queue.release).ep1Start
      | none => s)

-- SPI frames (R345)

/-- C: outbound bytes waiting for SPI tenants. -/
def State.spiWaiting (s : State) : Nat :=
  let q (i : Nat) : Nat :=
    let x := s.queue i
    ((x.redo.map (fun e => itemNB e.2)) ++ x.cur.map itemNB ++ x.ready.flatten.map itemNB).sum
  s.spi.tx.length + ((s.tn.tenants.filter fun e => e.2.live && decide (e.2.port = .spi)).map fun e => q (2 * e.1 + 1)).sum +
    ((s.tn.openOut.filter fun x => decide (x.1 = .spi)).map fun x => x.2.2.length).sum

/-- FWR. -/
def execFwr (mode3 : Bool) (bytes : List Byte) (s : State) : Host.Outcome State Fault Refusal :=
  .next (if ¬ s.portsOn then s
    else
      let rx := s.spi.rx ++ bytes
      let (fs, bad, rest) := frameScan (rx.length + 1) rx
      ({ s with spi.rx := rest }.receiveAll .spi 0 fs bad).fputB F.SPI_STAT_MODE3 mode3)

/-- Bytes of the next frame for the port. -/
def State.spiNext (s : State) : Option State :=
  match s.takeOpenOut fun x => decide (x.1 = .spi) with
  | some (x, s) => some { s with spi.tx := x.2.2 }
  | none => (s.turn s.spi.rr (fun x => decide (x.port = .spi))).map fun t =>
      let (bs, s) := s.takeMsg t
      { s with spi.tx := bs, spi.rr := t }

/-- Clock out up to `n` bytes. -/
def State.spiOut : Nat → State → List Byte × State
  | 0, s => ([], s)
  | n + 1, s =>
    match s.spi.tx with
    | b :: r =>
      let (bs, s') := State.spiOut n { s with spi.tx := r }
      (b :: bs, s')
    | [] =>
      match s.spiNext with
      | some s1 => match s1.spi.tx with
        | b :: r =>
          let (bs, s') := State.spiOut n { s1 with spi.tx := r }
          (b :: bs, s')
        | [] => ([], s1)
      | none => ([], s)

/-- FRD: C, then `n` bytes clocked; those past C read 0. -/
def execFrd (mode3 : Bool) (n : Nat) (s : State) : Host.Outcome State Fault Refusal :=
  .next (if ¬ s.portsOn then s
    else
      let c := min 0xFFFF s.spiWaiting
      let (bs, s) := State.spiOut (min n c) s
      let res := (bs ++ List.replicate (n - bs.length) 0).map (fun (b : Byte) => b.zeroExtend 32)
      { s.fputB F.SPI_STAT_MODE3 mode3 with out := BitVec.ofNat 32 c :: res })

/-- SPI_QUENCH (R346). -/
def State.spiQuench (s : State) (v : Word) : State :=
  if v.getLsbD 31 then s.quench (v.getLsbD 16) (v.getLsbD 17) (v.getLsbD 18) (v.toNat % 4096) else s

def execSpiQuench (via : Via) (v : Word) (s : State) : Host.Outcome State Fault Refusal :=
  .next (s.gated (.spiQuench via v) via 0x152 0x044 (·.spiQuench v))

-- xSPI (R347, R348)

/-- XS_CMD: nothing while a command runs; OP 1 READ, 2 PROGRAM, 3 and 4 ERASE. -/
def State.xsCmd (s : State) (op : Nat) : State :=
  if op = 0 ∨ 4 < op then s
  else if s.flag F.XS_STAT_BUSY then s.fault 0x15C 0
  else { s.fputB F.XS_STAT_BUSY true with
    xspi.cmd := some (op, s.fget F.XS_FADDR_A, s.fget F.XS_CADDR_A, s.fget F.XS_LEN_N) }

def execXspiRead (via : Via) (s : State) : Host.Outcome State Fault Refusal := .next (s.gated (.xspiRead via) via 0x15C 0x040 (·.xsCmd 1))
def execXspiProgram (via : Via) (s : State) : Host.Outcome State Fault Refusal := .next (s.gated (.xspiProgram via) via 0x15C 0x040 (·.xsCmd 2))
def execXspiErase4k (via : Via) (s : State) : Host.Outcome State Fault Refusal := .next (s.gated (.xspiErase4k via) via 0x15C 0x040 (·.xsCmd 3))
def execXspiErase64k (via : Via) (s : State) : Host.Outcome State Fault Refusal := .next (s.gated (.xspiErase64k via) via 0x15C 0x040 (·.xsCmd 4))

/-- Program bytes into the flash: a NOR cell can only be cleared. -/
def State.flashProgram (s : State) (a : Nat) : List Byte → State
  | [] => s
  | b :: r =>
    let f := Tab.set flashDefault s.xspi.flash a (b &&& Tab.get flashDefault s.xspi.flash a)
    State.flashProgram { s with xspi.flash := f } (a + 1) r

def State.flashErase (s : State) (a n : Nat) : State :=
  { s with xspi.flash := Tab.clear (fun k => decide (a ≤ k ∧ k < a + n)) s.xspi.flash }

/-- What a command does to flash and Comb: RESULT and state. PROGRAM takes whole 256-byte pages. -/
def State.xsWork (s : State) (op fa ca n : Nat) : Nat × State :=
  let size := s.fget F.XS_STAT_MIB * 2 ^ 20
  let blk := if op = 3 then 4096 else 65536
  if 3 ≤ op then
    if fa < size then (0, s.flashErase (fa / blk * blk) blk) else (2, s)
  else if size < fa + n ∨ (op = 2 ∧ (fa % 256 ≠ 0 ∨ n % 256 ≠ 0)) then (2, s)
  else if op = 1 then
    let bs := s.flashBytes fa n
    (0, (s.combWrite 0 ca bs).fput F.XS_CRC (crc32c bs))
  else
    let (bs, _, s) := s.combRead 0 ca n
    (0, (s.flashProgram fa bs).fput F.XS_CRC (crc32c bs))

/-- XSPI_DONE: the command completes; `err` is a device error. -/
def execXspiDone (err : Bool) (s : State) : Host.Outcome State Fault Refusal :=
  .next (match s.xspi.cmd with
    | none => s
    | some (op, fa, ca, n) =>
      let s := { s.fputB F.XS_STAT_BUSY false with xspi.cmd := none }
      let (res, s) := if err then (1, s) else s.xsWork op fa ca n
      (s.fput F.XS_STAT_RESULT res).evRise 0x15C (if res = 0 then 0 else 1))

end Sys2Proof.Machine
end

