-- ==== Sys2Proof/Machine/Uart.lean ====
section
/-! DEFINITION. The serial ports (18: R349 to R367): characters in and out, breaks, flow control, escaping, frames, the
management bus, and the checks of register writes; and the monitor's line editor (R369, R372). -/

namespace Sys2Proof.Machine

def uPage (u : Nat) : Nat := 0x158 + u

def State.uart (s : State) (u : Nat) : UartSt := Tab.get (fun _ => {}) s.uarts u
def State.setUart (s : State) (u : Nat) (x : UartSt) : State := { s with uarts := Tab.set (fun _ => {}) s.uarts u x }
def State.updUart (s : State) (u : Nat) (f : UartSt → UartSt) : State := s.setUart u (f (s.uart u))

def umRAW : Nat := 0
def umFRAME : Nat := 1
def umMONITOR : Nat := 2
def umBUS : Nat := 3

def State.uMode (s : State) (u : Nat) : Nat := s.fget (F.U_CTL_MODE u)
def State.uFramed (s : State) (u : Nat) : Bool := s.uMode u = umFRAME ∨ s.uMode u = umBUS
/-- Characters are received and sent. -/
def State.uOn (s : State) (u : Nat) : Bool := s.portsOn && s.flag (F.U_CTL_EN u) && !s.flag (F.U_STAT_BYPHOLD u)

def uPort (u : Nat) : Port := .uart ⟨u % 4, Nat.mod_lt u (by decide)⟩

-- U_ERR bits: 7 TXOVF, 6 COLL, 5 BRK, 4 NOISE, 3 NE, 2 PE, 1 FE, 0 OVR

/-- Set U_ERR bits; RXERR is raised when the first of FE, PE and NE sets. -/
def State.uErr (s : State) (u m : Nat) : State :=
  let was := s.fget (F.U_ERR_E u)
  (s.fput (F.U_ERR_E u) (was ||| m)).when (decide (was &&& 14 = 0 ∧ m &&& 14 ≠ 0)) (·.evRise (uPage u) 0)

-- rate limits (R351, R352)

/-- Is the rate above what BYPCLK can time? -/
def State.uFast (s : State) (u : Nat) : Bool :=
  decide ((if s.flag (F.U_CTL_SYNC u) then 24000000 else 3000000) < s.fget (F.U_BAUD_RATE u))

/-- While BYP = 1 a UART set above its limit is held, its partial frame gone; one set within it runs (R352). -/
def State.uBypass (s : State) (u : Nat) : State :=
  if ¬ s.byp then s
  else if s.portsOn ∧ s.flag (F.U_CTL_EN u) ∧ s.uFast u then
    if s.flag (F.U_STAT_BYPHOLD u) then s
    else ((s.updUart u fun x => { x with rx := [], esc := false }).fputB (F.U_STAT_BYPHOLD u) true).evRise (uPage u) 0
  else s.fputB (F.U_STAT_BYPHOLD u) false

def State.uResume (s : State) (u : Nat) : State := s.fputB (F.U_STAT_BYPHOLD u) false

-- the monitor's lines (R369, R372)

def isHex (b : Byte) : Bool := decide ((0x30 ≤ b.toNat ∧ b.toNat ≤ 0x39) ∨ (0x41 ≤ b.toNat ∧ b.toNat ≤ 0x46) ∨ (0x61 ≤ b.toNat ∧ b.toNat ≤ 0x66))
def hexVal (b : Byte) : Nat := if b.toNat ≤ 0x39 then b.toNat - 0x30 else b.toNat % 32 + 9

/-- Bytes of a line of hexadecimal digits; none for an odd number of digits or another character. -/
def hexLine : List Byte → Option (List Byte)
  | [] => some []
  | [_] => none
  | a :: b :: r => if isHex a && isHex b then (hexLine r).map (BitVec.ofNat 8 (16 * hexVal a + hexVal b) :: ·) else none

def ascii (t : String) : List Byte := t.toList.map fun c => BitVec.ofNat 8 c.toNat

/-- Print characters on the monitor. -/
def State.print (s : State) (bs : List Byte) : State := { s with mon.out := s.mon.out ++ bs }
def State.printLine (s : State) (t : String) : State := s.print (ascii t ++ [0x0D, 0x0A])

def errName (n : Nat) : String := ["", "SYNTAX", "RANGE", "LOCKED", "NOTSVC", "CRC", "BUSY", "REFUSED"].getD n ""

/-- End a command's output: OK, or ERR n NAME; then the prompt. -/
def State.monEnd (s : State) (err : Nat) : State :=
  (s.printLine (if err = 0 then "OK" else "ERR " ++ toString err ++ " " ++ errName err)).print (ascii "L> ")

/-- A line is whole: data of a load, or a command for the Warden. -/
def State.monLine (s : State) : State :=
  let l := s.mon.line
  let long := s.mon.long
  let s := { s with mon := { s.mon with line := [], long := false } }
  if long then { s with mon.load := none }.monEnd 1
  else match s.mon.load with
    | none => s
    | some (n, crc, got) =>
      if l.length < 2 then { s with mon.load := none }.monEnd 1
      else match hexLine l with
        | some bs => { s with mon.load := some (n, crc, got ++ bs) }
        | none => { s with mon.load := none }.monEnd 1

/-- Input has come to the monitor: the 10 minutes of R371 start again. -/
def State.heard (s : State) : State := { s with mon.inT := s.now }

/-- A character for the line editor; it is echoed. -/
def State.monChar (s : State) (b : Byte) : State :=
  let s := s.heard
  let m := s.mon
  if b = 0x0A ∧ m.cr then { s with mon.cr := false }
  else
    let s := ({ s with mon.cr := decide (b = 0x0D) }).print [b]
    if b = 0x0D ∨ b = 0x0A then s.monLine
    else if b = 0x08 ∨ b = 0x7F then { s with mon.line := m.line.dropLast }
    else if m.line.length < 128 then { s with mon.line := m.line ++ [b] }
    else { s with mon.long := true }

-- transmission (R356, R361, R362, R367)

/-- Escape the bytes of a frame (R363). -/
def escaped (on : Bool) (b : List Byte) : List Byte :=
  if on then b.flatMap fun x => if x = 0x11 ∨ x = 0x13 ∨ x = 0x7D then [0x7D, x ^^^ 0x20] else [x] else b


/-- The characters of a frame to client `c`: in BUS mode the address character goes first. -/
def State.frameChars (s : State) (u c : Nat) (b : List Byte) : List (BitVec 9) :=
  let cs := (escaped (s.flag (F.U_FLOW_ESC u)) b).map (·.zeroExtend 9)
  if s.uMode u = umBUS then BitVec.ofNat 9 (256 + devAddr s * 16 + c % 8) :: cs else cs

/-- Take the next frame of the UART's tenants in turn. -/
def State.uNextFrame (s : State) (u : Nat) : State :=
  let set (s : State) (cs : List (BitVec 9)) (rr : Nat) : State :=
    s.updUart u fun x => { x with frame := cs, whole := cs, tries := 0, rr := rr }
  match s.takeOpenOut fun x => decide (x.1 = uPort u) with
  | some (x, s) => set s (s.frameChars u x.2.1 x.2.2) (s.uart u).rr
  | none => match s.turn (s.uart u).rr (fun x => decide (x.port = uPort u)) with
    | some t =>
      let c := (s.tenant t).client
      let (b, s) := s.takeMsg t
      set s (s.frameChars u c b) t
    | none => s

/-- BAUD and FRAME take effect after the OK line (R370). -/
def State.monApply (s : State) : State :=
  let m := s.mon
  let s := match m.rate with | some r => s.fput (F.U_BAUD_RATE 0) r | none => s
  let s := if m.toFrame then s.fput (F.U_CTL_MODE 0) umFRAME else s
  { s with mon := { s.mon with rate := none, toFrame := false } }

/-- The next character to send, with the state after it has been taken: a generated XON or XOFF goes out first, whatever has been
received (R362). -/
def State.uNext (s : State) (u : Nat) : Option (BitVec 9 × State) :=
  if ¬ s.uOn u then none
  else if let some b := (s.uart u).gen then some (b.zeroExtend 9, s.updUart u fun x => { x with gen := none })
  else if s.flag (F.U_STAT_XOFFRX u) then none
  else if s.uMode u = umRAW then
    (s.uart u).hold.map fun c => (c, (s.updUart u fun x => { x with hold := none }).fputB (F.U_STAT_TXE u) true)
  else if s.uMode u = umMONITOR then
    match s.mon.out with
    | b :: r => some (b.zeroExtend 9, if r = [] then { s with mon.out := r }.monApply else { s with mon.out := r })
    | [] => none
  else if (s.uart u).retry then none
  else
    let s := if (s.uart u).frame = [] then s.uNextFrame u else s
    match (s.uart u).frame with
    | c :: r => some (c, s.updUart u fun x => { x with frame := r })
    | [] => none

-- the character on the line (R353, R354, R359)

/-- DBITS, and the number m of bits before the first stop bit. -/
def State.uDbits (s : State) (u : Nat) : Nat := s.fget (F.U_FMT_DBITS u)
def State.uM (s : State) (u : Nat) : Nat := 1 + s.uDbits u + (if s.fget (F.U_FMT_PAR u) = 0 then 0 else 1)

/-- The parity bit over the data bits: 1 even, 2 odd (R359). -/
def State.uParity (s : State) (u : Nat) (data : List Bool) : Bool :=
  (data.foldl xor false) ^^ decide (s.fget (F.U_FMT_PAR u) = 2)

/-- The bits of a character as sent: start, data least significant first, parity, stop. -/
def State.charBits (s : State) (u : Nat) (c : BitVec 9) : List Bool :=
  let data := (List.range (s.uDbits u)).map fun i => c.getLsbD i
  false :: data ++ (if s.fget (F.U_FMT_PAR u) = 0 then [] else [s.uParity u data]) ++
    (if s.flag (F.U_FMT_STOP2 u) then [true, true] else [true])

/-- Load the shifter when it is free, with the character's bits under the settings of this boundary (R351); DE is asserted with the first character, whose start edge then waits for LEAD (R361). -/
def State.uLoad (s : State) (u : Nat) : State :=
  if (s.uart u).shift.isSome then s
  else match s.uNext u with
    | some (c, s) =>
      let lead := if s.flag (F.U_FLOW_DEEN u) ∧ ¬ s.flag (F.U_STAT_DE u) then s.fget (F.U_FLOW_LEAD u) else 0
      let s := (s.updUart u fun x => { x with shift := some c, lead := lead, bits := s.charBits u c }).fputB (F.U_STAT_TXIDLE u) false
      if s.flag (F.U_FLOW_DEEN u) then s.fputB (F.U_STAT_DE u) true else s
    | none => s.fputB (F.U_STAT_TXIDLE u) ((s.uart u).hold.isNone)

/-- A write of U_TX. -/
def State.uTx (s : State) (u : Nat) (c : BitVec 9) : State :=
  if s.uMode u ≠ umRAW then s
  else if (s.uart u).hold.isSome then s.uErr u 128
  else
    let s := (((s.updUart u fun x => { x with hold := some c }).fputB (F.U_STAT_TXE u) false).fputB (F.U_STAT_TXIDLE u) false)
    s.uLoad u

def execUTx (via : Via) (u : Fin 4) (data : BitVec 9) (s : State) : Host.Outcome State Fault Refusal :=
  .next (s.gated (.uTx via u data) via (uPage u.val) 0x05C (·.uTx u.val data))

/-- A collision in single-wire mode (R366, R367): the frame is abandoned, to be sent again, or after 8 attempts dropped. -/
def State.uCollide (s : State) (u : Nat) : State :=
  let s := (s.uErr u 64).evRise (uPage u) 3
  if s.uMode u ≠ umBUS then s
  else
    let x := s.uart u
    if 8 ≤ x.tries + 1 then
      (s.setUart u { x with frame := [], whole := [], tries := 0, retry := false }).finc (F.U_CNT2_COLLDROP u)
    else s.setUart u { x with frame := [], tries := x.tries + 1, retry := true }

/-- A collision (R366): a 1 sent reads back 0 at its centre. -/
def collided (sent back : List Bool) : Bool := (sent.zip back).any fun x => x.1 && !x.2

/-- What stands on the line: after a collision the transmitter sends ones. -/
def onLine : List Bool → List Bool → List Bool
  | [], _ => []
  | b :: r, [] => b :: r
  | b :: r, x :: y => if b && !x then b :: r.map fun _ => true else b :: onLine r y

/-- UART_CHAR_SENT: the character in the shifter, or the next one when it is empty, has gone out; `back`: what the transmitter of a
single wire has read back bit by bit (R366). The answer is the character and its bits on the line, the start bit first. -/
def execUartCharSent (u : Fin 4) (back : List Bool) (s : State) : Host.Outcome State Fault Refusal :=
  let n := u.val
  let s := s.uLoad n
  .next (match (s.uart n).shift with
    | none => s
    | some c =>
      let sent := (s.uart n).bits
      let half := s.flag (F.U_CTL_HALF n)
      let wire := if half then onLine sent back else sent
      let bits := wire.zipIdx.foldl (fun v x => if x.1 then v + 2 ^ x.2 else v) 0
      let s := { s.updUart n fun x => { x with shift := none } with out := [c.zeroExtend 32, BitVec.ofNat 32 bits] }
      let s := if half && collided sent back then s.uCollide n else s
      s.uLoad n)

/-- DE_RELEASE (R361): `since` sixteenths of a bit after the last stop bit, when nothing is left to send. -/
def execDeRelease (u : Fin 4) (since : Nat) (s : State) : Host.Outcome State Fault Refusal :=
  .next (if (s.uart u.val).shift.isNone ∧ (s.uart u.val).hold.isNone ∧ s.fget (F.U_FLOW_TAIL u.val) ≤ since then
      s.fputB (F.U_STAT_DE u.val) false
    else s)

/-- BUS_RETRY (R367): once the line has been high for `high` bit times, 12 + 2 x DEVADDR or more, the whole frame again, address
character first. -/
def execBusRetry (high : Nat) (s : State) : Host.Outcome State Fault Refusal :=
  .next (if (s.uart 3).retry ∧ 12 + 2 * devAddr s ≤ high then
      (s.updUart 3 fun x => { x with frame := x.whole, retry := false }).uLoad 3
    else s)

-- reception (R353 to R363)

/-- A character as the receiver takes it from the line. -/
structure Rcvd where
  data : BitVec 9
  fe : Bool
  pe : Bool
  ne : Bool
  falseStart : Bool
  deriving DecidableEq, Repr

/-- Bit `k` of a character, and whether its three samples disagree: the majority of ticks 16k + 7 to 16k + 9, or in synchronous mode the
one sample of the bit (R353, R365). -/
def lineBit (sync : Bool) (line : List Bool) (k : Nat) : Bool × Bool :=
  if sync then (line.getD k true, false)
  else
    let a := line.getD (16 * k + 7) true
    let b := line.getD (16 * k + 8) true
    let c := line.getD (16 * k + 9) true
    ((a && b) || (a && c) || (b && c), !(a == b && b == c))

/-- The character in a line sampled from its start edge on (R353, R354, R359). -/
def State.uTake (s : State) (u : Nat) (line : List Bool) : Rcvd :=
  let sync := s.flag (F.U_CTL_SYNC u)
  let m := s.uM u
  let bit (k : Nat) : Bool := (lineBit sync line k).1
  let data := (List.range (s.uDbits u)).map fun i => bit (i + 1)
  { data := BitVec.ofNat 9 (data.zipIdx.foldl (fun v x => if x.1 then v + 2 ^ x.2 else v) 0),
    fe := !bit m,
    pe := decide (s.fget (F.U_FMT_PAR u) ≠ 0) && (bit (m - 1) != s.uParity u data),
    ne := (List.range (m + 1)).any fun k => (lineBit sync line k).2,
    falseStart := !sync && bit 0 }

/-- Does an address character match (R360)? -/
def addrMatch (addr mask : Nat) (bcast : Bool) (c : Nat) : Bool :=
  decide (c &&& mask = addr &&& mask) || (bcast && c.testBit 3)

def State.uMatch (s : State) (u c : Nat) : Bool :=
  addrMatch (s.fget (F.U_ADDR_ADDR u)) (s.fget (F.U_ADDR_MASK u)) (s.flag (F.U_ADDR_BCAST u)) (c % 256)

/-- Put a character into the receive holding register (R356, R357); TAG is BK, OV, NE, PE, FE. -/
def State.uHold (s : State) (u data tag : Nat) : State :=
  let full := s.flag (F.U_STAT_RXF u)
  let s := if full then ((s.uErr u 1).finc (F.U_CNT2_OVRN u)).evRise (uPage u) 1 else s
  let tag := if s.flag (F.U_CTL_CAPT u) then tag + (if full then 8 else 0) else 0
  (((s.fput (F.U_RX_DATA u) data).fput (F.U_RX_TAG u) tag).fputB (F.U_STAT_RXF u) true)

/-- The client behind a character: each peer in BUS mode, else the UART's one client. -/
def State.uClient (s : State) (u : Nat) : Nat := if s.uMode u = umBUS then (s.uart u).peer else 0

/-- The rights of a QUENCH that the port applies itself (R320, R364). -/
def quenchRight (t : Nat) (b : List Byte) : Bool :=
  t = 0 || (!(b.getD 10 0).getLsbD 2 && decide (ofLe ((b.drop 12).take 4) % 4096 = t))

/-- A whole frame with good CRC (R364): a priority QUENCH is applied at once and enters the queue at priority 3. -/
def State.uFrame (s : State) (u : Nat) (b : List Byte) : State :=
  let armed := (s.uart u).armed
  let s := s.updUart u fun x => { x with armed := false }
  let c := s.uClient u
  let t := frameTenant b
  let s :=
    if armed ∧ frameOp b = some 0x0005 ∧ b.length = 20 ∧ s.boundTo t (uPort u) c ∧ quenchRight t b then
      let a := b.getD 10 0
      (s.quench (a.getLsbD 0) (a.getLsbD 1) (a.getLsbD 2) (ofLe ((b.drop 12).take 4) % 4096)).receiveFrame (uPort u) c 3 b
    else s.receiveFrame (uPort u) c (classPri (frameCls b)) b
  if s.uMode u = umBUS then s.fputB (F.U_STAT_MUTE u) true else s

/-- A byte for the frame engine. -/
def State.uByte (s : State) (u : Nat) (b : Byte) : State :=
  let x := s.uart u
  let rx := x.rx ++ [b]
  let (fs, bad, rest) := frameScan (rx.length + 1) rx
  let s := s.setUart u { x with rx := rest, armed := x.armed && decide (bad = 0) }
  let s := (List.replicate bad ()).foldl (fun s _ => s.portFerr (uPort u)) s
  fs.foldl (fun s f => s.uFrame u f) s

/-- A data byte in FRAME or BUS mode, with escaping undone. -/
def State.uFramed_ (s : State) (u : Nat) (b : Byte) : State :=
  if s.flag (F.U_FLOW_ESC u) then
    if (s.uart u).esc then (s.updUart u fun x => { x with esc := false }).uByte u (b ^^^ 0x20)
    else if b = 0x7D then s.updUart u fun x => { x with esc := true }
    else if b = 0x11 ∨ b = 0x13 then s
    else s.uByte u b
  else s.uByte u b

/-- A byte enters the 256-byte receive buffer; how many leave it meanwhile is the engine's pace, which the spec does not give (log
entry 98). XOFF is generated above 192, XON below 64 (R362). -/
def State.uFill (s : State) (u : Nat) : State :=
  let (v, s) := s.draw 9
  let n := (s.uart u).buf + 1
  let n := min 256 (n - v % (n + 1))
  let s := s.updUart u fun x => { x with buf := n }
  let say (s : State) (off : Bool) : State :=
    (((s.updUart u fun x => { x with gen := some (if off then 0x13 else 0x11) }).fputB (F.U_STAT_XOFFTX u) off)).uLoad u
  if ¬ s.flag (F.U_FLOW_XGEN u) then s
  else if 192 < n ∧ ¬ s.flag (F.U_STAT_XOFFTX u) then say s true
  else if n < 64 ∧ s.flag (F.U_STAT_XOFFTX u) then say s false
  else s

/-- Deliver a good character according to MODE; an address character names the peer in BUS mode. -/
def State.uDeliver (s : State) (u : Nat) (data : BitVec 9) (tag : Nat) : State :=
  let addr := s.flag (F.U_FMT_ADDR9 u) && data.getLsbD 8
  if s.uMode u = umRAW then s.uHold u data.toNat tag
  else if s.uMode u = umMONITOR then (s.uFill u).monChar (data.truncate 8)
  else if addr then
    if s.uMode u = umBUS then s.updUart u fun x => { x with peer := data.toNat / 16 % 8 } else s
  else (s.uFill u).uFramed_ u (data.truncate 8)

/-- Address handling (R360) and flow control (R362) before delivery. -/
def State.uAccept (s : State) (u : Nat) (data : BitVec 9) (tag : Nat) : State :=
  let addr := s.flag (F.U_FMT_ADDR9 u) && data.getLsbD 8
  if addr ∧ s.flag (F.U_ADDR_MUTEEN u) then
    if s.uMatch u data.toNat then (s.fputB (F.U_STAT_MUTE u) false).uDeliver u data tag
    else s.fputB (F.U_STAT_MUTE u) true
  else if s.flag (F.U_FLOW_XREC u) ∧ ¬ addr ∧ (data = 0x11 ∨ data = 0x13) then
    (s.fputB (F.U_STAT_XOFFRX u) (decide (data = 0x13))).uLoad u
  else s.uDeliver u data tag

/-- A character completes (R353, R354, R356, R360). -/
def State.uReceived (s : State) (u : Nat) (x : Rcvd) : State :=
  let addr := s.flag (F.U_FMT_ADDR9 u) && x.data.getLsbD 8
  if s.flag (F.U_STAT_MUTE u) ∧ s.flag (F.U_ADDR_MUTEEN u) ∧ ¬ addr then s
  else
    let b (x : Bool) (n : Nat) := if x then n else 0
    let s := s.uErr u (b x.fe 2 + b x.pe 4 + b x.ne 8)
    if (x.fe || x.pe) && !s.flag (F.U_CTL_CAPT u) then s.finc (F.U_CNT_CHERR u)
    else s.uAccept u x.data (b x.fe 1 + b x.pe 2 + b x.ne 4)

/-- Does the receiver ignore its line (R352, R361)? -/
def State.uDeaf (s : State) (u : Nat) : Bool := !s.uOn u || (s.flag (F.U_CTL_RXOFFDE u) && s.flag (F.U_STAT_DE u))

/-- UART_CHAR_RECEIVED: the line sampled at the ticks, or in synchronous mode at the bits, from a start edge on. A false start forms no
character (R353). -/
def execUartCharReceived (u : Fin 4) (line : List Bool) (s : State) : Host.Outcome State Fault Refusal :=
  let x := s.uTake u.val line
  .next (if s.uDeaf u.val then s
    else if x.falseStart then s.uErr u.val 16
    else s.uReceived u.val x)

/-- BREAK (R357, R358, R364). -/
def State.uBreak (s : State) (u : Nat) : State :=
  let s := (((s.uErr u 32).evRise (uPage u) 2).fputB (F.U_STAT_BRKON u) true).fputB (F.U_STAT_LINE u) false
  let framed := s.uFramed u
  let s := s.updUart u fun x => { x with rx := [], esc := false, armed := framed }
  let s := (s.fputB (F.U_STAT_XOFFRX u) false).uLoad u
  if s.flag (F.U_CTL_CAPT u) then (s.uErr u 2).uHold u 0 17 else s

/-- BREAK: the line has been low for `low` bit times from a start edge, at least 2 x (m + 1) (R358). -/
def execUartBreak (u : Fin 4) (low : Nat) (s : State) : Host.Outcome State Fault Refusal :=
  .next (if ¬ s.uDeaf u.val ∧ 2 * (s.uM u.val + 1) ≤ low then s.uBreak u.val else s)

/-- BREAK_END (R358). -/
def execUartBreakEnd (u : Fin 4) (s : State) : Host.Outcome State Fault Refusal :=
  .next ((s.fputB (F.U_STAT_BRKON u.val) false).fputB (F.U_STAT_LINE u.val) true)

/-- U_RX read by a core for itself (R27): the word read, and the register empty after. -/
def State.uPop (s : State) (u : Nat) : Word × State :=
  if s.flag (F.U_STAT_RXF u) then
    (s.reg (F.U_RX_DATA u).addr ||| 0x80000000, (s.setReg (F.U_RX_DATA u).addr 0).fputB (F.U_STAT_RXF u) false)
  else (0, s)

def execURx (c : Core) (u : Fin 4) (s : State) : Host.Outcome State Fault Refusal :=
  .next (if ¬ s.domPowered 1 ∨ s.boot.dead then s
    else s.holdRead (.uRx c u) (uPage u.val) fun s =>
      if s.domPowered 2 then
        let (w, s) := s.uPop u.val
        { s with out := [w] }
      else { s.fault (uPage u.val) faultUNPWR with out := [0] })

-- register writes (R349, R351, R359, R365, R366)

/-- U_CTL: BADMODE for a mode the UART lacks, BADFMT for BUS without ADDR9; a refused write changes nothing. Bits of modes
the UART lacks read 0. -/
def State.uCtl (s : State) (u : Nat) (v : Word) : State :=
  let mode := v.toNat / 2 % 4
  if (mode = umMONITOR ∧ u ≠ 0) ∨ (mode = umBUS ∧ u ≠ 3) then s.fault (uPage u) 0
  else if mode = umBUS ∧ ¬ s.flag (F.U_FMT_ADDR9 u) then s.fault (uPage u) 2
  else
    let v := if u = 1 ∨ u = 2 then v else v &&& ~~~(0x20 : Word)
    let v := if u = 3 then v else v &&& ~~~(0x40 : Word)
    ((s.store (uPage u) 0x040 v).uBypass u).uLoad u

/-- U_BAUD within the range of R351. -/
def State.uBaud (s : State) (u : Nat) (v : Word) : State :=
  let r := v.toNat % 2 ^ 26
  let sync := s.flag (F.U_CTL_SYNC u)
  if (sync ∧ (r < 1000 ∨ 40000000 < r)) ∨ (¬ sync ∧ (r < 300 ∨ 12000000 < r)) then s.fault (uPage u) 1
  else (s.store (uPage u) 0x044 v).uBypass u

def State.uFmt (s : State) (u : Nat) (v : Word) : State :=
  let dbits := v.toNat % 16
  let a9 := v.getLsbD 7
  if dbits < 5 ∨ 9 < dbits ∨ v.toNat / 16 % 4 = 3 ∨ (a9 ∧ dbits ≠ 9) ∨ (s.uMode u = umBUS ∧ ¬ a9) then s.fault (uPage u) 2
  else s.store (uPage u) 0x048 v

end Sys2Proof.Machine
end

