-- ==== Sys2Proof/Machine/Penholt.lean ====
section
/-! DEFINITION. Penholt (24: R441 to R453): ports and training, slots, control words, topology, the time master and its
followers. Port 0 is east, 1 is west. -/

namespace Sys2Proof.Machine

def phPage : Nat := 0x180
def penIdx (west : Bool) : Nat := if west then 1 else 0
def penPortOf (w : Nat) : Port := if w = 0 then .penEast else .penWest

def State.penOn (s : State) : Bool := s.domPowered 36 && s.flag F.PH_CTL_EN

/-- A port changes state (LINK); its slots' streams follow. -/
def State.setPort (s : State) (w st : Nat) : State :=
  if s.penState w = st then s
  else (((s.fput (F.PP_STAT_STATE w) st).updPen w fun x => { x with fails := 0 }).evRise phPage 0).streamsUpdate

-- sending (R445)

/-- Send the next frame of a Penholt tenant whose peer lies out of port `w` as DATA words. -/
def State.penPull (s : State) (w : Nat) : State :=
  match s.turn 4095 (fun x => isPen x.port && decide (s.penRoute x.client = w)) with
  | some t =>
    let c := (s.tenant t).client
    let (b, s) := s.takeMsg t
    (chunks 7 b).foldl (fun s x => s.penForward w 7 c (devAddr s) x) s
  | none =>
    match s.takeOpenOut fun x => isPen x.1 && decide (s.penRoute x.2.1 = w) with
    | some (x, s) => (chunks 7 x.2.2).foldl (fun s b => s.penForward w 7 x.2.1 (devAddr s) b) s
    | none => s

-- GROUP and DATA (R445)

/-- DATA bytes for this device go to its frame engine; the client is the source device. -/
def State.penData (s : State) (w src : Nat) (bs : List Byte) : State :=
  let rx := Tab.get (fun _ => []) s.pen.rx src ++ bs
  let (fs, bad, rest) := frameScan (rx.length + 1) rx
  { s with pen.rx := Tab.set (fun _ => []) s.pen.rx src rest }.receiveAll (penPortOf w) src fs bad

def State.penGroup (s : State) (src : Nat) (bs : List Byte) : State :=
  { s with pen.group := Tab.set (fun _ => []) s.pen.group src (Tab.get (fun _ => []) s.pen.group src ++ bs) }

/-- A GROUP or DATA word that came in by port `w`: for another device it goes out of the other port. -/
def State.penWord (s : State) (w ct tgt src : Nat) (bs : List Byte) : State :=
  if tgt ≠ devAddr s then s.penForward (1 - w) ct tgt src bs
  else if ct = 7 then s.penData w src bs
  else s.penGroup src bs

def State.penUp (s : State) (w : Nat) (f : State → State) : State := if s.penOn ∧ s.penState w = ptUP then f s else s

def execGroup (west : Bool) (target src : Fin 8) (bytes : List Byte) (s : State) : Host.Outcome State Fault Refusal :=
  .next (s.penUp (penIdx west) (·.penWord (penIdx west) 6 target.val src.val (bytes.take 7)))

def execData (west : Bool) (target src : Fin 8) (bytes : List Byte) (s : State) : Host.Outcome State Fault Refusal :=
  .next (s.penUp (penIdx west) (·.penWord (penIdx west) 7 target.val src.val (bytes.take 7)))

-- link frames and training (R441 to R443)

/-- CRC-8 of a link frame, most significant bit first (R441). -/
def crc8 (bs : List Byte) : Byte :=
  bs.foldl (fun (r : Byte) b => (List.range 8).foldl (fun (r : Byte) _ => if r.msb then (r <<< 1) ^^^ 7 else r <<< 1) (r ^^^ b)) 0

/-- A whole frame whose CRC passes. -/
def linkOk (f : List Byte) : Bool := decide (f.length = 256) && decide (crc8 (f.take 255) = f.getD 255 0)
def linkByte (f : List Byte) (i : Nat) : Nat := (f.getD i 0).toNat
/-- FLAGk: the word, its flag, first, last and HOPS. -/
def linkFlag (f : List Byte) (k : Nat) : Nat := ofLe ((f.drop (232 + 2 * k)).take 2)
def flagOf (v : Nat) : Nat := min 2 (v / 2 ^ 14)
def flagFirst (v : Nat) : Nat := v / 2 ^ 8 % 64
def flagHops (v : Nat) : Nat := v / 2 ^ 6 % 4 + 1
def flagLast (v : Nat) : Nat := v % 64

/-- The level a code of 2 or 4 bits stands for (R119). -/
def codeLevel (b c : Nat) : Int := 2 * (c : Int) - (2 ^ b - 1 : Nat)

/-- Slot `k` of a good frame (R441, R442): its stream's samples stand in the bytes of the sender's ticks D j, the others hold none. -/
def State.slotSamples (s : State) (w k : Nat) (f : List Byte) : List (Option Smp) :=
  let b := railBits (min 1 (s.fget (F.PP_SLOT_WIDTH w k)))
  let d := 2 ^ s.fget (F.PP_SLOT_DECIM w k)
  let v := linkFlag f k
  (List.range 33).map fun j =>
    if (33 * linkByte f 0 + j) % d ≠ 0 then none
    else
      let fl := if flagFirst v ≤ j ∧ j ≤ flagLast v then flagOf v else 0
      let c := linkByte f (1 + 33 * k + j)
      some (if fl = 0 then ⟨codeLevel b (c % 2 ^ b), codeLevel b (c / 2 ^ b % 2 ^ b), 0⟩ else ⟨0, 0, fl⟩)

/-- Slot `k` of a frame whose CRC fails: every sample due is INVALID. -/
def State.slotBad (s : State) (w k : Nat) : List (Option Smp) :=
  let d := 2 ^ s.fget (F.PP_SLOT_DECIM w k)
  (List.range 33).map fun j => if (33 * ((s.penPort w).fseq + 1) + j) % d = 0 then some ⟨0, 0, 2⟩ else none

/-- A frame's slots are kept for their streams, ten frames back, with INVALID noted per slot. -/
def State.penSlots (s : State) (w tick : Nat) (slots : List (List (Option Smp))) : State :=
  let inval := slots.map fun l => l.any fun y => y.any fun y => decide (y.fl = 2)
  (s.updPen w fun x => { x with inval := inval, frames := (⟨tick, slots⟩ :: x.frames).take 10 }).streamsUpdate

/-- A stream that would forward a slot received at HOPS = 4 (R453). -/
def State.hopCheck (s : State) : State :=
  s.when ((List.range 24).any fun m => s.strRun m && s.hopLimit m && !(s.flag (PG_FAULT phPage 1)))
    fun s => (s.fault phPage 1).evRise phPage 2

/-- A good frame: slots, HOPS, and a GROUP or DATA word; the other control words have commands of their own. -/
def State.linkGood (s : State) (w tick : Nat) (f : List Byte) : State :=
  let s := s.updPen w fun x => { x with fails := 0, fseq := linkByte f 0 }
  let s := (s.penSlots w tick ((List.range 7).map fun k => s.slotSamples w k f))
  let s := ((List.range 7).foldl (fun s k => if s.flag (F.PP_SLOT_VALID w k) then s.fput (F.PP_SLOT_HOPS w k) (flagHops (linkFlag f k)) else s) s).hopCheck
  let ct := linkByte f 246 % 16
  let cw := ofLe ((f.drop 247).take 8)
  if ct = 6 ∨ ct = 7 then s.penWord w ct (cw / 2 ^ 61) (cw / 2 ^ 58 % 8) (leBytes 7 cw) else s

/-- A frame whose CRC fails; the sixteenth in a row makes the port train (R443). -/
def State.linkBad (s : State) (w tick : Nat) : State :=
  let n := (s.penPort w).fails + 1
  let bad := (List.range 7).map (s.slotBad w)
  let s := ((s.finc (F.PP_CNT_CRCERR w)).updPen w fun x => { x with fails := n, fseq := (x.fseq + 1) % 256 }).penSlots w tick bad
  if 16 ≤ n then s.setPort w ptTRAIN else s

/-- LINK_FRAME_RECEIVE: 256 bytes, whose first tick's samples take this device's sample tick `tick`, the nearest in Sky Clock time
(R453). -/
def execLinkFrameReceive (west : Bool) (tick : Nat) (frame : List Byte) (s : State) : Host.Outcome State Fault Refusal :=
  let w := penIdx west
  .next (s.penUp w fun s => if linkOk frame then s.linkGood w tick frame else s.linkBad w tick)

/-- TRAINING_DONE: the words that waited go out, GROUP before DATA. In bypass the lanes stand still (R97, R99). -/
def State.trained (s : State) (w : Nat) : State :=
  if s.penOn ∧ ¬ s.byp ∧ s.penState w = ptTRAIN then
    let q := (s.penPort w).queue
    let q := q.filter (fun x => decide (x.1 = 6)) ++ q.filter (fun x => decide (x.1 ≠ 6))
    let s := (s.updPen w fun x => { x with queue := [], inval := [] }).setPort w ptUP
    q.foldl (fun s x => s.penSend w x.1 (busWord x.2.1 x.2.2.1 x.2.2.2)) s
  else s

def execTrainingDone (west : Bool) (s : State) : Host.Outcome State Fault Refusal := .next (s.trained (penIdx west))

/-- RETRAIN: PP_CTL.RETRAIN. -/
def State.retrain (s : State) (w : Nat) : State := if s.flag F.PH_CTL_EN ∧ ¬ s.byp then s.setPort w ptTRAIN else s

def execRetrain (via : Via) (west : Bool) (s : State) : Host.Outcome State Fault Refusal :=
  .next (s.gated (.retrain via west) via (0x181 + penIdx west) 0x040 (·.retrain (penIdx west)))

/-- BLOCK_LOCK_LOSS: the port goes DOWN and trains. -/
def execBlockLockLoss (west : Bool) (s : State) : Host.Outcome State Fault Refusal :=
  .next (if s.penOn ∧ s.penState (penIdx west) ≠ ptDOWN then
      (s.setPort (penIdx west) ptDOWN).setPort (penIdx west) ptTRAIN
    else s)

/-- Bypass stops the lanes; at its end they train (R97, R452). -/
def State.penBypass (s : State) : State := (s.setPort 0 ptDOWN).setPort 1 ptDOWN
def State.penReturn (s : State) : State := if s.penOn then (s.retrain 0).retrain 1 else s

-- CTRL (R446)

/-- The source client may quench its own tenants; the client of tenant 0 any or all (R320). -/
def State.ctrlRight (s : State) (w c : Nat) (all : Bool) (t : Nat) : Bool :=
  s.boundTo 0 (penPortOf w) c || (!all && s.boundTo t (penPortOf w) c)

/-- CTRL: a retrain request, or a quench. -/
def execCtrl (west : Bool) (client : Fin 8) (retrain on discard all : Bool) (t : Fin 4096) (s : State) :
    Host.Outcome State Fault Refusal :=
  let w := penIdx west
  .next (s.penUp w fun s =>
    if retrain then s.retrain w
    else if s.ctrlRight w client.val all t.val then s.quench on discard all t.val else s)

-- topology (R448)

/-- PH_TOPO and RING from what both ports know; this device is present while its ports are on. -/
def State.topo (s : State) : State :=
  let e := (s.penPort 0).hops.map Prod.fst
  let w := (s.penPort 1).hops.map Prod.fst
  let all := (List.range 8).filter fun d => decide (d = devAddr s) || e.contains d || w.contains d
  let s := s.fput F.PH_TOPO_PRES (all.foldl (fun a d => a + 2 ^ d) 0)
  s.fputB F.PH_STAT_RING (e.any fun d => decide (d ≠ devAddr s) && w.contains d)

/-- Hops to the master, over the better port. -/
def State.masterHops (s : State) : State :=
  let m := s.fget F.PH_STAT_MASTER
  s.fput F.PH_STAT_HOPS (if s.penRole = rlMASTER then 0 else ((s.penHops (s.penRoute m) m).getD 0))

/-- SYNC has been silent for 2 s (R449, R452). -/
def State.syncSilent (s : State) : Bool := decide (s.pen.syncT.getD 0 + 2 * sec ≤ s.now)

/-- The master is device `d` now. -/
def State.setMaster (s : State) (d role : Nat) : State :=
  let s := { s with pen.elect := false }
  let change := decide (s.fget F.PH_STAT_MASTER ≠ d) || (decide (s.penRole = rlMASTER) != decide (role = rlMASTER))
    || decide (s.penRole = rlNONE)
  let s := (((s.fput F.PH_STAT_MASTER d).fput F.PH_STAT_ROLE role).masterHops).when change (·.evRise phPage 1)
  s.when (s.follower && s.scOn) (·.setF fsNOFIX)

/-- Does this device take the device at `addr`, which says it serves, for its master? A serving master yields to a lower address at once;
a follower keeps its master until SYNC has been silent for 2 s (R449, R452). -/
def State.follows (s : State) (addr : Nat) : Bool :=
  if s.penRole = rlMASTER then decide (addr < devAddr s)
  else decide (s.penRole = rlNONE ∨ s.fget F.PH_STAT_MASTER = addr) || s.pen.elect || s.syncSilent

/-- HELLO: a neighbour with this device's own address keeps the port DOWN. -/
def State.hello (s : State) (w addr role : Nat) (hops : List (Nat × Nat)) : State :=
  if addr = devAddr s then ((s.fault phPage 0).evRise phPage 2).setPort w ptDOWN
  else
    let s := s.updPen w fun x => { x with hops := (addr, 0) :: hops.filter fun h => decide (h.1 ≠ addr ∧ h.1 ≠ devAddr s) }
    let s := ((s.fputB (F.PP_STAT_NBRV w) true).fput (F.PP_STAT_NBR w) addr).topo
    if role = rlMASTER ∧ s.follows addr then s.setMaster addr rlFOLLOWER else s.masterHops

def execHello (west : Bool) (addr : Fin 8) (_masteren : Bool) (role : Fin 3) (hops : List (Fin 8 × Fin 8)) (s : State) :
    Host.Outcome State Fault Refusal :=
  .next (if s.penOn then s.hello (penIdx west) addr.val role.val (hops.map fun h => (h.1.val, h.2.val)) else s)

/-- SLOTDESC (R442, R453): `cald` is RF_CALD of the path behind the slot, `tofs` the slot's tick offset, both in ps. -/
def State.slotDesc (s : State) (w k dev str : Nat) (word : Word) (cald hops : Nat) (tofs : Int) : State :=
  let s := s.updPen w fun x => { x with cald := Tab.set (fun _ => 0) x.cald k cald }
  let s := ((s.fputB (F.PP_SLOT_VALID w k) true).fput (F.PP_SLOT_SRCDEV w k) dev).fput (F.PP_SLOT_SRCSTR w k) str
  let s := (s.fput (F.PP_SLOT_WIDTH w k) (word.toNat / 2 ^ 23 % 4)).fput (F.PP_SLOT_DECIM w k) (word.toNat / 2 ^ 21 % 4)
  (((s.fput (F.PP_SLOT_HOPS w k) hops).fput (F.PP_TOFS w k) (unsigned 32 tofs)).streamsUpdate).hopCheck

def execSlotdesc (west : Bool) (slot : Fin 7) (srcdev : Fin 8) (srcstr : Fin 24) (str : Word) (cald : Half) (hops : Fin 8)
    (tofs : Int) (s : State) : Host.Outcome State Fault Refusal :=
  .next (s.penUp (penIdx west) (·.slotDesc (penIdx west) slot.val srcdev.val srcstr.val str cald.toNat hops.val tofs))

/-- PEER_LOST (R445): a device not heard for 1 s is a lost client, and leaves the topology. -/
def State.peerLost (s : State) (d : Nat) : State :=
  let drop (s : State) (w : Nat) : State :=
    let s := s.updPen w fun x => { x with hops := x.hops.filter fun h => decide (h.1 ≠ d) }
    if s.fget (F.PP_STAT_NBR w) = d then s.fputB (F.PP_STAT_NBRV w) false else s
  (((drop (drop s 0) 1).topo).clientLost .penEast d).clientLost .penWest d

def execPeerLost (d : Fin 8) (s : State) : Host.Outcome State Fault Refusal :=
  .next (if s.penOn then s.peerLost d.val else s)

-- time (R449 to R452)

/-- MASTER_CLAIM: no SYNC pulse for 2 s + DEVADDR x 100 ms. -/
def State.masterClaim (s : State) : State :=
  if s.penOn ∧ s.flag F.PH_CTL_MASTEREN ∧ s.penRole ≠ rlMASTER ∧
      (s.pen.syncT.getD 0) + ms (2000 + 100 * devAddr s) ≤ s.now then
    let s := if s.skyState = skFOLLOW then s.skyEnter skHOLDOVER else s
    s.setMaster (devAddr s) rlMASTER
  else s

def execMasterClaim (s : State) : Host.Outcome State Fault Refusal := .next s.masterClaim

/-- SYNC_PULSE: driven by the master at a whole second, seen by every other device. -/
def execSyncPulse (s : State) : Host.Outcome State Fault Refusal :=
  .next (if s.penOn then { s with pen.elect := s.pen.elect || s.syncSilent, pen.syncT := some s.now } else s)

def psOf (t : Int) : Int := t * 1000000000000 / sec
def ofPs (p : Int) : Int := p * sec / 1000000000000

/-- Is port `w` the one TIME words are taken from: nearer the master, or the other gives none (R451)? -/
def State.timePort (s : State) (w : Nat) : Bool :=
  let m := s.fget F.PH_STAT_MASTER
  let other := 1 - w
  let dead := decide (s.penState other ≠ ptUP) || ((s.penPort other).timeT.all fun t => decide (t + ms 10 ≤ s.now))
  decide (s.penRoute m = w) || dead

/-- TIME: `t` is the master time of the word, whole (TIMEHI and TIMELO). -/
def State.timeWord (s : State) (w t : Nat) : State :=
  let s := s.updPen w fun x => { x with timeT := some s.now }
  if s.penRole = rlMASTER ∨ ¬ s.timePort w then s
  else
    let mt : Int := (t : Int) + ofPs (s.fget (F.PP_DELAY_PS w))
    let off : Int := (s.now : Int) - mt
    let m := mt.toNat * 2 ^ 32
    let s := if s.follower then s else ((s.fput F.PH_STAT_ROLE rlFOLLOWER).masterHops).when s.scOn (·.setF fsNOFIX)
    let s := s.fput F.PH_OFS (unsigned 32 (psOf off))
    let s := s.timeInput true off (s.masterBase m) ((40 * s.fget F.PH_STAT_HOPS + 999) / 1000)
    { s with sky.master := some (m, s.sky.smp) }

def execTime (west : Bool) (t : BitVec 96) (s : State) : Host.Outcome State Fault Refusal :=
  .next (s.penUp (penIdx west) (·.timeWord (penIdx west) t.toNat))

/-- Neither port has delivered a TIME word for 10 ms. -/
def State.masterSilent (s : State) : Bool :=
  [0, 1].all fun w => !s.penOn || (s.penPort w).timeT.all fun t => decide (t + ms 10 ≤ s.now)

/-- MASTER_LOSS (R452). -/
def execMasterLoss (s : State) : Host.Outcome State Fault Refusal :=
  .next (if s.skyState = skFOLLOW ∧ s.masterSilent then s.skyEnter skHOLDOVER else s)

/-- DELAY_REQ_TIMER: each port that is UP sends a REQ. -/
def State.delayReq (s : State) (w : Nat) : State :=
  if s.penOn ∧ s.penState w = ptUP then
    let n := ((s.penPort w).dseq + 1) % 65536
    (s.updPen w fun x => { x with dseq := n, dwait := true }).penSend w 3 [0, n]
  else s

def execDelayReqTimer (s : State) : Host.Outcome State Fault Refusal := .next ((s.delayReq 0).delayReq 1)

/-- DELAY_REQ: answered with the sequence and the turnaround t3 - t2 in ps. -/
def execDelayReq (west : Bool) (seq : Half) (t2 t3 : BitVec 96) (s : State) : Host.Outcome State Fault Refusal :=
  .next (s.penUp (penIdx west)
    (·.penSend (penIdx west) 3 [1, seq.toNat, unsigned 32 (psOf ((t3.toNat : Int) - t2.toNat))]))

/-- DELAY_RSP: the mean one-way delay of the last 64 exchanges. -/
def State.delayRsp (s : State) (w seq : Nat) (t1 t4 : Nat) (turn : Int) : State :=
  let x := s.penPort w
  if x.dwait ∧ x.dseq = seq then
    let d := (psOf ((t4 : Int) - t1) - turn) / 2
    let l := (d :: x.delays).take 64
    (s.setPenPort w { x with dwait := false, delays := l }).fput (F.PP_DELAY_PS w) (unsigned 24 (roundDiv l.sum l.length))
  else s

def execDelayRsp (west : Bool) (seq : Half) (t1 t4 : BitVec 96) (turn : Int) (s : State) : Host.Outcome State Fault Refusal :=
  .next (s.penUp (penIdx west) (·.delayRsp (penIdx west) seq.toNat t1.toNat t4.toNat turn))

/-- A write of PH_CTL: EN starts training, or takes the ports down and this device out of the group. -/
def State.phCtl (s : State) (v : Word) : State :=
  let was := s.flag F.PH_CTL_EN
  let s := s.store phPage 0x040 v
  if v.getLsbD 0 ∧ ¬ was then
    (({ s with pen.syncT := some s.now }.topo).retrain 0).retrain 1
  else if was ∧ ¬ v.getLsbD 0 then
    let s := { s with pen := {} }.penBypass
    (((s.fput F.PH_TOPO_PRES 0).fput F.PH_STAT_ROLE rlNONE).fput F.PH_STAT_HOPS 0).fputB F.PH_STAT_RING false
  else s

end Sys2Proof.Machine
end

