-- ==== Sys2Proof/Machine/Clk.lean ====
section
/-! DEFINITION. Clocks (05: R88 to R98): lock and reference of the two PLLs, the switch to BYPCLK and back, the
resume point, and the clock outputs. -/

namespace Sys2Proof.Machine

-- CLKOUT0 to CLKOUT3 (R94, R95)

/-- The setting in force on an output; an active value copied by a commit takes force at CLKOUT_APPLY. -/
def State.clkForce (s : State) (n : Nat) : Word := Tab.get (fun _ => 0x10000) s.sieve.clkout n

def ckFmt (w : Word) : Nat := w.toNat / 256 % 8
def ckRef (w : Word) : Bool := w.getLsbD 0
def ckSquelch (w : Word) : Bool := w.getLsbD 16

/-- The output waits for its new FMT or SRC, held inactive (R95). -/
def State.clkWaits (s : State) (n : Nat) : Bool :=
  let f := s.clkForce n
  decide (ckFmt f ≠ s.fget (F.CLKOUT_CFG_FMT n).act) || decide (ckRef f ≠ s.flag (F.CLKOUT_CFG_SRC n).act)

/-- Held by squelch: AUX-sourced, SQUELCH = 1 and the AUX PLL unlocked (R94). -/
def State.clkSquelched (s : State) (n : Nat) : Bool :=
  let f := s.clkForce n
  decide (ckFmt f ≠ 0) && !ckRef f && ckSquelch f && !s.flag F.AUX_STAT_LOCK

def State.clkRuns (s : State) (n : Nat) : Bool :=
  let f := s.clkForce n
  decide (ckFmt f ≠ 0) && !s.clkWaits n &&
    (if ckRef f then s.flag F.CLK_STAT_REFOK else s.flag (PG_EN 0x011) && !s.clkSquelched n)

/-- CLKOUT_STAT follows the settings in force, the reference and the AUX PLL. -/
def State.clkOuts (s : State) : State :=
  (List.range 4).foldl (fun s n =>
    (s.fputB (outBit F.CLKOUT_STAT_RUN n) (s.clkRuns n)).fputB (outBit F.CLKOUT_STAT_SQ n) (s.clkSquelched n)) s

/-- CLKOUT_APPLY (R95): each output takes its active setting. -/
def execClkoutApply (s : State) : Host.Outcome State Fault Refusal :=
  let s := (List.range 4).foldl (fun (s : State) n =>
    let t := Tab.set (fun _ => 0x10000) s.sieve.clkout n (s.reg ((F.CLKOUT_CFG_FMT n).addr + 0x800))
    { s with sieve.clkout := t }) s
  .next s.clkOuts

-- the AUX PLL (R92, R94)

/-- AUX_STAT.LOCK falls and AUXUNLOCK is raised. -/
def State.auxLost (s : State) : State :=
  if s.flag F.AUX_STAT_LOCK then ((s.fputB F.AUX_STAT_LOCK false).evRise 0x011 0).clkOuts else s.clkOuts

/-- AUX_UNLOCK. -/
def execAuxUnlock (s : State) : Host.Outcome State Fault Refusal := .next s.auxLost

/-- AUX_LOCK (R92): the PLL is enabled, and comparisons are made only while the reference is present (R90). -/
def execAuxLock (s : State) : Host.Outcome State Fault Refusal :=
  .next (if s.flag (PG_EN 0x011) ∧ s.boot.sampled ∧ s.flag F.CLK_STAT_REFOK ∧ ¬ s.flag F.AUX_STAT_LOCK then
      ((s.fputB F.AUX_STAT_LOCK true).evRise 0x011 1).clkOuts
    else s)

-- the switch to BYPCLK (R96, R97)

/-- The B domains go to BYPCLK: SRC = AON, samples flagged, NCOs frozen, jobs stopped, gaps opened, lanes stopped,
divisors derived again. -/
def State.doBypass (s : State) : State :=
  if s.byp then s
  else
    let s := { (s.fputB F.CLK_STAT_BYP true) with tio.swT := some s.now }.toAon
    let s := ({ s with sieve.flagging := true }.streamsUpdate).dfBypass
    let s := ((s.hiveBypass.scarabBypass).arBypass).penBypass
    (List.range 4).foldl (fun s u => s.uBypass u) s

/-- MASTER_UNLOCK (R90, R96): LOCK falls. -/
def execMasterUnlock (s : State) : Host.Outcome State Fault Refusal :=
  .next (if s.flag F.CLK_STAT_LOCK then
      { ((((s.fputB F.CLK_STAT_LOCK false).finc F.CLK_CNT_UNLOCK).evRise 0x010 0).doBypass) with sieve.cmpIn := false }
    else s)

/-- The AUX PLL on loss of reference: it holds, and its lock is lost with the comparisons (R90, R94). When HOLD clears is not
stated: in the model it is set only when the PLL is enabled at the loss, and stands until the reference returns (log entry 85). -/
def State.auxHold (s : State) : State :=
  if s.flag (PG_EN 0x011) then (s.fputB F.AUX_STAT_HOLD true).auxLost else s.clkOuts

/-- REFERENCE_LOSS (R90, R96): the fall of LOCK it forces is neither raised nor counted. -/
def execReferenceLoss (s : State) : Host.Outcome State Fault Refusal :=
  .next (if s.flag F.CLK_STAT_REFOK then
      let s := ((s.fputB F.CLK_STAT_REFOK false).fputB F.CLK_STAT_LOCK false)
      let s := (s.finc F.CLK_CNT_REFLOSS).evRise 0x010 1
      (s.doBypass.rfRefLoss).auxHold
    else s)

/-- CLK_CTL.FORCEBYP (R96): every effect of a loss of lock except the count and the event. -/
def State.forceByp (s : State) (on : Bool) : State :=
  let s := s.fputB F.CLK_CTL_FORCEBYP on
  if on then s.doBypass else s

def execForcebyp (via : Via) (on : Bool) (s : State) : Host.Outcome State Fault Refusal :=
  .next (s.guarded via 0x010 0x044 (·.forceByp on))

/-- REFERENCE_RETURN (R90): REFOK is set at the first edge; the AUX PLL no longer holds. -/
def execReferenceReturn (s : State) : Host.Outcome State Fault Refusal :=
  .next (if s.domPowered 1 ∧ ¬ s.flag F.CLK_STAT_REFOK then
      (((s.fputB F.CLK_STAT_REFOK true).fputB F.AUX_STAT_HOLD false).rfRefReturn).clkOuts
    else s)

/-- MASTER_LOCK (R90): 64 comparisons within 1 ns, made once the PLL has started and while REFOK = 1. -/
def execMasterLock (s : State) : Host.Outcome State Fault Refusal :=
  .next (if s.boot.sampled ∧ s.flag F.CLK_STAT_REFOK then { (s.fputB F.CLK_STAT_LOCK true) with sieve.cmpIn := true } else s)

/-- What the ball LOCK_AN is driven to (R91). -/
inductive AnLevel where
  | vdda
  | ground
  | floating
  deriving DecidableEq, Repr

/-- LOCK_AN (R91): driven by the last comparison; to ground before the PLL starts and while no comparison is made; floating while
MGMT is off. -/
def State.lockAn (s : State) : AnLevel :=
  if ¬ s.domPowered 1 ∨ s.boot.dead then .floating
  else if ¬ s.boot.sampled ∨ ¬ s.flag F.CLK_STAT_REFOK then .ground
  else if s.sieve.cmpIn then .vdda
  else .ground

/-- BYPASS_RETURN (R98): LOCK has stood for QUAL ms, REFOK = 1 and FORCEBYP = 0. -/
def execBypassReturn (s : State) : Host.Outcome State Fault Refusal :=
  .next (if s.byp ∧ s.flag F.CLK_STAT_LOCK ∧ s.flag F.CLK_STAT_REFOK ∧ ¬ s.flag F.CLK_CTL_FORCEBYP then
      let s := { (s.fputB F.CLK_STAT_BYP false) with tio.swT := some s.now }.evRise 0x010 2
      ((((List.range 4).foldl (fun s u => s.uResume u) s).penReturn).jobSelect).dfStat
    else s)

/-- RESUME_POINT (R97): the first dump-grid boundary at or after SRC = SAMPLE. -/
def execResumePoint (s : State) : Host.Outcome State Fault Refusal :=
  .next (if ¬ s.byp ∧ ¬ s.srcAON ∧ s.sieve.flagging then
      ((({ s with sieve.flagging := false }).streamsUpdate).hiveResume).scarabResume
    else s)

end Sys2Proof.Machine
end

