-- ==== Sys2Proof/Machine/PowerSeq.lean ====
section
/-! DEFINITION. Power domains going off and coming back, the thermal flags, the always-on domain and the reset of device
scope (20: R386 to R398, R483; 21: R409 to R411; 03: R48, R64; 18: R368). ENTRY_ABORT_POINT is in Held.lean, since
the end of an entry serves the commands held back. -/

namespace Sys2Proof.Machine

-- what a domain holds (R381)

/-- Is register address `a` a block register that lies in domain `d`? -/
def inDom (d a : Nat) : Bool := decide (0x040 ≤ a % 4096 ∧ pageDom (a / 4096) = d) && !isSleepReg a

/-- The RW and RWS bits of a register, or of an active value: what retention saves (R386). -/
def retBits (a : Nat) : Word :=
  match findPage (a / 4096) with
  | none => 0
  | some (r, _, _) => match findReg r.regs (a % 4096) with
    | some (d, _) => d.bits .RW ||| d.bits .RWS
    | none => match findReg r.regs (a % 4096 - 0x800) with
      | some (d, _) => d.bits .RWS
      | none => 0

/-- AP2: the RW and RWS values go to the retention area. -/
def State.retain (s : State) (d : Nat) : State :=
  let t := Tab.clear (inDom d) s.pwr.ret
  let t := s.regs.foldl (fun t x => if inDom d x.1 then
      Tab.set regReset t x.1 ((regReset x.1 &&& ~~~(retBits x.1)) ||| (x.2 &&& retBits x.1)) else t) t
  { s with pwr := { s.pwr with ret := t, retOk := Tab.set (fun _ => false) s.pwr.retOk d true } }

def State.forget (s : State) (d : Nat) : State :=
  let r := Tab.clear (inDom d) s.pwr.ret
  { s with pwr := { s.pwr with ret := r, retOk := Tab.set (fun _ => false) s.pwr.retOk d false } }

/-- The registers of a domain at reset. -/
def State.clearRegs (s : State) (d : Nat) : State := { s with regs := Tab.clear (inDom d) s.regs }

/-- R388: registers return with their saved values. TPULSE and EVTIN return to reset (R481, R482). -/
def State.restore (s : State) (d : Nat) : State :=
  s.pwr.ret.foldl (fun s x =>
    if inDom d x.1 ∧ x.1 / 4096 ≠ 0x113 ∧ x.1 / 4096 ≠ 0x114 then s.setReg x.1 x.2 else s) s

-- the contents of a domain are lost

/-- HOSTIO: links and ports; the flash is outside the part. -/
def State.hostioLost (s : State) : State :=
  let old := s
  let s := if s.pcieUp then s.pcieDown false else s
  let s := if old.usbUp then s.usbGone else s
  { s with pcie := {}, usb := {}, spi := {}, xspi.cmd := none, uarts := [] }

/-- One Hive: channels, code store, copies, and its Weevil as by a reset of its domain (R288, R388). -/
def State.hiveLost (s : State) (h : Nat) : State :=
  let ch (k : Nat) : Bool := decide (k / 64 = h)
  let hive := { s.hive with chans := Tab.clear ch s.hive.chans, store := Tab.clear (fun k => decide (k / 2 ^ 18 = h)) s.hive.store,
                            loaded := Tab.clear (fun k => decide (k / 1024 = h)) s.hive.loaded,
                            codeAt := Tab.clear (fun k => decide (k / 1024 = h)) s.hive.codeAt,
                            csOut := s.hive.csOut.filter (fun d => !ch d.2.ch),
                            copies := Tab.clear (fun k => decide (k = h)) s.hive.copies }
  let wv := { s.wv with cores := Tab.clear (fun k => decide (k = h)) s.wv.cores, loads := Tab.clear (fun k => decide (k = h)) s.wv.loads }
  { s with hive := hive, wv := wv }.fputB ⟨F.UC_SEAL_V.addr, h, 1⟩ false

/-- A Comb quarter: its contents are undefined afterwards; the model reads zero (log entry 17). -/
def State.combLost (s : State) (q : Nat) : State :=
  { s with comb := Tab.clear (fun a => decide (a / 2 ^ 22 = q)) s.comb, ecc := Tab.clear (fun w => decide (w / 2 ^ 20 = q)) s.ecc }

/-- RO, WO and W1C fields, state machines and memories of domain `d` return to reset (R388). -/
def State.domLost (s : State) (d : Nat) : State :=
  let old := s
  if d = 2 then s.hostioLost.clearRegs 2
  else if 3 ≤ d ∧ d ≤ 10 then
    let s := s.calAbandon (d - 3)
    ({ s with rf.paths := Tab.clear (fun k => decide (k = d - 3)) s.rf.paths }.clearRegs d).streamsUpdate
  else if d = 11 then
    let x : SieveSt := { cmpIn := s.sieve.cmpIn, clkout := s.sieve.clkout, flagging := s.sieve.flagging }
    (({ s with sieve := x }.clearRegs d).streamsUpdate).streamsChanged old
  else if d = 12 then s.dfLost.clearRegs d
  else if 13 ≤ d ∧ d ≤ 28 then (s.hiveLost (d - 13)).clearRegs d
  else if d = 29 then { s with scarab := {} }.clearRegs d
  else if 31 ≤ d ∧ d ≤ 33 then s.combLost (d - 30)
  else if d = 34 then ({ s with cp := { fails := s.cp.fails, barred := s.cp.barred, root := s.cp.root } }.clearRegs d).newChallenge
  else if d = 35 then { s with ar := {} }.clearRegs d
  else if d = 36 then { s with pen := {} }.clearRegs d
  else if d = 37 then
    let s := ((s.tpReset false).evReset).clearRegs d
    { s with tio := { s.tio with sendQ := [], cross := [], good := 0, gapSeen := false, zf := 0, incAcc := 0, incCnt := 0, incSecs := [], stSec := none, stHeld := false } }
  else s

-- off and on again (R386 to R388)

/-- AP4: the rail is off; a count above 0 by then wakes the domain at once (R483). -/
def State.domOff (s : State) (d : Nat) : State :=
  ((((s.domLost d).setDom d dOFF).finc (F.PW_CNT_ENTRIES d)).evRise 0x004 1).domFollow d

/-- An entry is abandoned: the domain is as it was, the copy discarded. -/
def State.domAbandon (s : State) (d : Nat) : State :=
  (((s.forget d).setDom d dON).finc (F.PW_CNT_ABAND d)).evRise 0x004 2

/-- The Warden loads a domain's base registers with the addresses of R295. -/
def State.loadBases (s : State) (d : Nat) : State :=
  if d = 11 then s.fput F.SM_ADDR_ADDR (0x880000 / 64)
  else if 13 ≤ d ∧ d ≤ 28 then s.fput (F.HV_CSBASE_V (d - 13)) ((0x580000 + 4096 * (d - 13)) / 64)
  else if d = 29 then s.fput F.SC_SOLB_ADDR (0x590000 / 64)
  else if d = 30 then (s.fput F.GA_FBASE_V 0x40).fput F.GA_NFR_V 8
  else s

/-- What a domain's blocks do when they run again with their saved settings; without any, the running image loads the
base registers. -/
def State.domStart (s : State) (d : Nat) (copy : Bool) : State :=
  let s := if ¬ copy ∧ s.fget F.SYS_BOOT_STATE = 1 then s.loadBases d else s
  if d = 2 then
    let s := (s.fput F.XS_STAT_MIB Config.flashMib).fputB F.XS_STAT_SDR Config.flashSdr
    if copy then s else s.fput (F.U_ADDR_ADDR 3) (devAddr s)
  else if 3 ≤ d ∧ d ≤ 10 then
    let s := (s.arrayM).antFlt
    if s.rf.start.isSome ∧ Config.rfConfigured (d - 3) then s.rfReq (d - 3) 3 else s.rfAdvance (d - 3)
  else if d = 11 then s.streamsUpdate
  else if d = 12 then s.dfStat.serveRequests 64
  else if 13 ≤ d ∧ d ≤ 28 then (s.fputB (F.WV_STAT_RUNNING (d - 13)) (s.flag (F.WV_CTL_RUN (d - 13)))).pinSlots (d - 13)
  else if d = 29 then s.vcUpdate
  else if d = 32 then s.loadCodeTable
  else if d = 36 then (if s.penOn then ({ s with pen.syncT := some s.now }.topo.retrain 0).retrain 1 else s)
  else s

/-- The end of WAKING (R387, R388): the rail is on, saved values are back, DOMON is raised; a count of 0 starts entry. -/
def State.domOn (s : State) (d : Nat) : State :=
  let copy := Tab.get (fun _ => false) s.pwr.retOk d
  let s := s.setDom d dON
  let s := if copy then (s.restore d).forget d else s
  ((s.domStart d copy).evRise 0x004 0).domFollow d

/-- DOMAIN_WAKE_DONE (R387). -/
def execDomainWakeDone (d : Fin 38) (s : State) : Host.Outcome State Fault Refusal :=
  .next (if s.domState d.val = dWAKING then s.domOn d.val else s)

/-- A vote through the engine, with the allocator's part in a withdrawal (R16, R384). -/
def State.engineVote (s : State) (d c : Nat) (cast : Bool) : State :=
  let had := s.voted d c
  let s := s.vote d c cast
  if ¬ cast ∧ had ∧ votable d ∧ c < 4099 ∧ c ≠ ALLOCATOR then s.allocLeave d else s

/-- PW_WITHDRAW (R384, R385, R16). -/
def execPwWithdraw (via : Via) (d : BitVec 6) (client : BitVec 13) (s : State) : Host.Outcome State Fault Refusal :=
  .next (s.guarded via 0x004 0x040 (·.engineVote d.toNat client.toNat false))

-- thermal flags (R390, R397, R398)

/-- DFLY and HIVE8 to HIVE15. -/
def critDomains : List Nat := 12 :: (List.range 8).map (21 + ·)

/-- The channels of a Hive forced off are marked lost, pinned ones included, with an event for each (R17); what they were chosen for
stays with them. -/
def State.hiveForced (s : State) (h : Nat) : State :=
  let gone := (localChans h).filter fun ch => decide (s.chState ch ≠ chIDLE)
  let s := gone.foldl (fun s ch =>
    s.evRiseD (chPage ch) (ch % 16) (some (BitVec.ofNat 32 (2 ^ (24 + evLOSS) + chLOST)))) s
  { s with tn.lost := s.tn.lost ++ gone }

/-- A domain is gated without AP2 or abort; its votes stay recorded (R390). -/
def State.domForced (s : State) (d : Nat) : State :=
  if s.domState d = dFORCED then s
  else
    let s := if 13 ≤ d then s.hiveForced (d - 13) else s
    (((s.domLost d).forget d).setDom d dFORCED).evRise 0x004 3

/-- FORCED domains go OFF when CRIT clears, and wake if their count is above 0. -/
def State.domReleased (s : State) (d : Nat) : State :=
  if s.domState d = dFORCED then (s.setDom d dOFF).domFollow d else s

/-- Flag k: 0 WARN, 1 SHED, 2 CRIT; its threshold in steps of 0.25 degrees. -/
def thFlag (k : Nat) : Fld := ⟨F.TH_STAT_WARN.addr, k, 1⟩
def thDwell (k : Nat) : Fld := ⟨F.TH_STAT_DWELL.addr, 4 + k, 1⟩
def State.thLimit (s : State) (k : Nat) : Int :=
  4 * (if k = 0 then (s.fget F.TH_CTL_WARN : Int) else if k = 1 then (s.fget F.TH_CTL_SHED : Int) else 125)

def State.thTemps (s : State) : List Int := (List.range 4).map fun i => sgn 16 (s.fget (F.TH_T_T i))

/-- THERM leaves CRIT: the domains are released, and the allocator looks again for what is chosen or pinned on their channels (R17,
R147). -/
def State.critEnd (s : State) : State :=
  let s := critDomains.foldl State.domReleased s
  let chs := ((List.range 512).map (512 + ·)).filter s.chosen
  { s with tn.lost := [], dfly.again := s.dfly.again ++ chs.map fun ch => (ch, 3) }

/-- A flag changes: its dwell starts and its source is raised; CRIT acts as R390. -/
def State.thChange (s : State) (k : Nat) (on : Bool) : State :=
  let s := ((s.fputB (thFlag k) on).fputB (thDwell k) true).evRise 0x009 k
  let s := s.fputB F.LG_STAT_THSHED (s.flag F.TH_STAT_SHED || s.flag F.TH_STAT_CRIT)
  if k ≠ 2 then s
  else if on then critDomains.foldl State.domForced s
  else s.critEnd

/-- Judge a flag against the readings in force. -/
def State.thJudge (s : State) (k : Nat) : State :=
  let lim := s.thLimit k
  let free := !s.flag (thDwell k)
  if s.flag (thFlag k) then
    (if free ∧ s.thTemps.all (fun t => decide (t ≤ lim - 12)) then s.thChange k false else s)
  else if (free ∨ k = 2) ∧ s.thTemps.any (fun t => decide (lim ≤ t)) then s.thChange k true
  else s

/-- THERM_SAMPLE: four readings in thousandths of a degree, rounded to 0.25 degrees, halves to the higher (R397). -/
def execThermSample (t : List Int) (s : State) : Host.Outcome State Fault Refusal :=
  .next (if ¬ s.domPowered 1 then s
    else
      let s := (List.range 4).foldl (fun s i =>
        let r := clampInt (-0x8000) 0x7FFF ((4 * t.getD i 0 + 500) / 1000)
        let s := s.fput (F.TH_T_T i) (unsigned 16 r)
        if sgn 16 (s.fget F.TH_MAX_T) < r then s.fput F.TH_MAX_T (unsigned 16 r) else s) s
      ((s.thJudge 0).thJudge 1).thJudge 2)

/-- DWELL_EXPIRY: the 10 s of a flag are over; a condition still holding takes effect. -/
def execDwellExpiry (flag : Fin 3) (s : State) : Host.Outcome State Fault Refusal :=
  .next (if s.flag (thDwell flag.val) then (s.fputB (thDwell flag.val) false).thJudge flag.val else s)

-- the reset of device scope (R382, R409, R411, R48)

/-- What AON keeps through a reset of device scope: its page's registers and U_SLEEP. -/
def isAonReg (a : Nat) : Bool := decide (a / 4096 = 0x1A0 ∧ 0x040 ≤ a % 4096) || isSleepReg a

/-- The Sky Clock when MGMT powers up (R48): the AON time and HOLDOVER with AONVALID, else UNSTEERED at 0. The sample
counter is cleared by PORn only (R41). -/
def State.skyBoot (s : State) (old : State) (por : Bool) : State :=
  let valid := old.flag F.SKY_STATE_AONVALID
  let t := if valid then old.sky.aon % 2 ^ 96 else 0
  let sky : SkySt := { iA := old.sky.iA, aon := old.sky.aon, time := t * 2 ^ 32, anchor := t, prev := t - 1, smp := if por then 0 else old.sky.smp, started := !por && old.sky.started }
  let s := { s with sky := sky }
  let s := s.fputB F.SKY_STATE_AONVALID valid
  s.fput F.SKY_STATE_STATE (if valid then skHOLDOVER else skUNSTEERED)

/-- A reset of device scope: everything but AON, the fuses and the flash is as at reset. The counts and causes of resets
outlive the resets they count. -/
def State.deviceReset (s : State) (cause : Nat) : State :=
  let por := decide (cause = 1)
  let r : State := { pending := s.pending, cycle := s.cycle, adcN := s.adcN, fresh := s.fresh, regs := Tab.clear (fun a => !isAonReg a) s.regs,
                     aon := s.aon, fuses := s.fuses, xspi := { flash := s.xspi.flash },
                     upd := { formats := s.upd.formats }, wv := { cores := Tab.clear (fun k => decide (k ≠ 17)) s.wv.cores } }
  let r := (r.skyBoot s por).fputB F.AON_GWLD_GO false
  let r := r.fput F.RST_CAUSE_CAUSE cause
  let r := if cause = 3 ∨ cause = 4 then
      (((r.fput F.RST_CNT_WRESTART (s.fget F.RST_CNT_WRESTART)).fput F.RST_CNT_DEVRESET (s.fget F.RST_CNT_DEVRESET)).finc
        F.RST_CNT_DEVRESET).fput F.RST_CAUSE_WCAUSE (s.fget F.RST_CAUSE_WCAUSE)
    else r
  r.newChallenge

/-- POR: PORn low (R409). -/
def execPor (s : State) : Host.Outcome State Fault Refusal := .next (s.deviceReset 1)

/-- DEVRST: RST_CTL.DEVRST (R409). -/
def execDevrst (via : Via) (s : State) : Host.Outcome State Fault Refusal :=
  .next (s.guarded via 0x002 0x040 (·.deviceReset 3))

/-- VBAT_POWER_ON (R409): AON as at reset: Glowworm, holdover counter, retention RAM and page. -/
def execVbatPowerOn (s : State) : Host.Outcome State Fault Refusal :=
  let wv := { s.wv with cores := Tab.clear (fun k => decide (k = 17)) s.wv.cores, loads := Tab.clear (fun k => decide (k = 17)) s.wv.loads }
  let s := { s with regs := Tab.clear isAonReg s.regs, aon := {}, wv := wv, sky := { s.sky with aon := 0, iA := 2 ^ 33 } }
  .next (s.fputB F.SKY_STATE_AONVALID false)

-- the always-on domain (R392 to R395)

/-- Raise AON source `n` now, or once MGMT runs. -/
def State.aonRaise (s : State) (n : Nat) : State :=
  if s.domPowered 1 then s.evRise 0x1A0 n
  else if s.aon.late.contains n then s else { s with aon.late := s.aon.late ++ [n] }

/-- MGMT powers up for the event of bit `b` (R393); the request is not kept as a vote. -/
def State.mgmtWake (s : State) (b : Nat) : State :=
  if s.domPowered 1 then s
  else
    let s := (s.aonRaise 2).deviceReset 2
    { s.fputB ⟨F.AON_WCAUSE_C.addr, b, 1⟩ true with boot.fromBackup := true }

/-- A wake event with its bit and Glowworm line (R270, R393). -/
def State.wakeEvent (s : State) (b line : Nat) : State :=
  let s := s.coreLine 17 line
  if (s.fget F.AON_WAKEEN_EN).testBit b then s.mgmtWake b else s

/-- WAKE_ALARM: the holdover counter has reached the alarm. -/
def execWakeAlarm (s : State) : Host.Outcome State Fault Refusal :=
  .next (if s.flag F.AON_ALMEN_EN ∧ s.get96 F.AON_ALM_T ≤ s.sky.aon then s.wakeEvent 0 0 else s)

def aonLvl (k : Nat) : Fld := ⟨F.AON_STAT_LVL.addr, k, 1⟩

/-- A comparator's output changes (R392): Glowworm's COMP line; VBAT below its threshold clears AONVALID and raises
VBATLOW, and VBAT back above it while the clock is STEERED makes the AON time valid again (R48); a rise of WAKE is a wake
event. A comparator that is off reads 0. -/
def State.aonChange (s : State) (k : Nat) (level : Bool) : State :=
  if ¬ (s.fget F.AON_CTL_CEN).testBit k ∨ (s.flag (aonLvl k) = level ∧ (k ≠ 0 ∨ s.aon.vbatLow ≠ level)) then s
  else
    let s := (s.fputB (aonLvl k) level).coreLine 17 1
    if k = 0 then
      let s := { s with aon.vbatLow := !level }
      if level then s.when (s.domPowered 1 && decide (s.skyState = skSTEERED)) (·.fputB F.SKY_STATE_AONVALID true)
      else (s.fputB F.SKY_STATE_AONVALID false).aonRaise 0
    else if k = 1 then { s with aon.vmainT := if level then some s.now else none,
                                aon.vmainF := if level then none else some (s.now, s.tioInc) }
    else if k = 3 ∧ level then s.wakeEvent 1 1
    else s

/-- AON_COMPARATOR_CHANGE. -/
def execAonComparatorChange (k : AonCmp) (level : Bool) (s : State) : Host.Outcome State Fault Refusal :=
  .next (s.aonChange (match k with | .vbat => 0 | .vmain => 1 | .mains => 2 | .wake => 3) level)

/-- WAKE_PIN: a rise of the WAKE ball. -/
def execWakePin (s : State) : Host.Outcome State Fault Refusal := .next (s.aonChange 3 true)

/-- AON_GWREQ (R393): Glowworm's own request. -/
def execAonGwreq (s : State) : Host.Outcome State Fault Refusal := .next (s.mgmtWake 5)

/-- A Glowworm fault (R274, R394): it stops, MGMT wakes whatever AON_WAKEEN holds, GWFAULT is raised once MGMT runs. -/
def State.gwFault (s : State) (cause : Nat) : State :=
  ((((s.fputB F.AON_STAT_GWFAULT true).fput F.AON_STAT_GWCAUSE cause).mgmtWake 6)).aonRaise 1

/-- A core starts over with its memories, table and micro-store kept (R288). -/
def CoreSt.restart (c : CoreSt) (k : BitVec 2) : CoreSt :=
  { code := c.code, data := c.data, table := c.table, micro := c.micro, k := k }

/-- AON_CTL.GWRST (R394). -/
def State.gwRst (s : State) : State :=
  ((s.setCore 17 ((s.core 17).restart 0)).fputB F.AON_STAT_GWFAULT false).fput F.AON_STAT_GWCAUSE 0

def execGwrst (via : Via) (s : State) : Host.Outcome State Fault Refusal := .next (s.guarded via 0x1A0 0x040 State.gwRst)

/-- Bit `k` of a character at the sleep receiver: the sample of the 32.768 kHz tick nearest the bit's centre, at 1,200 or 2,400 Bd
(R368). -/
def sleepBit (fast : Bool) (line : List Bool) (k : Nat) : Bool :=
  let rate := if fast then 2400 else 1200
  line.getD (((2 * k + 1) * 32768 + rate) / (2 * rate)) true

/-- The character of 9 data bits in a line sampled at 32.768 kHz from its start edge on; none for a false start or a bad stop bit. -/
def sleepChar (fast : Bool) (line : List Bool) : Option Nat :=
  if sleepBit fast line 0 || !sleepBit fast line 10 then none
  else some ((List.range 9).foldl (fun v i => if sleepBit fast line (i + 1) then v + 2 ^ i else v) 0)

/-- UART_SLEEP_WAKE (R368): an address character that matches U_ADDR, or any falling edge. -/
def execUartSleepWake (u : Fin 4) (line : List Bool) (s : State) : Host.Outcome State Fault Refusal :=
  let n := u.val
  let a := s.fget (F.U_SLEEP_SLMODE n)
  let ad := (F.U_ADDR_ADDR n).addr
  let w := if Tab.get (fun _ => false) s.pwr.retOk 2 then Tab.get regReset s.pwr.ret ad
    else if n = 3 then (F.U_ADDR_ADDR 3).put (regReset ad) (devAddr s) else regReset ad
  let hit := (sleepChar (s.flag (F.U_SLEEP_SLRATE n)) line).any fun c =>
    c.testBit 8 && addrMatch (w.toNat % 256) (w.toNat / 256 % 256) (w.getLsbD 16) (c % 256)
  .next (if (n = 0 ∨ n = 3) ∧ ¬ s.domPowered 2 ∧ ((a = 1 ∧ hit) ∨ a = 2) then
      (s.finc (F.U_SLEEP_WAKES n)).wakeEvent (if n = 0 then 3 else 4) 3
    else s)

-- entry to backup (R391, R64)

/-- The earliest armed WAKE entry goes to the alarm (R64). -/
def State.alarmCopy (s : State) : State :=
  let wakes := s.armedList.filter fun i => decide (actionOf (s.entry i) = 6)
  match (wakes.map fun i => (s.entry i).cmp).min? with
  | some t => (s.put96 F.AON_ALM_T t).fputB F.AON_ALMEN_EN true
  | none => s

/-- The Ledger snapshot in bytes 0x000 to 0x0FF of the retention RAM (R395); the spec states no contents. -/
def State.snapshot (s : State) : State :=
  (List.range 64).foldl (fun s i =>
    let (v, s) := s.draw 32
    { s with aon.ram := Tab.set (fun _ => 0) s.aon.ram i (BitVec.ofNat 32 v) }) s

/-- Every domain but AON goes off, in descending number, MGMT with COMB0 last. -/
def State.allOff (s : State) : State :=
  let ds := ((List.range 36).map fun i => 37 - i).filter fun d => decide (d ≠ 30)
  let s := ds.foldl (fun s d => if s.domPowered d then (s.domLost d).finc (F.PW_CNT_ENTRIES d) else s) s
  { (List.range 37).foldl (fun s i => s.setDom (37 - i) dOFF) s with pwr.sleeping := false }

/-- BACKUP_ENTRY: the Warden has copied the alarm and written the snapshot, 10 ms are over, and it withdraws its MGMT vote. -/
def execBackupEntry (s : State) : Host.Outcome State Fault Refusal :=
  .next (if s.domPowered 1 ∧ s.pwr.sleeping then
      let s := { s.alarmCopy.snapshot.castVote 1 WARDEN false with pwr.sleeping := false }
      if s.holders 1 = 0 then s.allOff else s
    else s)

end Sys2Proof.Machine
end

