-- ==== Sys2Proof/Machine/SchedFire.lean ====
section
/-! DEFINITION. The firing of a schedule entry and its actions (03: R57 to R62; 19: R374). -/

namespace Sys2Proof.Machine

/-- The lowest-numbered page of a source's range; a channel source's own page (R374). -/
def srcPage (src : Nat) : Nat :=
  if src < 1024 then chPage src
  else (pageTable.findSome? fun r => if r.nsrc ≠ 0 ∧ r.first ≤ src ∧ src < r.first + r.nsrc then some r.start else none).getD 0

/-- The action of entry `i` (R57). -/
def State.act (s : State) (i : Nat) (e : Entry) : State :=
  let arg := e.arg.toNat
  let owner := ownerOf e
  if actionOf e = 1 then s.commitPage (arg % 1024) true
  else if actionOf e = 3 then s.engineVote (arg % 64) owner (e.arg.getLsbD 8)
  else if actionOf e = 4 then s.retuneAction (arg % 256)
  else if actionOf e = 5 then
    let src := arg % 2048
    let s := s.raise src (srcPage src) 0 (some (BitVec.ofNat 32 (2 ^ 31 + owner * 2 ^ 16 + i)))
    if owner = 0 then s.evRise 0x111 0 else s
  else if actionOf e = 6 then { s with aon.wakeCode := arg % 65536 }.coreLine 17 0
  else s

/-- What is left of an entry after a firing, or after a PULSE that is not carried out (`done` false, which fires nothing and
counts nothing; R59, R60): one-shot entries disarm; k goes on, except that an overdue firing takes it further only when the
present value is due too. -/
def State.fired (s : State) (i : Nat) (done : Bool) : State :=
  let e := s.entry i
  let e1 := { e with fires := if done then satInc 16 e.fires else e.fires, hold := if done then s.srcAON else e.hold,
                     overdue := false, tardy := false, handed := false }
  if ¬ e.periodic then (s.setEntry i e1).setMapBit F.ARMED i false
  else if e.mainsRel then s.setEntry i (s.mainsSet { e1 with mLast := some e.mNext })
  else
    let k := if e.overdue ∧ s.now < e.cmp then e.k else e.k + 1
    s.setEntry i { e1.setCmp (e.at k) with k := k }

/-- Is entry `i` due (R58, R60)? -/
def State.entryDue (s : State) (i : Nat) : Bool :=
  let e := s.entry i
  s.armed i && e.inCmp && decide (e.cmp ≠ allOnes) && (e.overdue || decide (e.cmp ≤ s.now))

/-- Is the firing LATE (R59): not on the first tick at or after the compare value? -/
def State.late (s : State) (e : Entry) : Bool := e.overdue || e.tardy || decide (e.cmp ≤ s.sky.prev)

/-- Entry `i`, which is due, fires but for its action: its copies are voted and its words judged first (R61, R62); a late
firing, and a PULSE whose time was never handed off, set LATE (R59). The entry as it fired is answered, none when it is not
carried out. -/
def State.strike (s : State) (i : Nat) : State × Option (Nat × Entry) :=
  let s := (s.voteEntry i).checkWords i
  if ¬ s.armed i then (s, none)
  else
    let e := s.entry i
    let skip := decide (actionOf e = 2) && !e.handed
    let s := if s.late e || skip then (s.setMapBit F.LATE i true).evRise 0x111 1 else s
    if skip then (s.fired i false, none) else ((s.setMapBit F.FIRED i true).fired i true, some (i, e))

/-- The entries that are due on this tick, ascending. -/
def State.dueList (s : State) : List Nat := s.armedList.filter s.entryDue

/-- All entries that fall due on one tick fire in it (R58): each is struck, then the commits take effect, then the other
actions in ascending index. -/
def State.fireAll (s : State) : State :=
  let (s, fs) := s.dueList.foldl (fun (x : State × List (Nat × Entry)) i =>
    let (s, r) := x.1.strike i
    (s, x.2 ++ r.toList)) (s, [])
  let s := (fs.filter fun f => actionOf f.2 = 1).foldl (fun s f => s.act f.1 f.2) s
  (fs.filter fun f => actionOf f.2 ≠ 1).foldl (fun s f => s.act f.1 f.2) s

/-- ENTRY_FIRE (R58): entry `i` is due on this tick, and fires with every other entry that is. The windows that close at or
before this tick are closed first, under the settings in force before the commits (R18). -/
def execEntryFire (i : Fin 512) (s : State) : Host.Outcome State Fault Refusal :=
  .next (if s.domPowered 1 ∧ s.entryDue i.val then s.closeDue.fireAll else s)

end Sys2Proof.Machine
end

