-- ==== Sys2Proof/Machine/Ledger.lean ====
section
/-! DEFINITION. The Ledger (20: R399 to R408): metering, the budget, shedding, and loss of main supply. -/

namespace Sys2Proof.Machine

-- metering (R399)

def State.add64 (s : State) (hi lo : Fld) (n : Nat) : State := s.put64 hi lo ((s.get64 hi lo + n) % 2 ^ 64)

/-- Energy counts as grid energy, or against the reserve while on it (R406). -/
def State.spend (s : State) (uj : Nat) : State :=
  if s.flag F.LG_STAT_CUT then
    { s with pwr := { s.pwr with rsvUj := s.pwr.rsvUj + uj } }.fput F.RSV_USED (min 0xFFFFFFFF ((s.pwr.rsvUj + uj) / 1000))
  else
    { s with pwr := { s.pwr with ePer := s.pwr.ePer + uj, eInt := s.pwr.eInt + uj } }.fput F.DMD_E
      (min 0xFFFFFFFF ((s.pwr.eInt + uj) / 1000))

/-- What a class used beyond whole µJ goes on to its next millisecond: `n` parts of which `d` make one µJ. -/
def wholeUj (carry n d : Nat) : Nat × Nat := ((carry + n) / d, (carry + n) % d)

/-- The µJ of a millisecond that the cost models give classes 1 to 5 for the work that ran in it (R399, R404), and what is left over. -/
def State.clsUj (s : State) : List Nat × (Nat × Nat × Nat) :=
  let r := s.pwr.clsRem
  let load := (allChans.filter s.live).foldl (fun n ch => n + (s.chan ch).load) 0
  let acq := wholeUj r.1 (s.fget F.COST_ACQ.act * s.pwr.ranCells) 1000000
  let trk := wholeUj r.2.1 (s.fget F.COST_TRK.act * load) 80000
  let est := (if s.vstate = vsOFF then 0 else s.fget F.COST_EST_V.act) + s.fget F.COST_EST_F.act * s.pwr.ranFull
  let arc := wholeUj r.2.2 (s.fget F.COST_ARC.act * s.pwr.ranArc) 1048576
  let rf := s.fget F.COST_RF.act * (paths.filter fun p => decide (s.rfState p = rfRECEIVE)).length
  ([acq.1, trk.1, est, arc.1, rf], (acq.2, trk.2, arc.2))

/-- The split of the millisecond under way by a cut ends with its counter update (R406): what was estimated gives way to what was
measured. -/
def State.spendMs (s : State) (total : Nat) : State :=
  match s.pwr.cutMs with
  | none => s.spend total
  | some (est, before) =>
    let s := { s with pwr.cutMs := none }
    if before then
      let g := total - est
      { s with pwr.ePer := s.pwr.ePer + g, pwr.eInt := s.pwr.eInt + g }.fput F.DMD_E (min 0xFFFFFFFF ((s.pwr.eInt + g) / 1000))
    else { s with pwr.rsvUj := s.pwr.rsvUj - est }.spend total

/-- METER_TICK: per rail its µJ of the millisecond with MV and MA, as measured; class 0, BASE, is what the cost models leave. VBAT is
measured and not metered; its MA reads 0. -/
def execMeterTick (rails : List (Nat × Half × Half)) (s : State) : Host.Outcome State Fault Refusal :=
  let rail (r : Nat) : Nat × Half × Half := rails.getD r (0, 0, 0)
  let metered := (List.range 7).filter (· ≠ 5)
  let total := metered.foldl (fun n r => n + (rail r).1) 0
  .next (if ¬ s.domPowered 1 then s
    else
      let (cls, rem) := s.clsUj
      let base := total - sumNat cls
      let s := (List.range 7).foldl (fun s r => (s.fput (F.PW_RAIL_MV r) (rail r).2.1.toNat).fput (F.PW_RAIL_MA r)
        (if r = 5 then 0 else (rail r).2.2.toNat)) s
      let s := metered.foldl (fun s r => s.add64 (F.LG_RAIL_HI r) (F.LG_RAIL_LO r) (rail r).1) s
      let s := (List.range 6).foldl (fun s c => s.add64 (F.LG_CLS_HI c) (F.LG_CLS_LO c) ((base :: cls).getD c 0)) s
      let s := (s.add64 F.LG_TOT_HI F.LG_TOT_LO total).spendMs total
      { s with pwr := { s.pwr with tickUj := s.pwr.tickUj + total, tickBase := s.pwr.tickBase + base, lastUj := total,
                                   meterMs := s.now * 1000 / sec, clsRem := rem, ranCells := 0, ranFull := 0, ranArc := 0 } })

-- the budget (R400 to R403)

/-- UTC second of the day at a Sky Clock second (R40, R401). -/
def State.utcSod (s : State) (n : Nat) : Nat := (((n : Int) - signed 8 (s.fget F.LEAP_CUR)) % 86400).toNat

def State.tarValid (s : State) : List Nat := (List.range 8).filter fun i => s.flag (F.TAR_V i).act
def State.tarStart (s : State) (i : Nat) : Nat := s.fget (F.TAR_START i).act * 60

/-- Seconds from second of day `sod` on to the next start of entry `i`, the start itself a whole day away. -/
def untilStart (start sod : Nat) : Nat :=
  let d := (start + 86400 - sod % 86400) % 86400
  if d = 0 then 86400 else d

/-- The tariff entry in force at second of day `sod`: the one whose start came last (R400). -/
def State.tarAt (s : State) (sod : Nat) : Option Nat :=
  (s.tarValid.foldl (fun (m : Option (Nat × Nat)) i =>
    let ago := (sod + 86400 - s.tarStart i % 86400) % 86400
    match m with
    | none => some (ago, i)
    | some (b, _) => if ago < b then some (ago, i) else m) none).map Prod.snd

/-- Ticks left in the period from `sod` on, and the period's length. -/
def State.tarLeft (s : State) (i sod : Nat) : Nat × Nat :=
  let others := s.tarValid.map s.tarStart
  let nearest (t : Nat) : Nat := (others.map fun x => untilStart x t).foldl min 86400
  (nearest sod, nearest (s.tarStart i))

/-- Demand interval length in s (R401): LEN 0 acts as 1 minute, above 60 as 60. -/
def State.dmdLen (s : State) : Nat := 60 * min 60 (max 1 (s.fget F.DMD_CFG_LEN.act))

/-- Ticks left in the demand interval; the last of a day ends at midnight. -/
def State.dmdLeft (s : State) (sod : Nat) : Nat := min (s.dmdLen - sod % s.dmdLen) (86400 - sod)

def State.grantsOn (s : State) : List Grant := s.pwr.grants.filterMap fun e => match e.2 with
  | some g => if 0 < g.left then some g else none
  | none => none
def State.grantMw (s : State) : Nat := s.grantsOn.foldl (fun n g => n + g.mw) 0

/-- LG_GRANT (R402). -/
def State.grantRegs (s : State) : State := (s.fput F.LG_GRANT_N s.grantsOn.length).fput F.LG_GRANT_MW (min 0xFFFF s.grantMw)

/-- The tariff's term of the allowance (R403), mJ; UNSTEERED: the smallest valid allowance (R401). -/
def State.tarTerm (s : State) (sod : Nat) : Option Int :=
  if ¬ s.flag F.LG_CTL_TAREN then none
  else if s.skyState = skUNSTEERED then
    ((s.tarValid.map fun i => s.fget (F.TAR_ALLOW i).act).min?).map fun a => ((a + s.grantMw : Nat) : Int)
  else
    let i := s.fget F.LG_STAT_PER
    if s.tarValid.contains i then
      let (m, len) := s.tarLeft i sod
      some (((s.fget (F.TAR_ALLOW i).act * len * 1000 : Nat) - s.pwr.ePer : Int) / (m * 1000 : Nat) + s.grantMw)
    else none

def State.dmdTerm (s : State) (sod : Nat) : Option Int :=
  let cap := s.fget F.DMD_CAP.act
  if s.flag F.LG_CTL_DEMEN ∧ cap ≠ 0 then some (((cap * 1000 : Nat) - s.pwr.eInt : Int) / (s.dmdLeft sod * 1000 : Nat)) else none

/-- A_k (R403): the least of the terms that have a limit, never below zero. -/
def State.allowance (s : State) (sod : Nat) : Option Nat :=
  let heat := if s.flag F.LG_STAT_THSHED then some (s.fget F.TH_SHEDP_MW : Int) else none
  let rsv := if s.flag F.LG_STAT_CUT then some (s.fget F.RSV_CFG_P.act : Int) else none
  ([s.tarTerm sod, s.dmdTerm sod, heat, rsv].filterMap id).min?.map Int.toNat

/-- The allowance takes force; the spec gives LG_ALLOW no value without a limit (log entry 5). -/
def State.setAllow (s : State) (a : Option Nat) : State :=
  let s := { s with pwr.allow := a }
  match a with
  | some v => s.fput F.LG_ALLOW (min 0xFFFFFFFF v)
  | none =>
    let (v, s) := s.draw 32
    s.fput F.LG_ALLOW v

-- the forecast (R404, R405)

/-- Cost of an item for the next tick, µJ (R404). -/
def State.itemUj (s : State) (x : WorkItem) : Nat :=
  if x.cls = 1 then s.fget F.COST_ACQ.act * x.use / 1000000
  else if x.cls = 2 then s.fget F.COST_TRK.act * x.use / 80
  else if x.cls = 4 then s.fget F.COST_ARC.act * x.use / 1024
  else if x.cls = 5 then s.fget F.COST_RF.act * x.use
  else 0

/-- The EST class: the vector core's milliseconds and the full updates of one second. -/
def State.estUj (s : State) : Nat :=
  (if s.vstate = vsOFF then 0 else 1000 * s.fget F.COST_EST_V.act)
    + (if s.scOn then s.fget F.COST_EST_F.act * 1000 / max 1 (epochMs s * s.fullD) else 0)

def State.baseUj (s : State) : Nat :=
  let h := s.pwr.baseHist
  1000 * h.foldl (· + ·) 0 / max 1 h.length

/-- The forecast C in µJ. -/
def State.forecast (s : State) : Nat := s.pwr.items.foldl (fun n x => n + s.itemUj x) (s.baseUj + s.estUj)

-- shedding and restoring (R405)

/-- Subscriptions of a channel or a stream note that they are shed, or no longer. -/
def State.noteShed (s : State) (p : Sub → Bool) (b : Bool) : State :=
  let f (x : Sub) : Sub := if p x then { x with shed := b } else x
  { s with tn.tenants := s.tn.tenants.map fun (e : Nat × Tenant) => (e.1, { e.2 with subs := e.2.subs.map f }) }

/-- Work stops: an acquisition waits, a recording pauses, a channel stops, a path goes to Standby. -/
def State.shedWork (s : State) (x : WorkItem) : State :=
  let u := x.unit
  if x.cls = 2 then (s.noteShed (fun b => decide (b.place = some u)) true).chStop u
  else if x.cls = 4 then
    let was := s.recorded u
    let s := s.noteShed (fun b => decide (b.kind = 7 ∧ b.sel % 32 = u)) true
    if was then s.gapNow u 2 else s
  else if x.cls = 5 then (if 1 < s.fget (F.RF_CTL_REQ u) then s.rfReq u 1 else s)
  else s

/-- Work goes on: a shed acquisition is submitted, a recording resumes, a channel takes its signal again, a path returns. -/
def State.restoreWork (s : State) (x : WorkItem) : State :=
  let u := x.unit
  if x.cls = 1 then s.serveRequests 64
  else if x.cls = 2 then (s.noteShed (fun b => decide (b.place = some u)) false).acquire u 3
  else if x.cls = 4 then s.noteShed (fun b => decide (b.kind = 7 ∧ b.sel % 32 = u)) false
  else if x.cls = 5 then s.rfReq u 3
  else s

def State.evShed (s : State) : State := s.evRise 0x008 2

def State.shedItem (s : State) (x : WorkItem) : State :=
  ({ s with pwr := { s.pwr with items := s.pwr.items.erase x, shed := x :: s.pwr.shed } }.shedWork x).evShed

def State.restoreItem (s : State) (x : WorkItem) : State :=
  ({ s with pwr := { s.pwr with items := x :: s.pwr.items, shed := s.pwr.shed.erase x } }.restoreWork x).evShed

/-- Order of shedding: priority, then ACQ, ARC, TRK, RF. -/
def shedRank (x : WorkItem) : Nat :=
  8 * x.prio.val + (if x.cls = 1 then 0 else if x.cls = 4 then 1 else if x.cls = 2 then 2 else 3)

/-- The admitted item to shed next: the most recently admitted of the lowest rank; priority 7 and EST are never shed. -/
def nextShed (l : List WorkItem) : Option WorkItem :=
  (l.filter fun x => decide (x.prio.val < 7 ∧ x.cls ≠ 3 ∧ x.cls ≠ 0)).foldl (fun (m : Option WorkItem) x => match m with
    | none => some x
    | some y => if shedRank x < shedRank y then some x else m) none

/-- The shed item to restore next: the highest priority. -/
def nextRestore (l : List WorkItem) : Option WorkItem :=
  l.foldl (fun (m : Option WorkItem) x => match m with
    | none => some x
    | some y => if y.prio.val < x.prio.val then some x else m) none

/-- Shed until the forecast is within the allowance, or nothing is left that may be shed. -/
def State.shedTo (s : State) (a : Nat) : Nat → State
  | 0 => s
  | fuel + 1 =>
    if s.forecast ≤ 1000 * a then s
    else match nextShed s.pwr.items with
      | some x => (s.shedItem x).shedTo a fuel
      | none => s

/-- The forecast with an item's cost has been within 0.9 of the allowance at the last ten planning steps. -/
def State.roomFor (s : State) (x : WorkItem) : Bool :=
  decide (s.pwr.rooms.length = 10) && s.pwr.rooms.all fun r => r.all fun v => decide (((10 * s.itemUj x : Nat) : Int) ≤ v)

/-- One item is restored, the one of highest priority, once there is room for it. -/
def State.restoreOne (s : State) : State :=
  match nextRestore s.pwr.shed with
  | some x => if s.roomFor x then s.restoreItem x else s
  | none => s

/-- The plan for the next tick under allowance `a`, if there is a limit. -/
def State.planTick (s : State) (a : Option Nat) : State :=
  let room := a.map fun v => ((9000 * v : Nat) : Int) - (10 * s.forecast : Nat)
  let s := { s with pwr := { s.pwr with rooms := (room :: s.pwr.rooms).take 10 } }
  let s := match a with
    | some v => if 1000 * v < s.forecast then s.shedTo v s.pwr.items.length else s.restoreOne
    | none => s.restoreOne
  s.fput F.LG_PLAN (min 0xFFFFFFFF (s.forecast / 1000))

/-- The tariff period by UTC takes force, its energy counted from now. -/
def State.newPeriod (s : State) (sod : Nat) : State :=
  match s.tarAt sod with
  | some i => { s.fput F.LG_STAT_PER i with pwr.ePer := 0 }
  | none => s

/-- The close of a demand interval at second of day `sod` (R407). -/
def State.dmdClose (s : State) (sod : Nat) : State :=
  if sod % s.dmdLen = 0 then
    (({ s with pwr.eInt := 0 }.fput F.DMD_LAST (min 0xFFFFFFFF (s.pwr.eInt / 1000))).fput F.DMD_E 0).evRise 0x008 3
  else s

/-- The change of tariff period at second of day `sod`, held while CUT = 1 (R407). -/
def State.tarChange (s : State) (sod : Nat) : State :=
  if (s.tarValid.map fun i => s.tarStart i % 86400).contains sod then
    (if s.flag F.LG_STAT_CUT then s.fputB F.LG_STAT_TARPEND true else s.newPeriod sod)
  else if s.flag F.LG_STAT_CUT then s
  else match s.tarAt sod with
    | some i => s.fput F.LG_STAT_PER i
    | none => s

-- the work there is (R405)

/-- The highest shed priority among tenants; work of no tenant's is tenant 0's own. -/
def State.topPrio (s : State) (ts : List Nat) : Fin 8 :=
  match (ts.map fun t => (s.tenant t).prio).max? with
  | some p => Fin.ofNat 8 p
  | none => 7

/-- Tenants with a subscription of which `p` holds. -/
def State.subTenants (s : State) (p : Sub → Bool) : List Nat := (s.tn.tenants.filter fun e => e.2.subs.any p).map Prod.fst

/-- The tenants a channel works for: those it is placed for, and those whose subscriptions need every channel. -/
def State.chanUsers (s : State) (ch : Nat) : List Nat :=
  if (s.pinned ch).isSome then [0]
  else (s.subTenants fun b => decide (b.place = some ch)) ++
    (if s.chosen ch then [] else s.subTenants fun b => decide (b.kind = 3 ∨ b.kind = 5 ∨ b.kind = 6))

/-- Does a stream's source take in path `p`? -/
def State.feeds (s : State) (p m : Nat) : Bool :=
  let src := s.fget (F.STR_SRC m).act
  s.strRun m && (decide (src = p) || (decide (8 ≤ src ∧ src < 10) && (s.groupMask (src - 8)).testBit p))

/-- The tenants a path works for: those of the channels and the kept streams that its streams feed. -/
def State.pathUsers (s : State) (p : Nat) : List Nat :=
  ((allChans.filter fun ch => (decide (s.chState ch ≠ chIDLE) || s.chosen ch) && s.feeds p (strmOf (s.reg (chReg ch 0x0C).addr))).flatMap
    s.chanUsers) ++ s.subTenants fun b => decide (b.kind = 7) && s.feeds p (b.sel % 32)

/-- KiB a stream's recording takes in a second, headers included (R432, R433). -/
def State.recKib (s : State) (m : Nat) : Nat :=
  s.strFs m * 2 * railBits (s.fget (F.STR_WIDTH m).act) * 4096 / (8 * 4016 * 1024)

/-- The work of the next tick as the Warden finds it, the work that has been shed with it (R404, R405). -/
def State.workItems (s : State) : List WorkItem :=
  let acq := s.dfly.waiting.map fun r => (⟨1, r.search.getD 0, Fin.ofNat 8 (s.tenant r.tenant).prio, jdWork r.desc⟩ : WorkItem)
  let arc := ((List.range 24).filter fun m => s.arRun && (s.fget F.AR_SEL_S).testBit m && s.strRun m && s.strDest m 2 &&
      s.anySub fun b => decide (b.kind = 7 ∧ b.sel % 32 = m)).map fun m =>
    (⟨4, m, s.topPrio (s.subTenants fun b => decide (b.kind = 7 ∧ b.sel % 32 = m)), s.recKib m⟩ : WorkItem)
  let shedCh (ch : Nat) : Bool := s.anySub fun b => decide (b.place = some ch) && b.shed
  let trk := (allChans.filter fun ch => decide (s.chState ch ≠ chIDLE) || shedCh ch).map fun ch =>
    (⟨2, ch, s.topPrio (s.chanUsers ch), s.chanLoad (s.reg (chReg ch 0).addr) (s.reg (chReg ch 0x0C).addr)⟩ : WorkItem)
  let rf := (paths.filter fun p => decide (1 < s.fget (F.RF_CTL_REQ p)) || s.pwr.shed.any fun x => decide (x.cls = 5 ∧ x.unit = p)).map fun p =>
    (⟨5, p, s.topPrio (s.pathUsers p), 1000⟩ : WorkItem)
  acq ++ arc ++ trk ++ rf

def WorkItem.same (x y : WorkItem) : Bool := decide (x.cls = y.cls ∧ x.unit = y.unit)

/-- The Warden brings its lists up to the work there is: admitted items keep their order, and new ones are the most recent. -/
def State.takeItems (s : State) : State :=
  let all := s.workItems
  let up (l : List WorkItem) : List WorkItem := l.filterMap fun x => all.find? x.same
  let known := s.pwr.items ++ s.pwr.shed
  let new := all.filter fun x => !known.any x.same
  { s with pwr.items := new ++ up s.pwr.items, pwr.shed := up s.pwr.shed }

/-- The close of a tick that ended at second of day `sod`: the energies of the tick, the demand interval and the tariff period. -/
def State.tickClose (s : State) (sod : Nat) : State :=
  let hist := (s.pwr.tickBase / 1000 :: s.pwr.baseHist).take 10
  let s := { s with pwr := { s.pwr with baseHist := hist, tickUj := 0, tickBase := 0 } }
  let s := s.fputB F.LG_STAT_UNSTEERED (decide (s.skyState = skUNSTEERED))
  (s.dmdClose sod).tarChange sod

/-- PLANNING_STEP for the tick that ended at the last whole second (R407). -/
def execPlanningStep (s : State) : Host.Outcome State Fault Refusal :=
  let sod := s.utcSod (s.now / sec)
  .next (if ¬ s.domPowered 1 then s
    else
      let s := (s.tickClose sod).takeItems
      let s := if s.flag F.LG_CTL_EN then
          let a := s.allowance sod
          (s.setAllow a).planTick a
        else { s with pwr.allow := none }
      let g := s.pwr.grants.map fun (e : Nat × Option Grant) => (e.1, e.2.map fun g => { g with left := g.left - 1 })
      { s with pwr.grants := g }.grantRegs)

-- loss of main supply (R406)

/-- The VMAIN comparator is enabled. -/
def State.vmainOn (s : State) : Bool := (s.fget F.AON_CTL_CEN).testBit 1

/-- The stamp of VMAIN's falling edge at sub-tick `j`, once it has been absent for 100 µs (R54, R406). -/
def State.cutStamp (s : State) (j : Nat) : Option Nat :=
  match s.aon.vmainF with
  | some (t, inc) => if t + us 100 ≤ s.now then some ((t + j * inc / 256 / 2 ^ 32) % 2 ^ 96) else none
  | none => none

/-- Split the energy at a cut stamped `c` (R406): the last millisecond metered, when the stamp lies in it, and the one under way, whose
power is taken to be that of the last. -/
def State.splitAt (s : State) (c : Nat) : State :=
  let m := ms s.pwr.meterMs
  let uj (t : Nat) : Nat := s.pwr.lastUj * t / ms 1
  let late := min (uj (m - c)) (min s.pwr.ePer s.pwr.eInt)
  let est := uj (m + ms 1 - max c m)
  let e := s.pwr.eInt - late
  ({ s with pwr.ePer := s.pwr.ePer - late, pwr.eInt := e, pwr.rsvUj := late + est,
            pwr.cutMs := some (est, decide (m ≤ c)) }.fput F.DMD_E (min 0xFFFFFFFF (e / 1000))).fput F.RSV_USED
    (min 0xFFFFFFFF ((late + est) / 1000))

/-- VMAIN_CUT, its edge at sub-tick `j`: the energy of the tick is split at the cut instant, the reserve plan applies, the snapshot is
written. -/
def execVmainCut (j : Byte) (s : State) : Host.Outcome State Fault Refusal :=
  .next (match s.cutStamp j.toNat with
    | none => s
    | some c =>
      if ¬ s.domPowered 1 ∨ ¬ s.vmainOn ∨ s.flag (aonLvl 1) ∨ s.flag F.LG_STAT_CUT then s
      else
      let s := ((s.splitAt c).fputB F.LG_STAT_CUT true).setAllow (some (s.fget F.RSV_CFG_P.act))
      let s := s.takeItems
      let low := s.pwr.items.filter fun x => decide (x.prio.val < s.fget F.RSV_CFG_KEEP.act ∧ x.prio.val < 7 ∧ x.cls ≠ 3 ∧ x.cls ≠ 0)
      let s := (low.foldl State.shedItem s).snapshot
      s.evRise 0x008 0)

/-- VMAIN has been present for RESTT seconds; 0 acts as 1. -/
def State.vmainStood (s : State) : Bool :=
  s.aon.vmainT.any fun t => decide (t + max 1 (s.fget F.LG_CTL_RESTT) * sec ≤ s.now)

/-- VMAIN_RETURN: declared after RESTT seconds of presence; a held tariff change applies; it can wake MGMT (R393). -/
def execVmainReturn (s : State) : Host.Outcome State Fault Refusal :=
  .next (if ¬ s.vmainOn then s
    else if s.domPowered 1 then
      if ¬ s.flag F.LG_STAT_CUT ∨ ¬ s.vmainStood then s
      else
        let s := (s.fputB F.LG_STAT_CUT false).evRise 0x008 1
        if s.flag F.LG_STAT_TARPEND then (s.fputB F.LG_STAT_TARPEND false).newPeriod (s.utcSod (s.now / sec)) else s
    else if s.flag (aonLvl 1) then s.wakeEvent 2 1
    else s)

/-- RESERVE_SPENT: RSV_USED has reached RSV_E. -/
def execReserveSpent (s : State) : Host.Outcome State Fault Refusal :=
  .next (if ¬ s.flag F.LG_STAT_CUT ∨ s.fget F.RSV_USED < s.fget F.RSV_E.act then s
    else if s.flag F.RSV_CFG_END.act then { s with pwr.sleeping := true }
    else (List.range 38).foldl (fun s d => if d = 1 then s else (s.castVote d ALLOCATOR false).castVote d WARDEN false) s)

-- grants and commands (R402, R408)

/-- GRANT_EXPIRY: a grant's D seconds are over. -/
def execGrantExpiry (slot : Fin 16) (s : State) : Host.Outcome State Fault Refusal :=
  .next (match Tab.get (fun _ => none) s.pwr.grants slot.val with
    | some g => if g.left = 0 then
        { s with pwr.grants := Tab.set (fun _ => none) s.pwr.grants slot.val none }.grantRegs else s
    | none => s)

/-- GRANT: P mW for D seconds in a slot; D = 0 cancels it. -/
def execGrant (t : Fin 4096) (seq arg0 : Half) (ws : List Word) (s : State) : Host.Outcome State Fault Refusal :=
  .next (s.command t.val 0x0040 seq.toNat (ownerOnly t.val fun s =>
    if ws.length ≠ 2 then done cBADCMD s
    else if 16 ≤ arg0.toNat then done cBADARG s
    else
      let g := if argWord ws 1 = 0 then none else some ⟨argWord ws 0, argWord ws 1⟩
      let s := { s with pwr.grants := Tab.set (fun _ => none) s.pwr.grants arg0.toNat g }.grantRegs
      (.reply cOK (leBytes 4 (s.reg F.LG_GRANT_N.addr).toNat), s)))

/-- SHEDPRI: a tenant's shed priority. -/
def execShedpri (t : Fin 4096) (seq arg0 : Half) (ws : List Word) (s : State) : Host.Outcome State Fault Refusal :=
  .next (s.command t.val 0x0041 seq.toNat (ownerOnly t.val fun s =>
    if ws.length ≠ 1 then done cBADCMD s
    else if 8 ≤ arg0.toNat ∨ 4096 ≤ argWord ws 0 then done cBADARG s
    else if ¬ (s.tenant (argWord ws 0)).live then done cBADARG s
    else done cOK (s.updTenant (argWord ws 0) fun x => { x with prio := arg0.toNat })))

/-- SLEEP: the Warden enters backup once the reply has drained (R391). -/
def execSleep (t : Fin 4096) (seq arg0 : Half) (s : State) : Host.Outcome State Fault Refusal :=
  .next (s.command t.val 0x0042 seq.toNat (ownerOnly t.val fun s =>
    if arg0 ≠ 0 then done cBADARG s else done cOK { s with pwr.sleeping := true }))

end Sys2Proof.Machine
end

