-- ==== Sys2Proof/Machine/Update.lean ====
section
/-! DEFINITION. Field update, handover, CONFIRM and the tenants' security commands (22: R426 to R430). -/

namespace Sys2Proof.Machine

-- the running image (R423, R430)

/-- The words of K0 to K2 in the Warden's code memory; the ROM in K3 stands. -/
def State.loadBanks (s : State) (ws : List Half) : State :=
  let c := s.core 16
  let code := (c.code.filter fun x => decide (3 * 65536 ≤ x.1))
  let banks := ((List.range ws.length).zip ws).filter fun x => decide (x.2 ≠ 0 ∧ x.1 < 3 * 65536)
  s.setCore 16 { c with code := banks ++ code }

/-- The Warden enters an image at an entry point. -/
def State.enterAt (s : State) (e : Nat × Nat) : State :=
  s.setCore 16 { (s.core 16).restart (BitVec.ofNat 2 e.1) with p := BitVec.ofNat 16 e.2 }

/-- Settings records of other formats are present. -/
def State.oldFormats (s : State) (fmt : Nat) : State := s.fputB F.UP_CONF_OLDFMT (s.upd.formats.any fun f => decide (f ≠ fmt))

/-- An image takes over: its header's statements are reported, and settings of a lower format are converted when it finds none of its
own. -/
def State.adopt (s : State) (i : Image) : State :=
  let fs := s.upd.formats
  let fs := if fs.contains i.setfmt ∨ fs.all (fun f => decide (i.setfmt ≤ f)) then fs else fs ++ [i.setfmt]
  let s := { s with upd.image := some i, upd.formats := fs }.loadBanks i.banks
  let s := ((s.fput F.UP_RUN_SETFMT i.setfmt).fput F.UP_RUN_SECVER i.secver).fput F.UP_VER i.version
  (s.fputB F.UP_CONF_CONFIRMED false).oldFormats i.setfmt

/-- Bytes of K0 to K2, for BANKCRC (R412). -/
def bankBytes (i : Image) : List Byte := i.banks.flatMap fun w => leBytes 2 w.toNat

-- UP_STAT (R428)

def upIDLE : Nat := 0
def upRECEIVING : Nat := 1
def upWRITING : Nat := 2
def upSTAGED : Nat := 3
def upARMED : Nat := 4
def upFAILED : Nat := 5
def upDONE : Nat := 6

def stagingBase : Nat := 0xE00000

def State.upState (s : State) : Nat := s.fget F.UP_STAT_STATE

/-- A state and result; STAGED and FAILED raise STAGE. -/
def State.setUp (s : State) (st res : Nat) : State :=
  let s := (s.fput F.UP_STAT_STATE st).fput F.UP_STAT_RESULT res
  if st = upSTAGED ∨ st = upFAILED then s.evRise 0x161 0 else s

def State.staged (s : State) : List Byte := s.combBytes stagingBase (s.fget F.UP_LEN_N)

/-- Image bytes into the staging area, which the allocator holds COMB3 for (R428): the loader waits until the quarter is on. -/
def State.stage (s : State) (off : Nat) (bs : List Byte) : State :=
  let a := stagingBase + off
  let s := ((accesses a bs.length).foldl (fun s _ => s.combCount 0) s).combPut a bs
  { s with ecc := Tab.clear (fun w => decide (a ≤ 4 * w ∧ 4 * w + 4 ≤ a + bs.length)) s.ecc }

/-- The answer of a command the update refuses: its own code is UP_STAT.RESULT. -/
def State.upRefuse (s : State) : Done × State := (.reply cREFUSED (leBytes 2 (s.fget F.UP_STAT_RESULT)), s)

/-- An update begins: lengths and CRC noted, the allocator holds COMB3. -/
def State.upOpen (s : State) (len crc : Nat) : State :=
  let s := ((s.fput F.UP_LEN_N len).fput F.UP_CRC crc).fput F.UP_RCVD_N 0
  (s.setUp upRECEIVING 0).allocVotes

/-- UPDOPEN. -/
def execUpdopen (t : Fin 4096) (seq arg0 : Half) (ws : List Word) (s : State) : Host.Outcome State Fault Refusal :=
  .next (s.command t.val 0x0050 seq.toNat (ownerOnly t.val fun s =>
    if ws.length ≠ 2 then done cBADCMD s
    else if arg0 ≠ 0 ∨ 0x100000 < argWord ws 0 then done cBADARG s
    else if s.upState = upRECEIVING ∨ s.upState = upWRITING ∨ s.upState = upARMED then s.upRefuse
    else done cOK (s.upOpen (argWord ws 0) (argWord ws 1))))

/-- UPDDATA: the bytes at the next offset. -/
def execUpddata (t : Fin 4096) (seq arg0 : Half) (offset : Word) (bytes : List Byte) (s : State) :
    Host.Outcome State Fault Refusal :=
  .next (s.command t.val 0x0051 seq.toNat (ownerOnly t.val fun s =>
    let n := s.fget F.UP_RCVD_N
    if 65000 < bytes.length then done cBADCMD s
    else if s.upState ≠ upRECEIVING then s.upRefuse
    else if arg0 ≠ 0 ∨ offset.toNat ≠ n ∨ s.fget F.UP_LEN_N < n + bytes.length then done cBADARG s
    else
      let s := (s.stage n bytes).fput F.UP_RCVD_N (n + bytes.length)
      (.reply cOK (leBytes 4 (n + bytes.length)), s)))

/-- What the loader's checks give: 0, or 3 SIZE, 1 CRC, 2 HEADER. -/
def State.upCheck (s : State) : Nat :=
  let b := s.staged
  if s.fget F.UP_RCVD_N ≠ s.fget F.UP_LEN_N then 3
  else if crc32c b ≠ s.fget F.UP_CRC then 1
  else if imgField b 0 4 ≠ 0x4D49544B then 2
  else 0

/-- UPDWRITE: the reply comes with the end of the write, or at once when a check fails. -/
def execUpdwrite (t : Fin 4096) (seq arg0 : Half) (s : State) : Host.Outcome State Fault Refusal :=
  .next (s.command t.val 0x0052 seq.toNat (ownerOnly t.val fun s =>
    if arg0 ≠ 0 then done cBADARG s
    else if s.upState ≠ upRECEIVING then s.upRefuse
    else if s.upCheck ≠ 0 then (.reply cOK (leBytes 2 s.upCheck), s.setUp upFAILED s.upCheck)
    else (.pending, { s.setUp upWRITING 0 with upd.written := 0, upd.again := false })))

/-- The image in flash, erased and programmed from the staging area; `bad` are cells that read back otherwise. -/
def State.writeImage (s : State) (bad : List (Nat × Byte)) : State :=
  let n := s.fget F.UP_LEN_N
  let s := (s.flashErase 0 ((n + 4095) / 4096 * 4096)).flashProgram 0 s.staged
  let s := bad.foldl (fun (s : State) x => { s with xspi.flash := Tab.set flashDefault s.xspi.flash x.1 x.2 }) s
  { s.fput F.XS_CRC (crc32c (s.flashBytes 0 n)) with upd.written := n }

/-- FLASH_WRITE_DONE (R428): the read-back equals the image's CRC, or one rewrite is made, or the update FAILED. -/
def execFlashWriteDone (bad : List (Nat × Byte)) (s : State) : Host.Outcome State Fault Refusal :=
  .next (if s.upState ≠ upWRITING ∨ ¬ s.domPowered 2 then s
    else
      let s := s.writeImage bad
      if s.fget F.XS_CRC = s.fget F.UP_CRC then (s.setUp upSTAGED 0).complete 0x0052 cOK (leBytes 2 0)
      else if ¬ s.upd.again then { s with upd.again := true }
      else (s.setUp upFAILED 4).complete 0x0052 cOK (leBytes 2 4))

/-- Is `t` a boundary of the epoch grid (R50)? -/
def State.epochAt (s : State) (t : Nat) : Bool :=
  let k := t * 1000 / (sec * epochMs s)
  decide (t = ceilT (k * epochMs s) 1000 ∨ t = ceilT ((k + 1) * epochMs s) 1000)

/-- UPDATE's source HANDOVER (page 0x161, bit 1). -/
def srcHANDOVER : Nat := 1142

/-- The lowest entry that is not armed. -/
def State.freeEntry (s : State) : Option Nat := (List.range 512).find? fun i => !s.armed i

/-- UPDHOVER (R429). -/
def execUpdhover (t : Fin 4096) (seq arg0 : Half) (ws : List Word) (s : State) : Host.Outcome State Fault Refusal :=
  .next (s.command t.val 0x0053 seq.toNat (ownerOnly t.val fun s =>
    let h := argWord ws 0 * 2 ^ 64 + argWord ws 1 * 2 ^ 32 + argWord ws 2
    let hover := s.upd.image.map Image.hover
    if ws.length ≠ 3 then done cBADCMD s
    else if arg0 ≠ 0 then done cBADARG s
    else if s.upState ≠ upSTAGED ∨ ¬ s.epochAt h ∨ h < s.now + ms 100 then s.upRefuse
    else if hover ≠ some (parseImage s.staged).hover then (s.fput F.UP_STAT_RESULT 5).upRefuse
    else match s.freeEntry with
      | none => done cSCHEDFULL s
      | some i =>
        let s := (s.armEntry i h (BitVec.ofNat 32 (5 * 2 ^ 20)) (BitVec.ofNat 32 srcHANDOVER) 0).put96 F.UP_HT h
        (.reply cOK (leBytes 2 i), { s.setUp upARMED 0 with upd.entry := some i })))

/-- UPDABORT. -/
def execUpdabort (t : Fin 4096) (seq arg0 : Half) (s : State) : Host.Outcome State Fault Refusal :=
  .next (s.command t.val 0x0054 seq.toNat (ownerOnly t.val fun s =>
    if arg0 ≠ 0 then done cBADARG s
    else if s.upState = upRECEIVING ∨ s.upState = upSTAGED ∨ s.upState = upARMED then
      let s := match s.upd.entry with | some i => s.disarm i | none => s
      done cOK ({ s.setUp upIDLE 6 with upd.entry := none }.allocVotes)
    else s.upRefuse))

/-- The staged image takes over at HANDOVER, its copy in Comb naming it. -/
def State.handover (s : State) : State :=
  let b := s.staged
  let i := parseImage b
  if crc32c (bankBytes i) = i.bankcrc then
    let s := ((s.combPut 0 b).adopt i).enterAt i.hand
    { s.setUp upDONE 0 with upd.entry := none }
  else
    let s := match s.upd.image with | some o => s.enterAt o.restart | none => s
    { s.setUp upSTAGED 5 with upd.entry := none }

/-- HANDOVER (R429): due once the armed entry has fired. -/
def execHandover (s : State) : Host.Outcome State Fault Refusal :=
  .next (match s.upd.entry with
    | some i => if s.upState = upARMED ∧ ¬ s.armed i ∧ s.mapBit F.FIRED i then s.handover else s
    | none => s)

/-- The work of CONFIRM (R426, R430): records of other formats are erased and ARB advances to the image's SECVER. -/
def State.confirmed (s : State) : State :=
  match s.upd.image with
  | some i =>
    let s := { s with upd.formats := s.upd.formats.filter (fun f => decide (f = i.setfmt)), fuses.arb := max s.fuses.arb (min 64 i.secver) }
    (s.fputB F.UP_CONF_CONFIRMED true).fputB F.UP_CONF_OLDFMT false
  | none => s

def State.upBusy (s : State) : Bool := decide (upRECEIVING ≤ s.upState ∧ s.upState ≤ upARMED)

/-- CONFIRM. -/
def execConfirm (t : Fin 4096) (seq arg0 : Half) (s : State) : Host.Outcome State Fault Refusal :=
  .next (s.command t.val 0x0055 seq.toNat (ownerOnly t.val fun s =>
    if arg0 ≠ 0 then done cBADARG s
    else if s.upBusy then done cINUSE s
    else
      let s := s.confirmed
      (.reply cOK (leBytes 2 s.fuses.arb), s)))

-- the security commands (R418, R427)

/-- CRYPTO: a GENERAL job with the tenant's own bytes; refused BUSY with 1 in result bytes 0 and 1. -/
def execCrypto (t : Fin 4096) (seq arg0 : Half) (key data : List Byte) (s : State) : Host.Outcome State Fault Refusal :=
  .next (s.command t.val 0x0058 seq.toNat fun s =>
    let op := arg0.toNat % 16
    if 65000 < data.length then done cBADCMD s
    else if op = 0 ∨ 7 < op then done cBADARG s
    else if ¬ s.domPowered 34 then (.reply cREFUSED (leBytes 2 1), s)
    else
      let (ok, s) := s.cpSubmit { op := op, cls := 0, tenant := t.val, src := 0, len := data.length, dst := 0, key := 0,
                                  order := 0, own := some (key, data) }
      if ok then (.pending, s) else (.reply cREFUSED (leBytes 2 1), s))

/-- RANDOM: 1 to 1,024 bytes. -/
def execRandom (t : Fin 4096) (seq arg0 : Half) (s : State) : Host.Outcome State Fault Refusal :=
  .next (s.command t.val 0x0059 seq.toNat fun s =>
    if arg0.toNat = 0 ∨ 1024 < arg0.toNat then done cBADARG s
    else
      let (r, s) := s.random arg0.toNat
      (.reply cOK r, s))

/-- OSNMAROOT: the Merkle root OSNMA keys are checked against (R422). -/
def execOsnmaroot (t : Fin 4096) (seq arg0 : Half) (root : List Byte) (s : State) : Host.Outcome State Fault Refusal :=
  .next (s.command t.val 0x005A seq.toNat (ownerOnly t.val fun s =>
    if root.length ≠ 32 then done cBADCMD s
    else if arg0 ≠ 0 then done cBADARG s
    else done cOK { s with cp.root := some root }))

end Sys2Proof.Machine
end

