-- ==== Sys2Proof/Machine/Boot.lean ====
section
/-! DEFINITION. Start-up (21: R411 to R415; 02: R473, R480; 22: R424, R425): straps, the boot of an image, image entry, host
load, Warden restart, watchdog and the SERVICE input. -/

namespace Sys2Proof.Machine

def bmFLASH : Nat := 0
def bmSPI : Nat := 1
def bmPCIE : Nat := 2
def bmSERVICE : Nat := 3
def bsROM : Nat := 0
def bsIMAGE : Nat := 1
def bsHOSTWAIT : Nat := 2

/-- Reference dividers per REFSEL (R88): master and AUX. -/
def refDividers (refsel : Nat) : Nat × Nat := [(25, 10), (50, 20), (65, 26), (100, 40)].getD refsel (25, 10)

/-- STRAP_SAMPLE (R411): straps and SERVICE are sampled once after a reset of device scope; the master PLL starts, and the
ROM calls for the domains its boot needs. `service` is the asserted level. -/
def execStrapSample (bootsel : BitVec 2) (devaddr : BitVec 3) (refsel : BitVec 2) (service : Bool) (s : State) :
    Host.Outcome State Fault Refusal :=
  .next (if ¬ s.domPowered 1 ∨ s.boot.sampled then s
    else
      let (m, a) := refDividers refsel.toNat
      let s := { s with boot.sampled := true }.fputB F.CLKOUT_STAT_VIO2HI Config.vio2hi
      let s := ((s.fput F.SYS_STRAP_BOOTSEL bootsel.toNat).fput F.SYS_STRAP_DEVADDR devaddr.toNat).fput F.SYS_STRAP_REFSEL refsel.toNat
      let s := ((s.fputB F.SYS_STRAP_SERVICE service).fput F.CLK_CFG_REFSEL refsel.toNat).fput F.CLK_CFG_R m
      let mode := if service then bmSERVICE else if bootsel = 1 then bmSPI else if bootsel = 2 then bmPCIE else bmFLASH
      let s := ((s.fput F.AUX_STAT_R a).fput F.SYS_BOOT_MODE mode).fput F.SYS_BOOT_STATE
        (if mode = bmSPI ∨ mode = bmPCIE then bsHOSTWAIT else bsROM)
      (s.castVote 2 WARDEN true).castVote 34 WARDEN true)

/-- BOOT (R424): in FLASH mode the image is read from flash to its place in Comb and checked; a failure is the Dead state
(R425). -/
def execBoot (s : State) : Host.Outcome State Fault Refusal :=
  .next (if ¬ s.boot.sampled ∨ s.boot.checked ∨ s.boot.dead ∨ s.fget F.SYS_BOOT_MODE ≠ bmFLASH ∨ s.fget F.SYS_BOOT_STATE ≠ bsROM
        ∨ ¬ s.domPowered 2 then s
    else
      let b := s.flashBytes 0 (min 0x100000 (imgField (s.flashBytes 0 0x200) 0x18 4))
      if imageOk s.fuses b then { s.combWrite 0 0 b with boot.checked := true } else { s with boot.dead := true })

/-- BL_DATA (R414): the word goes to Comb at BL_ADDR, which advances by 4. -/
def State.blData (s : State) (d : Word) : State :=
  (s.combWrite 0 (4 * s.fget F.BL_ADDR_A) (leBytes 4 d.toNat)).fwrap F.BL_ADDR_A

def execBlData (via : Via) (d : Word) (s : State) : Host.Outcome State Fault Refusal :=
  .next (s.guarded via 0x002 0x05C (·.blData d))

/-- BL_CMD.GO: the ROM checks length, CRC and image; a failure sets RESULT and the ROM waits on. -/
def State.blGo (s : State) : State :=
  if s.fget F.SYS_BOOT_STATE ≠ bsHOSTWAIT then s
  else
    let n := s.fget F.BL_LEN_N
    let b := s.combBytes 0 n
    if 0x100000 < n then s.fput F.BL_STAT_RESULT 3
    else if crc32c b ≠ s.fget F.BL_CRC then s.fput F.BL_STAT_RESULT 1
    else if imageOk s.fuses b then { s.fput F.BL_STAT_RESULT 0 with boot.checked := true }
    else s.fput F.BL_STAT_RESULT 2

def execBlGo (via : Via) (s : State) : Host.Outcome State Fault Refusal := .next (s.guarded via 0x002 0x068 State.blGo)

-- image entry (R473, R480)

/-- Pages a running image leaves unlocked. -/
def unlockedPages : List Nat := [0x012, 0x120, 0x130, 0x152]

def implementedPages : List Nat := (List.range 1024).filter implemented

/-- PG_EVRAW bits of a page that feed a source: one per source; RST's four bits feed two. -/
def evBits (p : Nat) : Nat :=
  match findPage p with
  | some (r, i, j) => if p = 0x002 then 15 else 2 ^ (r.sources i j).2 - 1
  | none => 0

/-- LOCK and PG_EVEN of every page. -/
def State.lockPages (s : State) : State :=
  implementedPages.foldl (fun s p =>
    let s := if unlockedPages.contains p then s else s.fputB (PG_LOCK p) true
    s.setReg (p * 4096 + 0x018) (BitVec.ofNat 32 (evBits p))) s

/-- The image runs: the Warden votes for the configured paths' domains and sends those that are on to RECEIVE. -/
def State.startPaths (s : State) : State :=
  configured.foldl (fun s p =>
    let s := s.castVote (3 + p) WARDEN true
    if s.domPowered (3 + p) then s.rfReq p 3 else s) { s with rf.start := some {} }

/-- IMAGE_ENTRY: the checked image is entered `tms` ms after PORn rose: pages locked, every source enabled, the build week
loaded (R39), base registers loaded (R295), the codes in their table (R128), and AON events raised that waited for MGMT, the watchdog's count begun, and the
configured paths sent to RECEIVE for their calibrations (R415). -/
def execImageEntry (tms : Half) (s : State) : Host.Outcome State Fault Refusal :=
  .next (if ¬ s.boot.checked ∨ s.boot.dead ∨ s.fget F.SYS_BOOT_STATE = bsIMAGE then s
    else
      let i := parseImage (s.combBytes 0 (min 0x100000 (imgField (s.combBytes 0 0x200) 0x18 4)))
      let s := ((s.lockPages.adopt i).enterAt i.boot).fput F.SYS_BOOT_STATE bsIMAGE
      let s := (s.fput F.SYS_BOOT_TMS tms.toNat).fput F.WEEKFLOOR_WEEK i.week
      let s := ((List.range 38).filter s.domPowered).foldl State.loadBases s
      let s := s.aon.late.foldl (fun (s : State) n => s.evRise 0x1A0 n) s
      { s with aon.late := [], boot.checked := false, boot.fromBackup := false, boot.wdT := s.now }.loadCodeTable.startPaths)

-- Warden restart and watchdog (R412)

/-- A command that was executing is not executed again: its cached reply is REFUSED with result 0xFFFF. -/
def Tenant.interrupted (x : Tenant) : Tenant :=
  let rs := x.running.map fun c => (⟨c.2, c.1, cREFUSED, [0xFF, 0xFF], false⟩ : Reply)
  { x with cache := (rs ++ x.cache).take 32, running := [] }

/-- The Warden starts over: banks K0 to K2 as the image's copy in Comb has them, the image at its restart entry; without an
image the ROM. -/
def State.wardenCore (s : State) : State :=
  match s.upd.image with
  | some i => ((s.setCore 16 ((s.core 16).restart 3)).loadBanks i.banks).enterAt i.restart
  | none => s.setCore 16 ((s.core 16).restart 3)

/-- A Warden restart with its cause and event bit; a second within 10 s of the first is a device reset. -/
def State.wardenRestart (s : State) (cause bit : Nat) : State :=
  let s := s.fput F.RST_CAUSE_WCAUSE cause
  let again := match s.boot.restartT with | some t => decide (s.now < t + 10 * sec) | none => false
  let s := s.finc F.RST_CNT_WRESTART
  if again then s.deviceReset 4
  else
    let s := { s with boot.restartT := some s.now, boot.wdT := s.now, tn.stalled := none,
                      tn.tenants := s.tn.tenants.map fun (e : Nat × Tenant) => (e.1, e.2.interrupted) }
    s.wardenCore.evRise 0x002 bit

/-- WARDEN_RESTART: a Warden fault with its code (R274). -/
def execWardenRestart (cause : Byte) (s : State) : Host.Outcome State Fault Refusal :=
  .next (if s.domPowered 1 ∧ ¬ s.boot.dead then s.wardenRestart cause.toNat 2 else s)

/-- PERIOD ms have gone by without a kick. PERIOD = 0 stops the count, and until the image is entered the ROM kicks. -/
def State.wdDue (s : State) : Bool :=
  decide (s.fget F.RST_WDOG_PERIOD ≠ 0 ∧ s.fget F.SYS_BOOT_STATE = bsIMAGE ∧ s.boot.wdT + ms (s.fget F.RST_WDOG_PERIOD) ≤ s.now)

/-- WATCHDOG_EXPIRY. -/
def execWatchdogExpiry (s : State) : Host.Outcome State Fault Refusal :=
  .next (if s.domPowered 1 ∧ ¬ s.boot.dead ∧ s.wdDue then s.wardenRestart 0x40 3 else s)

/-- RST_WDKICK: 0x5AFE restarts the count. -/
def State.wdKick (s : State) (key : Nat) : State := if key = 0x5AFE then { s with boot.wdT := s.now } else s

def execWdkick (via : Via) (key : Half) (s : State) : Host.Outcome State Fault Refusal :=
  .next (s.guarded via 0x002 0x04C (·.wdKick key.toNat))

-- the SERVICE input (R413)

/-- The input is watched: MGMT runs, and not in service boot. -/
def State.svcOn (s : State) : Bool := s.domPowered 1 && s.boot.sampled && decide (s.fget F.SYS_BOOT_MODE ≠ bmSERVICE)

/-- UART0 as at reset: MODE = MONITOR with its rate, format and flow. -/
def State.uart0Monitor (s : State) : State :=
  if s.domPowered 2 then
    [0x040, 0x044, 0x048, 0x04C, 0x050].foldl (fun s o => s.setReg (0x158000 + o) (regReset (0x158000 + o))) s
  else s

/-- A sample of the ball, `b` when asserted, made every 1 ms: a level that holds for 20 samples is accepted. A release within 60 s of
the assertion is a press, unless the input is stuck. -/
def State.svcSample (s : State) (b : Bool) : State :=
  if ¬ s.svcOn then s
  else if b = s.flag F.RST_SVC_LEVEL then { s with boot.svcRun := 0 }
  else if s.boot.svcRun < 19 then { s with boot.svcRun := s.boot.svcRun + 1 }
  else
    let press := !b && !s.flag F.RST_SVC_STUCK && decide (s.now ≤ s.boot.svcT + 60 * sec)
    { s.fputB F.RST_SVC_LEVEL b with boot.svcRun := 0, boot.svcT := s.now, boot.svcPress := s.boot.svcPress || press }

/-- SERVICE_PRESS: an accepted assertion has been released within 60 s. -/
def execServicePress (s : State) : Host.Outcome State Fault Refusal :=
  .next (if s.svcOn ∧ ¬ s.flag F.RST_SVC_STUCK ∧ s.boot.svcPress then
      ({ s.finc F.RST_SVC_PRESSES with boot.svcPress := false }.evRise 0x002 0).uart0Monitor
    else s)

/-- SERVICE_STUCK: held for more than 60 s. -/
def execServiceStuck (s : State) : Host.Outcome State Fault Refusal :=
  .next (if s.svcOn ∧ ¬ s.flag F.RST_SVC_STUCK ∧ s.flag F.RST_SVC_LEVEL ∧ s.boot.svcT + 60 * sec < s.now then
      (s.fputB F.RST_SVC_STUCK true).evRise 0x002 1
    else s)

/-- SERVICE_UNSTUCK: accepted as released for 100 ms. -/
def execServiceUnstuck (s : State) : Host.Outcome State Fault Refusal :=
  .next (if s.flag F.RST_SVC_STUCK ∧ ¬ s.flag F.RST_SVC_LEVEL ∧ s.boot.svcT + ms 100 ≤ s.now then s.fputB F.RST_SVC_STUCK false else s)

end Sys2Proof.Machine
end

