-- ==== Sys2Proof/Machine/WvLoad.lean ====
section
/-! DEFINITION. Loading, running and resetting the Weevil cores (09: R176, WEEVIL page; 13: R254; 14: R287, R288; 20: AON_GWLD)
and the clear of the Comb counters (15: R296). -/

namespace Sys2Proof.Machine

def wvPage (h : Nat) : Nat := 0x081 + 8 * h

/-- Words from a key on replace those of a memory. -/
def putWords {α : Type} [DecidableEq α] (z : α) (base : Nat) (ws : List α) (t : Tab α) : Tab α :=
  let new := ((List.range ws.length).zip ws).filterMap fun x => if x.2 = z then none else some (base + x.1, x.2)
  t.filter (fun x => decide (x.1 < base)) ++ new ++ t.filter (fun x => decide (base + ws.length ≤ x.1))

/-- `n` 16-bit words of Comb from byte address `a`, low byte first. -/
def State.combWords (s : State) (m a n : Nat) : List Half × State :=
  let (b, _, s) := s.combRead m a (2 * n)
  ((chunks 2 b).map fun c => BitVec.ofNat 16 (ofLe c), s)

-- Hive Weevils

/-- WV_LDCTL.GO (R176): code or data memory from WV_LDSRC on; refused while RUN = 1. -/
def State.wvLoad (s : State) (h : Nat) : State :=
  if s.flag (F.WV_CTL_RUN h) then s.fault (wvPage h) 0
  else
    let n := s.fget (F.WV_LDCTL_WORDS h)
    let n := min 16384 (if n = 0 then 16384 else n)
    let (ws, s) := s.combWords 1 (64 * s.fget (F.WV_LDSRC_V h)) n
    let c := s.core h
    s.setCore h (if s.flag (F.WV_LDCTL_DATA h) then { c with data := putWords 0 0 ws c.data } else { c with code := putWords 0 0 ws c.code })

def execWvLoadGo (via : Via) (h : Fin 16) (s : State) : Host.Outcome State Fault Refusal :=
  .next (s.gated (.wvLoadGo via h) via (wvPage h.val) 0x050 (·.wvLoad h.val))

/-- WV_STAT of a Hive Weevil follows its core. -/
def State.wvStat (s : State) (h : Nat) : State :=
  let c := s.core h
  let s := (s.fputB (F.WV_STAT_FAULT h) c.faulted).fput (F.WV_STAT_CAUSE h) c.cause
  s.fputB (F.WV_STAT_RUNNING h) (s.flag (F.WV_CTL_RUN h) && !c.faulted)

/-- WV_CTL.RST (R274, R288). -/
def State.wvReset (s : State) (h : Nat) : State := (s.setCore h ((s.core h).restart 0)).wvStat h

def execWvRst (via : Via) (h : Fin 16) (s : State) : Host.Outcome State Fault Refusal :=
  .next (s.gated (.wvRst via h) via (wvPage h.val) 0x040 (·.wvReset h.val))

/-- WV_CTL.RUN. -/
def State.wvSetRun (s : State) (h : Nat) (on : Bool) : State := (s.fputB (F.WV_CTL_RUN h) on).wvStat h

def execWvRun (via : Via) (h : Fin 16) (on : Bool) (s : State) : Host.Outcome State Fault Refusal :=
  .next (s.gated (.wvRun via h on) via (wvPage h.val) 0x040 (·.wvSetRun h.val on))

-- Glowworm's loads

/-- AON_GWLD.GO: a load starts; while one runs a GO has no effect. -/
def State.gwLoad (s : State) : State :=
  if s.flag F.AON_GWLD_GO then s
  else
    let data := s.flag F.AON_GWLD_DATA
    let full := if data then 1024 else 2048
    let n := s.fget F.AON_GWLD_WORDS
    let j : LoadJob := { core := 17, part := data, src := 64 * s.fget F.AON_GWSRC_ADDR, first := 0,
                         words := min full (if n = 0 then full else n), vals := [] }
    { s.fputB F.AON_GWLD_GO true with wv := { s.wv with loads := Tab.set (fun _ => none) s.wv.loads 17 (some j) } }

def execGwld (via : Via) (s : State) : Host.Outcome State Fault Refusal := .next (s.guarded via 0x1A0 0x06C State.gwLoad)

/-- GWLD_DONE: the words are in Glowworm's memory and GO clears. -/
def execGwldDone (s : State) : Host.Outcome State Fault Refusal :=
  .next (match Tab.get (fun _ => none) s.wv.loads 17 with
    | some j =>
      let (ws, s) := s.combWords 14 j.src j.words
      let c := s.core 17
      let s := s.setCore 17 (if j.part then { c with data := putWords 0 0 ws c.data } else { c with code := putWords 0 0 ws c.code })
      { s with wv := { s.wv with loads := Tab.set (fun _ => none) s.wv.loads 17 none } }.fputB F.AON_GWLD_GO false
    | none => s)

-- micro-code (R287, R288)

/-- A reserved code or bit in a micro-word (R278, R279). -/
def microBad (w : BitVec 64) : Bool :=
  let f (lo n : Nat) : Nat := w.toNat / 2 ^ lo % 2 ^ n
  decide (f 60 4 = 15 ∨ f 56 4 = 15 ∨ f 52 4 = 15 ∨ f 48 4 = 15 ∨ f 48 4 = 6 ∨ f 48 4 = 7 ∨ f 48 4 = 14 ∨ f 46 2 = 3 ∨
    6 ≤ f 36 3 ∨ 10 ≤ f 32 4 ∨ f 26 5 ≠ 0)

/-- A bad decode entry (R276, R287). -/
def entryBad (w : BitVec 64) : Bool :=
  let f (lo n : Nat) : Nat := w.toNat / 2 ^ lo % 2 ^ n
  decide (f 25 4 ≠ 0 ∨ f 10 6 ≠ 0 ∨ (f 31 1 = 1 ∧ (f 29 2 = 3 ∨ f 16 9 = 0 ∨ 256 < f 16 9)))

/-- The conditions of R287 in order, but for the CRC's own comparison; 0 when all hold. -/
def State.ucCheck (s : State) (core first count : Nat) (part crcOk : Bool) (ws : List (BitVec 64)) : Nat :=
  if 16 < core then 6
  else if s.flag ⟨F.UC_SEAL_V.addr, core, 1⟩ then 1
  else if core < 16 ∧ s.flag (F.WV_CTL_RUN core) then 2
  else if count = 0 ∨ (if part then 16 else 1024) < first + count then 3
  else if ¬ crcOk then 4
  else if ws.any (if part then entryBad else microBad) then 5
  else 0

/-- The words of a load go into the core, together. -/
def State.ucWrite (s : State) (j : LoadJob) : State :=
  let c := s.core j.core
  if j.part then
    s.setCore j.core { c with table := putWords 0 j.first (j.vals.map fun (w : BitVec 64) => w.setWidth 32) c.table }
  else
    let new := ((List.range j.vals.length).zip j.vals).foldl (fun (t : Tab (BitVec 64)) x =>
      Tab.set (Config.microInit j.core) t (j.first + x.1) x.2) c.micro
    s.setCore j.core { c with micro := new }

/-- UC_CTL.GO (R287): on the first failure RESULT names it; else the load runs. -/
def State.ucGo (s : State) : State :=
  if s.flag F.UC_STAT_BUSY then s
  else
    let core := s.fget F.UC_CTL_CORE
    let part := s.flag F.UC_CTL_PART
    let count := s.fget F.UC_DST_COUNT
    let first := s.fget F.UC_DST_FIRST
    let size := if part then 4 else 8
    let (b, _, s) := s.combRead 0 (64 * s.fget F.UC_SRC_V) (size * count)
    let ws := (chunks size b).map fun c => BitVec.ofNat 64 (ofLe c)
    let r := s.ucCheck core first count part (decide (crc32c b = s.fget F.UC_CRC)) ws
    let s := s.fput F.UC_STAT_RESULT r
    if r ≠ 0 then s
    else { s.fputB F.UC_STAT_BUSY true with wv.uc := some { core := core, part := part, src := 0, first := first, words := count, vals := ws } }

def execUcLoad (via : Via) (s : State) : Host.Outcome State Fault Refusal := .next (s.guarded via 0x190 0x100 State.ucGo)

/-- UC_LOAD_DONE: the words are written and BUSY clears. -/
def execUcLoadDone (s : State) : Host.Outcome State Fault Refusal :=
  .next (match s.wv.uc with
    | some j => { s.ucWrite j with wv.uc := none }.fputB F.UC_STAT_BUSY false
    | none => s)

/-- UC_CTL.SEAL (R288): the seal of the core UC_CTL.CORE names. -/
def State.ucSeal (s : State) : State :=
  let core := s.fget F.UC_CTL_CORE
  if core ≤ 16 then s.fputB ⟨F.UC_SEAL_V.addr, core, 1⟩ true else s

def execUcSeal (via : Via) (s : State) : Host.Outcome State Fault Refusal := .next (s.guarded via 0x190 0x100 State.ucSeal)

/-- CB_CTL.CLR (R296). -/
def State.cbClear (s : State) : State :=
  (List.range 16).foldl (fun s m => (s.fput (F.CB_ACC m) 0).fput (F.CB_CNF m) 0) s

def execCbClr (via : Via) (s : State) : Host.Outcome State Fault Refusal := .next (s.guarded via 0x120 0x040 State.cbClear)

end Sys2Proof.Machine
end

