-- ==== Sys2Proof/Machine/QueueCmd.lean ====
section
/-! DEFINITION. The QUEUE page's operations (16: R298, R299, R307 to R311, R314, R315): on the queue that Q_SEL of the
accessing port or Weevil names. -/

namespace Sys2Proof.Machine

/-- Q_SEL as a reader holds it (R299). -/
def State.qSel (s : State) (r : Nat) : Nat := (s.latched r F.Q_SEL_Q.addr).toNat % 8192

/-- A tenant's operation on the wrong end of its own queues, or on another's, faults it with BADOP (R298). -/
def State.qAct (s : State) (via : Via) (inbound : Option Bool) (f : State → Nat → State) : State :=
  let i := s.qSel (viaReader via)
  match s.writer via 0x141 with
  | .tenant t =>
    if inbound = some (decide (i % 2 = 0)) ∧ i / 2 = t then f s i else s.faultTenant t 2
  | _ => f s i

/-- Q_PUSHH: the item PUSHH:PUSHL is pushed. -/
def State.queuePush (s : State) (via : Via) (hi : Word) : State :=
  s.qAct via (some true) fun s i =>
    let lo := s.latched (viaReader via) F.Q_PUSHL.addr
    s.pushItem i (hi ++ lo) (match s.writer via 0x141 with | .tenant _ => true | _ => false)

def execQueuePush (via : Via) (hi : Word) (s : State) : Host.Outcome State Fault Refusal :=
  .next (s.guarded via 0x141 0x054 (·.queuePush via hi))

/-- Q_OP: 1 MARK, 2 REWIND, 3 RELEASE, 4 BATCHOPEN, 5 BATCHCLOSE, 6 FLUSH. -/
def State.qOp (s : State) (via : Via) (op : Nat) : State :=
  let on (side : Option Bool) (f : Queue → Queue) : State := s.qAct via side fun s i => s.queueOp i f
  if op = 1 then on (some false) Queue.mark
  else if op = 2 then on (some false) Queue.rewind
  else if op = 3 then on (some false) Queue.release
  else if op = 4 then on none Queue.batchopen
  else if op = 5 then on none Queue.batchclose
  else if op = 6 then on none Queue.flush
  else s

def execMark (via : Via) (s : State) : Host.Outcome State Fault Refusal := .next (s.guarded via 0x141 0x044 (·.qOp via 1))
def execRewind (via : Via) (s : State) : Host.Outcome State Fault Refusal := .next (s.guarded via 0x141 0x044 (·.qOp via 2))
def execRelease (via : Via) (s : State) : Host.Outcome State Fault Refusal := .next (s.guarded via 0x141 0x044 (·.qOp via 3))
def execBatchopen (via : Via) (s : State) : Host.Outcome State Fault Refusal := .next (s.guarded via 0x141 0x044 (·.qOp via 4))
def execBatchclose (via : Via) (s : State) : Host.Outcome State Fault Refusal := .next (s.guarded via 0x141 0x044 (·.qOp via 5))
def execFlush (via : Via) (s : State) : Host.Outcome State Fault Refusal := .next (s.guarded via 0x141 0x044 (·.qOp via 6))

/-- A core's read of Q_POPL (R314): the Warden stalls on an empty inbound queue; every other read of an empty queue waits
QWAIT. -/
def State.corePop (s : State) (c : Core) : State :=
  let r := 3 + coreIdx c
  let i := s.qSel r
  if (s.queue i).readable then
    let (x, s) := s.popItem i
    s.popAnswer r x
  else if c = .warden ∧ i % 2 = 0 then { s with tn.stalled := some i, out := [] }
  else s.popWait r i

def execQueuePop (c : Core) (s : State) : Host.Outcome State Fault Refusal :=
  .next (if s.domPowered 1 ∧ ¬ s.boot.dead then s.corePop c else s)

/-- The pop that has waited longest has waited QWAIT (R314). -/
def State.waited (s : State) (r : Nat) : Bool := decide (Tab.get (fun _ => 0) s.tn.waitT r ≤ s.now)

/-- QWAIT_EXPIRY (R314): the pop that has waited longest ends with EMPTY, once its wait is over. -/
def execQwaitExpiry (s : State) : Host.Outcome State Fault Refusal :=
  .next (match s.tn.waiting with
    | w :: r => if s.waited w.1 then { s with tn.waiting := r }.popAnswer w.1 0 else s
    | [] => s)

/-- Has tenant `t` a readable message of priority 3? -/
def State.pri3 (s : State) (t : Nat) : Bool :=
  let q := s.queue (2 * t)
  q.ready.any (fun m => decide (msgPri m = 3)) || q.cur.any (fun x => decide (itemPri x = 3)) ||
    q.redo.any (fun x => decide (itemPri x.2 = 3))

/-- The tenant Q_NEXTIN answers (R315): priority 3 first, else in turn from the last one answered. -/
def State.nextIn (s : State) : Option (Nat × Bool) :=
  let can := (s.tn.tenants.filter fun e => e.2.live && (s.queue (2 * e.1)).readable).map Prod.fst
  let hot := can.filter s.pri3
  let key (t : Nat) : Nat := (t + 4095 - s.tn.rr) % 4096
  let best := (if hot = [] then can else hot).foldl (fun (m : Option Nat) t =>
    match m with | none => some t | some u => if key t < key u then some t else some u) none
  best.map fun t => (t, s.pri3 t)

/-- A read of Q_NEXTIN: its word, and the turn moves. -/
def State.nextinRead (s : State) : Word × State :=
  match s.nextIn with
  | some (t, p) => (BitVec.ofNat 32 (2 ^ 31 + (if p then 2 ^ 30 else 0) + t), { s with tn.rr := t })
  | none => (0, s)

/-- NEXTIN_READ: the turn is one for all readers; FREEZE holds the word and the turn (R30). -/
def execNextinRead (_  : Reader) (s : State) : Host.Outcome State Fault Refusal :=
  .next (if ¬ s.domPowered 1 ∨ s.boot.dead then s
    else if s.flag (PG_FREEZE 0x141) then { s with out := [s.held F.Q_NEXTIN_T.addr] }
    else
      let (w, s) := s.nextinRead
      { s with out := [w] })

/-- Q_CFG written: the limit and wait of the selected queue, whose grants follow (R309, R310). -/
def State.qCfg (s : State) (i : Nat) (v : Word) : State :=
  let q := s.queue i
  let lim := v.toNat % 65536
  (s.putQueue i { q with limit := if i % 2 = 0 then max 16 lim else lim, qwait := min 100 (v.toNat / 65536 % 256) }).grantQ i

end Sys2Proof.Machine
end

