-- ==== Sys2Proof/Machine/Bus.lean ====
section
/-! DEFINITION. Reads of the register space (02: R24, R26 to R32, R36, R479; 03: R38): what a register reads as, the
latched and popping registers, and FREEZE. -/

namespace Sys2Proof.Machine

-- header registers that report state

/-- PG_STAT.BUSY: the page's block has an operation in progress, for the blocks whose registers show one. -/
def State.pageBusy (s : State) (p : Nat) : Bool :=
  if p = 0x002 then s.flag F.BL_STAT_BUSY
  else if p = 0x028 then s.flag F.CAL_STAT_BUSY
  else if p = 0x039 then s.flag F.SM_STAT_BUSY
  else if p = 0x040 then s.flag F.DF_STAT_RUNNING
  else if 0x080 ≤ p ∧ p < 0x100 ∧ p % 8 = 6 then s.flag (F.CS_STAT_BUSY ((p - 0x080) / 8))
  else if p = 0x101 then s.flag F.SC_MRES_BUSY
  else if p = 0x111 then s.schedBusy.isSome
  else if p = 0x15C then s.flag F.XS_STAT_BUSY
  else if p = 0x160 then s.cpRunning.isSome
  else if p = 0x190 then s.flag F.UC_STAT_BUSY
  else false

/-- PG_STAT.ACTIVE, "block running" (R30): the block of the page has a state machine, engine, core, port or output that runs. The
spec names the condition for no block; these are the model's (log entry 6). -/
def State.pageActive (s : State) (p : Nat) : Bool :=
  if 0x020 ≤ p ∧ p < 0x028 then decide (3 ≤ s.rfState (p - 0x020))
  else if p = 0x038 then (List.range 24).any s.strRun
  else if 0x040 ≤ p ∧ p < 0x044 then s.flag F.DF_STAT_RUNNING
  else if 0x080 ≤ p ∧ p < 0x100 then
    let h := (p - 0x080) / 8
    if p % 8 = 1 then s.flag (F.WV_CTL_RUN h)
    else (List.range 64).any fun k => decide (s.chState (64 * h + k) ≠ chIDLE)
  else if p = 0x100 then s.flag F.GA_CTL_EN
  else if 0x101 ≤ p ∧ p < 0x104 then decide (s.vstate ≠ vsOFF)
  else if p = 0x110 then !s.flag F.CLK_STAT_BYP
  else if p = 0x111 ∨ p = 0x112 then decide (0 < s.nArmed)
  else if p = 0x113 then s.flag (F.TP_CTL_EN 0) || s.flag (F.TP_CTL_EN 1)
  else if p = 0x114 then (List.range 8).any fun n => s.flag (F.EV_CFG_EN n)
  else if p = 0x115 then s.flag F.MN_STAT_LOCK
  else if p = 0x150 then s.flag F.PCIE_LINK_UP
  else if p = 0x151 then s.flag F.USB_STAT_VBUS
  else if p = 0x170 then s.flag F.AR_STAT_RUNNING
  else if p = 0x181 ∨ p = 0x182 then decide (s.penState (p - 0x181) = ptUP)
  else if p = 0x1A0 then s.flag F.AON_CTL_GWRUN
  else s.pageBusy p

/-- PG_EVRAW: lines that are high for a moment only read 0; a channel page's line stands while an EVC bit does (09). -/
def State.evRaw (s : State) (p : Nat) : Word :=
  if 0x080 ≤ p ∧ p < 0x100 ∧ 2 ≤ p % 8 ∧ p % 8 ≤ 5 then
    let first := 64 * ((p - 0x080) / 8) + 16 * (p % 8 - 2)
    (List.range 16).foldl (fun a k => if s.fget (F.CH_STAT_EVC (first + k)) ≠ 0 then a ||| (1 <<< k) else a) 0
  else 0

/-- What a header register reads as (R29). -/
def State.header (s : State) (p o : Nat) : Word :=
  let b (x : Bool) (n : Nat) : Nat := if x then 2 ^ n else 0
  if o = 0x010 then
    BitVec.ofNat 32 (b (decide (s.reg (p * 4096 + 0x020) ≠ 0)) 3 + b (s.powered p) 2 + b (s.pageBusy p) 1 +
      b (s.powered p && s.pageActive p) 0)
  else if o = 0x014 then s.evRaw p
  else if o = 0x028 then
    let d := pageDom p
    BitVec.ofNat 32 (s.holders d * 65536 + b (s.domPowered d) 8 + d)
  else s.reg (p * 4096 + o)

-- block registers that report state held elsewhere

def bitmapWord (w : Nat) (p : Nat → Bool) : Word :=
  (List.range 32).foldl (fun a k => if p (32 * w + k) then a ||| (1 <<< k) else a) 0

/-- TENANT: TN_IDX of the reader (R299), and the maps. -/
def State.tenantView (s : State) (r o : Nat) : Option Word :=
  if o = 0x040 then some (s.latched r F.TN_IDX_T.addr)
  else if 0x080 ≤ o ∧ o < 0x280 then some (bitmapWord ((o - 0x080) / 4) fun t => (s.tenant t).q)
  else if 0x280 ≤ o ∧ o < 0x480 then some (bitmapWord ((o - 0x280) / 4) fun t => (s.tenant t).state = .fault)
  else none

/-- QUEUE: the selected queue of the reader, and the pool. -/
def State.queueView (s : State) (r o : Nat) : Option Word :=
  let i := s.qSel r
  let q := s.queue i
  if o = 0x040 then some (BitVec.ofNat 32 i)
  else if o = 0x04C then some (s.latched r F.Q_POPH.addr)
  else if o = 0x058 then some (BitVec.ofNat 32 (min 0xFFFF q.pkt * 65536 + min 0xFFFF q.held))
  else if o = 0x05C then some (BitVec.ofNat 32 (min 0xFFFF q.cred))
  else if o = 0x060 then some (BitVec.ofNat 32 ((if (s.slotOf i).isSome then 2 ^ 31 else 0) + q.qwait * 65536 + q.limit))
  else if o = 0x068 then some (BitVec.ofNat 32 s.poolFree)
  else none

/-- QCACHE: the slots (R312). -/
def State.qcacheView (s : State) (o : Nat) : Option Word :=
  let slot (n : Nat) := Tab.get (fun _ => none) s.tn.slots n
  if o = 0x044 then
    let used := (s.tn.slots.filter fun e => e.2.isSome)
    some (BitVec.ofNat 32 (used.length * 65536 + (used.filter fun e => decide (e.1 < 2)).length))
  else if 0x100 ≤ o ∧ o < 0x900 then
    let n := (o - 0x100) / 4
    some (match slot n with
      | some (i, _) => BitVec.ofNat 32 (2 ^ 31 + (if n < 2 then 2 ^ 30 else 0) + i)
      | none => 0)
  else none

/-- SYS_PART and SYS_UID (R1, R2). -/
def State.sysView (s : State) (o : Nat) : Option Word :=
  if o = 0x040 then
    some (s.reg 0x001040 ||| BitVec.ofNat 32 ((if s.fuses.keyHash.isSome then 8 else 0) + s.fuses.grade % 4))
  else if o = 0x044 then some ((s.fuses.uid >>> 32).truncate 32)
  else if o = 0x048 then some (s.fuses.uid.truncate 32)
  else none

/-- SCHED_STAT and SCHED_NEXT (R56). -/
def State.schedView (s : State) (o : Nat) : Option Word :=
  if o = 0x048 then
    some (F.SCHED_STAT_BUSY.put (F.SCHED_STAT_NFREE.put (s.reg 0x111048) (512 - s.nArmed)) (if s.schedBusy.isSome then 1 else 0))
  else if o = 0x068 then some (match s.schedNext with | some i => BitVec.ofNat 32 i | none => 0x80000000)
  else none

/-- CP_FUSE and CP_KEYHASH (R416). -/
def State.cpView (s : State) (o : Nat) : Option Word :=
  if o = 0x078 then some (BitVec.ofNat 32 (s.fuses.arb * 65536 + 0x1024))
  else if 0x0C0 ≤ o ∧ o < 0x0E0 then
    some (BitVec.ofNat 32 (ofLe (((s.fuses.keyHash.getD []).drop (o - 0x0C0)).take 4)))
  else none

/-- The low word of a HI and LO pair of the Ledger (20), and DF_CELLS_LO: reading the HI word latches it. -/
def pairLo (a : Nat) : Bool :=
  decide ((0x008050 ≤ a ∧ a < 0x0080C0 ∧ a % 8 = 4) ∨ a = F.DF_CELLS_LO.addr)
def pairHi (a : Nat) : Bool := pairLo (a + 4)

/-- Registers that read as a latch of the reader: of NOW_T2 (R38), of MN_CYC (12), of a HI word. -/
def latchedReg (a : Nat) : Bool :=
  pairLo a || decide (a = 0x11004C ∨ a = 0x110050 ∨ a = 0x110054 ∨ a = 0x110058 ∨ a = 0x110088 ∨ a = 0x11008C ∨
    (0x115050 ≤ a ∧ a ≤ 0x11505C))

/-- What a block register reads as to reader `r`, with no effect of the read. -/
def State.view (s : State) (r a : Nat) : Word :=
  let p := a / 4096
  let o := a % 4096
  if latchedReg a then s.latched r a
  else if a = (F.NOW_T 0).addr then BitVec.ofNat 32 (s.now / 2 ^ 64)
  else if a = F.MN_CYC.addr then BitVec.ofNat 32 s.aon.mnCyc
  else if a = F.AON_RDATA.addr then Tab.get (fun _ => 0) s.aon.ram (s.fget F.AON_RIDX_V)
  else
    ((if p = 0x001 then s.sysView o
      else if p = 0x111 then s.schedView o
      else if p = 0x140 then s.tenantView r o
      else if p = 0x141 then s.queueView r o
      else if p = 0x142 then s.qcacheView o
      else if p = 0x160 then s.cpView o
      else if a = F.MN_PHASE.addr then some (BitVec.ofNat 32 s.mnPhase)
      else if a = F.SPI_STAT_C.addr then some (F.SPI_STAT_C.put (s.reg a) (min 0xFFFF s.spiWaiting))
      else if 0x080 ≤ p ∧ p < 0x100 ∧ p % 8 = 1 ∧ o = 0x048 then some ((s.core ((p - 0x080) / 8)).p.zeroExtend 32)
      else none).getD (s.reg a))

-- reads that do something

def popping (a : Nat) : Bool :=
  decide (a = F.Q_POPL.addr ∨ a = F.EV_POP_VALID.addr ∨ (0x158 ≤ a / 4096 ∧ a / 4096 < 0x15C ∧ a % 4096 = 0x058))

/-- The core that reads for itself (R27). -/
def viaCore : Via → Option Core
  | .warden => some .warden
  | .hive n => some (.hive n)
  | .glow => some .glow
  | _ => none

/-- When the wait of core `c` in Q_POPL ends, if it waits (R314). -/
def State.coreWaits (s : State) (c : Core) : Option Nat := Tab.get (fun _ => none) s.tn.coreWait (coreIdx c)
def State.setCoreWait (s : State) (c : Core) (t : Option Nat) : State :=
  { s with tn.coreWait := Tab.set (fun _ => none) s.tn.coreWait (coreIdx c) t }

/-- A performed read of a popping register. The Warden's read of an empty inbound queue stalls it (R314); any other
core's wait for QWAIT is over when its read ends. -/
def State.popReg (s : State) (c : Core) (a : Nat) : Word × State :=
  if a = F.Q_POPL.addr then
    let r := 3 + coreIdx c
    let i := s.qSel r
    if ¬ (s.queue i).readable ∧ c = .warden ∧ i % 2 = 0 then (0, { s with tn.stalled := some i })
    else
      let (x, s) := (s.setCoreWait c none).popItem i
      (x.truncate 32, s.setLatch r F.Q_POPH.addr ((x >>> 32).truncate 32))
  else if a = F.EV_POP_VALID.addr then s.evPop (c = .warden)
  else s.uPop (a / 4096 - 0x158)

/-- Registers whose value is made by the read: CP_RNG, a word of the generator. -/
def drawnReg (a : Nat) : Bool := decide (a = F.CP_RNG.addr)

def State.drawReg (s : State) (_a : Nat) : Word × State := (Config.trng s.fresh, { s with fresh := s.fresh + 1 })

/-- The latches a read of `a` takes for reader `r`. -/
def State.readLatch (s : State) (r a : Nat) : State :=
  if a = (F.NOW_T 0).addr then s.nowLatch r
  else if a = F.MN_CYC.addr then
    [0x115050, 0x115054, 0x115058, 0x11505C].foldl (fun s k => s.setLatch r k (s.reg k)) s
  else if pairHi a then s.setLatch r (a + 4) (s.reg (a + 4))
  else s

/-- A live read of a block register. -/
def State.readLive (s : State) (r a : Nat) : Word × State :=
  if drawnReg a then s.drawReg a
  else if a = F.Q_NEXTIN_T.addr then s.nextinRead
  else (s.view r a, s.readLatch r a)

-- FREEZE (R30)

/-- Registers whose read value each reader has for itself. -/
def perReader (a : Nat) : Bool :=
  latchedReg a || decide (0x141000 ≤ a ∧ a < 0x142000 ∧ a ≠ F.Q_NEXTIN_T.addr ∧ a ≠ 0x141068)

def snapKey (r a : Nat) : Nat := if perReader a then latchKey (r + 1) a else a

def readers : List Nat := List.range 21

/-- Hold the read value of every RO register of page `p`. -/
def State.freezeTake (s : State) (p : Nat) : State :=
  match findPage p with
  | none => s
  | some (row, _, _) =>
    row.regs.foldl (fun (s : State) (d : RegDef) => (List.range d.count).foldl (fun (s : State) k =>
      let a := p * 4096 + d.off + k * d.stride
      if d.bits .RO = (0 : Word) ∨ popping a then s
      else if perReader a then
        readers.foldl (fun (s : State) r => { s with snap := Tab.set (fun _ => 0) s.snap (snapKey r a) (s.view r a) }) s
      else
        let (w, s) := if drawnReg a then s.drawReg a
          else (if a = F.Q_NEXTIN_T.addr then s.nextinRead.1 else s.view 0 a, s)
        { s with snap := Tab.set (fun _ => 0) s.snap a w }) s) s

def State.freezeDrop (s : State) (p : Nat) : State :=
  { s with snap := Tab.clear (fun k => decide (k % 2 ^ 24 / 4096 = p)) s.snap }

/-- FREEZE as written: held values are taken when it rises and dropped when it falls. -/
def State.setFreeze (s : State) (p : Nat) (on : Bool) : State :=
  let was := s.flag (PG_FREEZE p)
  let s := s.fputB (PG_FREEZE p) on
  if on ∧ ¬ was then (if s.powered p then s.freezeTake p else s)
  else if ¬ on then s.freezeDrop p
  else s

/-- FREEZE (R30): PG_CTL.FREEZE written. -/
def execFreeze (via : Via) (page : Fin 1024) (on : Bool) (s : State) : Host.Outcome State Fault Refusal :=
  .next (s.guarded via page.val 0x00C (·.setFreeze page.val on))

/-- A read of a block register of a powered page. -/
def State.readReg (s : State) (via : Via) (d : RegDef) (a : Nat) : Word × State :=
  if popping a then
    match viaCore via with
    | some c => s.popReg c a
    | none => (0, s)
  else if s.flag (PG_FREEZE (a / 4096)) ∧ d.bits .RO ≠ 0 then
    let r := viaReader via
    let w := s.view r a
    ((w &&& ~~~(d.bits .RO)) ||| (s.held (snapKey r a) &&& d.bits .RO), s)
  else s.readLive (viaReader via) a

/-- A read of the register at page `p`, offset `o` through `via` (R24 to R32): its value and what the read did. Two points the spec
leaves open are the model's choice (log entry 45): a popping read that a host makes on an unpowered page, which R27 does not
perform, sets UNPWR as R32 says of each access; and FREEZE, which holds the RO block registers, does not hold the active values
at + 0x800. -/
def State.busRead (s : State) (via : Via) (p o : Nat) : Word × State :=
  let o := o / 4 * 4
  if s.unreachable via p then (0, s)
  else match regKind p o with
  | none => (0, s)
  | some .reserved => (0, s.fault p faultACCESS)
  | some .header => (s.header p o, s)
  | some .active => if s.powered p then (s.reg (p * 4096 + o), s) else (0, s.fault p faultUNPWR)
  | some (.block d) =>
    if s.powered p ∨ isSleepReg (p * 4096 + o) then s.readReg via d (p * 4096 + o) else (0, s.fault p faultUNPWR)

/-- Is a read of one of `n` registers held back by an entry sequence (R386)? -/
def State.readHeld (s : State) (via : Via) (p o n : Nat) : Bool :=
  !s.unreachable via p && decide (s.domState (pageDom p) = dENTRY) &&
    (List.range n).any fun k => match regKind p (o / 4 * 4 + 4 * k) with
      | some (.block _) => !isSleepReg (p * 4096 + o / 4 * 4 + 4 * k)
      | some .active => true
      | _ => false

/-- `n` registers from one on. -/
def State.busReads (s : State) (via : Via) (p o : Nat) : Nat → List Word × State
  | 0 => ([], s)
  | n + 1 =>
    let (w, s) := s.busRead via p o
    let (ws, s) := State.busReads s via (p + (o + 4) / 4096) ((o + 4) % 4096) n
    (w :: ws, s)

end Sys2Proof.Machine
end

