-- ==== Sys2Proof/Machine/BusWrite.lean ====
section
/-! DEFINITION. Writes of the register space (02: R24 to R35, R479; 17: R327 to R334): the header registers, SRST (R30, R475
to R478, R481, R482), and what a write of each block register does. -/

namespace Sys2Proof.Machine

-- SRST

/-- The RO bits SRST returns to reset: counters, and results of operations that have ended. The row is found by its first
page; the last two numbers are the first and last offset. All other RO bits report live state (R30). -/
def storedRO : List (Nat × Nat × Nat × Word) :=
  [(0x002, 0x050, 0x050, 0xFFFF0000), (0x002, 0x054, 0x054, 0xFFFFFFFF), (0x002, 0x06C, 0x06C, 0xE),
   (0x004, 0x044, 0x044, 0xFFFFFFFF), (0x006, 0x040, 0x0D4, 0xFFFFFFFF),
   (0x008, 0x050, 0x0BC, 0xFFFFFFFF), (0x008, 0x0EC, 0x0EC, 0xFFFFFFFF), (0x009, 0x05C, 0x05C, 0xFFFFFFFF),
   (0x010, 0x04C, 0x04C, 0xFFFFFFFF),
   (0x020, 0x058, 0x058, 0xFFFFFFFF), (0x020, 0x060, 0x070, 0xFFFFFFFF),
   (0x028, 0x048, 0x048, 0xFFFFFFFE), (0x028, 0x050, 0x050, 0xFFFFFFFF),
   (0x030, 0x050, 0x050, 0xFFFFFFFF), (0x039, 0x048, 0x048, 0xFFFF0000), (0x039, 0x04C, 0x054, 0xFFFFFFFF),
   (0x040, 0x048, 0x050, 0xFFFFFFFF), (0x041, 0x084, 0x084, 0xFFFFFFFF),
   (0x080, 0x068, 0x06C, 0xFFFFFFFF), (0x086, 0x148, 0x148, 2),
   (0x100, 0x050, 0x054, 0xFFFFFFFF), (0x101, 0x050, 0x050, 7), (0x101, 0x068, 0x068, 0xFFFF0000),
   (0x102, 0x044, 0x058, 0xFFFFFFFF), (0x110, 0x094, 0x094, 0xFFFFFFFF), (0x111, 0x048, 0x048, 2),
   (0x111, 0x06C, 0x06C, 0xFFFFFFFF), (0x115, 0x064, 0x064, 0xFFFFFFFF), (0x120, 0x048, 0x0FC, 0xFFFFFFFF),
   (0x130, 0x060, 0x06C, 0xFFFFFFFF), (0x131, 0x240, 0x43C, 0xFFFF0000), (0x140, 0x048, 0x054, 0xFFFFFFFF),
   (0x140, 0x058, 0x058, 0xFFFF), (0x142, 0x048, 0x04C, 0xFFFFFFFF), (0x150, 0x048, 0x048, 0xFFFFFFFF),
   (0x150, 0x08C, 0x0BC, 0x30000000), (0x151, 0x044, 0x048, 0xFFFFFFFF), (0x152, 0x04C, 0x04C, 0xFFFFFFFF),
   (0x158, 0x064, 0x070, 0xFFFFFFFF), (0x15C, 0x050, 0x050, 6), (0x15C, 0x054, 0x054, 0xFFFFFFFF),
   (0x160, 0x058, 0x058, 0xFFFFFFFF), (0x160, 0x074, 0x074, 0xFFFFFFFF), (0x170, 0x05C, 0x064, 0xFFFFFFFF),
   (0x170, 0x08C, 0x0FC, 0xFFFF0002), (0x181, 0x04C, 0x04C, 0xFFFFFFFF), (0x190, 0x110, 0x110, 0xE)]

/-- CHk_DECFAIL, the element prompts and SUBI, SUBQ of a channel slot are records of the last dump too. -/
def storedCh (o : Nat) : Bool := decide (0x040 ≤ o ∧ 0x090 ≤ (o - 0x040) % 0xF0)

/-- The bits of a register that SRST keeps. -/
def srstKeep (start : Nat) (d : RegDef) (o : Nat) : Word :=
  let ro := d.bits .RO ||| d.bits .W1S
  let gone := storedRO.foldl (fun w e => if e.1 = start ∧ e.2.1 ≤ o ∧ o ≤ e.2.2.1 then w ||| e.2.2.2 else w) 0
  if start = 0x082 ∧ storedCh o then 0 else ro &&& ~~~gone

/-- Return the stored registers of page `p` to reset (R30). SKY's active GRID stands until its whole second (R475). -/
def State.srstRegs (s : State) (p : Nat) : State :=
  match findPage p with
  | none => s
  | some (row, _, _) =>
    s.regs.foldl (fun s e =>
      let o := e.1 % 4096
      if e.1 / 4096 ≠ p ∨ o < 0x040 then s
      else match findReg row.regs o with
        | some (d, _) =>
          let keep := srstKeep row.start d o
          s.setReg e.1 ((regReset e.1 &&& ~~~keep) ||| (e.2 &&& keep))
        | none => if p = 0x110 then s else s.setReg e.1 (regReset e.1)) s

/-- The latches of one register, of every reader. -/
def State.dropLatch (s : State) (a : Nat) : State :=
  { s with latch := Tab.clear (fun k => decide (k % 2 ^ 24 = a)) s.latch }

/-- RFCOM after its registers have returned to reset: no array, no antenna bias. -/
def State.rfcomReset (s old : State) : State :=
  let s := ({ s.arrayM with rf.auto := [] }.txactFollow).gntSeen
  let s := (List.range 4).foldl (fun s n => (s.fputB (antb F.ANTB_STAT_BLANK n) false).antbSet n false false) s
  let moved := paths.foldl (fun a p => if old.loMaster p ≠ s.loMaster p then a + 2 ^ p else a) 0
  (if moved = 0 then s else s.retune moved).antFlt

/-- What the blocks do when SRST has returned their registers to reset. -/
def State.srstBlock (s old : State) (p : Nat) : State :=
  if p = 0x010 then s.forceByp false
  else if p = 0x012 then
    (List.range 4).foldl (fun s n =>
      if old.fget (F.CLKOUT_CFG_FMT n).act ≠ 0 ∨ old.fget (F.CLKOUT_CFG_SRC n).act ≠ 0 then s.fputB (outBit F.CLKOUT_STAT_RUN n) false
      else s) s
  else if 0x020 ≤ p ∧ p < 0x028 then s.rfReq (p - 0x020) 0
  else if p = 0x028 then s.rfcomReset old
  else if 0x030 ≤ p ∧ p < 0x038 then s.notchCommitted old (p - 0x030)
  else if p = 0x038 then (s.sievexCommitted old).streamsChanged old
  else if p = 0x040 then s.dfHold false
  else if p = 0x042 then (List.range 64).foldl State.jobFree s
  else if 0x080 ≤ p ∧ p < 0x100 ∧ p % 8 = 1 then s.wvStat ((p - 0x080) / 8)
  else if p = 0x100 then { s with hive.frame := none }.vcUpdate
  else if p = 0x110 then
    { (s.setOfs false).setClip false with sky.gridPend := some (regReset F.GRID_DUMP.addr, wholeSec s.now) }
  else if p = 0x113 then s.tpReset true
  else if p = 0x114 then s.evReset
  else if p = 0x115 then s.mnLock false
  else if p = 0x130 then s.clClear
  else if p = 0x140 then (s.setGQ false).dropLatch F.TN_IDX_T.addr
  else if p = 0x141 then (s.dropLatch F.Q_SEL_Q.addr).dropLatch F.Q_PUSHL.addr
  else if p = 0x160 then slots4.foldl State.cpClear s
  else if p = 0x15B then s.fput (F.U_ADDR_ADDR 3) (devAddr s)
  else if p = 0x170 then
    ((List.range 24).filter old.recorded).foldl (fun s m => s.gapNow m 4) (s.fputB F.AR_STAT_RUNNING false)
  else if p = 0x1A0 then s.fput F.AON_STAT_LVL (s.fget F.AON_STAT_LVL &&& 9)
  else s

/-- SRST of a page (R30). Penholt's ports go down as by PH_CTL.EN = 0. While the domain is off its block registers are
at reset already, or saved in retention, which SRST does not reach. -/
def State.srst (s : State) (p : Nat) : State :=
  if ¬ implemented p then s
  else
    let s := (s.setReg (p * 4096 + 0x01C) 0).setReg (p * 4096 + 0x020) 0
    if ¬ s.powered p then s
    else
      let s := if p = phPage then s.phCtl 2 else s
      (s.srstRegs p).srstBlock s p

/-- SRST (R30). -/
def execSrst (via : Via) (page : Fin 1024) (s : State) : Host.Outcome State Fault Refusal :=
  .next (s.guarded via page.val 0x00C (·.srst page.val))

-- header registers

/-- PG_CTL (R29, R30): EN and FREEZE, then SRST, then COMMIT. -/
def State.writeCtl (s : State) (p : Nat) (v : Word) : State :=
  let s := s.fputB (PG_EN p) (v.getLsbD 0)
  let s := if p = 0x011 then (if v.getLsbD 0 then s.clkOuts else s.auxLost) else s
  let s := s.setFreeze p (v.getLsbD 2)
  let s := if v.getLsbD 1 then s.srst p else s
  if v.getLsbD 3 then s.commitPage p true else s

def State.putOwner (s : State) (p : Nat) (lock owned : Bool) (t : Nat) : State :=
  ((s.fputB (PG_LOCK p) lock).fputB (PG_OWNED p) owned).fput (PG_TENANT p) (if owned then t else 0)

/-- PG_OWNER (R34, R35). It does not apply to a Hive Weevil's local port and to Glowworm on the AON page (R473): such a write is
not refused, and leaves LOCK, which only the Warden writes (log entry 46). -/
def State.writeOwner (s : State) (via : Via) (p : Nat) (v : Word) : State :=
  let lock := v.getLsbD 31
  let owned := v.getLsbD 30
  let t := v.toNat % 4096
  let refused := s.fault p faultLOCKED
  if localPort via p then s.putOwner p (s.flag (PG_LOCK p)) owned t
  else match s.writer via p with
  | .warden => s.putOwner p lock owned t
  | .noTenant => refused
  | .tenant u =>
    if s.flag (PG_LOCK p) ∨ lock ∨ ¬ (findPage p).any (fun x => x.1.own) then refused
    else if s.flag (PG_OWNED p) then
      if ¬ owned ∧ (u = 0 ∨ u = s.fget (PG_TENANT p)) then s.putOwner p false false 0 else refused
    else if ¬ owned then s
    else if u = 0 ∨ u = t then s.putOwner p false true t
    else refused

def State.writeHeader (s : State) (p o : Nat) (v : Word) : State :=
  let a := p * 4096 + o
  if o = 0x00C then s.writeCtl p v
  else if o = 0x018 then s.setReg a v
  else if o = 0x01C then s.setReg a (s.reg a &&& ~~~v)
  else if o = 0x020 then s.setReg a (s.reg a &&& ~~~v)
  else s

-- what block registers do when written, page by page; `v` is the word written

def State.wrRST (s : State) (o : Nat) (v : Word) : State :=
  if o = 0x040 then (if v.getLsbD 31 then s.deviceReset 3 else s)
  else if o = 0x04C then s.wdKick (v.toNat % 65536)
  else if o = 0x05C then s.blData v
  else if o = 0x068 then (if v.getLsbD 0 then s.blGo else s)
  else s.store 0x002 o v

/-- PW_VCMD (R384). -/
def State.wrPWR (s : State) (o : Nat) (v : Word) : State :=
  if o = 0x040 ∧ v.getLsbD 31 then s.engineVote (v.toNat / 2 ^ 24 % 64) (v.toNat % 8192) (v.getLsbD 30) else s

/-- TH_CTL must keep WARN < SHED < 125 (R397). -/
def State.wrTHERM (s : State) (o : Nat) (v : Word) : State :=
  let warn := v.toNat % 256
  let shed := v.toNat / 256 % 256
  if o = 0x040 ∧ ¬ (warn < shed ∧ shed < 125) then s.fault 0x009 0 else s.store 0x009 o v

def State.wrCLK (s : State) (o : Nat) (v : Word) : State :=
  if o = 0x044 then (s.fput F.CLK_CTL_QUAL (v.toNat / 256 % 256)).forceByp (v.getLsbD 0) else s

/-- RF_CTL: the AGC's enable, then the request (R67, R76). A word whose REQ is above 3 "has no effect" by R75: the model reads that
of REQ alone, and takes the word's DCEN and AGCEN (log entry 85). -/
def State.wrRF (s : State) (p o : Nat) (v : Word) : State :=
  if o = 0x040 then
    let s := (s.fputB (F.RF_CTL_DCEN p) (v.getLsbD 9)).fputB (F.RF_CTL_AGCEN p) (v.getLsbD 8)
    let s := if v.getLsbD 8 then s else s.fput (F.RF_GAIN_GAIN p) (s.fget (F.RF_BB_MGAIN p).act)
    s.rfReq p (v.toNat % 8)
  else s.store (rfPage p) o v

def State.wrRFCOM (s : State) (o : Nat) (v : Word) : State :=
  if o = 0x040 then s.injWrite v
  else if o = 0x044 then
    let s := s.store 0x028 o v
    if v.getLsbD 31 then s.calStart (s.fget F.CAL_CMD_MASK) else s
  else if o = 0x04C then s.coexWrite v
  else if 0x058 ≤ o ∧ o ≤ 0x064 then s.antbWrite ((o - 0x058) / 4) v
  else s.store 0x028 o v

/-- A page of the path lanes: DCEN = 0 and IQEN = 0 fix their corrections at zero and unity (R103); a change of INSEL shows at once in
what is INVALID (R102, R118). -/
def State.wrSIEVE (s : State) (p o : Nat) (v : Word) : State :=
  let s := s.store (svPage p) o v
  if o ≠ 0x040 then s
  else
    let s := if s.flag (F.SV_CTL_IQEN p) then s else (s.fput (F.SV_IQ_G p) 0).fput (F.SV_IQ_P p) 0
    let s := if s.flag (F.SV_CTL_DCEN p) then s
      else ((s.setLane p { s.lane p with dc := (0, 0) }).fput (F.SV_DC_IDC p) 0).fput (F.SV_DC_QDC p) 0
    s.streamsUpdate

/-- SIEVEX: port writes to the weights of a group in SCARAB mode are dropped (R113). -/
def State.wrSIEVEX (s : State) (o : Nat) (v : Word) : State :=
  if 0x050 ≤ o ∧ o < 0x070 ∧ s.fget (F.CMB_CTL_MODE ((o - 0x050) / 16)).act = 2 then s else s.store 0x038 o v

def State.wrSPECMON (s : State) (o : Nat) (v : Word) : State :=
  let s := s.store 0x039 o v
  if o = 0x040 ∧ v.getLsbD 31 then s.spectrumStart else s

def State.wrDFLY (s : State) (o : Nat) (v : Word) : State :=
  if o = 0x040 then
    let s := s.dfHold (v.getLsbD 8)
    if v.getLsbD 0 then s.abortAll else s
  else s

def State.wrJOB (s : State) (o : Nat) (v : Word) : State :=
  if o = 0x080 then
    let op := v.toNat / 2 ^ 30
    if op = 1 then s.jobSubmit s.stagedJob none
    else if op = 2 then s.jobAbort (v.toNat % 64)
    else s
  else s.store 0x041 o v

def bitsOf (v : Word) : List Nat := (List.range 32).filter v.getLsbD

def State.wrJOB1 (s : State) (o : Nat) (v : Word) : State :=
  if o = 0x140 ∨ o = 0x144 then (bitsOf v).foldl (fun s b => s.jobFree ((o - 0x140) / 4 * 32 + b)) s else s

def State.wrHVCTL (s : State) (h o : Nat) (v : Word) : State :=
  if o = 0x040 then s.dmode h (v.getLsbD 0)
  else if o = 0x050 then s.hvStart h v.toNat
  else if o = 0x054 then s.hvStart h (v.toNat * 2 ^ 32)
  else s.store (hvPage h) o v

def State.wrHVWV (s : State) (h o : Nat) (v : Word) : State :=
  if o = 0x040 then
    let s := if v.getLsbD 1 then s.wvReset h else s
    s.wvSetRun h (v.getLsbD 0)
  else
    let s := s.store (wvPage h) o v
    if o = 0x050 ∧ v.getLsbD 31 then s.wvLoad h else s

/-- A channel slot: START and STOP, which wins when both are written (R165), and the words that take effect at a dump close (R164). -/
def State.wrHVCH (s : State) (via : Via) (p o : Nat) (v : Word) : State :=
  let ch := 64 * ((p - 0x080) / 8) + 16 * ((p - 0x080) % 8 - 2) + (o - 0x040) / 0xF0
  let k := (o - 0x040) % 0xF0
  if k = 0 then
    let s := s.store p o v
    if v.getLsbD 30 then s.chStop ch else if v.getLsbD 31 then s.chStart ch else s
  else if (0x1C ≤ k ∧ k ≤ 0x28) ∨ (0x38 ≤ k ∧ k ≤ 0x44) then s.ncoWrite via ch k v
  else s.store p o v

def State.wrHVTAPS (s : State) (h o : Nat) (v : Word) : State :=
  let s := s.store (tapsPage h) o v
  if o = 0x144 ∧ v.getLsbD 31 then s.codeCopy h else s

def State.wrSCARAB (s : State) (o : Nat) (v : Word) : State :=
  if o = 0x040 then
    let s := if v.getLsbD 1 then s.resetf else s
    if v.getLsbD 0 then s.relall else s
  else if o = 0x04C then (if v.getLsbD 0 then s.modelLoad else s)
  else s.store 0x101 o v

def State.wrSKY (s : State) (o : Nat) (v : Word) : State :=
  let s := s.store 0x110 o v
  if o = 0x044 ∧ v.getLsbD 0 then s.commandedStep else s

/-- CICADA: reserves that would sum above 8,190 are refused (R379); an enable that lets a pending class through asserts its target, which
for the Warden's line and for PCIe is an event (R270, R377). -/
def State.wrCICADA (s : State) (o : Nat) (v : Word) : State :=
  if o = 0x040 then (if v.getLsbD 0 then s.clClear else s)
  else
    let t := s.store 0x130 o v
    if 8190 < t.reserves then s.fault 0x130 0 else t.targetsRise s

def State.wrSCHED (s : State) (o : Nat) (v : Word) : State :=
  if o = 0x044 then
    let op := v.toNat % 4
    if op = 1 then s.schedRead
    else if op = 2 then s.schedWrite
    else if op = 3 then s.disarm (s.fget F.SCHED_IDX_IDX)
    else s
  else s.store 0x111 o v

def State.wrTPULSE (s : State) (o : Nat) (v : Word) : State :=
  let k := (o - 0x040) % 0x20
  if k ≤ 8 then s.tpWrite ((o - 0x040) / 0x20) k v else s

def State.wrMAINS (s : State) (o : Nat) (v : Word) : State := if o = 0x040 then s.mnCtl v else s.store 0x115 o v

def State.wrTENANT (s : State) (via : Via) (o : Nat) (v : Word) : State :=
  if o = 0x040 then s.setLatch (viaReader via) F.TN_IDX_T.addr (BitVec.ofNat 32 (v.toNat % 4096))
  else if o = 0x044 then
    let t := s.tnIdx via
    let op := v.toNat % 8
    if op = 1 then s.tnRead t
    else if op = 2 then s.resetTenant t none
    else if op = 3 then s.closeTenant t
    else if op = 4 then s.quench true false false t
    else if op = 5 then s.quench true true false t
    else if op = 6 then s.quench false false false t
    else s
  else if o = 0x05C then s.setGQ (v.getLsbD 0)
  else s

def State.wrQUEUE (s : State) (via : Via) (o : Nat) (v : Word) : State :=
  let r := viaReader via
  if o = 0x040 then s.setLatch r F.Q_SEL_Q.addr (BitVec.ofNat 32 (v.toNat % 8192))
  else if o = 0x044 then s.qOp via (v.toNat % 8)
  else if o = 0x050 then s.setLatch r F.Q_PUSHL.addr v
  else if o = 0x054 then s.queuePush via v
  else if o = 0x060 then s.qCfg (s.qSel r) v
  else s

def State.wrPCIE (s : State) (o : Nat) (v : Word) : State :=
  let s := s.store 0x150 o v
  if 0x080 ≤ o ∧ o % 16 = 12 ∧ v.getLsbD 31 then s.dmaGo ((o - 0x080) / 16) else s

def State.wrUART (s : State) (u o : Nat) (v : Word) : State :=
  if o = 0x040 then s.uCtl u v
  else if o = 0x044 then s.uBaud u v
  else if o = 0x048 then s.uFmt u v
  else if o = 0x05C then s.uTx u (v.truncate 9)
  else s.store (uPage u) o v

def State.wrCARAPACE (s : State) (o : Nat) (v : Word) : State :=
  if o = 0x070 then ((bitsOf v).filter (· < 4)).foldl State.cpClear s
  else
    let s := s.store cpPage o v
    if o = 0x040 ∧ v.getLsbD 31 then s.cpGo (v.toNat / 2 ^ 24 % 16) else s

def State.wrARCHIVE (s : State) (o : Nat) (v : Word) : State :=
  if o = 0x040 then s.arCtl v
  else if o = 0x044 then s.arSel v
  else if 0x080 ≤ o ∧ o % 16 = 0 then
    let n := (o - 0x080) / 16
    let s := if v.getLsbD 31 then s.rpGo n else s
    if v.getLsbD 30 then s.rpStop n else s
  else s.store arPage o v

def State.wrWARDEN (s : State) (o : Nat) (v : Word) : State :=
  let s := s.store 0x190 o v
  if o = 0x100 then
    let s := if v.getLsbD 31 then s.ucGo else s
    if v.getLsbD 30 then s.ucSeal else s
  else s

/-- AON: a comparator that is turned off reads 0 (R396). -/
def State.wrAON (s : State) (o : Nat) (v : Word) : State :=
  if o = 0x040 then
    let s := s.store 0x1A0 o v
    let s := s.fput F.AON_STAT_LVL (s.fget F.AON_STAT_LVL &&& s.fget F.AON_CTL_CEN)
    if v.getLsbD 9 then s.gwRst else s
  else if o = 0x064 then (if v.getLsbD 0 then s.mgmtWake 5 else s)
  else if o = 0x06C then
    let s := s.store 0x1A0 o (v &&& 0x7FFFFFFF)
    if v.getLsbD 31 then s.gwLoad else s
  else if o = 0x074 then { s with aon.ram := Tab.set (fun _ => 0) s.aon.ram (s.fget F.AON_RIDX_V) v }
  else s.store 0x1A0 o v

/-- A write of a block register that has passed its judgement. -/
def State.writeBlock (s : State) (via : Via) (p o : Nat) (v : Word) : State :=
  if p = 0x002 then s.wrRST o v
  else if p = 0x004 then s.wrPWR o v
  else if p = 0x009 then s.wrTHERM o v
  else if p = 0x010 then s.wrCLK o v
  else if 0x020 ≤ p ∧ p < 0x028 then s.wrRF (p - 0x020) o v
  else if p = 0x028 then s.wrRFCOM o v
  else if 0x030 ≤ p ∧ p < 0x038 then s.wrSIEVE (p - 0x030) o v
  else if p = 0x038 then s.wrSIEVEX o v
  else if p = 0x039 then s.wrSPECMON o v
  else if p = 0x040 then s.wrDFLY o v
  else if p = 0x041 then s.wrJOB o v
  else if p = 0x042 then s.wrJOB1 o v
  else if 0x080 ≤ p ∧ p < 0x100 then
    let h := (p - 0x080) / 8
    if p % 8 = 0 then s.wrHVCTL h o v
    else if p % 8 = 1 then s.wrHVWV h o v
    else if p % 8 = 6 then s.wrHVTAPS h o v
    else s.wrHVCH via p o v
  else if p = 0x100 then (if o = 0x040 then (s.gaCtl v).vcUpdate else s.store 0x100 o v)
  else if p = 0x101 then s.wrSCARAB o v
  else if p = 0x110 then s.wrSKY o v
  else if p = 0x111 then s.wrSCHED o v
  else if p = 0x113 then s.wrTPULSE o v
  else if p = 0x115 then s.wrMAINS o v
  else if p = 0x116 then (s.store p o v).steerMode
  else if p = 0x120 then (if v.getLsbD 0 then s.cbClear else s)
  else if p = 0x130 then s.wrCICADA o v
  else if p = 0x140 then s.wrTENANT via o v
  else if p = 0x141 then s.wrQUEUE via o v
  else if p = 0x150 then s.wrPCIE o v
  else if p = 0x152 then (if o = 0x044 then s.spiQuench v else s.store p o v)
  else if 0x158 ≤ p ∧ p < 0x15C then s.wrUART (p - 0x158) o v
  else if p = 0x15C then (if o = 0x040 then s.xsCmd (v.toNat / 2 ^ 28) else s.store p o v)
  else if p = 0x160 then s.wrCARAPACE o v
  else if p = 0x170 then s.wrARCHIVE o v
  else if p = 0x180 then (if o = 0x040 then s.phCtl v else s)
  else if p = 0x181 ∨ p = 0x182 then (if o = 0x040 ∧ v.getLsbD 0 then s.retrain (p - 0x181) else s)
  else if p = 0x190 then s.wrWARDEN o v
  else if p = 0x1A0 then s.wrAON o v
  else s.store p o v

-- BAR2 (R329 to R334)

/-- Unmask an MSI-X vector that is pending: its message goes out. -/
def State.msixUnmask (s : State) (v : Nat) : State :=
  if s.pcie.pba.testBit v ∧ ¬ (Tab.get (fun _ => 0) s.pcie.msix (4 * v + 3)).getLsbD 0 then
    { s with pcie.pba := s.pcie.pba - 2 ^ v }.msix v
  else s

/-- A 32-bit write at byte offset `a` of BAR2. -/
def State.bar2Write (s : State) (a : Nat) (v : Word) : State :=
  if ¬ s.pcieUp then s
  else if a < 0x40000 then
    let t := a / 64
    if a % 64 = 0x18 then s.window t fun s =>
      if v.toNat % 8 = 1 then s.queueOp (2 * t + 1) Queue.mark
      else if v.toNat % 8 = 2 then s.queueOp (2 * t + 1) Queue.rewind
      else if v.toNat % 8 = 3 then s.queueOp (2 * t + 1) Queue.release
      else s
    else if a % 64 = 0x20 then s.window t (·.quench (v.getLsbD 0) (v.getLsbD 1) false t)
    else if a % 64 = 0x00 then s.window t (·.setLatch (windowReader t) F.Q_PUSHL.addr v)
    else if a % 64 = 0x04 then s.window t fun s =>
      s.pushIn t (v ++ s.latched (windowReader t) F.Q_PUSHL.addr)
    else s
  else if a = 0x40000 then s.setGQ (v.getLsbD 0)
  else if a = 0x40020 then { s with pcie.wtenant := v.toNat % 4096 }
  else if 0x80000 ≤ a ∧ a < 0x80400 then
    { s with pcie.msix := Tab.set (fun _ => 0) s.pcie.msix ((a - 0x80000) / 4) v }.msixUnmask ((a - 0x80000) / 16)
  else s

/-- A 32-bit read at byte offset `a` of BAR2 (R329, R330): the low word of POP pops the item and latches its high word. An
offset not listed reads zero. The whole OPENPOP item is read by its own row. -/
def State.bar2Read (s : State) (a : Nat) : State :=
  let answer (w : Word) : State := { s with out := [w] }
  if ¬ s.pcieUp then answer 0
  else if a < 0x40000 then
    let t := a / 64
    let r := windowReader t
    let i := 2 * t + 1
    s.window t fun s =>
      if a % 64 = 0x08 then s.popWait r i
      else if a % 64 = 0x0C then { s with out := [s.latched r F.Q_POPH.addr] }
      else if a % 64 = 0x10 then
        { s with out := [BitVec.ofNat 32 (min 0xFFFF (s.queue i).pkt * 65536 + min 0xFFFF (s.queue (2 * t)).cred)] }
      else { s with out := [0] }
  else if a = 0x40000 then answer (s.reg F.TN_GQ_GQ.addr)
  else if a = 0x40018 then answer (BitVec.ofNat 32 ((if s.pcie.reply = [] then 0 else 2) + (if s.pcie.busy then 1 else 0)))
  else if a = 0x40020 then answer (BitVec.ofNat 32 s.pcie.wtenant)
  else if 0x80000 ≤ a ∧ a < 0x80400 then answer (Tab.get (fun _ => 0) s.pcie.msix ((a - 0x80000) / 4))
  else if a = 0x81000 then answer (BitVec.ofNat 32 s.pcie.pba)
  else if a = 0x81004 then answer (BitVec.ofNat 32 (s.pcie.pba / 2 ^ 32))
  else answer 0

-- REGISTER_WRITE

/-- A write of `v` to page `p`, offset `o` through `via`; `whole` is false for a PCIe write without all four byte
enables (R26). -/
def State.busWrite (s : State) (via : Via) (p o : Nat) (v : Word) (whole : Bool) : State :=
  let o := o / 4 * 4
  if via = .bar2 then s.bar2Write (p * 4096 + o) v
  else
    let c : Instr := .registerWrite via ⟨p % 1024, Nat.mod_lt _ (by decide)⟩ (BitVec.ofNat 12 o) (some v) 15
    match s.judge via p o whole with
    | .nothing => s
    | .access => s.fault p faultACCESS
    | .locked =>
      if o = 0x024 then s.writeOwner via p v
      else if o < 0x030 ∧ o ≠ 0x00C ∧ o ≠ 0x018 ∧ o ≠ 0x01C ∧ o ≠ 0x020 then s
      else s.fault p faultLOCKED
    | .unpowered => s.fault p faultUNPWR
    | .held => { s with pwr.held := s.pwr.held ++ [(pageDom p, c)] }
    | .ok =>
      if o = 0x024 then s.writeOwner via p v
      else if o < 0x030 then s.writeHeader p o v
      else match regKind p o with
        | some (.block _) => s.writeBlock via p o v
        | _ => s

/-- REGISTER_WRITE: a write, or the read of a register that has no row of its own, as through PCIe BAR0, which returns the whole
register whatever its byte enables (R24, R479). A read of a domain in ENTRY waits for its end (R386). -/
def execRegisterWrite (via : Via) (page : Fin 1024) (off : BitVec 12) (v : Option Word) (be : BitVec 4) (s : State) :
    Host.Outcome State Fault Refusal :=
  .next (match v with
    | some w => s.busWrite via page.val off.toNat w (be = 15)
    | none =>
      if via = .bar2 then s.bar2Read (page.val * 4096 + off.toNat)
      else if s.readHeld via page.val off.toNat 1 then
        { s with pwr.held := s.pwr.held ++ [(pageDom page.val, .registerWrite via page off none be)] }
      else
        let (w, s) := s.busRead via page.val off.toNat
        { s with out := [w] })

/-- Words to successive registers. -/
def State.busWrites (s : State) (via : Via) (p o : Nat) : List Word → State
  | [] => s
  | v :: r => (s.busWrite via p o v true).busWrites via (p + (o + 4) / 4096) ((o + 4) % 4096) r

end Sys2Proof.Machine
end

