-- ==== Sys2Proof/Machine/Commands.lean ====
section
/-! DEFINITION. The tenant commands (16: R300 to R304, R319 to R323) that the Warden executes through the register fabric and
its own tables. -/

namespace Sys2Proof.Machine

-- the tenant's life and its queues

/-- OPEN (R300). -/
def execOpen (port : Port) (client : Fin 8) (t : Fin 4096) (seq arg0 : Half) (ws : List Word) (s : State) :
    Host.Outcome State Fault Refusal :=
  .next (s.openCommand port client.val t.val seq.toNat arg0.toNat ws)

/-- Which tenant a CLOSE, RESET or QUENCH of `t` may name: itself, and any for tenant 0 (R320). -/
def selfOrOwner (t target : Nat) : Bool := t = 0 ∨ target = t

/-- CLOSE: a tenant that closes itself is gone before a reply could be sent. -/
def execClose (t : Fin 4096) (seq arg0 : Half) (s : State) : Host.Outcome State Fault Refusal :=
  .next (s.command t.val 0x0002 seq.toNat fun s =>
    let u := arg0.toNat
    if ¬ selfOrOwner t.val u then done cRIGHTS s
    else if ¬ (s.tenant u).live then done cBADARG s
    else if u = t.val then (.silent, s.closeTenant u)
    else done cOK (s.closeTenant u))

/-- RESET: the RESET's own SEQ stands as the last accepted one when the tenant sent it itself (R303). -/
def execReset (t : Fin 4096) (seq arg0 : Half) (s : State) : Host.Outcome State Fault Refusal :=
  .next (s.command t.val 0x0003 seq.toNat fun s =>
    let u := arg0.toNat
    if ¬ selfOrOwner t.val u then done cRIGHTS s
    else if ¬ (s.tenant u).live then done cBADARG s
    else done cOK (s.resetTenant u (if u = t.val then some seq.toNat else none)))

/-- CREDIT: HELD of the outbound queue; in FAULT, FAULTED with the cause (R325). -/
def execCredit (t : Fin 4096) (seq _arg0 : Half) (s : State) : Host.Outcome State Fault Refusal :=
  .next (s.command t.val 0x0004 seq.toNat fun s =>
    let x := s.tenant t.val
    if x.state = .fault then (.reply cFAULTED (leBytes 1 x.cause), s)
    else (.reply cOK (leBytes 2 (min 0xFFFF (s.queue (2 * t.val + 1)).held)), s))

/-- QUENCH: ARG0 [0] ON, [1] DISCARD, [2] ALL; the tenant. -/
def execQuench (t : Fin 4096) (seq arg0 : Half) (ws : List Word) (s : State) : Host.Outcome State Fault Refusal :=
  .next (s.command t.val 0x0005 seq.toNat fun s =>
    let u := argWord ws 0 % 4096
    let all := arg0.getLsbD 2
    if ws.length ≠ 1 then done cBADCMD s
    else if t.val ≠ 0 ∧ (all ∨ u ≠ t.val) then done cRIGHTS s
    else done cOK (s.quench (arg0.getLsbD 0) (arg0.getLsbD 1) all u))

-- subscriptions (R304)

/-- The channel that carries a signal already, or is chosen for it (R13). -/
def State.carrier (s : State) (sel : Nat) : Option Nat :=
  let sig := sel % 64
  let prn := sel / 256 % 256
  match allChans.find? fun ch => decide (s.chState ch ≠ chIDLE ∧ s.chState ch ≠ chLOST) &&
      decide (sgSIG (s.chan ch).sig = sig ∧ sgPRN (s.chan ch).sig = prn) with
  | some ch => some ch
  | none => s.tn.tenants.findSome? fun e => e.2.subs.findSome? fun b =>
      if (b.kind = 1 ∨ b.kind = 2) ∧ b.sel % 64 = sig ∧ b.sel / 256 % 256 = prn then b.place else none

/-- The lowest handle from 1 on that no subscription has. -/
def freeHandle (l : List Sub) : Nat := ((List.range 65).find? fun h => l.all fun b => decide (b.handle ≠ h + 1)).getD 64 + 1

/-- Every subscription to a signal shares the channel chosen for it (R13). -/
def State.tie (s : State) (sel : Nat) (at_ : Option Nat) : State :=
  let turn (b : Sub) : Sub :=
    if b.oneSignal ∧ b.place = none ∧ b.sel % 64 = sel % 64 ∧ b.sel / 256 % 256 = sel / 256 % 256 then { b with place := at_ } else b
  { s with tn.tenants := s.tn.tenants.map fun (e : Nat × Tenant) => (e.1, { e.2 with subs := e.2.subs.map turn }) }

/-- SUB: `place` is the channel the allocator chooses when none carries the signal, which is its free choice (R13) among those it may
choose; a search for the signal follows (R147). -/
def State.subscribe (s : State) (t : Nat) (arg0 sel : Nat) (place : Option Nat) : Done × State :=
  let kind := arg0 % 256
  let div := max 1 (arg0 / 256)
  let x := s.tenant t
  let signal := decide (kind = 1 ∨ kind = 2)
  if kind = 0 ∨ 8 < kind then done cBADARG s
  else if (kind = 7 ∨ kind = 8) ∧ t ≠ 0 then done cRIGHTS s
  else if signal ∧ sel % 64 ≠ 0 ∧ (sigRow (sel % 64)).isNone then done cUNSUPP s
  else match x.subs.find? fun b => decide (b.kind = kind ∧ b.div = div ∧ b.sel = sel) with
  | some b => (.reply cOK (leBytes 2 b.handle), s)
  | none =>
    if 64 ≤ x.subs.length then done cLIMIT s
    else
      let b : Sub := { kind := kind, div := div, sel := sel, handle := freeHandle x.subs }
      let s' := s.updTenant t fun x => { x with subs := x.subs ++ [b] }
      if ¬ b.oneSignal then (.reply cOK (leBytes 2 b.handle), s'.allocVotes)
      else
        let new := if (s.carrier sel).isSome then none else place.filter (s.placeable (subSig sel))
        let s' := (s'.tie sel ((s.carrier sel).or new)).allocVotes
        (.reply cOK (leBytes 2 b.handle), { s' with dfly.again := s'.dfly.again ++ (new.map fun ch => (ch, 2)).toList }.allocate)

def execSubscribe (t : Fin 4096) (seq arg0 : Half) (ws : List Word) (place : Option (Fin 1024)) (s : State) :
    Host.Outcome State Fault Refusal :=
  .next (s.command t.val 0x0010 seq.toNat fun s =>
    if ws.length ≠ 1 then done cBADCMD s else s.subscribe t.val arg0.toNat (argWord ws 0) (place.map Fin.val))

def execUnsub (t : Fin 4096) (seq arg0 : Half) (s : State) : Host.Outcome State Fault Refusal :=
  .next (s.command t.val 0x0011 seq.toNat fun s =>
    if (s.tenant t.val).subs.all fun b => decide (b.handle ≠ arg0.toNat) then done cBADARG s
    else done cOK ((s.updTenant t.val fun x =>
      { x with subs := x.subs.filter fun b => decide (b.handle ≠ arg0.toNat) }).subsGone s))

-- pins and the base tenant (R14, R232)

/-- Pin a channel: what runs on it with another signal moves away first. -/
def State.pin (s : State) (ch : Nat) (sig code : Word) : State :=
  let other := (decide (s.chState ch ≠ chIDLE ∧ (s.chan ch).sig ≠ sig)) || (s.purpose ch).any fun p => !sameSig p.1 sig
  let s := if other then s.moveChan ch else s
  let s := if s.chState ch ≠ chIDLE ∧ (s.chan ch).sig ≠ sig then s.chStop ch else s
  let s := { s with tn.pins := Tab.set (fun _ => none) s.tn.pins ch (some (sig, code)) }
  let s := if s.powered (chPage ch) ∧ s.chState ch = chIDLE then
      (s.setReg (chReg ch 4).addr sig).setReg (chReg ch 8).addr code else s
  s.allocVotes

def execPin (t : Fin 4096) (seq arg0 : Half) (ws : List Word) (s : State) : Host.Outcome State Fault Refusal :=
  .next (s.command t.val 0x0012 seq.toNat (ownerOnly t.val fun s =>
    if ws.length ≠ 2 then done cBADCMD s
    else if 1024 ≤ arg0.toNat ∨ ¬ sigOk (ws.getD 0 0) then done cBADARG s
    else done cOK (s.pin arg0.toNat (ws.getD 0 0) (ws.getD 1 0))))

def execUnpin (t : Fin 4096) (seq arg0 : Half) (s : State) : Host.Outcome State Fault Refusal :=
  .next (s.command t.val 0x0013 seq.toNat (ownerOnly t.val fun s =>
    if (Tab.get (fun _ => none) s.tn.pins arg0.toNat).isNone then done cBADARG s
    else done cOK ({ s with tn.pins := Tab.set (fun _ => none) s.tn.pins arg0.toNat none }.allocVotes)))

def execBase (t : Fin 4096) (seq arg0 : Half) (s : State) : Host.Outcome State Fault Refusal :=
  .next (s.command t.val 0x0014 seq.toNat (ownerOnly t.val fun s =>
    if 4096 ≤ arg0.toNat then done cBADARG s else done cOK { s with tn.base := some arg0.toNat }))

/-- VOTE: the tenant's own vote; the holder count. -/
def execVote (t : Fin 4096) (seq arg0 : Half) (s : State) : Host.Outcome State Fault Refusal :=
  .next (s.command t.val 0x0020 seq.toNat fun s =>
    let d := arg0.toNat % 64
    if ¬ votable d then done cBADARG (s.engineVote d t.val (arg0.getLsbD 8))
    else
      let s := s.engineVote d t.val (arg0.getLsbD 8)
      (.reply cOK (leBytes 2 (s.holders d)), s))

-- register access (R321)

/-- Page and offset of a REGRD or REGWR; a run must stay in its page. -/
def regSpan (w n : Nat) : Option (Nat × Nat) :=
  let o := w % 4096
  if n = 0 ∨ 64 < n ∨ o % 4 ≠ 0 ∨ 4096 < o + 4 * n then none else some (w / 4096 % 1024, o)

/-- REGRD; a read of a domain in ENTRY waits in the Warden (R386). -/
def execRegrd (t : Fin 4096) (seq arg0 : Half) (ws : List Word) (s : State) : Host.Outcome State Fault Refusal :=
  let span := if ws.length = 1 then regSpan (argWord ws 0) arg0.toNat else none
  if span.any fun x => s.readHeld (.behalf t) x.1 x.2 arg0.toNat then
    .next { s with pwr.held := s.pwr.held ++ [(pageDom ((span.getD (0, 0)).1), .regrd t seq arg0 ws)] }
  else .next (s.command t.val 0x0021 seq.toNat fun s =>
    match span with
    | none => done (if ws.length = 1 then cBADARG else cBADCMD) s
    | some (p, o) =>
      let (r, s) := s.busReads (.behalf t) p o arg0.toNat
      (.reply cOK (wordBytes r), s))

/-- Locked pages the Warden does not write for tenant 0 (R321). -/
def notForOwner (p : Nat) : Bool :=
  decide (p ≤ 0x002 ∨ (0x004 ≤ p ∧ p ≤ 0x007) ∨ (0x041 ≤ p ∧ p ≤ 0x043) ∨ (0x080 ≤ p ∧ p ≤ 0x103) ∨ p = 0x111 ∨ p = 0x112 ∨
    (0x140 ≤ p ∧ p ≤ 0x142) ∨ p = 0x160 ∨ p = 0x161 ∨ p = 0x190)

/-- Words the Warden writes for tenant 0 into a locked page: PG_OWNER is written as by the tenant itself, so LOCK stands (R473). -/
def State.ownerWrites (s : State) (p o : Nat) : List Word → State
  | [] => s
  | v :: r => (s.busWrite (if o = 0x024 then .behalf 0 else .warden) p o v true).ownerWrites p (o + 4) r

def execRegwr (t : Fin 4096) (seq arg0 : Half) (ws : List Word) (s : State) : Host.Outcome State Fault Refusal :=
  .next (s.command t.val 0x0022 seq.toNat fun s =>
    if ws.length ≠ arg0.toNat + 1 then done cBADCMD s
    else match regSpan (argWord ws 0) arg0.toNat with
      | none => done cBADARG s
      | some (p, o) =>
        if t.val = 0 ∧ s.flag (PG_LOCK p) then
          if notForOwner p then done cRIGHTS s else done cOK (s.ownerWrites p o (ws.drop 1))
        else done cOK (s.busWrites (.behalf t) p o (ws.drop 1)))

-- searches (R147 to R149)

/-- PRIO the Warden assigns (R147). -/
def searchPrio (t asked : Nat) : Nat := if t = 0 then asked else 1

def State.search (s : State) (t : Nat) (ws : List Word) : Done × State :=
  let id := s.dfly.nextSearch
  let prio := searchPrio t (jdBits ws 1 20 2)
  if (searchJobs t prio id ws).any fun d => decide (128 < jdBlocks d) then done cTOOBIG s
  else (.reply cOK (leBytes 4 id), (s.openSearch t prio ws none).dfStat.serveRequests 64)

def execSearch (t : Fin 4096) (seq _arg0 : Half) (ws : List Word) (s : State) : Host.Outcome State Fault Refusal :=
  .next (s.command t.val 0x0028 seq.toNat fun s => if ws.length ≠ 10 then done cBADCMD s else s.search t.val ws)

/-- SPECTRUM: ARG0 [2:0] path, [4] tap, [11:8] AVG; answered when the readout is done. -/
def execSpectrum (t : Fin 4096) (seq arg0 : Half) (s : State) : Host.Outcome State Fault Refusal :=
  .next (s.command t.val 0x0029 seq.toNat fun s =>
    if s.domState 11 ≠ dON then (.reply cREFUSED (leBytes 2 0), s)
    else if s.flag F.SM_STAT_BUSY then (.reply cREFUSED (leBytes 2 1), s)
    else
      let a := arg0.toNat
      let s := ((s.fput F.SM_CTL_PATH (a % 8)).fput F.SM_CTL_TAP (a / 16 % 2)).fput F.SM_CTL_AVG (a / 256 % 16)
      (.pending, ((s.fputB F.SM_CTL_CONT false).spectrumStart).allocVotes))

-- the schedule (R55, R63, R322)

/-- May tenant `t` arm this action (R322)? -/
def State.schedRight (s : State) (t action arg : Nat) : Bool :=
  t = 0 || decide (action = 3 ∨ action = 5) ||
    (decide (action = 1) && s.flag (PG_OWNED (arg % 1024)) && !s.flag (PG_LOCK (arg % 1024)) && decide (s.fget (PG_TENANT (arg % 1024)) = t))

/-- SCHED: the lowest free entry, through the staging registers; OWNER is the tenant. -/
def State.schedule (s : State) (t : Nat) (ws : List Word) : Done × State :=
  let act := argWord ws 3
  if ¬ s.schedRight t (act / 2 ^ 20 % 16) (argWord ws 4) then done cRIGHTS s
  else match s.freeEntry with
    | none => done cSCHEDFULL s
    | some i =>
      let s := ((s.fput F.SCHED_IDX_IDX i).setReg (F.E_T 0).addr (ws.getD 0 0)).setReg (F.E_T 1).addr (ws.getD 1 0)
      let s := s.setReg (F.E_T 2).addr (ws.getD 2 0)
      let s := (s.store 0x111 0x058 (BitVec.ofNat 32 (act / 4096 * 4096 + t))).store 0x111 0x05C (ws.getD 4 0)
      let s := (s.store 0x111 0x060 (ws.getD 5 0)).schedWrite
      if s.flag F.SCHED_STAT_REFUSED then (.reply cREFUSED (leBytes 2 1), s) else (.reply cOK (leBytes 2 i), s)

def execSched (t : Fin 4096) (seq _arg0 : Half) (ws : List Word) (s : State) : Host.Outcome State Fault Refusal :=
  .next (s.command t.val 0x0030 seq.toNat fun s => if ws.length ≠ 6 then done cBADCMD s else s.schedule t.val ws)

def execUnsched (t : Fin 4096) (seq arg0 : Half) (s : State) : Host.Outcome State Fault Refusal :=
  .next (s.command t.val 0x0031 seq.toNat fun s =>
    let i := arg0.toNat
    if 512 ≤ i ∨ ¬ s.armed i then done cBADARG s
    else if t.val ≠ 0 ∧ ownerOf (s.entry i) ≠ t.val then done cRIGHTS s
    else done cOK ((s.fput F.SCHED_IDX_IDX i).disarm i))

-- models and user instructions

/-- MODEL: the table goes to Comb at 0x59_4000 and is loaded; answered with SC_MRES.CODE. -/
def execModel (t : Fin 4096) (seq _arg0 : Half) (ws : List Word) (s : State) : Host.Outcome State Fault Refusal :=
  .next (s.command t.val 0x0038 seq.toNat (ownerOnly t.val fun s =>
    if ws.length ≠ 33 then done cBADCMD s
    else if s.domState 29 ≠ dON ∨ s.flag F.SC_MRES_PENDING ∨ s.flag F.SC_MRES_BUSY then (.reply cREFUSED (leBytes 2 0), s)
    else
      let s := (s.combWrite 0 0x594000 (wordBytes ws)).fput F.SC_MTAB_ADDR (0x594000 / 64)
      (.pending, s.modelLoad)))

/-- UCLOAD: ARG0 CORE [4:0] and PART [8]; FIRST, then the words, staged in Comb at 0x0F_0000 and loaded; answered with
UC_STAT.RESULT. -/
def execUcload (t : Fin 4096) (seq arg0 : Half) (ws : List Word) (s : State) : Host.Outcome State Fault Refusal :=
  .next (s.command t.val 0x0039 seq.toNat (ownerOnly t.val fun s =>
    let part := arg0.getLsbD 8
    let vals := ws.drop 1
    let n := if part then vals.length else vals.length / 2
    if ws.length < 2 ∨ (¬ part ∧ vals.length % 2 = 1) ∨ 2047 < n then done cBADCMD s
    else if s.flag F.UC_STAT_BUSY then (.reply cREFUSED (leBytes 2 0), s)
    else
      let b := wordBytes vals
      let s := (s.combWrite 0 0x0F0000 b).fput F.UC_SRC_V (0x0F0000 / 64)
      let s := ((s.fput F.UC_CTL_CORE (arg0.toNat % 32)).fputB F.UC_CTL_PART part).fput F.UC_DST_COUNT n
      let first := argWord ws 0
      let s := (s.fput F.UC_DST_FIRST first).fput F.UC_CRC (crc32c b)
      let s := if first < 1024 then s.ucGo else s.fput F.UC_STAT_RESULT 3
      let r := s.fget F.UC_STAT_RESULT
      (.reply (if r = 0 then cOK else cREFUSED) (leBytes 2 r), s)))

-- host ports that pass through the fabric

/-- USB_REGRD (R339): up to 64 registers. A field outside its range is a STALL. -/
def execUsbRegrd (page : Fin 1024) (off : BitVec 12) (n : Nat) (s : State) : Host.Outcome State Fault Refusal :=
  .next (if ¬ s.usbUp then s
    else
      let s := s.usbRequest
      if off.toNat % 4 ≠ 0 ∨ n = 0 ∨ 64 < n then s.usbStall
      else if s.readHeld (.usb 0) page.val off.toNat n then
        { s with pwr.held := s.pwr.held ++ [(pageDom page.val, .usbRegrd page off n)] }
      else
        let (ws, s) := s.busReads (.usb 0) page.val off.toNat n
        { s with out := ws })

/-- USB_REGWR_COMMIT (R340): the held words are written in ascending offset as the write tenant they came with. -/
def execUsbRegwrCommit (s : State) : Host.Outcome State Fault Refusal :=
  .next (if ¬ s.usbUp then s
    else match s.usb.held with
      | some (p, o, t, ws) => { s with usb.held := none }.busWrites (.usb ⟨t % 4096, Nat.mod_lt _ (by decide)⟩) p o ws
      | none => s)

/-- An SPI address (R479): [1:0] are ignored, and [23:22] other than 0 lie outside the register space. -/
def State.spiWrites (s : State) (a : Nat) : List Word → State
  | [] => s
  | v :: r => (if a < 2 ^ 22 then s.busWrite .spi (a / 4096) (a % 4096) v true else s).spiWrites (a + 4) r

def State.spiReads (s : State) (a : Nat) : Nat → List Word × State
  | 0 => ([], s)
  | n + 1 =>
    let (w, s) := if 2 ^ 22 ≤ a then (0, s)
      else if s.readHeld .spi (a / 4096) (a % 4096) 1 then (0xFFFFFFFF, s.finc F.SPI_CNT_PART)
      else s.busRead .spi (a / 4096) (a % 4096)
    let (ws, s) := State.spiReads s (a + 4) n
    (w :: ws, s)

/-- RWR (R343, R344): the words received whole are written; a last word cut short is dropped and counted. -/
def execRwr (mode3 : Bool) (addr : BitVec 24) (ws : List Word) (cut : Bool) (s : State) : Host.Outcome State Fault Refusal :=
  .next (if ¬ s.portsOn then s
    else
      let s := (s.fputB F.SPI_STAT_MODE3 mode3).spiWrites (addr.toNat / 4 * 4) ws
      if cut then s.finc F.SPI_CNT_PART else s)

/-- RRD; a word held back is sent as all ones and counted (R344). -/
def execRrd (mode3 : Bool) (addr : BitVec 24) (n : Nat) (s : State) : Host.Outcome State Fault Refusal :=
  .next (if ¬ s.portsOn then s
    else
      let (ws, s) := (s.fputB F.SPI_STAT_MODE3 mode3).spiReads (addr.toNat / 4 * 4) n
      { s with out := ws })

end Sys2Proof.Machine
end

