-- ==== Sys2Proof/Machine/Lenlis.lean ====
section
/-! DEFINITION. The Lenlis monitor's commands (18: R369 to R373). What a command prints is spelled out where the spec gives
its form, and else as hexadecimal words. -/

namespace Sys2Proof.Machine

-- printing

def hexDigit (n : Nat) : Byte := BitVec.ofNat 8 (if n < 10 then 0x30 + n else 0x37 + n)
/-- `w` hexadecimal digits of a number. -/
def hexN (w n : Nat) : List Byte := ((List.range w).map fun k => hexDigit (n / 16 ^ k % 16)).reverse
def sp : List Byte := [0x20]
def State.hexWords (s : State) (head : List Byte) (ws : List (List Byte)) : State :=
  s.print (head ++ ws.flatMap (sp ++ ·) ++ [0x0D, 0x0A])
def hex8 (ws : List Word) : List (List Byte) := ws.map fun (w : Word) => hexN 8 w.toNat

-- commands

/-- The monitor takes a command: UART0 runs it, and no image is being received. -/
def State.monOn (s : State) : Bool := s.portsOn && s.flag (F.U_CTL_EN 0) && decide (s.uMode 0 = umMONITOR) && s.mon.load.isNone

/-- Carry out a command that ends with the code `f` gives: ERR 4 in service boot unless `svc`, ERR 3 while locked when it
needs UNLOCK (R370). -/
def State.monCmd (s : State) (svc unlock : Bool) (f : State → Nat × State) : State :=
  if ¬ s.monOn then s
  else if ¬ svc ∧ s.fget F.SYS_BOOT_MODE = bmSERVICE then s.heard.monEnd 4
  else if unlock ∧ ¬ s.mon.unlocked then s.heard.monEnd 3
  else
    let (e, s) := f s.heard
    (s.monEnd e).uLoad 0

/-- ID: part, PG_VER of SYS, unique ID, image version, security version, boot state. -/
def execLenId (s : State) : Host.Outcome State Fault Refusal :=
  .next (s.monCmd true false fun s =>
    let u := s.fuses.uid.toNat
    (0, s.hexWords (hexN 8 (s.view 19 0x001040).toNat)
      [hexN 8 (s.header 0x001 0x004).toNat, hexN 4 (u / 2 ^ 48), hexN 4 (u / 2 ^ 32), hexN 4 (u / 2 ^ 16), hexN 4 u,
       hexN 8 (s.fget F.UP_VER), hexN 2 (s.fget F.UP_RUN_SECVER), hexN 1 (s.fget F.SYS_BOOT_STATE)]))

/-- Four words per line, each line with its page and offset. -/
def State.peekLines (s : State) (p o : Nat) : List (List Word) → State
  | [] => s
  | l :: r => (s.hexWords (hexN 3 p ++ [0x3A] ++ hexN 3 o) (hex8 l)).peekLines p (o + 16) r

/-- PEEK: the read is made on tenant 0's behalf; it waits while the domain is in ENTRY (R386). -/
def execPeek (page : Fin 1024) (off : BitVec 12) (n : Nat) (s : State) : Host.Outcome State Fault Refusal :=
  .next (if s.monOn ∧ s.readHeld (.behalf 0) page.val off.toNat n then
      { s with pwr.held := s.pwr.held ++ [(pageDom page.val, .peek page off n)] }
    else s.monCmd true false fun s =>
      if n = 0 ∨ 64 < n ∨ off.toNat % 4 ≠ 0 ∨ 4096 < off.toNat + 4 * n then (2, s)
      else
        let (ws, s) := s.busReads (.behalf 0) page.val off.toNat n
        (0, { s with out := ws }.peekLines page.val off.toNat (chunks 4 ws)))

/-- POKE: a write as tenant 0 under R321. -/
def execPoke (page : Fin 1024) (off : BitVec 12) (v : Word) (s : State) : Host.Outcome State Fault Refusal :=
  .next (s.monCmd false true fun s =>
    if off.toNat % 4 ≠ 0 then (2, s)
    else if s.flag (PG_LOCK page.val) then
      if notForOwner page.val then (7, s) else (0, s.ownerWrites page.val (off.toNat / 4 * 4) [v])
    else (0, s.busWrite (.behalf 0) page.val off.toNat v true))

/-- Up to `n` items from the read point on. -/
def Queue.listed : Nat → Queue → List Item
  | 0, _ => []
  | n + 1, q => match q.pop with
    | some (x, q) => x :: Queue.listed n q
    | none => []

def execDq (t : Fin 4096) (outbound : Bool) (n : Nat) (s : State) : Host.Outcome State Fault Refusal :=
  .next (s.monCmd false false fun s =>
    (0, ((s.queue (2 * t.val + if outbound then 1 else 0)).listed n).foldl (fun s x =>
      s.hexWords (hexN 16 x.toNat) [hexN 1 (itemPri x), hexN 1 (if itemEnd x then 1 else 0), hexN 1 (itemNB x)]) s))

/-- Slots of the log, newest record last. -/
def State.logOrder (s : State) : List Nat :=
  let l := s.cic.slots.filterMap fun e => e.2.map fun x => (x.2, e.1)
  (l.mergeSort fun a b => decide (a.1 ≤ b.1)).map Prod.snd

/-- LOG: the last `n` records. -/
def execLenLog (n : Nat) (s : State) : Host.Outcome State Fault Refusal :=
  .next (s.monCmd true false fun s =>
    let l := s.logOrder
    (0, (l.drop (l.length - n)).foldl (fun s k => s.hexWords [] (hex8 (bytesWords (s.combBytes (logAddr k) 32)))) s))

/-- DOM: 38 lines of domain, state and holder count. -/
def execDom (s : State) : Host.Outcome State Fault Refusal :=
  .next (s.monCmd true false fun s =>
    (0, (List.range 38).foldl (fun s d => s.hexWords (hexN 2 d) [hexN 1 (s.domState d), hexN 4 (s.holders d)]) s))

/-- VOTES: the clients that hold a vote for domain `d`. -/
def execVotes (d : Nat) (s : State) : Host.Outcome State Fault Refusal :=
  .next (s.monCmd false false fun s =>
    if 38 ≤ d then (2, s)
    else
      let key (c : Nat) : Nat := 8192 * d + c
      let cs := (s.pwr.votes.filter fun e => decide (key 0 ≤ e.1 ∧ e.1 < key 8192) && e.2).map fun e => e.1 % 8192
      let cs := if d = 1 ∧ s.voted 1 WARDEN ∧ ¬ cs.contains WARDEN then cs ++ [WARDEN] else cs
      (0, s.hexWords [] (cs.map (hexN 4))))

/-- LEDGER: counters, budget and plan. -/
def execLedger (s : State) : Host.Outcome State Fault Refusal :=
  .next (s.monCmd false false fun s =>
    (0, s.hexWords [] (hex8 ((List.range 42).map fun k => s.reg (0x008044 + 4 * k)))))

/-- UNLOCK (R371): a challenge; then r; then s, with the check of the session. -/
def execUnlock (arg : Option (List Char)) (s : State) : Host.Outcome State Fault Refusal :=
  .next (s.monCmd true false fun s =>
    match arg with
    | none => (0, { s with mon.half := none }.hexWords [] [s.challenge.flatMap fun (b : Byte) => hexN 2 b.toNat])
    | some cs =>
      let line := cs.map fun c => BitVec.ofNat 8 c.toNat
      match if line.length = 64 then hexLine line else none with
      | none => (1, { s with mon.half := none })
      | some bs => match s.mon.half with
        | none => (0, { s with mon.half := some bs })
        | some r =>
          let (ok, s) := { s with mon.half := none }.session (r ++ bs)
          if ok then (0, { s with mon.unlocked := true }) else (7, s))

/-- LOAD: GO, and the lines that follow are the image's (R372). -/
def execLoad (b : Nat) (crc : Word) (s : State) : Host.Outcome State Fault Refusal :=
  .next (if ¬ s.monOn then s
    else if ¬ s.mon.unlocked then s.heard.monEnd 3
    else if s.upBusy then s.heard.monEnd 6
    else if b = 0 ∨ 0x100000 < b then s.heard.monEnd 2
    else ({ s.heard with mon.load := some (b, crc.toNat, []) }.printLine "GO").uLoad 0)

/-- LOAD_IMAGE_DONE (R372): all bytes are in; an image whose CRC matches is written as a field update. -/
def execLoadImageDone (s : State) : Host.Outcome State Fault Refusal :=
  .next (match s.mon.load with
    | none => s
    | some (b, crc, got) =>
      if got.length < b then s
      else
        let s := { s with mon.load := none }
        let img := got.take b
        if crc32c img ≠ crc then (s.monEnd 5).uLoad 0
        else
          let s := ((s.upOpen b crc).stage 0 img).fput F.UP_RCVD_N b
          if s.upCheck ≠ 0 then ((s.setUp upFAILED s.upCheck).monEnd 7).uLoad 0
          else (({ s.setUp upWRITING 0 with upd.written := 0, upd.again := false }).monEnd 0).uLoad 0)

/-- CONFIRM as tenant 0. -/
def execLenlisConfirm (s : State) : Host.Outcome State Fault Refusal :=
  .next (s.monCmd false true fun s => if s.upBusy then (6, s) else (0, s.confirmed))

/-- BAUD and FRAME take effect after their OK line. -/
def execBaud (r : Nat) (s : State) : Host.Outcome State Fault Refusal :=
  .next (s.monCmd true false fun s =>
    if r < 300 ∨ 3000000 < r then (2, s) else (0, { s with mon.rate := some r }))
def execLenFrame (s : State) : Host.Outcome State Fault Refusal :=
  .next (s.monCmd false true fun s => (0, { s with mon.toFrame := true }))

/-- REBOOT: the device reset. -/
def execReboot (s : State) : Host.Outcome State Fault Refusal :=
  .next (if ¬ s.monOn then s else if ¬ s.mon.unlocked then s.heard.monEnd 3 else s.deviceReset 3)

/-- UNLOCK_TIMEOUT: 10 minutes without input. -/
def execUnlockTimeout (s : State) : Host.Outcome State Fault Refusal :=
  .next (if s.now < s.mon.inT + 600 * sec then s else { s with mon.unlocked := false })

end Sys2Proof.Machine
end

