-- ==== Sys2Proof/Machine/Operands.lean ====
section
/-! DEFINITION. What a Weevil instruction names (13: R254, R255, R257 to R263, R269, R274, R275): registers, operand
modes, the banks, and the accesses they make; issuing, ending and faulting an instruction. -/

namespace Sys2Proof.Machine

-- registers (R255)

def CoreSt.getReg (c : CoreSt) (n : Nat) : Half :=
  if n = 0 then c.a else if n = 1 then c.e else if n = 2 then c.x else if n = 3 then c.y
  else if n = 4 then c.b.zeroExtend 16 else if n = 5 then c.f.zeroExtend 16 else if n = 6 then c.mr
  else c.k.zeroExtend 16

/-- A write of a register an instruction may write: A, E, X, Y, B, F. -/
def CoreSt.setRegN (c : CoreSt) (n : Nat) (v : Half) : CoreSt :=
  if n = 0 then { c with a := v } else if n = 1 then { c with e := v } else if n = 2 then { c with x := v }
  else if n = 3 then { c with y := v } else if n = 4 then { c with b := v.setWidth 8 }
  else if n = 5 then { c with f := v.setWidth 6 } else c

def coreVia : Core → Via
  | .hive n => .hive n
  | .warden => .warden
  | .glow => .glow

def State.updCore (s : State) (c : Core) (f : CoreSt → CoreSt) : State := s.setCore (coreIdx c) (f (s.core (coreIdx c)))

/-- Does the core fetch: powered, its clock not stopped by an entry sequence, enabled, and not stopped by a fault? -/
def State.coreRuns (s : State) (c : Core) : Bool :=
  !(s.core (coreIdx c)).faulted &&
    (match c with
     | .hive n => s.domPowered (13 + n.val) && decide (s.fget (F.PW_D_AP (13 + n.val)) < 3) && s.flag (F.WV_CTL_RUN n.val)
     | .warden => s.domPowered 1 && !s.boot.dead
     | .glow => s.flag F.AON_CTL_GWRUN)

/-- An interrupt line with its IEN and IPEND bits set, the lowest (R272). -/
def CoreSt.line (c : CoreSt) : Option Nat := (List.range 4).find? fun i => (c.ien &&& c.ipend).getLsbD i

/-- Are the conditions of R272 met but for the point? -/
def CoreSt.intDue (k : CoreSt) : Option Nat := if k.f.getLsbD fIE ∧ k.stack.length < 8 then k.line else none

-- cycles (R259, R269)

/-- `n` busy cycles of the core go by: CYCL counts them and TCNT falls by one every 64; its reaching zero is the event
WEEVIL_TIMER, so it stands at 1 until then. -/
def CoreSt.tick (c : CoreSt) (n : Nat) : CoreSt :=
  let units := (c.cyc + n) / 64 - c.cyc / 64
  { c with busy := c.busy + n, cyc := (c.cyc + n) % 2 ^ 32, tcnt := if c.treload = 0 ∨ c.tcnt = 0 then c.tcnt else BitVec.ofNat 16 (max 1 (c.tcnt.toNat - units)) }

-- operands (R258, R263)

inductive Opnd where
  | imm (v : Half)
  | reg (n : Nat)
  /-- bank, word, and the post-increment: true for Y, and what is added -/
  | mem (bank : Byte) (w : Half) (inc : Option (Bool × Half))
  deriving DecidableEq, Repr

/-- The operand of an instruction of the operand class; none: a set bit in a field marked zero. `low` is how many low
bits of the long mode byte are free (4 for the CRC steps). -/
def CoreSt.operand (c : CoreSt) (e : Enc) (low : Nat) : Option Opnd :=
  match e with
  | .short b =>
    let fld := b.setWidth 6
    match (b >>> 6).toNat with
    | 0 => some (.imm (fld.signExtend 16))
    | 1 => some (.mem 0 (fld.zeroExtend 16) none)
    | 2 => some (.mem c.b (c.x + fld.zeroExtend 16) none)
    | _ => if fld.toNat < 8 then some (.reg fld.toNat) else none
  | .long m w =>
    if m.toNat % 32 / 2 ^ low ≠ 0 then none
    else match (m >>> 5).toNat with
    | 0 => some (.imm w)
    | 1 => some (.mem 0 w none)
    | 2 => some (.mem c.b w none)
    | 3 => some (.mem c.b (c.x + w) none)
    | 4 => some (.mem c.b (c.y + w) none)
    | 5 => some (.mem c.b c.x (some (false, w)))
    | 6 => some (.mem c.b c.y (some (true, w)))
    | _ => if w.toNat < 8 then some (.reg w.toNat) else none

def Opnd.inc : Opnd → Option (Bool × Half)
  | .mem _ _ i => i
  | _ => none

def CoreSt.bump (c : CoreSt) : Option (Bool × Half) → CoreSt
  | some (false, n) => { c with x := c.x + n }
  | some (true, n) => { c with y := c.y + n }
  | none => c

-- banks (R257)

inductive Place where
  | data (w : Nat)
  | control (w : Nat)
  /-- register space: page, offset of the register, high half -/
  | regs (page off : Nat) (hi : Bool)
  | comb (a : Nat)
  /-- a reserved bank, or above the local memory -/
  | bad
  deriving DecidableEq, Repr

def dataWords : Core → Nat
  | .hive _ => 0x4000
  | .warden => 0xFF00
  | .glow => 0x400

def place (c : Core) (bank : Byte) (w : Half) : Place :=
  let b := bank.toNat
  let w := w.toNat
  if b = 0 then (if 0xFF00 ≤ w then .control w else if w < dataWords c then .data w else .bad)
  else if 0x20 ≤ b ∧ b < 0x40 then .regs ((b - 0x20) * 32 + w / 2048) (w % 2048 / 2 * 4) (decide (w % 2 = 1))
  else if 0x40 ≤ b ∧ b < 0xC0 then .comb ((b - 0x40) * 2 ^ 17 + 2 * w)
  else .bad

def combMaster : Core → Nat
  | .hive _ => 1
  | .warden => 0
  | .glow => 14

/-- Is the access one of Glowworm's through its bridge (R275)? -/
def bridged (c : Core) : Place → Bool
  | .regs p _ _ => decide (c = .glow ∧ p ≠ 0x1A0)
  | .comb _ => decide (c = .glow)
  | _ => false

/-- Cycles a memory operand adds (R259); the arbitration wait of Comb is a free value up to its bound (R291). -/
def State.accessCost (s : State) (c : Core) (write : Bool) : Place → Nat × State
  | .regs p _ hi => (if localPort (coreVia c) p then (match c with | .hive _ => 1 | _ => 0) else if hi = write then 3 else 0, s)
  | .comb _ => ((4 + Config.freeValue s.fresh % 17), { s with fresh := s.fresh + 1 })
  | _ => (0, s)

-- control words (R269)

def CoreSt.readCtl (c : CoreSt) (k : Core) (w : Nat) : Half × CoreSt :=
  let wd (v : Half) : Half := if k = .warden then v else 0
  (if w = 0xFF00 then c.ien.zeroExtend 16 else if w = 0xFF01 then c.ipend.zeroExtend 16 else if w = 0xFF02 then c.treload
   else if w = 0xFF03 then c.tcnt else if w = 0xFF04 then BitVec.ofNat 16 c.cyc else if w = 0xFF05 then c.cych
   else if w = 0xFF08 then wd (c.cwk.zeroExtend 16) else if w = 0xFF09 then wd c.cwa else 0,
   if w = 0xFF04 then { c with cych := BitVec.ofNat 16 (c.cyc / 65536) } else c)

/-- CWD: a code word at CWK:CWA, but for K3, whose writes are dropped; CWA advances. -/
def CoreSt.codeWrite (c : CoreSt) (v : Half) : CoreSt :=
  let c := if c.cwk = 3 then c else { c with code := Tab.set (fun _ => 0) c.code (65536 * c.cwk.toNat + c.cwa.toNat) v }
  { c with cwa := c.cwa + 1 }

def CoreSt.writeCtl (c : CoreSt) (k : Core) (w : Nat) (v : Half) : CoreSt :=
  if w = 0xFF00 then { c with ien := v.setWidth 4 }
  else if w = 0xFF01 then { c with ipend := c.ipend &&& ~~~(v.setWidth 4) }
  else if w = 0xFF02 then { c with treload := v, tcnt := v }
  else if k ≠ .warden then c
  else if w = 0xFF08 then { c with cwk := v.setWidth 2 }
  else if w = 0xFF09 then { c with cwa := v }
  else if w = 0xFF0A then c.codeWrite v
  else c

-- accesses

/-- What a read comes to. -/
inductive Got where
  | value (v : Half) (s : State)
  /-- the addressed block holds the read back (R259) -/
  | stall (s : State)
  deriving DecidableEq, Repr

/-- A core's T after an access through the bridge. -/
def State.bridgeT (s : State) (c : Core) (refused : Bool) : State := s.updCore c fun k => { k with f := k.f.put fT refused }

/-- A read of Q_POPL that waits, the queue selected being empty (R314): the Warden's of an inbound queue for an item, every other
until QWAIT is over. -/
def State.emptyPop (s : State) (c : Core) (p o : Nat) : Bool :=
  let i := s.qSel (3 + coreIdx c)
  decide (p * 4096 + o = F.Q_POPL.addr) && !(s.queue i).readable &&
    (decide (c = .warden ∧ i % 2 = 0) || !(s.coreWaits c).any fun t => decide (t ≤ s.now))

/-- The wait of such a read begins, or goes on. -/
def State.popStall (s : State) (c : Core) : State :=
  let i := s.qSel (3 + coreIdx c)
  if c = .warden ∧ i % 2 = 0 then { s with tn.stalled := some i }
  else s.setCoreWait c (some ((s.coreWaits c).getD (s.now + us (min (s.fget F.Q_CFG_QWAIT) 100))))

/-- A read of one half of a register (R25). -/
def State.readHalf (s : State) (c : Core) (p o : Nat) (hi : Bool) : Got :=
  if hi then .value (hiHalf (s.core (coreIdx c)).hold) s
  else if s.readHeld (coreVia c) p o 1 then .stall s
  else if s.emptyPop c p o then .stall (s.popStall c)
  else
    let (w, s) := s.busRead (coreVia c) p o
    .value (loHalf w) (s.updCore c fun k => { k with hold := w })

/-- A read by a core at a place R257 allows. -/
def State.readPlace (s : State) (c : Core) (pl : Place) : Got :=
  if bridged c pl ∧ ¬ s.domPowered 1 then .value 0 (s.bridgeT c true)
  else
    let s := if bridged c pl then s.bridgeT c false else s
    match pl with
    | .data w => .value (Tab.get (fun _ => 0) (s.core (coreIdx c)).data w) s
    | .control w =>
      let r := (s.core (coreIdx c)).readCtl c w
      .value r.1 (s.setCore (coreIdx c) r.2)
    | .regs p o hi => s.readHalf c p o hi
    | .comb a =>
      let (b, _, s) := s.combRead (combMaster c) a 2
      .value (BitVec.ofNat 16 (ofLe b)) s
    | .bad => .value 0 s

/-- A write by a core at a place R257 allows. The write to a block comes last: it may reset the core. -/
def State.writePlace (s : State) (c : Core) (pl : Place) (v : Half) : State :=
  if bridged c pl ∧ ¬ s.domPowered 1 then s.bridgeT c true
  else
    let s := if bridged c pl then s.bridgeT c false else s
    match pl with
    | .data w => s.updCore c fun k => { k with data := Tab.set (fun _ => 0) k.data w v }
    | .control w => s.updCore c fun k => k.writeCtl c w v
    | .regs p o hi =>
      let h := (s.core (coreIdx c)).hold
      if hi then s.busWrite (coreVia c) p o (v ++ loHalf h) true
      else s.updCore c fun k => { k with hold := hiHalf h ++ v }
    | .comb a => s.combWrite (combMaster c) a (leBytes 2 v.toNat)
    | .bad => s

-- faults (R274)

/-- The core stops with P at the faulting instruction: WVFAULT, a Warden restart, or GWFAULT. -/
def State.coreFault (s : State) (c : Core) (cause : Nat) : State :=
  let s := s.updCore c fun k => { k with faulted := true, cause := cause, waiting := false }
  match c with
  | .hive n => (s.wvStat n.val).evRise (wvPage n.val) 0
  | .warden => s.wardenRestart cause 2
  | .glow => s.gwFault cause

def cILLEGAL : Nat := 1
def cBANK : Nat := 2
def cPCRANGE : Nat := 3
def cSTKOVF : Nat := 4
def cSTKUNF : Nat := 5

-- issue and end

def encWords : Enc → Nat
  | .short _ => 1
  | .long _ _ => 2

def codeWords : Core → Nat
  | .hive _ => 0x4000
  | .warden => 0x10000
  | .glow => 0x800

/-- The fetch of an instruction lies in code memory. -/
def CoreSt.inCode (k : CoreSt) (c : Core) (e : Enc) : Bool :=
  decide (c = .warden) || decide (k.p.toNat + encWords e ≤ codeWords c)

/-- The value loaded by the instruction before lands (R260). -/
def CoreSt.land (k : CoreSt) : Option (Nat × Half) → CoreSt
  | some (n, v) => k.setRegN n v
  | none => k

/-- The core as an instruction finds it: P past its words, a routine left at a yield point dropped, MR cleared when RV is
set (R283). The value about to land is taken out. -/
def CoreSt.issue (k : CoreSt) (e : Enc) : CoreSt :=
  { k with p := k.p + BitVec.ofNat 16 (encWords e), load := none, waiting := false, user := none, mr := if k.mr.msb then 0 else k.mr }

/-- Can the core issue an instruction: running, not halted by WAIT without a pending line, and with no interrupt due at this
boundary (R272; the one after a load is no interrupt point)? -/
def State.issues (s : State) (c : Core) : Bool :=
  let k := s.core (coreIdx c)
  s.coreRuns c && (!k.waiting || k.line.isSome) && (k.intDue.isNone || k.load.isSome)

/-- WAIT ends (R273): the cycles that went by are not known, so the cycle count and a running timer's count are free values;
Glowworm's oscillator stood still. -/
def State.wake (s : State) (c : Core) : State :=
  let k := s.core (coreIdx c)
  if ¬ k.waiting then s
  else if c = .glow then s.setCore (coreIdx c) { k with waiting := false }
  else
    let v := Config.freeValue s.fresh
    { s with fresh := s.fresh + 1 }.setCore (coreIdx c)
      { k with waiting := false, cyc := v % 2 ^ 32,
               tcnt := if k.treload = 0 then k.tcnt else BitVec.ofNat 16 (v / 2 ^ 32 % k.treload.toNat + 1) }

/-- Clear WV_STAT.STALLED and the Warden's stalled read. -/
def State.unstallCore (s : State) (c : Core) : State :=
  match c with
  | .hive n => s.fputB (F.WV_STAT_STALLED n.val) false
  | .warden => { s with tn.stalled := none }
  | .glow => s

/-- A stalled core waits with P unchanged and issues the instruction again; of the state `s2` of its read the wait alone stays. -/
def State.stallCore (s : State) (c : Core) (s2 : State) : State :=
  let s := { s with tn.stalled := s2.tn.stalled, tn.coreWait := s2.tn.coreWait }
  match c with
  | .hive n => s.fputB (F.WV_STAT_STALLED n.val) true
  | _ => s

/-- The end of an instruction: `f` writes its results, the post-increment and the landing value follow, `n` cycles go by. -/
def State.retire (s : State) (c : Core) (land : Option (Nat × Half)) (inc : Option (Bool × Half)) (n : Nat)
    (f : CoreSt → CoreSt) : State :=
  s.updCore c fun k => (((f k).bump inc).land land).tick n

/-- An instruction of core `c`: nothing when the core issues none; PCRANGE and ILLEGAL before anything else. `long` says that
there is no short form. `f` gets the value about to land and the state with the instruction issued. -/
def State.instr (s : State) (c : Core) (e : Enc) (legal : Bool) (f : Option (Nat × Half) → State → State) : State :=
  if ¬ s.issues c then s
  else
  let s := s.wake c
  let k := s.core (coreIdx c)
  if ¬ k.inCode c e then s.coreFault c cPCRANGE
  else if ¬ legal ∨ (c = .glow ∧ encWords e = 1) then s.coreFault c cILLEGAL
  else f k.load ((s.unstallCore c).setCore (coreIdx c) (k.issue e))

/-- An op of R264 that is reserved, in the first word of an instruction. -/
def reservedOp (w : Half) : Bool := let op := w.toNat / 256 % 128; decide (0x46 ≤ op ∧ op < 0x70)

/-- The code word a core fetches next (R254, R269). -/
def State.nextCode (s : State) (c : Core) : Half :=
  let k := s.core (coreIdx c)
  Tab.get (fun _ => 0) k.code (65536 * (if c = .warden then k.k.toNat else 0) + k.p.toNat)

/-- A core left to itself that stands at a reserved op faults with ILLEGAL (R264); every other word is an instruction, with a
row of its own. -/
def State.reservedFetch (s : State) (c : Core) : State :=
  s.when (s.issues c && reservedOp (s.nextCode c)) (·.coreFault c cILLEGAL)

/-- No operand: operand byte, mode byte and operand word are zero (R263). -/
def bare : Enc → Bool
  | .short b => decide (b = 0)
  | .long m w => decide (m = 0 ∧ w = 0)

/-- An instruction of the operand class: `f` is given the operand's value and works on the core. -/
def State.instrS (s : State) (c : Core) (e : Enc) (low n : Nat) (f : Half → CoreSt → CoreSt) : State :=
  let k := s.core (coreIdx c)
  s.instr c e (k.operand e low).isSome fun land s1 =>
    match k.operand e low with
    | none => s1
    | some (.imm v) => s1.retire c land none n (f v)
    | some (.reg r) => s1.retire c land none n (f ((s1.core (coreIdx c)).getReg r))
    | some (.mem b w inc) =>
      let pl := place c b w
      if pl = .bad then (s.wake c).coreFault c cBANK
      else match s1.readPlace c pl with
      | .stall s2 => s.stallCore c s2
      | .value v s2 =>
        let (extra, s2) := s2.accessCost c false pl
        s2.retire c land inc (n + extra) (f v)

/-- A load of register `r` (R260): from memory it lands at the end of the next instruction. -/
def State.loadReg (s : State) (c : Core) (e : Enc) (r : Nat) : State :=
  let far := match (s.core (coreIdx c)).operand e 0 with
    | some (.mem _ _ _) => true
    | _ => false
  s.instrS c e 0 1 fun v k => if far then { k with load := some (r, v) } else k.setRegN r v

/-- A store of register `r`; IMM and REG are ILLEGAL. -/
def State.storeReg (s : State) (c : Core) (e : Enc) (r : Nat) : State :=
  let k := s.core (coreIdx c)
  match k.operand e 0 with
  | some (.mem b w inc) =>
    s.instr c e true fun land s1 =>
      let pl := place c b w
      if pl = .bad then (s.wake c).coreFault c cBANK
      else
        let v := (s1.core (coreIdx c)).getReg r
        let (extra, s1) := s1.accessCost c true pl
        (s1.retire c land inc (1 + extra) id).writePlace c pl v
  | _ => s.instr c e false fun _ s1 => s1

/-- An instruction of the ALU that writes A, E and F from A, E and s. -/
def State.alu (s : State) (c : Core) (e : Enc) (n : Nat) (f : Half → CoreSt → CoreSt) : State := s.instrS c e 0 n f

/-- A branch (R264): a signed word offset from the next instruction, one cycle, two when taken. -/
def State.branch (s : State) (c : Core) (e : Enc) (upd : CoreSt → CoreSt) (take : CoreSt → Bool) : State :=
  let legal := match e with | .short _ => true | .long m _ => decide (m = 0)
  let ofs : Half := match e with | .short b => b.signExtend 16 | .long _ w => w
  s.instr c e legal fun land s1 =>
    let t := take (upd (s1.core (coreIdx c)))
    s1.retire c land none (if t then 2 else 1) fun k => if t then { upd k with p := (upd k).p + ofs } else upd k

/-- A jump to `dst`; `k` gives the new code bank. -/
def State.jump (s : State) (c : Core) (e : Enc) (legal : Bool) (dst : CoreSt → Half) (bank : Option (BitVec 2)) : State :=
  s.instr c e legal fun land s1 => s1.retire c land none 2 fun k => { k with p := dst k, k := bank.getD k.k }

/-- A call (R268): the entry holds the next instruction's address and K; its F and MR are not used, and are free values. -/
def State.call (s : State) (c : Core) (e : Enc) (legal : Bool) (dst : CoreSt → Half) (bank : Option (BitVec 2)) : State :=
  s.instr c e legal fun land s1 =>
    if 8 ≤ (s.core (coreIdx c)).stack.length then (s.wake c).coreFault c cSTKOVF
    else
      let v := Config.freeValue s1.fresh
      { s1 with fresh := s1.fresh + 1 }.retire c land none 2 fun k =>
        { k with stack := ⟨k.p, k.k, BitVec.ofNat 6 v, BitVec.ofNat 16 (v / 64)⟩ :: k.stack, p := dst k, k := bank.getD k.k }

/-- A pop (R268). -/
def State.ret (s : State) (c : Core) (e : Enc) (n : Nat) (f : StackEnt → CoreSt → CoreSt) : State :=
  s.instr c e (bare e) fun land s1 =>
    match (s.core (coreIdx c)).stack with
    | [] => (s.wake c).coreFault c cSTKUNF
    | t :: rest => s1.retire c land none n fun k => f t { k with stack := rest }

end Sys2Proof.Machine
end

