-- ==== Sys2Proof/Machine/Weevil.lean ====
section
/-! DEFINITION. The Weevil's instructions (13: R260 to R268, R273), one meaning per row of R264, over the shared issue,
operand and flag operations. -/

namespace Sys2Proof.Machine

-- machine control

/-- NOP. -/
def execNop (c : Core) (e : Enc) (s : State) : Host.Outcome State Fault Refusal :=
  .next (s.instr c e (bare e) fun land s1 => s1.retire c land none 1 id)

/-- WAIT (R273): fetching halts until a line has its IEN and IPEND bits set; with one pending it ends in 1 cycle. -/
def execWait (c : Core) (e : Enc) (s : State) : Host.Outcome State Fault Refusal :=
  .next (s.instr c e (bare e) fun land s1 => s1.retire c land none 1 fun k => { k with waiting := k.line.isNone })

/-- EI: IE at the end of EI. -/
def execEi (c : Core) (e : Enc) (s : State) : Host.Outcome State Fault Refusal :=
  .next (s.instr c e (bare e) fun land s1 => s1.retire c land none 1 fun k => { k with f := k.f.put fIE true })

/-- DI. -/
def execDi (c : Core) (e : Enc) (s : State) : Host.Outcome State Fault Refusal :=
  .next (s.instr c e (bare e) fun land s1 => s1.retire c land none 1 fun k => { k with f := k.f.put fIE false })

/-- RTS: P, and K on the Warden. -/
def execRts (c : Core) (e : Enc) (s : State) : Host.Outcome State Fault Refusal :=
  .next (s.ret c e 2 fun t k => { k with p := t.p, k := if c = .warden then t.k else k.k })

/-- RETI: P, K, F and MR. -/
def execReti (c : Core) (e : Enc) (s : State) : Host.Outcome State Fault Refusal :=
  .next (s.ret c e 3 fun t k => { k with p := t.p, k := t.k, f := t.f, mr := t.mr })

/-- SWAP. -/
def execSwap (c : Core) (e : Enc) (s : State) : Host.Outcome State Fault Refusal :=
  .next (s.instr c e (bare e) fun land s1 => s1.retire c land none 1 fun k => { k with a := k.e, e := k.a })

/-- SEX. -/
def execSex (c : Core) (e : Enc) (s : State) : Host.Outcome State Fault Refusal :=
  .next (s.instr c e (bare e) fun land s1 => s1.retire c land none 1 fun k => { k with e := if k.a.msb then 0xFFFF else 0 })

/-- LDB: the bank is in the operand byte, or in [7:0] of the operand word (R263). -/
def execLdb (c : Core) (e : Enc) (s : State) : Host.Outcome State Fault Refusal :=
  .next (
    let legal := match e with | .short _ => true | .long m v => decide (m = 0 ∧ v.toNat < 256)
    let bank : Byte := match e with | .short b => b | .long _ v => v.setWidth 8
    s.instr c e legal fun land s1 => s1.retire c land none 1 fun k => { k with b := bank })

/-- MOV: destination in [5:3], source in [2:0]; MR and K are no destinations. -/
def execMov (c : Core) (e : Enc) (s : State) : Host.Outcome State Fault Refusal :=
  .next (
    let m : Byte := match e with | .short b => b | .long b _ => b
    let legal := decide (m.toNat < 64) && (match e with | .short _ => true | .long _ v => decide (v = 0)) && decide (m.toNat / 8 < 6)
    s.instr c e legal fun land s1 => s1.retire c land none 1 fun k => k.setRegN (m.toNat / 8) (k.getReg (m.toNat % 8)))

-- jumps and calls (R264, R268)

/-- JMPX. -/
def execJmpx (c : Core) (e : Enc) (s : State) : Host.Outcome State Fault Refusal :=
  .next (s.jump c e (bare e) (fun k => k.x) none)

/-- JSRX. -/
def execJsrx (c : Core) (e : Enc) (s : State) : Host.Outcome State Fault Refusal :=
  .next (s.call c e (bare e) (fun k => k.x) none)

/-- The address of a long jump, and whether its mode byte is below `lim`. -/
def longTo (e : Enc) (lim : Nat) : Half × Bool :=
  match e with
  | .short _ => (0, false)
  | .long m v => (v, decide (m.toNat < lim))

def modeBank (e : Enc) : BitVec 2 :=
  match e with
  | .short _ => 0
  | .long m _ => m.setWidth 2

/-- JMP: long only, mode byte 0. -/
def execJmp (c : Core) (e : Enc) (s : State) : Host.Outcome State Fault Refusal :=
  .next (s.jump c e (longTo e 1).2 (fun _ => (longTo e 1).1) none)

/-- JSR. -/
def execJsr (c : Core) (e : Enc) (s : State) : Host.Outcome State Fault Refusal :=
  .next (s.call c e (longTo e 1).2 (fun _ => (longTo e 1).1) none)

/-- FJMP: the Warden only; the new K in [1:0] of the mode byte. -/
def execFjmp (c : Core) (e : Enc) (s : State) : Host.Outcome State Fault Refusal :=
  .next (s.jump c e ((longTo e 4).2 && decide (c = .warden)) (fun _ => (longTo e 4).1) (some (modeBank e)))

/-- FJSR. -/
def execFjsr (c : Core) (e : Enc) (s : State) : Host.Outcome State Fault Refusal :=
  .next (s.call c e ((longTo e 4).2 && decide (c = .warden)) (fun _ => (longTo e 4).1) (some (modeBank e)))

-- loads and stores (R260, R264)

/-- LDA. -/
def execLda (c : Core) (e : Enc) (s : State) : Host.Outcome State Fault Refusal :=
  .next (s.loadReg c e 0)

/-- LDE. -/
def execLde (c : Core) (e : Enc) (s : State) : Host.Outcome State Fault Refusal :=
  .next (s.loadReg c e 1)

/-- LDX. -/
def execLdx (c : Core) (e : Enc) (s : State) : Host.Outcome State Fault Refusal :=
  .next (s.loadReg c e 2)

/-- LDY. -/
def execLdy (c : Core) (e : Enc) (s : State) : Host.Outcome State Fault Refusal :=
  .next (s.loadReg c e 3)

/-- STA. -/
def execSta (c : Core) (e : Enc) (s : State) : Host.Outcome State Fault Refusal :=
  .next (s.storeReg c e 0)

/-- STE. -/
def execSte (c : Core) (e : Enc) (s : State) : Host.Outcome State Fault Refusal :=
  .next (s.storeReg c e 1)

/-- STX. -/
def execStx (c : Core) (e : Enc) (s : State) : Host.Outcome State Fault Refusal :=
  .next (s.storeReg c e 2)

/-- STY. -/
def execSty (c : Core) (e : Enc) (s : State) : Host.Outcome State Fault Refusal :=
  .next (s.storeReg c e 3)

-- arithmetic and logic

/-- ADD. -/
def execAdd (c : Core) (e : Enc) (s : State) : Host.Outcome State Fault Refusal :=
  .next (s.alu c e 1 fun v k => let r := addC k.a v false; { k with a := r.r, f := r.flags k.f })

/-- ADC. -/
def execAdc (c : Core) (e : Enc) (s : State) : Host.Outcome State Fault Refusal :=
  .next (s.alu c e 1 fun v k => let r := addC k.a v k.f.c; { k with a := r.r, f := r.flags k.f })

/-- SUB. -/
def execSub (c : Core) (e : Enc) (s : State) : Host.Outcome State Fault Refusal :=
  .next (s.alu c e 1 fun v k => let r := subC k.a v false; { k with a := r.r, f := r.flags k.f })

/-- SBC. -/
def execSbc (c : Core) (e : Enc) (s : State) : Host.Outcome State Fault Refusal :=
  .next (s.alu c e 1 fun v k => let r := subC k.a v (!k.f.c); { k with a := r.r, f := r.flags k.f })

/-- AND. -/
def execAnd (c : Core) (e : Enc) (s : State) : Host.Outcome State Fault Refusal :=
  .next (s.alu c e 1 fun v k => { k with a := k.a &&& v, f := k.f.zn (k.a &&& v) })

/-- OR. -/
def execOr (c : Core) (e : Enc) (s : State) : Host.Outcome State Fault Refusal :=
  .next (s.alu c e 1 fun v k => { k with a := k.a ||| v, f := k.f.zn (k.a ||| v) })

/-- XOR. -/
def execXor (c : Core) (e : Enc) (s : State) : Host.Outcome State Fault Refusal :=
  .next (s.alu c e 1 fun v k => { k with a := k.a ^^^ v, f := k.f.zn (k.a ^^^ v) })

/-- CMP. -/
def execCmp (c : Core) (e : Enc) (s : State) : Host.Outcome State Fault Refusal :=
  .next (s.alu c e 1 fun v k => { k with f := (subC k.a v false).flags k.f })

/-- TST. -/
def execTst (c : Core) (e : Enc) (s : State) : Host.Outcome State Fault Refusal :=
  .next (s.alu c e 1 fun v k => { k with f := k.f.zn (k.a &&& v) })

/-- ADX: no flags. -/
def execAdx (c : Core) (e : Enc) (s : State) : Host.Outcome State Fault Refusal :=
  .next (s.alu c e 1 fun v k => { k with x := k.x + v })

/-- ADY: no flags. -/
def execAdy (c : Core) (e : Enc) (s : State) : Host.Outcome State Fault Refusal :=
  .next (s.alu c e 1 fun v k => { k with y := k.y + v })

/-- CPX. -/
def execCpx (c : Core) (e : Enc) (s : State) : Host.Outcome State Fault Refusal :=
  .next (s.alu c e 1 fun v k => { k with f := (subC k.x v false).flags k.f })

/-- MUL: signed; N is bit 31 and Z covers all 32 bits. -/
def execMul (c : Core) (e : Enc) (s : State) : Host.Outcome State Fault Refusal :=
  .next (s.alu c e 2 fun v k => let r := BitVec.ofInt 32 (k.a.toInt * v.toInt); { k with a := loHalf r, e := hiHalf r, f := k.f.zn32 r })

/-- MULU: unsigned. -/
def execMulu (c : Core) (e : Enc) (s : State) : Host.Outcome State Fault Refusal :=
  .next (s.alu c e 2 fun v k => let r := BitVec.ofNat 32 (k.a.toNat * v.toNat); { k with a := loHalf r, e := hiHalf r, f := k.f.zn32 r })

/-- MAC: V on signed overflow. -/
def execMac (c : Core) (e : Enc) (s : State) : Host.Outcome State Fault Refusal :=
  .next (s.alu c e 2 fun v k =>
      let r := macSum (pair k.e k.a) k.y v
      { k with a := loHalf r.1, e := hiHalf r.1, f := (k.f.zn32 r.1).put fV r.2 })

/-- DIV (R265): Z and N from the quotient in A. -/
def execDiv (c : Core) (e : Enc) (s : State) : Host.Outcome State Fault Refusal :=
  .next (s.alu c e 18 fun v k =>
      let r := divide (pair k.e k.a) v
      { k with a := r.1, e := r.2.1, f := (k.f.zn r.1).put fV r.2.2 })

-- shifts

/-- SHL. -/
def execShl (c : Core) (e : Enc) (s : State) : Host.Outcome State Fault Refusal :=
  .next (s.alu c e 1 fun v k =>
      let r := shl16 k.a (shiftN v) k.f.c
      { k with a := r.1, f := (k.f.zn r.1).put fC r.2 })

/-- SHR. -/
def execShr (c : Core) (e : Enc) (s : State) : Host.Outcome State Fault Refusal :=
  .next (s.alu c e 1 fun v k =>
      let r := shr16 k.a (shiftN v) k.f.c
      { k with a := r.1, f := (k.f.zn r.1).put fC r.2 })

/-- SAR. -/
def execSar (c : Core) (e : Enc) (s : State) : Host.Outcome State Fault Refusal :=
  .next (s.alu c e 1 fun v k =>
      let r := sar16 k.a (shiftN v) k.f.c
      { k with a := r.1, f := (k.f.zn r.1).put fC r.2 })

/-- ROL. -/
def execRol (c : Core) (e : Enc) (s : State) : Host.Outcome State Fault Refusal :=
  .next (s.alu c e 1 fun v k =>
      let r := rol17 k.a (shiftN v) k.f.c
      { k with a := r.1, f := (k.f.zn r.1).put fC r.2 })

/-- DSHL: n = s[4:0]. -/
def execDshl (c : Core) (e : Enc) (s : State) : Host.Outcome State Fault Refusal :=
  .next (s.alu c e 1 fun v k =>
      let r := shl32 (pair k.e k.a) (v.toNat % 32) k.f.c
      { k with a := loHalf r.1, e := hiHalf r.1, f := (k.f.zn32 r.1).put fC r.2 })

/-- DSAR: n = s[4:0]. -/
def execDsar (c : Core) (e : Enc) (s : State) : Host.Outcome State Fault Refusal :=
  .next (s.alu c e 1 fun v k =>
      let r := sar32 (pair k.e k.a) (v.toNat % 32) k.f.c
      { k with a := loHalf r.1, e := hiHalf r.1, f := (k.f.zn32 r.1).put fC r.2 })

-- SAT, NEG and ABS name no operand s: their bytes are zero (DEDUCED, log entry 19)

/-- SAT: V tells whether the value was limited. -/
def execSat (c : Core) (e : Enc) (s : State) : Host.Outcome State Fault Refusal :=
  .next (s.instr c e (bare e) fun land s1 => s1.retire c land none 1 fun k => let r := saturate (pair k.e k.a); { k with a := r.1, f := (k.f.zn r.1).put fV r.2 })

/-- NEG: C as of 0 − A. -/
def execNeg (c : Core) (e : Enc) (s : State) : Host.Outcome State Fault Refusal :=
  .next (s.instr c e (bare e) fun land s1 => s1.retire c land none 1 fun k => let r := subC 0 k.a false; { k with a := r.r, f := r.flags k.f })

/-- ABS. -/
def execAbs (c : Core) (e : Enc) (s : State) : Host.Outcome State Fault Refusal :=
  .next (s.instr c e (bare e) fun land s1 => s1.retire c land none 1 fun k => let r := absolute k.a; { k with a := r.1, f := (k.f.zn r.1).put fV r.2 })

-- tests, bits and CRC steps (R264, R266, R267)

/-- BTST. -/
def execBtst (c : Core) (e : Enc) (s : State) : Host.Outcome State Fault Refusal :=
  .next (s.alu c e 1 fun v k => { k with f := k.f.put fT (k.a.getLsbD (v.toNat % 16)) })

/-- PAR. -/
def execPar (c : Core) (e : Enc) (s : State) : Host.Outcome State Fault Refusal :=
  .next (s.alu c e 1 fun v k => { k with f := k.f.put fT (parity (k.a &&& v)) })

/-- PARE. -/
def execPare (c : Core) (e : Enc) (s : State) : Host.Outcome State Fault Refusal :=
  .next (s.alu c e 1 fun v k => { k with f := k.f.put fT (xor (k.f.getLsbD fT) (parity (k.e &&& v))) })

/-- BREV. -/
def execBrev (c : Core) (e : Enc) (s : State) : Host.Outcome State Fault Refusal :=
  .next (s.alu c e 1 fun v k => { k with a := bitRev k.a v, f := k.f.zn (bitRev k.a v) })

/-- n of a CRC step: 8 in the short form, the mode byte's [3:0] + 1 in the long form. -/
def crcN : Enc → Nat
  | .short _ => 8
  | .long m _ => m.toNat % 16 + 1

def crcCycles (e : Enc) : Nat := if crcN e ≤ 8 then 1 else 2

/-- CRCQ: the remainder is E[7:0]:A. -/
def execCrcq (c : Core) (e : Enc) (s : State) : Host.Outcome State Fault Refusal :=
  .next (s.instrS c e 4 (crcCycles e) fun v k =>
      let r := (bitsDown v (crcN e)).foldl crcqBit ((pair k.e k.a).setWidth 24)
      { k with a := r.setWidth 16, e := (r >>> 16).setWidth 16, f := k.f.put fZ (decide (r = 0)) })

/-- CRCC: the remainder is A. -/
def execCrcc (c : Core) (e : Enc) (s : State) : Host.Outcome State Fault Refusal :=
  .next (s.instrS c e 4 (crcCycles e) fun v k =>
      let r := (bitsDown v (crcN e)).foldl crccBit k.a
      { k with a := r, f := k.f.put fZ (decide (r = 0)) })

/-- CRCW: the remainder is E:A. -/
def execCrcw (c : Core) (e : Enc) (s : State) : Host.Outcome State Fault Refusal :=
  .next (s.instrS c e 4 (crcCycles e) fun v k =>
      let r := (bitsUp v (crcN e)).foldl crcwBit (pair k.e k.a)
      { k with a := loHalf r, e := hiHalf r, f := k.f.put fZ (decide (r = 0)) })

-- branches

/-- BRA. -/
def execBra (c : Core) (e : Enc) (s : State) : Host.Outcome State Fault Refusal :=
  .next (s.branch c e id fun _ => true)

/-- BZ. -/
def execBz (c : Core) (e : Enc) (s : State) : Host.Outcome State Fault Refusal :=
  .next (s.branch c e id fun k => k.f.is fZ true)

/-- BNZ. -/
def execBnz (c : Core) (e : Enc) (s : State) : Host.Outcome State Fault Refusal :=
  .next (s.branch c e id fun k => k.f.is fZ false)

/-- BN. -/
def execBn (c : Core) (e : Enc) (s : State) : Host.Outcome State Fault Refusal :=
  .next (s.branch c e id fun k => k.f.is fN true)

/-- BNN. -/
def execBnn (c : Core) (e : Enc) (s : State) : Host.Outcome State Fault Refusal :=
  .next (s.branch c e id fun k => k.f.is fN false)

/-- BC. -/
def execBc (c : Core) (e : Enc) (s : State) : Host.Outcome State Fault Refusal :=
  .next (s.branch c e id fun k => k.f.is fC true)

/-- BNC. -/
def execBnc (c : Core) (e : Enc) (s : State) : Host.Outcome State Fault Refusal :=
  .next (s.branch c e id fun k => k.f.is fC false)

/-- BV. -/
def execBv (c : Core) (e : Enc) (s : State) : Host.Outcome State Fault Refusal :=
  .next (s.branch c e id fun k => k.f.is fV true)

/-- BNV. -/
def execBnv (c : Core) (e : Enc) (s : State) : Host.Outcome State Fault Refusal :=
  .next (s.branch c e id fun k => k.f.is fV false)

/-- BT. -/
def execBt (c : Core) (e : Enc) (s : State) : Host.Outcome State Fault Refusal :=
  .next (s.branch c e id fun k => k.f.is fT true)

/-- BNT. -/
def execBnt (c : Core) (e : Enc) (s : State) : Host.Outcome State Fault Refusal :=
  .next (s.branch c e id fun k => k.f.is fT false)

/-- DBNZ: X counts down, the branch is taken while it is not 0. -/
def execDbnz (c : Core) (e : Enc) (s : State) : Host.Outcome State Fault Refusal :=
  .next (s.branch c e (fun k => { k with x := k.x - 1 }) fun k => decide (k.x ≠ 0))

/-- BGE: N = V. -/
def execBge (c : Core) (e : Enc) (s : State) : Host.Outcome State Fault Refusal :=
  .next (s.branch c e id fun k => k.f.is fN (k.f.getLsbD fV))

/-- BLT: N ≠ V. -/
def execBlt (c : Core) (e : Enc) (s : State) : Host.Outcome State Fault Refusal :=
  .next (s.branch c e id fun k => !k.f.is fN (k.f.getLsbD fV))

end Sys2Proof.Machine
end

