-- ==== Sys2Proof/Machine/Micro.lean ====
section
/-! DEFINITION. User instructions and the micro-store (14: R276 to R286), interrupts, the timer and the code-write word
(13: R269 to R273). -/

namespace Sys2Proof.Machine

-- interrupts (R270 to R272)

/-- Interrupt entry: P, K, F and MR are pushed; IE, MR and, on the Warden, K are cleared; P goes to the line's vector. -/
def CoreSt.enter (k : CoreSt) (l : Nat) : CoreSt :=
  { k with stack := ⟨k.p, k.k, k.f, k.mr⟩ :: k.stack, f := k.f.put fIE false, mr := 0, k := 0, user := none,
           p := BitVec.ofNat 16 (2 * l) }

/-- INTERRUPT_ENTRY: at an interrupt point, which the boundary after a load is not (R271). A stalled load is abandoned. -/
def execInterruptEntry (c : Core) (s : State) : Host.Outcome State Fault Refusal :=
  let k := s.core (coreIdx c)
  .next (match k.intDue with
    | some l => if s.coreRuns c ∧ k.load = none then (((s.wake c).unstallCore c).setCoreWait c none).updCore c fun k => (k.enter l).tick 3 else s
    | none => s)

-- timer and code writes (R269)

/-- WEEVIL_TIMER: TCNT reaches zero. Glowworm's timer stands still in WAIT. -/
def execWeevilTimer (c : Core) (s : State) : Host.Outcome State Fault Refusal :=
  let k := s.core (coreIdx c)
  .next (if k.treload = 0 ∨ (c = .glow ∧ k.waiting) then s
    else
      let s := s.updCore c fun k => { k with tcnt := k.treload }
      s.coreLine (coreIdx c) 2)

/-- CWD_WRITE: the Warden writes the code-write word. -/
def execCwdWrite (v : Half) (s : State) : Host.Outcome State Fault Refusal :=
  .next (if s.coreRuns .warden then s.updCore .warden fun k => k.codeWrite v else s)

-- micro-words (R278, R279)

def micBits (w : BitVec 64) (lo n : Nat) : Nat := w.toNat / 2 ^ lo % 2 ^ n

/-- A user instruction under way: the core's registers as the routine sees them, its internal registers, the writes its
segment holds, and the state outside with the segment's reads done. -/
structure Run where
  a : Half
  e : Half
  x : Half
  y : Half
  b : Byte
  f : Flags
  u : UserRun
  writes : List (Place × Half)
  /-- cycles of the segment -/
  cyc : Nat
  s : State
  deriving DecidableEq, Repr

def Run.draw (r : Run) (n : Nat) : Nat × Run :=
  let (v, s) := r.s.draw n
  (v, { r with s := s })

/-- A source; a reserved code gives a free value. -/
def Run.source (r : Run) (code : Nat) (imm : Half) : Half × Run :=
  match code with
  | 0 => (r.a, r)
  | 1 => (r.e, r)
  | 2 => (r.x, r)
  | 3 => (r.y, r)
  | 4 => (r.b.zeroExtend 16, r)
  | 5 => (r.f.zeroExtend 16, r)
  | 6 => (r.u.sv, r)
  | 7 => (imm, r)
  | 8 => (r.u.m0, r)
  | 9 => (r.u.m1, r)
  | 10 => (r.u.m2, r)
  | 11 => (r.u.m3, r)
  | 12 => (r.u.lc, r)
  | 13 => (0, r)
  | 14 => (r.u.md, r)
  | _ =>
    let (v, r) := r.draw 16
    (BitVec.ofNat 16 v, r)

/-- A destination; F keeps IE, and none, a source-only or a reserved code write nothing. -/
def Run.dest (r : Run) (code : Nat) (v : Half) : Run :=
  match code with
  | 0 => { r with a := v }
  | 1 => { r with e := v }
  | 2 => { r with x := v }
  | 3 => { r with y := v }
  | 4 => { r with b := v.setWidth 8 }
  | 5 => { r with f := Flags.put (v.setWidth 6) fIE (r.f.getLsbD fIE) }
  | 8 => { r with u.m0 := v }
  | 9 => { r with u.m1 := v }
  | 10 => { r with u.m2 := v }
  | 11 => { r with u.m3 := v }
  | 12 => { r with u.lc := v }
  | _ => r

/-- An operation's result, with C and V where the matching instruction of R264 writes them. -/
def micAlu (op : Nat) (a b : Half) (c : Bool) : Option (Half × Option Bool × Option Bool) :=
  let sum (x : Sum) : Option (Half × Option Bool × Option Bool) := some (x.r, some x.c, some x.v)
  let sh (x : Half × Bool) : Option (Half × Option Bool × Option Bool) := some (x.1, some x.2, none)
  let r (x : Half) : Option (Half × Option Bool × Option Bool) := some (x, none, none)
  match op with
  | 0 => r a
  | 1 => sum (addC a b false)
  | 2 => sum (addC a b c)
  | 3 => sum (subC a b false)
  | 4 => sum (subC a b (!c))
  | 5 => r (a &&& b)
  | 6 => r (a ||| b)
  | 7 => r (a ^^^ b)
  | 8 => sh (shl16 a (shiftN b) c)
  | 9 => sh (shr16 a (shiftN b) c)
  | 10 => sh (sar16 a (shiftN b) c)
  | 11 => r (loHalf (BitVec.ofInt 32 (a.toInt * b.toInt)))
  | 12 => r (hiHalf (BitVec.ofInt 32 (a.toInt * b.toInt)))
  | 13 => r (if a.toInt ≤ b.toInt then a else b)
  | 14 => r (if a.toInt ≤ b.toInt then b else a)
  | _ => none

/-- FW: a flag the operation does not define is a free value (log entry 20). -/
def Run.flags (r : Run) (fw : Nat) (v : Half) (c o : Option Bool) : Run :=
  let one (r : Run) (i : Nat) (b : Option Bool) : Run :=
    if ¬ fw.testBit i then r
    else match b with
    | some b => { r with f := r.f.put i b }
    | none =>
      let (x, r) := r.draw 1
      { r with f := r.f.put i (decide (x = 1)) }
  one (one (one (one (one r fZ (some (decide (v = 0)))) fN (some v.msb)) fC c) fV o) fT none

/-- COND; a reserved code is a free value. -/
def Run.cond (r : Run) (code : Nat) : Bool × Run :=
  if code < 10 then (r.f.getLsbD (code / 2) == decide (code % 2 = 0), r)
  else
    let (x, r) := r.draw 1
    (decide (x = 1), r)

/-- What a step comes to. -/
inductive After where
  /-- the routine goes on at the step in `u.step` -/
  | on (r : Run)
  | yield (r : Run)
  | done (r : Run)
  | fault (cause : Nat)
  | stall (s : State)
  deriving DecidableEq, Repr

/-- MEM (R280): a READ is made at once and MD has it from the next step on; a WRITE is held, at most eight to a segment. -/
def Run.mem (r : Run) (c : Core) (op : Nat) (v : Half) : After :=
  if op ≠ 1 ∧ op ≠ 2 then .on r
  else
    let pl := place c r.u.bank r.u.word
    if pl = .bad then .fault 0x22
    else if op = 2 then (if 8 ≤ r.writes.length then .fault 0x23 else .on { r with writes := r.writes ++ [(pl, v)] })
    else match r.s.readPlace c pl with
    | .stall s => .stall s
    | .value w s =>
      let (n, s) := s.accessCost c false pl
      .on { r with u.md := w, s := s, cyc := r.cyc + n }

/-- SEQ (R279). -/
def Run.seq (r : Run) (w : BitVec 64) (at_ : Nat) : After :=
  let next := micBits w 16 10
  let go (r : Run) (n : Nat) : After :=
    let r := { r with u.step := n % 1024 }
    if micBits w 31 1 = 1 then .yield r else .on r
  match micBits w 36 3 with
  | 0 => go r (at_ + 1)
  | 1 => go r next
  | 2 =>
    let (b, r) := r.cond (micBits w 32 4)
    go r (if b then next else at_ + 1)
  | 3 =>
    let r := { r with u.lc := r.u.lc - 1 }
    go r (if r.u.lc ≠ 0 then next else at_ + 1)
  | 4 => .done r
  | 5 => .fault (0x28 + micBits w 0 3)
  | _ =>
    let (n, r) := r.draw 10
    go r n

/-- One step (R280). -/
def Run.micro (r : Run) (c : Core) (w : BitVec 64) : After :=
  let here := r.u.step
  let imm := BitVec.ofNat 16 (micBits w 0 16)
  let (a, r) := r.source (micBits w 56 4) imm
  let (b, r) := r.source (micBits w 52 4) imm
  let (res, r) : (Half × Option Bool × Option Bool) × Run := match micAlu (micBits w 60 4) a b r.f.c with
    | some x => (x, r)
    | none =>
      let (v, r) := r.draw 16
      ((BitVec.ofNat 16 v, none, none), r)
  let v := res.1
  let r := (r.dest (micBits w 48 4) v).flags (micBits w 39 5) v res.2.1 res.2.2
  match r.mem c (micBits w 46 2) v with
  | .on r =>
    let adu := micBits w 44 2
    let ad := r.u.word
    let r := { r with cyc := r.cyc + 1 }
    let r := { r with u.word := if adu = 1 then ad + 1 else if adu = 2 then ad - 1 else if adu = 3 then v else ad }
    r.seq w here
  | other => other

def State.microWord (s : State) (c : Core) (n : Nat) : BitVec 64 :=
  Tab.get (Config.microInit (coreIdx c)) (s.core (coreIdx c)).micro n

/-- Steps up to the next yield point or END; the step that would exceed MAXS faults (R282). `fuel` bounds MAXS. -/
def Run.steps (r : Run) (c : Core) (maxs : Nat) : Nat → After
  | 0 => .fault 0x21
  | fuel + 1 =>
    if maxs ≤ r.u.count then .fault 0x21
    else match ({ r with u.count := r.u.count + 1 }).micro c (r.s.microWord c r.u.step) with
    | .on r => Run.steps r c maxs fuel
    | other => other

-- segments (R281, R283)

/-- The held writes are issued in order. -/
def State.commitWrites (s : State) (c : Core) : List (Place × Half) → State
  | [] => s
  | (pl, v) :: r =>
    let (n, s) := s.accessCost c true pl
    ((s.updCore c (·.tick n)).writePlace c pl v).commitWrites c r

/-- The registers of a segment are committed: `f` is the rest of the core's change. Writes to blocks come last. -/
def Run.commit (r : Run) (c : Core) (f : CoreSt → CoreSt) : State :=
  (r.s.updCore c fun k =>
    (f { k with a := r.a, e := r.e, x := r.x, y := r.y, b := r.b, f := r.f }).tick r.cyc).commitWrites
      c r.writes

/-- The routine as it stands in the core at the start of a segment. -/
def State.runAt (s : State) (c : Core) (u : UserRun) : Run :=
  let k := s.core (coreIdx c)
  { a := k.a, e := k.e, x := k.x, y := k.y, b := k.b, f := k.f, u := u, writes := [], cyc := 0, s := s }

/-- A yield point as an interrupt point (R283): MR has RV and the step that follows; an interrupt that is due is taken. -/
def State.yieldPoint (s : State) (c : Core) : State :=
  match (s.core (coreIdx c)).intDue with
  | some l => s.updCore c fun k => (k.enter l).tick 3
  | none => s

/-- At most so many segments from `u` on; the command ends at the yield point after the last, with the routine kept there.
In a load's delay slot the yield points commit only (R284). `base` is what a fault or a stall of the first segment leaves. -/
def State.segments (s base : State) (c : Core) (maxs : Nat) (next : Half) (slot : Bool) (u : UserRun) : Nat → State
  | 0 => s
  | seg + 1 =>
    match (s.runAt c u).steps c maxs 257 with
    | .on _ => s
    | .fault cause => base.coreFault c cause
    | .stall s2 => base.stallCore c s2
    | .done r =>
      r.commit c fun k =>
        ({ k with p := next, mr := 0, user := none, load := none }.bump r.u.inc).land k.load
    | .yield r =>
      if slot then
        let s := r.commit c fun k => { k with user := some r.u }
        if s.coreRuns c ∧ (s.core (coreIdx c)).user = some r.u then s.segments s c maxs next slot r.u seg else s
      else
        let u := { r.u with count := 0 }
        let s := r.commit c fun k => { k with mr := BitVec.ofNat 16 (0x8000 + u.step), user := some u }
        if s.coreRuns c ∧ (s.core (coreIdx c)).user = some u then
          let s := s.yieldPoint c
          if (s.core (coreIdx c)).user = none then s else s.segments s c maxs next slot u seg
        else s

/-- The operand of a user instruction (R277): a state with it read and the routine's internal registers, or a cause. -/
inductive Start where
  | ok (u : UserRun) (s : State) (n : Nat)
  | fault (cause : Nat)
  | stall (s : State)
  deriving DecidableEq, Repr

/-- Resolve the operand under OPND; S without an operand value is a free value, and so is all of OPND 3, which no loaded
entry has. -/
def State.userStart (s : State) (c : Core) (e : Enc) (opnd step : Nat) : Start :=
  let k := s.core (coreIdx c)
  let (v, s) := s.draw 16
  let u : UserRun := { step := step, bank := k.b, sv := BitVec.ofNat 16 v }
  if opnd = 1 then
    match k.operand e 0 with
    | none => .fault cILLEGAL
    | some (.imm x) => .ok { u with sv := x } s 0
    | some (.reg n) => .ok { u with sv := k.getReg n } s 0
    | some (.mem b w inc) =>
      if place c b w = .bad then .fault cBANK
      else match s.readPlace c (place c b w) with
      | .stall s => .stall s
      | .value x s =>
        let (n, s) := s.accessCost c false (place c b w)
        .ok { u with sv := x, inc := inc } s n
  else if opnd = 2 then
    match k.operand e 0 with
    | some (.mem b w inc) => .ok { u with bank := b, word := w, inc := inc } s 0
    | _ => .fault cILLEGAL
  else if bare e then .ok u s 0
  else .fault cILLEGAL

/-- USER_INSTRUCTION (R276 to R286) at opcode 0xF0 + u: to END, or, when `yields` yield points have been passed, to the next
one, where the events of the commands that follow can land. A routine that stands at a yield point goes on from there; RV set without one resumes at RA. -/
def State.userInstr (s : State) (c : Core) (n : Nat) (e : Enc) (yields : Nat) : State :=
  if ¬ s.issues c then s
  else if c = .warden ∧ s.flag F.UC_STAT_BUSY then s
  else
    let s := (s.wake c).unstallCore c
    let k := s.core (coreIdx c)
    let next := k.p + BitVec.ofNat 16 (encWords e)
    let entry := (Tab.get (fun _ => 0) k.table n).toNat
    let maxs := entry / 2 ^ 16 % 512
    let segs := yields + 1 + (if k.load.isSome then 257 else 0)
    if ¬ k.inCode c e then s.coreFault c cPCRANGE
    else if c = .glow ∨ encWords e = 1 then s.coreFault c cILLEGAL
    else match k.user with
    | some u => s.segments s c maxs next k.load.isSome u segs
    | none =>
      if entry < 2 ^ 31 then s.coreFault c 0x20
      else
        let rv := k.mr.msb
        let s := if rv then s else s.updCore c fun k => { k with mr := 0 }
        match s.userStart c e (entry / 2 ^ 29 % 4) (if rv then k.mr.toNat % 1024 else entry % 1024) with
        | .fault cause => s.coreFault c cause
        | .stall s2 => s.stallCore c s2
        | .ok u s2 cyc =>
          let s2 := s2.updCore c (·.tick (cyc + 1))
          s2.segments s c maxs next k.load.isSome u segs

def execUserInstruction (c : Core) (u : Fin 16) (e : Enc) (yields : Nat) (s : State) : Host.Outcome State Fault Refusal :=
  .next (s.userInstr c u.val e yields)

end Sys2Proof.Machine
end

