-- ==== Sys2Proof/Machine/Held.lean ====
section
/-! DEFINITION. The entry sequence of a domain (20: R386, R387, R483), and the accesses it has held back. -/

namespace Sys2Proof.Machine

/-- The state a command answers; no meaning here faults or refuses. -/
def settled (s : State) (o : Host.Outcome State Fault Refusal) : State :=
  match o with
  | .next t => t
  | _ => s

/-- A command that was held back is served. -/
def State.serve (s : State) (c : Instr) : State :=
  settled s (match c with
    | .registerWrite via p o v be => execRegisterWrite via p o v be s
    | .regrd t seq arg0 ws => execRegrd t seq arg0 ws s
    | .usbRegrd p o n => execUsbRegrd p o n s
    | .peek p o n => execPeek p o n s
    | .evPop c => execEvPop c s
    | .uRx c u => execURx c u s
    | .arRestart via => execArRestart via s
    | .rpGo via n => execRpGo via n s
    | .rpStop via n => execRpStop via n s
    | .cpSha256 via => execCpSha256 via s
    | .cpHmac via => execCpHmac via s
    | .cpCmac via => execCpCmac via s
    | .cpGcmenc via => execCpGcmenc via s
    | .cpGcmdec via => execCpGcmdec via s
    | .cpEcdsa256 via => execCpEcdsa256 via s
    | .cpEcdsa521 via => execCpEcdsa521 via s
    | .cpRandom via => execCpRandom via s
    | .cpDoneClear via n => execCpDoneClear via n s
    | .jobSubmit via => execJobSubmit via s
    | .jobAbort via n => execJobAbort via n s
    | .abortall via => execAbortall via s
    | .dfHold via on => execDfHold via on s
    | .jsDoneClear via n => execJsDoneClear via n s
    | .chStart via ch => execChStart via ch s
    | .chStop via ch => execChStop via ch s
    | .hvStart via h m => execHvStart via h m s
    | .dmodeWrite via h d => execDmodeWrite via h d s
    | .ncoWordWrite via ch o v => execNcoWordWrite via ch o v s
    | .retrain via w => execRetrain via w s
    | .dmaGo via n => execDmaGo via n s
    | .spiQuench via v => execSpiQuench via v s
    | .xspiRead via => execXspiRead via s
    | .xspiProgram via => execXspiProgram via s
    | .xspiErase4k via => execXspiErase4k via s
    | .xspiErase64k via => execXspiErase64k via s
    | .rfReq via p r => execRfReq via p r s
    | .resetf via => execResetf via s
    | .relall via => execRelall via s
    | .modelLoad via => execModelLoad via s
    | .spectrumGo via => execSpectrumGo via s
    | .codeCopy via h => execCodeCopy via h s
    | .rearm via n => execRearm via n s
    | .tpCtlWrite via n o v => execTpCtlWrite via n o v s
    | .mnCtlWrite via v => execMnCtlWrite via v s
    | .uTx via u d => execUTx via u d s
    | .wvLoadGo via h => execWvLoadGo via h s
    | .wvRst via h => execWvRst via h s
    | .wvRun via h on => execWvRun via h on s
    | _ => .next s)

/-- The accesses that waited for domain `d` are served in the order they came (R386). -/
def State.serveHeld (s : State) (d : Nat) : State :=
  let mine := s.pwr.held.filter fun x => decide (x.1 = d)
  let s := { s with pwr.held := s.pwr.held.filter fun x => decide (x.1 ≠ d) }
  mine.foldl (fun (s : State) x => s.serve x.2) s

/-- ENTRY_ABORT_POINT: the next of AP1, AP2, AP3 and AP4 of domain `d`. The count is sampled at the end of each of the
first three and before AP4 switches the rail (R483). -/
def execEntryAbortPoint (d : Fin 38) (s : State) : Host.Outcome State Fault Refusal :=
  let n := d.val
  .next (if s.domState n ≠ dENTRY then s
    else
      let ap := s.fget (F.PW_D_AP n)
      let s1 := if ap = 1 then s.retain n else s
      if s1.holders n ≠ 0 then (s1.domAbandon n).serveHeld n
      else if ap < 3 then s1.fput (F.PW_D_AP n) (ap + 1)
      else if n = 1 then s1.allOff
      else (s1.domOff n).serveHeld n)

end Sys2Proof.Machine
end

