-- ==== Sys2Proof/Machine/Dispatch.lean ====
section
/-! DEFINITION. One arm per command, each a direct call of its meaning. -/

namespace Sys2Proof.Machine

/-- The effect of a command on everything but the queue. -/
def exec (i : Instr) (s : State) : Host.Outcome State Fault Refusal :=
  match i with
  -- register pages and Sky Clock (R30 to R46)
  | .registerWrite via page off v be => Sys2Proof.Machine.execRegisterWrite via page off v be s
  | .commit via page => Sys2Proof.Machine.execCommit via page s
  | .srst via page => Sys2Proof.Machine.execSrst via page s
  | .freeze via page on1 => Sys2Proof.Machine.execFreeze via page on1 s
  | .nowT2Read r => Sys2Proof.Machine.execNowT2Read r s
  -- reads that a domain in ENTRY can hold back (R386), from their chapters' lists below
  | .regrd t seq arg0 ws => Sys2Proof.Machine.execRegrd t seq arg0 ws s
  | .usbRegrd page off n => Sys2Proof.Machine.execUsbRegrd page off n s
  | .peek page off n => Sys2Proof.Machine.execPeek page off n s
  | .dumpGridBoundary => Sys2Proof.Machine.execDumpGridBoundary s
  | .epochBoundary others => Sys2Proof.Machine.execEpochBoundary others s
  | .gridActivate => Sys2Proof.Machine.execGridActivate s
  | .estimateTimeout => Sys2Proof.Machine.execEstimateTimeout s
  | .skyStep via => Sys2Proof.Machine.execStep via s
  | .leapApply => Sys2Proof.Machine.execLeapApply s
  | .srcReturnSample => Sys2Proof.Machine.execSrcReturnSample s
  | .aonPeriodMeasure period => Sys2Proof.Machine.execAonPeriodMeasure period s
  -- schedule table (R56 to R62, R236)
  | .schedRead via => Sys2Proof.Machine.execSchedRead via s
  | .schedWrite via => Sys2Proof.Machine.execSchedWrite via s
  | .schedDisarm via => Sys2Proof.Machine.execSchedDisarm via s
  | .schedArmDone => Sys2Proof.Machine.execSchedArmDone s
  | .entryFire n => Sys2Proof.Machine.execEntryFire n s
  | .pulseHandoff n => Sys2Proof.Machine.execPulseHandoff n s
  | .scrubVote => Sys2Proof.Machine.execScrubVote s
  -- RF paths, calibration, bias, coexistence (R67 to R86)
  | .rfReq via p req => Sys2Proof.Machine.execRfReq via p req s
  | .pathTransitionDone p band => Sys2Proof.Machine.execPathTransitionDone p band s
  | .synthUnlock p => Sys2Proof.Machine.execSynthUnlock p s
  | .relockAttemptTimeout p => Sys2Proof.Machine.execRelockAttemptTimeout p s
  | .agcBlock p => Sys2Proof.Machine.execAgcBlock p s
  | .calGo via mask => Sys2Proof.Machine.execCalGo via mask s
  | .coexGnt level => Sys2Proof.Machine.execCoexGnt level s
  | .gntwaitTimeout => Sys2Proof.Machine.execGntwaitTimeout s
  | .calBlock => Sys2Proof.Machine.execCalBlock s
  | .calDone results => Sys2Proof.Machine.execCalDone results s
  | .autocalStart g => Sys2Proof.Machine.execAutocalStart g s
  | .antbCtlWrite via n v => Sys2Proof.Machine.execAntbCtlWrite via n v s
  | .antbBlankEnd n ua mv => Sys2Proof.Machine.execAntbBlankEnd n ua mv s
  | .antbFaultDetect n ua mv => Sys2Proof.Machine.execAntbFaultDetect n ua mv s
  | .antbTrip n ua => Sys2Proof.Machine.execAntbTrip n ua s
  | .coexTxactAssert => Sys2Proof.Machine.execCoexTxactAssert s
  | .coexTxactRelease => Sys2Proof.Machine.execCoexTxactRelease s
  | .blankTailEnd => Sys2Proof.Machine.execBlankTailEnd s
  -- clocks (R90 to R98)
  | .masterUnlock => Sys2Proof.Machine.execMasterUnlock s
  | .referenceLoss => Sys2Proof.Machine.execReferenceLoss s
  | .forcebyp via on1 => Sys2Proof.Machine.execForcebyp via on1 s
  | .referenceReturn => Sys2Proof.Machine.execReferenceReturn s
  | .masterLock => Sys2Proof.Machine.execMasterLock s
  | .bypassReturn => Sys2Proof.Machine.execBypassReturn s
  | .resumePoint => Sys2Proof.Machine.execResumePoint s
  | .auxUnlock => Sys2Proof.Machine.execAuxUnlock s
  | .auxLock => Sys2Proof.Machine.execAuxLock s
  | .clkoutApply => Sys2Proof.Machine.execClkoutApply s
  -- Sieve (R103 to R110)
  | .notchDetect p => Sys2Proof.Machine.execNotchDetect p s
  | .notchLost p k => Sys2Proof.Machine.execNotchLost p k s
  | .iqBlock p => Sys2Proof.Machine.execIqBlock p s
  | .spectrumGo via => Sys2Proof.Machine.execSpectrumGo via s
  | .spectrumDone => Sys2Proof.Machine.execSpectrumDone s
  -- signals (R127 to R129)
  | .codeCopy via h => Sys2Proof.Machine.execCodeCopy via h s
  | .codeCopyDone h => Sys2Proof.Machine.execCodeCopyDone h s
  | .navMessage m => Sys2Proof.Machine.execNavMessage m s
  -- Dragonfly (R137 to R151)
  | .jobSubmit via => Sys2Proof.Machine.execJobSubmit via s
  | .jobAbort via slot => Sys2Proof.Machine.execJobAbort via slot s
  | .abortall via => Sys2Proof.Machine.execAbortall via s
  | .dfHold via on1 => Sys2Proof.Machine.execDfHold via on1 s
  | .captureStart slot => Sys2Proof.Machine.execCaptureStart slot s
  | .captureDone slot => Sys2Proof.Machine.execCaptureDone slot s
  | .binDone => Sys2Proof.Machine.execBinDone s
  | .jobDone => Sys2Proof.Machine.execJobDone s
  | .jsDoneClear via slot => Sys2Proof.Machine.execJsDoneClear via slot s
  | .channelLockTimeout ch => Sys2Proof.Machine.execChannelLockTimeout ch s
  -- Hives and Gather (R162 to R182)
  | .chStart via ch => Sys2Proof.Machine.execChStart via ch s
  | .chStop via ch => Sys2Proof.Machine.execChStop via ch s
  | .hvStart via h mask => Sys2Proof.Machine.execHvStart via h mask s
  | .dmodeWrite via h d => Sys2Proof.Machine.execDmodeWrite via h d s
  | .ncoWordWrite via ch off v => Sys2Proof.Machine.execNcoWordWrite via ch off v s
  | .codeEpochDump ch => Sys2Proof.Machine.execCodeEpochDump ch s
  | .gatherBlockWrite h => Sys2Proof.Machine.execGatherBlockWrite h s
  | .gatherFrameDone cycles => Sys2Proof.Machine.execGatherFrameDone cycles s
  | .gaClrlat via => Sys2Proof.Machine.execGaClrlat via s
  | .lockEstimate ch => Sys2Proof.Machine.execLockEstimate ch s
  | .cn0Estimate ch => Sys2Proof.Machine.execCn0Estimate ch s
  | .cn0Loss ch => Sys2Proof.Machine.execCn0Loss ch s
  | .wvLoadGo via h => Sys2Proof.Machine.execWvLoadGo via h s
  | .wvRst via h => Sys2Proof.Machine.execWvRst via h s
  | .wvRun via h on1 => Sys2Proof.Machine.execWvRun via h on1 s
  -- Scarab (R183 to R209)
  | .fullUpdate u => Sys2Proof.Machine.execFullUpdate u s
  | .fixLossTimeout => Sys2Proof.Machine.execFixLossTimeout s
  | .exclusionReadmit sys prn => Sys2Proof.Machine.execExclusionReadmit sys prn s
  | .vectorTick chans singular cycles => Sys2Proof.Machine.execVectorTick chans singular cycles s
  | .gholdExpiry => Sys2Proof.Machine.execGholdExpiry s
  | .resetf via => Sys2Proof.Machine.execResetf via s
  | .relall via => Sys2Proof.Machine.execRelall via s
  | .modelLoad via => Sys2Proof.Machine.execModelLoad via s
  | .modelCheckDone => Sys2Proof.Machine.execModelCheckDone s
  | .coastRefresh sets => Sys2Proof.Machine.execCoastRefresh sets s
  | .coastTimeout => Sys2Proof.Machine.execCoastTimeout s
  | .beamWeights us => Sys2Proof.Machine.execBeamWeights us s
  | .combinerWeights g => Sys2Proof.Machine.execCombinerWeights g s
  -- measurements and frames (R225 to R232)
  | .frameReceive port client bytes => Sys2Proof.Machine.execFrameReceive port client bytes s
  | .rtcmInput t msg => Sys2Proof.Machine.execRtcmInput t msg s
  | .baseEpochClose => Sys2Proof.Machine.execBaseEpochClose s
  | .authTimeout prn => Sys2Proof.Machine.execAuthTimeout prn s
  -- time pulses, stamps, mains, steering (R236 to R253)
  | .tpEdge n eAct eStb switching => Sys2Proof.Machine.execTpEdge n eAct eStb switching s
  | .tpTrailingEdge n => Sys2Proof.Machine.execTpTrailingEdge n s
  | .tpFltRelease n => Sys2Proof.Machine.execTpFltRelease n s
  | .rearm via n => Sys2Proof.Machine.execRearm via n s
  | .tpCtlWrite via n off v => Sys2Proof.Machine.execTpCtlWrite via n off v s
  | .eventEdge n rise j held since => Sys2Proof.Machine.execEventEdge n rise j held since s
  | .evPop c => Sys2Proof.Machine.execEvPop c s
  | .mainsCrossing j high => Sys2Proof.Machine.execMainsCrossing j high s
  | .mnCtlWrite via v => Sys2Proof.Machine.execMnCtlWrite via v s
  | .steerUpdate => Sys2Proof.Machine.execSteerUpdate s
  | .stampSend => Sys2Proof.Machine.execStampSend s
  -- PCIe (R326 to R336)
  | .windowPush t x => Sys2Proof.Machine.execWindowPush t x s
  | .windowPop t => Sys2Proof.Machine.execWindowPop t s
  | .outopMark t => Sys2Proof.Machine.execOutopMark t s
  | .outopRewind t => Sys2Proof.Machine.execOutopRewind t s
  | .outopRelease t => Sys2Proof.Machine.execOutopRelease t s
  | .pcieQuench t on1 discard => Sys2Proof.Machine.execPcieQuench t on1 discard s
  | .pcieGq on1 => Sys2Proof.Machine.execPcieGq on1 s
  | .openpush x => Sys2Proof.Machine.execOpenpush x s
  | .openpop => Sys2Proof.Machine.execOpenpop s
  | .dmaGo via n => Sys2Proof.Machine.execDmaGo via n s
  | .dmaDone n host => Sys2Proof.Machine.execDmaDone n host s
  | .pcieLinkDown flr => Sys2Proof.Machine.execPcieLinkDown flr s
  -- SPI and xSPI (R343 to R348)
  | .rwr mode3 addr ws cut => Sys2Proof.Machine.execRwr mode3 addr ws cut s
  | .rrd mode3 addr n => Sys2Proof.Machine.execRrd mode3 addr n s
  | .fwr mode3 bytes => Sys2Proof.Machine.execFwr mode3 bytes s
  | .frd mode3 n => Sys2Proof.Machine.execFrd mode3 n s
  | .spiQuench via v => Sys2Proof.Machine.execSpiQuench via v s
  | .xspiRead via => Sys2Proof.Machine.execXspiRead via s
  | .xspiProgram via => Sys2Proof.Machine.execXspiProgram via s
  | .xspiErase4k via => Sys2Proof.Machine.execXspiErase4k via s
  | .xspiErase64k via => Sys2Proof.Machine.execXspiErase64k via s
  | .xspiDone err => Sys2Proof.Machine.execXspiDone err s
  -- serial ports (R356 to R368)
  | .uartCharReceived u line => Sys2Proof.Machine.execUartCharReceived u line s
  | .uartBreak u low => Sys2Proof.Machine.execUartBreak u low s
  | .uTx via u data => Sys2Proof.Machine.execUTx via u data s
  | .uRx c u => Sys2Proof.Machine.execURx c u s
  | .uartCharSent u back => Sys2Proof.Machine.execUartCharSent u back s
  | .deRelease u since => Sys2Proof.Machine.execDeRelease u since s
  | .busRetry high => Sys2Proof.Machine.execBusRetry high s
  | .uartSleepWake u line => Sys2Proof.Machine.execUartSleepWake u line s
  -- power (R384 to R397)
  | .pwCast via d client => Sys2Proof.Machine.execPwCast via d client s
  | .pwWithdraw via d client => Sys2Proof.Machine.execPwWithdraw via d client s
  | .domainWakeDone d => Sys2Proof.Machine.execDomainWakeDone d s
  | .entryAbortPoint d => Sys2Proof.Machine.execEntryAbortPoint d s
  | .thermSample t => Sys2Proof.Machine.execThermSample t s
  | .dwellExpiry flag => Sys2Proof.Machine.execDwellExpiry flag s
  | .backupEntry => Sys2Proof.Machine.execBackupEntry s
  | .wakeAlarm => Sys2Proof.Machine.execWakeAlarm s
  | .wakePin => Sys2Proof.Machine.execWakePin s
  | .aonComparatorChange k level => Sys2Proof.Machine.execAonComparatorChange k level s
  | .aonGwreq => Sys2Proof.Machine.execAonGwreq s
  | .gwrst via => Sys2Proof.Machine.execGwrst via s
  | .gwld via => Sys2Proof.Machine.execGwld via s
  | .gwldDone => Sys2Proof.Machine.execGwldDone s
  -- Ledger (R399 to R408)
  | .meterTick rails => Sys2Proof.Machine.execMeterTick rails s
  | .planningStep => Sys2Proof.Machine.execPlanningStep s
  | .vmainCut j => Sys2Proof.Machine.execVmainCut j s
  | .vmainReturn => Sys2Proof.Machine.execVmainReturn s
  | .reserveSpent => Sys2Proof.Machine.execReserveSpent s
  | .grantExpiry slot => Sys2Proof.Machine.execGrantExpiry slot s
  | .grant t seq arg0 ws => Sys2Proof.Machine.execGrant t seq arg0 ws s
  | .shedpri t seq arg0 ws => Sys2Proof.Machine.execShedpri t seq arg0 ws s
  | .sleep t seq arg0 => Sys2Proof.Machine.execSleep t seq arg0 s
  -- Carapace (R418, R419)
  | .cpSha256 via => Sys2Proof.Machine.execCpSha256 via s
  | .cpHmac via => Sys2Proof.Machine.execCpHmac via s
  | .cpCmac via => Sys2Proof.Machine.execCpCmac via s
  | .cpGcmenc via => Sys2Proof.Machine.execCpGcmenc via s
  | .cpGcmdec via => Sys2Proof.Machine.execCpGcmdec via s
  | .cpEcdsa256 via => Sys2Proof.Machine.execCpEcdsa256 via s
  | .cpEcdsa521 via => Sys2Proof.Machine.execCpEcdsa521 via s
  | .cpRandom via => Sys2Proof.Machine.execCpRandom via s
  | .cpJobDone => Sys2Proof.Machine.execCpJobDone s
  | .cpDoneClear via slot => Sys2Proof.Machine.execCpDoneClear via slot s
  -- update and security commands (R427 to R430)
  | .updopen t seq arg0 ws => Sys2Proof.Machine.execUpdopen t seq arg0 ws s
  | .upddata t seq arg0 offset bytes => Sys2Proof.Machine.execUpddata t seq arg0 offset bytes s
  | .updwrite t seq arg0 => Sys2Proof.Machine.execUpdwrite t seq arg0 s
  | .flashWriteDone bad => Sys2Proof.Machine.execFlashWriteDone bad s
  | .updhover t seq arg0 ws => Sys2Proof.Machine.execUpdhover t seq arg0 ws s
  | .updabort t seq arg0 => Sys2Proof.Machine.execUpdabort t seq arg0 s
  | .handover => Sys2Proof.Machine.execHandover s
  | .confirm t seq arg0 => Sys2Proof.Machine.execConfirm t seq arg0 s
  | .crypto t seq arg0 key data => Sys2Proof.Machine.execCrypto t seq arg0 key data s
  | .random t seq arg0 => Sys2Proof.Machine.execRandom t seq arg0 s
  | .osnmaroot t seq arg0 root => Sys2Proof.Machine.execOsnmaroot t seq arg0 root s
  -- Archive (R432 to R439)
  | .archiveRecordClose src last taken => Sys2Proof.Machine.execArchiveRecordClose src last taken s
  | .extentFull next => Sys2Proof.Machine.execExtentFull next s
  | .arRestart via => Sys2Proof.Machine.execArRestart via s
  | .rpGo via n => Sys2Proof.Machine.execRpGo via n s
  | .rpStop via n => Sys2Proof.Machine.execRpStop via n s
  -- Penholt (R441 to R452)
  | .linkFrameReceive west tick frame => Sys2Proof.Machine.execLinkFrameReceive west tick frame s
  | .trainingDone west => Sys2Proof.Machine.execTrainingDone west s
  | .retrain via west => Sys2Proof.Machine.execRetrain via west s
  | .ctrl west client retrain on1 discard all t => Sys2Proof.Machine.execCtrl west client retrain on1 discard all t s
  | .time west t => Sys2Proof.Machine.execTime west t s
  | .delayReq west seq t2 t3 => Sys2Proof.Machine.execDelayReq west seq t2 t3 s
  | .delayRsp west seq t1 t4 turn => Sys2Proof.Machine.execDelayRsp west seq t1 t4 turn s
  | .delayReqTimer => Sys2Proof.Machine.execDelayReqTimer s
  | .hello west addr masteren role hops => Sys2Proof.Machine.execHello west addr masteren role hops s
  | .slotdesc west slot srcdev srcstr str cald hops tofs => Sys2Proof.Machine.execSlotdesc west slot srcdev srcstr str cald hops tofs s
  | .group west target src bytes => Sys2Proof.Machine.execGroup west target src bytes s
  | .data west target src bytes => Sys2Proof.Machine.execData west target src bytes s
  | .peerLost d => Sys2Proof.Machine.execPeerLost d s
  | .masterClaim => Sys2Proof.Machine.execMasterClaim s
  | .syncPulse => Sys2Proof.Machine.execSyncPulse s
  | .masterLoss => Sys2Proof.Machine.execMasterLoss s
  | .synthRelock p band => Sys2Proof.Machine.execSynthRelock p band s
  | .mainsGap => Sys2Proof.Machine.execMainsGap s
  | .blockLockLoss west => Sys2Proof.Machine.execBlockLockLoss west s
  | .uartBreakEnd u => Sys2Proof.Machine.execUartBreakEnd u s
  | .pcieLinkUp width gen => Sys2Proof.Machine.execPcieLinkUp width gen s
  | .usbAttach => Sys2Proof.Machine.execUsbAttach s
  -- Weevil instructions (R264)
  | .nop c e => Sys2Proof.Machine.execNop c e s
  | .wait c e => Sys2Proof.Machine.execWait c e s
  | .ei c e => Sys2Proof.Machine.execEi c e s
  | .di c e => Sys2Proof.Machine.execDi c e s
  | .rts c e => Sys2Proof.Machine.execRts c e s
  | .reti c e => Sys2Proof.Machine.execReti c e s
  | .swap c e => Sys2Proof.Machine.execSwap c e s
  | .sex c e => Sys2Proof.Machine.execSex c e s
  | .ldb c e => Sys2Proof.Machine.execLdb c e s
  | .mov c e => Sys2Proof.Machine.execMov c e s
  | .jmpx c e => Sys2Proof.Machine.execJmpx c e s
  | .jsrx c e => Sys2Proof.Machine.execJsrx c e s
  | .jmp c e => Sys2Proof.Machine.execJmp c e s
  | .jsr c e => Sys2Proof.Machine.execJsr c e s
  | .fjmp c e => Sys2Proof.Machine.execFjmp c e s
  | .fjsr c e => Sys2Proof.Machine.execFjsr c e s
  | .lda c e => Sys2Proof.Machine.execLda c e s
  | .lde c e => Sys2Proof.Machine.execLde c e s
  | .ldx c e => Sys2Proof.Machine.execLdx c e s
  | .ldy c e => Sys2Proof.Machine.execLdy c e s
  | .sta c e => Sys2Proof.Machine.execSta c e s
  | .ste c e => Sys2Proof.Machine.execSte c e s
  | .stx c e => Sys2Proof.Machine.execStx c e s
  | .sty c e => Sys2Proof.Machine.execSty c e s
  | .add c e => Sys2Proof.Machine.execAdd c e s
  | .adc c e => Sys2Proof.Machine.execAdc c e s
  | .sub c e => Sys2Proof.Machine.execSub c e s
  | .sbc c e => Sys2Proof.Machine.execSbc c e s
  | .and c e => Sys2Proof.Machine.execAnd c e s
  | .or c e => Sys2Proof.Machine.execOr c e s
  | .xor c e => Sys2Proof.Machine.execXor c e s
  | .cmp c e => Sys2Proof.Machine.execCmp c e s
  | .tst c e => Sys2Proof.Machine.execTst c e s
  | .adx c e => Sys2Proof.Machine.execAdx c e s
  | .ady c e => Sys2Proof.Machine.execAdy c e s
  | .cpx c e => Sys2Proof.Machine.execCpx c e s
  | .mul c e => Sys2Proof.Machine.execMul c e s
  | .mulu c e => Sys2Proof.Machine.execMulu c e s
  | .mac c e => Sys2Proof.Machine.execMac c e s
  | .div c e => Sys2Proof.Machine.execDiv c e s
  | .shl c e => Sys2Proof.Machine.execShl c e s
  | .shr c e => Sys2Proof.Machine.execShr c e s
  | .sar c e => Sys2Proof.Machine.execSar c e s
  | .rol c e => Sys2Proof.Machine.execRol c e s
  | .dshl c e => Sys2Proof.Machine.execDshl c e s
  | .dsar c e => Sys2Proof.Machine.execDsar c e s
  | .sat c e => Sys2Proof.Machine.execSat c e s
  | .neg c e => Sys2Proof.Machine.execNeg c e s
  | .btst c e => Sys2Proof.Machine.execBtst c e s
  | .par c e => Sys2Proof.Machine.execPar c e s
  | .pare c e => Sys2Proof.Machine.execPare c e s
  | .brev c e => Sys2Proof.Machine.execBrev c e s
  | .crcq c e => Sys2Proof.Machine.execCrcq c e s
  | .crcc c e => Sys2Proof.Machine.execCrcc c e s
  | .crcw c e => Sys2Proof.Machine.execCrcw c e s
  | .abs c e => Sys2Proof.Machine.execAbs c e s
  | .bra c e => Sys2Proof.Machine.execBra c e s
  | .bz c e => Sys2Proof.Machine.execBz c e s
  | .bnz c e => Sys2Proof.Machine.execBnz c e s
  | .bn c e => Sys2Proof.Machine.execBn c e s
  | .bnn c e => Sys2Proof.Machine.execBnn c e s
  | .bc c e => Sys2Proof.Machine.execBc c e s
  | .bnc c e => Sys2Proof.Machine.execBnc c e s
  | .bv c e => Sys2Proof.Machine.execBv c e s
  | .bnv c e => Sys2Proof.Machine.execBnv c e s
  | .bt c e => Sys2Proof.Machine.execBt c e s
  | .bnt c e => Sys2Proof.Machine.execBnt c e s
  | .dbnz c e => Sys2Proof.Machine.execDbnz c e s
  | .bge c e => Sys2Proof.Machine.execBge c e s
  | .blt c e => Sys2Proof.Machine.execBlt c e s
  | .userInstruction c u e yields => Sys2Proof.Machine.execUserInstruction c u e yields s
  | .interruptEntry c => Sys2Proof.Machine.execInterruptEntry c s
  | .weevilTimer c => Sys2Proof.Machine.execWeevilTimer c s
  | .cwdWrite v => Sys2Proof.Machine.execCwdWrite v s
  | .ucLoad via => Sys2Proof.Machine.execUcLoad via s
  | .ucLoadDone => Sys2Proof.Machine.execUcLoadDone s
  | .ucSeal via => Sys2Proof.Machine.execUcSeal via s
  | .cbClr via => Sys2Proof.Machine.execCbClr via s
  -- tenant commands (R320): the tenant, its frame's SEQ, ARG0 and the words
  | .tenantOpen port client t seq arg0 ws => Sys2Proof.Machine.execOpen port client t seq arg0 ws s
  | .tenantClose t seq arg0 => Sys2Proof.Machine.execClose t seq arg0 s
  | .tenantReset t seq arg0 => Sys2Proof.Machine.execReset t seq arg0 s
  | .credit t seq arg0 => Sys2Proof.Machine.execCredit t seq arg0 s
  | .quench t seq arg0 ws => Sys2Proof.Machine.execQuench t seq arg0 ws s
  | .subscribe t seq arg0 ws place => Sys2Proof.Machine.execSubscribe t seq arg0 ws place s
  | .unsub t seq arg0 => Sys2Proof.Machine.execUnsub t seq arg0 s
  | .pin t seq arg0 ws => Sys2Proof.Machine.execPin t seq arg0 ws s
  | .unpin t seq arg0 => Sys2Proof.Machine.execUnpin t seq arg0 s
  | .base t seq arg0 => Sys2Proof.Machine.execBase t seq arg0 s
  | .vote t seq arg0 => Sys2Proof.Machine.execVote t seq arg0 s
  | .regwr t seq arg0 ws => Sys2Proof.Machine.execRegwr t seq arg0 ws s
  | .search t seq arg0 ws => Sys2Proof.Machine.execSearch t seq arg0 ws s
  | .spectrum t seq arg0 => Sys2Proof.Machine.execSpectrum t seq arg0 s
  | .sched t seq arg0 ws => Sys2Proof.Machine.execSched t seq arg0 ws s
  | .unsched t seq arg0 => Sys2Proof.Machine.execUnsched t seq arg0 s
  | .model t seq arg0 ws => Sys2Proof.Machine.execModel t seq arg0 ws s
  | .ucload t seq arg0 ws => Sys2Proof.Machine.execUcload t seq arg0 ws s
  | .cleanupDone t => Sys2Proof.Machine.execCleanupDone t s
  | .clientLoss port client => Sys2Proof.Machine.execClientLoss port client s
  | .tnRead via => Sys2Proof.Machine.execTnRead via s
  | .tnReset via => Sys2Proof.Machine.execTnReset via s
  | .tnClose via => Sys2Proof.Machine.execTnClose via s
  | .tnQuench via => Sys2Proof.Machine.execTnQuench via s
  | .tnQuenchDiscard via => Sys2Proof.Machine.execTnQuenchDiscard via s
  | .tnUnquench via => Sys2Proof.Machine.execTnUnquench via s
  | .globalQuench via on1 => Sys2Proof.Machine.execGlobalQuench via on1 s
  -- queue engine (R308 to R315)
  | .queuePush via hi => Sys2Proof.Machine.execQueuePush via hi s
  | .queuePop c => Sys2Proof.Machine.execQueuePop c s
  | .qwaitExpiry => Sys2Proof.Machine.execQwaitExpiry s
  | .mark via => Sys2Proof.Machine.execMark via s
  | .rewind via => Sys2Proof.Machine.execRewind via s
  | .release via => Sys2Proof.Machine.execRelease via s
  | .batchopen via => Sys2Proof.Machine.execBatchopen via s
  | .batchclose via => Sys2Proof.Machine.execBatchclose via s
  | .flush via => Sys2Proof.Machine.execFlush via s
  | .nextinRead r => Sys2Proof.Machine.execNextinRead r s
  -- USB (R339 to R342)
  | .usbRegwr page off t ws => Sys2Proof.Machine.execUsbRegwr page off t ws s
  | .usbRegwrCommit => Sys2Proof.Machine.execUsbRegwrCommit s
  | .usbQuench v t => Sys2Proof.Machine.execUsbQuench v t s
  | .usbOpen frame => Sys2Proof.Machine.execUsbOpen frame s
  | .openrd => Sys2Proof.Machine.execOpenrd s
  | .qstat t => Sys2Proof.Machine.execQstat t s
  | .setConfiguration v => Sys2Proof.Machine.execSetConfiguration v s
  | .usbBusReset => Sys2Proof.Machine.execUsbBusReset s
  | .usbDetach => Sys2Proof.Machine.execUsbDetach s
  | .ep1OutMessage items whole => Sys2Proof.Machine.execEp1OutMessage items whole s
  | .ep1InAck => Sys2Proof.Machine.execEp1InAck s
  -- Lenlis (R370 to R372)
  | .lenId => Sys2Proof.Machine.execLenId s
  | .poke page off v => Sys2Proof.Machine.execPoke page off v s
  | .dq t outbound n => Sys2Proof.Machine.execDq t outbound n s
  | .lenLog n => Sys2Proof.Machine.execLenLog n s
  | .dom => Sys2Proof.Machine.execDom s
  | .votes d => Sys2Proof.Machine.execVotes d s
  | .ledger => Sys2Proof.Machine.execLedger s
  | .unlock arg => Sys2Proof.Machine.execUnlock arg s
  | .load b crc => Sys2Proof.Machine.execLoad b crc s
  | .loadImageDone => Sys2Proof.Machine.execLoadImageDone s
  | .lenlisConfirm => Sys2Proof.Machine.execLenlisConfirm s
  | .baud r => Sys2Proof.Machine.execBaud r s
  | .lenFrame => Sys2Proof.Machine.execLenFrame s
  | .reboot => Sys2Proof.Machine.execReboot s
  | .unlockTimeout => Sys2Proof.Machine.execUnlockTimeout s
  -- Cicada (R375 to R380)
  | .cicadaTakeRaise => Sys2Proof.Machine.execCicadaTakeRaise s
  | .coalesceWindowClose src => Sys2Proof.Machine.execCoalesceWindowClose src s
  | .clClr via => Sys2Proof.Machine.execClClr via s
  -- reset and boot (R409 to R414, R473)
  | .vbatPowerOn => Sys2Proof.Machine.execVbatPowerOn s
  | .por => Sys2Proof.Machine.execPor s
  | .strapSample bootsel devaddr refsel service => Sys2Proof.Machine.execStrapSample bootsel devaddr refsel service s
  | .boot => Sys2Proof.Machine.execBoot s
  | .imageEntry tms => Sys2Proof.Machine.execImageEntry tms s
  | .devrst via => Sys2Proof.Machine.execDevrst via s
  | .wardenRestart cause => Sys2Proof.Machine.execWardenRestart cause s
  | .watchdogExpiry => Sys2Proof.Machine.execWatchdogExpiry s
  | .wdkick via key => Sys2Proof.Machine.execWdkick via key s
  | .servicePress => Sys2Proof.Machine.execServicePress s
  | .serviceStuck => Sys2Proof.Machine.execServiceStuck s
  | .serviceUnstuck => Sys2Proof.Machine.execServiceUnstuck s
  | .blData via d => Sys2Proof.Machine.execBlData via d s
  | .blGo via => Sys2Proof.Machine.execBlGo via s

end Sys2Proof.Machine
end

