-- ==== Sys2Proof/Machine/Link.lean ====
section
/-! DEFINITION. The sending side of a Penholt port (24: R440 to R445, R451): every 33 sample ticks a port that is UP sends one link
frame, with its streams' samples, their flags, and the control word of the highest priority. -/

namespace Sys2Proof.Machine

/-- The outbound streams of a port, in ascending number, as they fill its slots (R442). -/
def State.penOut (s : State) (w : Nat) : List Nat :=
  ((List.range 24).filter fun m => s.strRun m && s.strDest m (3 + w)).take 7

-- slots and flags (R441, R442)

def sampleByte (width : Nat) (y : Option Smp) : Byte :=
  match y with
  | some y => if y.fl = 0 then BitVec.ofNat 8 (railCode width y.i + railCode width y.q * 2 ^ railBits width) else 0
  | none => 0

/-- FLAGk of a slot's 33 samples: the span from the first flagged one to the last, its prevailing flag, and HOPS - 1. -/
def flagWord (hops : Nat) (ys : List (Option Smp)) : Nat :=
  let fl := ys.map fun y => y.elim 0 Smp.fl
  let at' := (List.range 33).filter fun j => decide (fl.getD j 0 ≠ 0)
  fl.foldl max 0 * 2 ^ 14 + at'.headD 0 * 2 ^ 8 + min 3 (hops - 1) * 2 ^ 6 + at'.getLastD 0

/-- HOPS a stream's receiver sees: one more than a forwarded slot came with. -/
def State.outHops (s : State) (m : Nat) : Nat :=
  let src := s.fget (F.STR_SRC m).act
  if 16 ≤ src then s.fget (F.PP_SLOT_HOPS (inSlot src).1 (inSlot src).2) + 1 else 1

-- control words (R444)

/-- Priority of a control word: the least goes first. -/
def wordPrio (ct : Nat) : Nat := [6, 1, 2, 3, 3, 3, 4, 5].getD ct 6

/-- The word that goes next, the oldest of the highest priority, and those that go on waiting. -/
def nextWord (q : List (Nat × List Nat)) : Option ((Nat × List Nat) × List (Nat × List Nat)) :=
  let best := q.foldl (fun a x => min a (wordPrio x.1)) 7
  (q.findIdx? fun x => decide (wordPrio x.1 = best)).bind fun i => (q[i]?).map fun x => (x, q.eraseIdx i)

/-- CWORD: TIMELO at the frame's first bit leaving, or TIMEHI; GROUP and DATA as R444 lays them out; the spec lays out no other. -/
def State.cword (s : State) (ct : Nat) (x : List Nat) : Nat :=
  if ct = 2 then (if x = [1] then s.now / 2 ^ 64 % 2 ^ 32 else s.now % 2 ^ 64)
  else if ct = 6 ∨ ct = 7 then x.getD 0 0 % 8 * 2 ^ 61 + x.getD 1 0 % 8 * 2 ^ 58 + x.getD 2 0 % 2 ^ 56
  else (Config.cword ct x).toNat

/-- RF_CALD of the path behind a source, in ps: for a forwarded slot as its sender announced it. -/
def State.srcCald (s : State) (src : Nat) : Nat :=
  if src < 8 then s.fget (F.RF_CALD_DELAY src)
  else if src < 10 then (maskPaths (s.groupMask (src - 8))).head?.elim 0 fun p => s.fget (F.RF_CALD_DELAY p)
  else Tab.get (fun _ => 0) (s.penPort (inSlot src).1).cald (inSlot src).2

/-- What SLOTDESC says of slot `k`, which carries stream `m` (R442): source device and stream, STR word, RF_CALD, HOPS. -/
def State.slotWord (s : State) (k m : Nat) : List Nat :=
  let src := s.fget (F.STR_SRC m).act
  let own := decide (src < 16)
  let (w, j) := inSlot src
  [k, if own then devAddr s else s.fget (F.PP_SLOT_SRCDEV w j), if own then m else s.fget (F.PP_SLOT_SRCSTR w j),
    (s.reg (0x038080 + 4 * m + 0x800)).toNat, s.srcCald src, s.outHops m]

/-- SLOTDESC words at every change, and all of them once per second (R442). -/
def State.penDescribe (s : State) (w : Nat) (second : Bool) : State :=
  let now := (s.penOut w).zipIdx.map fun x => s.slotWord x.2 x.1
  let new := now.filter fun d => second || !(s.penPort w).desc.contains d
  new.foldl (fun s d => s.penSend w 5 d) (s.updPen w fun x => { x with desc := now })

/-- Does this device hand its time on out of port `w` (R451)? The master by both; a follower away from the master. -/
def State.timeSends (s : State) (w : Nat) : Bool :=
  decide (s.penRole = rlMASTER) ||
    (decide (s.penRole = rlFOLLOWER ∧ s.skyState = skFOLLOW) && decide (s.penRoute (s.fget F.PH_STAT_MASTER) ≠ w))

/-- HELLO: DEVADDR, MASTEREN, ROLE and the hops to every known device. -/
def State.helloWord (s : State) : List Nat :=
  [devAddr s, s.fget F.PH_CTL_MASTEREN, s.penRole] ++
    (List.range 8).flatMap fun d => (s.penHops (s.penRoute d) d).elim [] fun h => [d, h]

/-- The port's own words before a frame leaves: slots, time and HELLO (the spec gives TIME and HELLO no pace, log entry 101), and the
next tenant frame when no DATA waits. -/
def State.penWords (s : State) (w : Nat) : State :=
  let n := s.sky.smp / 33
  let second := decide (s.now / sec ≠ (s.now - 33 * s.inc / 2 ^ 32) / sec)
  let s := s.penDescribe w second
  let s := s.when (s.timeSends w && Config.wordDue false w n) (·.penSend w 2 [0])
  let s := s.when (s.timeSends w && second) (·.penSend w 2 [1])
  let s := s.when (Config.wordDue true w n) fun s => s.penSend w 4 s.helloWord
  if (s.penPort w).sent.any fun x => decide (x.1 = 7) then s else s.penPull w

-- the frame (R440, R441)

/-- The 256 bytes of the frame whose 33 ticks of samples are in hand. -/
def State.linkFrame (s : State) (w ct cw : Nat) : List Byte :=
  let tx := (s.penPort w).tx
  let out := s.penOut w
  let ys (k : Nat) : List (Option Smp) := tx.map fun l => (l[k]?).join
  let slot (k : Nat) : List Byte := match out[k]? with
    | some m => (ys k).map (sampleByte (s.fget (F.STR_WIDTH m).act))
    | none => List.replicate 33 0
  let flag (k : Nat) : List Byte := match out[k]? with
    | some m => leBytes 2 (flagWord (s.outHops m) (ys k))
    | none => [0, 0]
  let b := [BitVec.ofNat 8 ((s.sky.smp - 32) / 33)] ++ (List.range 7).flatMap slot ++ (List.range 7).flatMap flag ++
    [BitVec.ofNat 8 ct] ++ leBytes 8 cw
  b ++ [crc8 b]

/-- One sample tick of a port: the samples of its streams join the frame, whose first tick is a multiple of 33, and the whole frame
leaves with the control word of the highest priority, IDLE when none waits. -/
def State.penTick (s : State) (w : Nat) : State :=
  if ¬ s.penOn ∨ s.penState w ≠ ptUP then s
  else
    let row := (s.penOut w).map fun m => (s.str m).out
    let s := s.updPen w fun x => { x with tx := (if s.sky.smp % 33 = 0 then [] else x.tx) ++ [row] }
    if s.sky.smp % 33 ≠ 32 ∨ (s.penPort w).tx.length ≠ 33 then s
    else
      let s := s.penWords w
      match nextWord (s.penPort w).sent with
      | some ((ct, x), q) => s.updPen w fun p => { p with sent := q, line := s.linkFrame w ct (s.cword ct x) }
      | none => s.updPen w fun p => { p with line := s.linkFrame w 0 0 }

end Sys2Proof.Machine
end

