-- ==== Sys2Proof/Machine/Tick.lean ====
section
/-! DEFINITION. A tick of the time base (log entry 2): what the clock and the engines do whatever is commanded. -/

namespace Sys2Proof.Machine

/-- One sample tick of the samples' way (log entry 87): the windows whose boundary has been crossed close first (R51), and the sample
of the tick belongs to the windows that open there; the lanes, groups and streams take the sample, then link, replay, Hives, captures
and recorder follow the streams. -/
def State.sampleWork (s : State) : State :=
  let s := { s with adcN := s.adcN + 1 }.closeDue
  let s := ((s.sieveTick.penTick 0).penTick 1).rpTick.hiveTick.dflyTick
  s.when s.arOn (·.arTick true)

/-- A Sky Clock millisecond ends: WV_LOAD reports the busy cycles of each Hive Weevil in it (R176). -/
def State.wvLoads (s : State) : State :=
  (List.range 16).foldl (fun s h =>
    if s.domPowered (13 + h) then
      (s.fput (F.WV_LOAD_V h) (min 0xFFFFF (s.core h).busy)).setCore h { s.core h with busy := 0 }
    else s) s

def allCores : List Core := [.warden, .glow] ++ (List.range 16).map fun h => .hive (Fin.ofNat 16 h)

/-- What an idle step does: a core that stands at a reserved op faults; then a tick of the time base in force; on a sample tick the
samples move, and the Warden looks after the allocator's searches. In bypass there are no samples, and records that pause close. -/
def State.idle (s : State) : State :=
  let t := (allCores.foldl State.reservedFetch s).tick
  let t := t.when (decide (t.now * 1000 / sec ≠ s.now * 1000 / sec)) fun t => t.wvLoads.svcSample (Config.serviceBall t.cycle)
  let t := t.startNext.noteTracked
  if ¬ s.domPowered 1 then t
  else if s.byp then t.when t.arOn (·.arTick false)
  else t.sampleWork.allocate

end Sys2Proof.Machine
end

