-- ==== Sys2Proof/Machine/Step.lean ====
section
/-! DEFINITION. The step: the command at the front of the queue, or a tick of the time base (log entry 2). -/

namespace Sys2Proof.Machine

/-- The state a command is run on: the queue's rest, one fabric cycle on. -/
def State.rest (s : State) (q : List Instr) : State := { s with pending := q, cycle := s.cycle + 1 }

/-- One step: `exec` of the front command on the state with the queue's rest; on an empty queue the block idles for one tick
of its time base (R41, R46), with what its engines do on it. -/
def step (s : State) : Host.Outcome State Fault Refusal :=
  match s.pending with
  | c :: q => exec c (s.rest q)
  | [] => .next (s.rest []).idle

/-- `s` with the command that a word spells put at the front of its queue; no word spells one. -/
def State.withFetchWord (s : State) (nbits w : Nat) : State :=
  match decodeTableWord nbits w with
  | some c => { s with pending := c :: s.pending }
  | none => s

end Sys2Proof.Machine
end

