-- ==== Sys2Proof/Machine/Pins.lean ====
section
/-! DEFINITION. The output balls (25: R455, R456; 20: R389): which domain drives each, and when it floats. -/

namespace Sys2Proof.Machine

/-- The output, bidirectional and open-drain signal balls of R456; `comp` is the complement leg of a pair. -/
inductive Ball where
  | trsw (p : Fin 8)
  | antb (n : Fin 4)
  | coexReq
  | lockAn
  | clkout (n : Fin 4) (comp : Bool)
  | tp (n : Fin 2)
  | tpFlt (n : Fin 2)
  | steer
  | sync
  | cicInt (n : Fin 2)
  | pcieTx (lane : Fin 4) (comp : Bool)
  | clkreq
  | usbData (minus : Bool)
  | spiMiso
  | spiAttn
  /-- XSPI_SCLK, CSn, RSTn, DQS, then DQ0 to DQ7 -/
  | xspi (k : Fin 12)
  | uartTx (u : Fin 4)
  | uartDe (u : Fin 4)
  | sclk (n : Fin 2)
  | penTx (west : Bool) (lane : Fin 4) (comp : Bool)
  deriving DecidableEq, Repr

/-- The domain of R456. -/
def Ball.dom : Ball → Nat
  | .trsw p => 3 + p.val
  | .antb _ | .coexReq | .lockAn | .clkout _ _ | .cicInt _ => 1
  | .tp _ | .tpFlt _ | .steer => 37
  | .sync | .penTx _ _ _ => 36
  | .pcieTx _ _ | .clkreq | .usbData _ | .spiMiso | .spiAttn | .xspi _ | .uartTx _ | .uartDe _ | .sclk _ => 2

/-- What a ball does: it floats (an open-drain one: is released), stands at a level, or carries what its block sends. -/
inductive Drive where
  | floats
  | low
  | high
  | active
  deriving DecidableEq, Repr

def atLevel (b : Bool) : Drive := if b then .high else .low

/-- The block of a ball has no power, or nothing runs: its domain off (R389), backup (R391), the Dead state (R425). PORn is low only
within the command that stands for it (R455). -/
def State.ballOff (s : State) (b : Ball) : Bool := !s.domPowered b.dom || s.boot.dead

/-- What drives a ball, its level where the state tells it. SPI_MISO is driven within a frame only. -/
def State.drive (s : State) (b : Ball) : Drive :=
  if s.ballOff b then .floats
  else match b with
    | .trsw p => atLevel (decide (s.rfState p = rfTRANSMIT))
    | .coexReq => atLevel s.coexReqLevel
    | .lockAn => match s.lockAn with
      | .vdda => .high
      | .ground => .low
      | .floating => .floats
    | .clkout n comp =>
      let f := ckFmt (s.clkForce n)
      if f = 0 then .floats else if s.clkRuns n then .active else atLevel (comp && decide (f < 3))
    | .tpFlt n => atLevel (s.flag (F.TP_STAT_FLT n))
    | .cicInt n =>
      let pend := s.fget ⟨F.CL_IRQ_PIN0.addr, 8 + 4 * n.val, 4⟩ &&& s.fget ⟨F.CL_IRQEN_PIN0.addr, 8 + 4 * n.val, 4⟩
      if pend = 0 then .floats else .low
    | .spiAttn => if s.spiWaiting = 0 then .floats else .low
    | .sync => if s.penRole = rlMASTER ∧ s.now % sec < us 1 then .low else .floats
    | .steer => if s.fget F.ST_CTL_MODE = 0 then .floats else .active
    | .uartDe u => atLevel (s.flag (F.U_STAT_DE u) ^^ s.flag (F.U_FLOW_DEPOL u))
    | .spiMiso => .floats
    | _ => .active

end Sys2Proof.Machine
end

