-- ==== Sys2Proof/Safety.lean ====
section
/-! DEFINITION. What holds of a state in a safe run, in the terms the statements use: the memories and the register table in
canonical form, and the queued commands well-formed. -/

namespace Sys2Proof.Machine

/-- Comb and the flash: addresses strictly rising, and no entry equal to what an unlisted address reads as. -/
def Memory.wf (d : Nat → Byte) (m : List Host.Cell) : Bool := Tab.wf d m

/-- The register table in canonical form. -/
def State.regsWf (s : State) : Bool := Tab.wf regReset s.regs
def State.combWf (s : State) : Bool := Memory.wf combDefault s.comb
def State.flashWf (s : State) : Bool := Memory.wf flashDefault s.xspi.flash

/-- The command answers a next state of which `P` holds. -/
def Completes (c : Instr) (s : State) (P : State → Prop) : Prop := ∃ t, exec c s = .next t ∧ P t

/-- Nothing but the registers at the addresses `as` differs. -/
def OnlyRegs (s t : State) (as : List Nat) : Prop :=
  { t with regs := s.regs } = s ∧ ∀ a, a ∉ as → t.reg a = s.reg a

/-- Nothing but those registers, PG_EVPEND of the pages `ps` and the raises Cicada has yet to take differs. -/
def OnlyRegsEvents (s t : State) (as ps : List Nat) : Prop :=
  { t with regs := s.regs, cic := s.cic } = s ∧ ∀ a, a ∉ as → a ∉ ps.map (fun p => p * 4096 + 0x01C) → t.reg a = s.reg a

/-- The register at offset `o` of page `p`. -/
abbrev RegAt (p o : Nat) (d : RegDef) : Prop := ∃ row i j k, findPage p = some (row, i, j) ∧ findReg row.regs o = some (d, k)

/-- The shadow bits of the register at address `a` are its active value in `t`, which keeps its other bits from `s` (R33). -/
def Committed (s t : State) (d : RegDef) (a : Nat) : Prop :=
  t.reg (a + 0x800) = (s.reg (a + 0x800) &&& ~~~(d.bits .RWS)) ||| (s.reg a &&& d.bits .RWS)

/-- The rise of PG_EVRAW bit `b` of page `p` from `s` to `t` (R31): enabled, it is pending and its source stands raised. -/
def Rises (s t : State) (p b : Nat) : Prop :=
  s.flag (PG_EVEN p b) = true → t.flag (PG_EVPEND p b) = true ∧ ∃ r ∈ t.cic.raises, r.src = srcOf p b

/-- Tenant `k` is open, none of its commands is still executing, and its numbers accept `seq` (R315, R316). -/
abbrev State.accepts (s : State) (k seq : Nat) : Prop :=
  (s.tenant k).state = .opened ∧ (s.tenant k).classify seq = .accept ∧ (s.tenant k).running = []

/-- Command `c` of tenant `k` with OP `op` is accepted and answered with `code`: its number is the last accepted, and the
newest reply of the cache is its own, with the result when that has at most two bytes (R316, R317). -/
def Answers (c : Instr) (s : State) (k op seq code : Nat) (res : List Byte) (P : State → Prop) : Prop :=
  Completes c s fun u => (u.tenant k).lastSeq = some seq ∧
    (u.tenant k).cache.head? = some ⟨seq, op, code, if res.length ≤ 2 then res else [], decide (2 < res.length)⟩ ∧ P u

/-- Core `c` issues an instruction in encoding `e` now (R262, R273, R274): it runs and no WAIT holds it, the words of `e` lie in
its code memory, and Glowworm's are a long form. -/
abbrev Issuing (s : State) (c : Core) (e : Enc) : Prop :=
  s.issues c = true ∧ (s.core (coreIdx c)).inCode c e = true ∧ (c = .glow → encWords e = 2)

/-- The state with that instruction issued: P past its words, no load in flight, no stall reported. -/
def State.issued (s : State) (c : Core) (e : Enc) : State :=
  let s := s.wake c
  (s.unstallCore c).setCore (coreIdx c) ((s.core (coreIdx c)).issue e)

/-- Encoding `e` of an instruction of the operand class gives operand value `v`, read with state `t` after it; `inc` is its
post-increment and `n` the cycles it adds (R258, R259, R263). -/
def Supplies (s : State) (c : Core) (e : Enc) (low : Nat) (v : Half) (inc : Option (Bool × Half)) (n : Nat) (t : State) : Prop :=
  Issuing s c e ∧
    match (s.core (coreIdx c)).operand e low with
    | none => False
    | some (.imm x) => v = x ∧ inc = none ∧ n = 0 ∧ t = s.issued c e
    | some (.reg r) => v = ((s.issued c e).core (coreIdx c)).getReg r ∧ inc = none ∧ n = 0 ∧ t = s.issued c e
    | some (.mem b w i) => place c b w ≠ .bad ∧ inc = i ∧
        ∃ u, (s.issued c e).readPlace c (place c b w) = .value v u ∧ u.accessCost c false (place c b w) = (n, t)

/-- Every queued command is well-formed. -/
def State.queueWf (s : State) : Bool := s.pending.all Instr.wf

end Sys2Proof.Machine
end

