-- ==== Sys2Proof/Certificates/Slice0/Obligations.lean ====
section
/-! DEFINITION. The statements for the provers. Each docstring names the rules it formalises. -/

open Sys2Proof Sys2Proof.Machine

/-- A step runs the command at the front of the queue on the state with the queue's rest; the fabric cycle the step counts is the
model's own (log entry 2). -/
def Obligations.StepRunsFrontCommand : Prop :=
  ∀ (c : Instr) (q : List Instr) (s : State), s.pending = c :: q →
    step s = exec c { s with pending := q, cycle := s.cycle + 1 }

/-- R41, R46, R48: on each sample tick the Sky Clock adds INC; while SRC = AON each 32.768 kHz tick adds I_A. The tick is a part of
what a step does on an empty queue (log entry 2). -/
def Obligations.SampleTickAddsIncrement : Prop :=
  (∀ s : State, s.pending = [] → step s = .next ({ s with cycle := s.cycle + 1 } : State).idle) ∧
  ∀ s : State, s.sky.stepReq = [] →
    (s.tick).comb = s.comb ∧ (s.tick).sched = s.sched ∧ (s.tick).pending = s.pending ∧
    (s.domPowered 1 = false → s.tick = { s with sky.aon := (s.sky.aon + s.sky.iA) % 2 ^ 96 }) ∧
    (s.domPowered 1 = true → s.flag F.CLK_STAT_BYP = false → s.srcAON = false →
      (s.tick).sky.time = (s.sky.time + s.inc) % 2 ^ 128 ∧
      (s.tick).sky.smp = (if s.sky.started then (s.sky.smp + 1) % 2 ^ 64 else 0) ∧ (s.tick).sky.started = true) ∧
    (s.domPowered 1 = true → s.flag F.CLK_STAT_BYP = true →
      (s.tick).sky.time = (s.aonTick true (Config.tick32 s.cycle)).sky.time ∧ (s.tick).sky.smp = s.sky.smp) ∧
    (s.srcAON = true → s.sky.first = false → 0 < s.sky.iA →
      ∀ byp : Bool, (s.aonTick byp true).sky.time = (s.sky.anchor + s.sky.iA) % 2 ^ 96 * 2 ^ 32)

/-- R7, R24, R26, R29, R30, R32, R33, R35, R38, R51, R475, R479: REGISTER_WRITE in both its forms, COMMIT, SRST, FREEZE and NOW_T2_READ
complete, and a write that is not carried out leaves its fault alone. -/
def Obligations.RegisterPagesTakeWritesAndCommands : Prop :=
  (∀ (s : State) (via : Via) (page : Fin 1024) (off : BitVec 12) (v : Word) (be : BitVec 4) (d : RegDef),
     via ≠ .bar2 → regKind page.val (off.toNat / 4 * 4) = some (.block d) →
     let o := off.toNat / 4 * 4
     let a := page.val * 4096 + o
     let j := s.judge via page.val o (be = 15)
     let only (b : Nat) : Prop := Completes (.registerWrite via page off (some v) be) s fun t =>
       t.flag (PG_FAULT page.val b) = true ∧ OnlyRegs s t [page.val * 4096 + 0x020]
     (j = .locked → only faultLOCKED) ∧ (j = .unpowered → only faultUNPWR) ∧ (j = .access → only faultACCESS) ∧
       (j = .nothing → exec (.registerWrite via page off (some v) be) s = .next s) ∧
       (j = .ok → exec (.registerWrite via page off (some v) be) s = .next (s.writeBlock via page.val o v)) ∧
       (j = .ok → page.val ∈ [0x005, 0x006, 0x007, 0x008, 0x012, 0x114, 0x131, 0x132, 0x139, 0x151, 0x161] →
         Completes (.registerWrite via page off (some v) be) s fun t => t.reg a = d.write (s.reg a) v ∧ OnlyRegs s t [a]) ∧
       -- the read through the same port
       (s.unreachable via page.val = false → s.domState (pageDom page.val) ≠ dENTRY → isSleepReg a = false →
         (s.powered page.val = false → Completes (.registerWrite via page off none be) s fun t =>
           t.out = [0] ∧ t.flag (PG_FAULT page.val faultUNPWR) = true ∧ OnlyRegs s { t with out := s.out } [page.val * 4096 + 0x020]) ∧
         (s.powered page.val = true → popping a = false → drawnReg a = false → a ≠ F.Q_NEXTIN_T.addr →
           s.flag (PG_FREEZE page.val) = false →
           exec (.registerWrite via page off none be) s =
             .next { s.readLatch (viaReader via) a with out := [s.view (viaReader via) a] }))) ∧
  (∀ (s : State) (via : Via) (page : Fin 1024) (v : Word), via ≠ .bar2 →
     (s.judge via page.val 0x018 true = .ok → Completes (.registerWrite via page 0x018 (some v) 15) s fun t =>
       t.reg (page.val * 4096 + 0x018) = v ∧ OnlyRegs s t [page.val * 4096 + 0x018]) ∧
     (∀ off : BitVec 12, off ∈ [(0x01C : BitVec 12), 0x020] → s.judge via page.val off.toNat true = .ok →
       Completes (.registerWrite via page off (some v) 15) s fun t =>
         t.reg (page.val * 4096 + off.toNat) = s.reg (page.val * 4096 + off.toNat) &&& ~~~v ∧
         OnlyRegs s t [page.val * 4096 + off.toNat]) ∧
     (implemented page.val = true → s.unreachable via page.val = false →
       Completes (.registerWrite via page 0x010 none 15) s fun t =>
         t.out = [s.header page.val 0x010] ∧ { t with out := s.out } = s) ∧
     (s.pcieUp = true → Completes (.registerWrite .bar2 0x040 0x020 (some v) 15) s fun t =>
       t.pcie.wtenant = v.toNat % 4096 ∧ { t with pcie.wtenant := s.pcie.wtenant } = s) ∧
     (s.pcieUp = true → Completes (.registerWrite .bar2 0x040 0x020 none 15) s fun t =>
       t.out = [BitVec.ofNat 32 s.pcie.wtenant] ∧ { t with out := s.out } = s)) ∧
  (∀ (s : State) (via : Via),
     (∀ v : Word, via ≠ .bar2 → s.judge via 0x002 0x048 true = .ok →
       Completes (.registerWrite via 0x002 0x048 v 15) s fun t =>
         t.fget F.RST_WDOG_PERIOD = v.toNat % 2 ^ 16 ∧ OnlyRegs s t [0x002048]) ∧
     -- COMMIT
     (s.judge via 0x110 0x00C true = .ok → s.domState 1 = dON →
       Completes (.commit via 0x110) s fun t =>
         t.sky.gridPend = some (s.reg F.GRID_DUMP.addr, wholeSec s.now) ∧ { t with sky.gridPend := s.sky.gridPend } = s) ∧
     (∀ p : Fin 8, s.judge via (rfPage p.val) 0x00C true = .ok → s.domState (pageDom (rfPage p.val)) = dON →
       let n := s.fget (F.RF_LO_N p.val)
       let bw := s.fget (F.RF_BB_BW p.val)
       Completes (.commit via (Fin.ofNat 1024 (rfPage p.val))) s fun t =>
         t.fget (F.RF_LO_N p.val).act = (if 1124 ≤ n ∧ n ≤ 1584 then n else s.fget (F.RF_LO_N p.val).act) ∧
         t.fget (F.RF_BB_BW p.val).act = (if bw ≤ 5 then bw else s.fget (F.RF_BB_BW p.val).act) ∧
         ((n < 1124 ∨ 1584 < n) → t.flag (PG_FAULT (rfPage p.val) 0) = true) ∧
         (5 < bw → t.flag (PG_FAULT (rfPage p.val) 1) = true)) ∧
     (s.judge via 0x012 0x00C true = .ok → s.domState 1 = dON →
       Completes (.commit via 0x012) s fun t =>
         (∀ n < 4, ∀ d, RegAt 0x012 (0x040 + 4 * n) d →
           if s.clkBad n then t.reg (0x012840 + 4 * n) = s.reg (0x012840 + 4 * n) else Committed s t d (0x012040 + 4 * n)) ∧
         ((∃ n < 4, s.clkBad n = true) → t.flag (PG_FAULT 0x012 0) = true)) ∧
     (s.judge via 0x008 0x00C true = .ok → s.domState 1 = dON →
       Completes (.commit via 0x008) s fun t =>
         (∀ o d, RegAt 0x008 o d → d.shadowed = true →
           if s.tarBad ∧ 0x0C0 ≤ o ∧ o < 0x0E0 then t.reg (0x008800 + o) = s.reg (0x008800 + o) else Committed s t d (0x008000 + o)) ∧
         (s.tarBad = true → t.flag (PG_FAULT 0x008 0) = true)) ∧
     (s.judge via 0x028 0x00C true = .ok → s.domState 1 = dON →
       let few (en mask : Fld) : Prop := s.flag en = true ∧ popcount 4 (s.fget mask) < 2
       (few F.ARRAY_AG0EN F.ARRAY_AG0MASK ∨ few F.ARRAY_AG1EN F.ARRAY_AG1MASK →
         Completes (.commit via 0x028) s fun t => t.flag (PG_FAULT 0x028 1) = true ∧ OnlyRegs s t [0x028020]) ∧
       (¬ (few F.ARRAY_AG0EN F.ARRAY_AG0MASK ∨ few F.ARRAY_AG1EN F.ARRAY_AG1MASK) →
         Completes (.commit via 0x028) s fun t => t.fget F.ARRAY_AG0MASK.act = s.fget F.ARRAY_AG0MASK ∧
           t.fget F.ARRAY_AG1MASK.act = s.fget F.ARRAY_AG1MASK ∧ t.flag F.ARRAY_AG0EN.act = s.flag F.ARRAY_AG0EN ∧
           t.flag F.ARRAY_AG1EN.act = s.flag F.ARRAY_AG1EN)) ∧
     (∀ p : Fin 8, s.judge via (svPage p.val) 0x00C true = .ok → s.domState (pageDom (svPage p.val)) = dON →
       Completes (.commit via (Fin.ofNat 1024 (svPage p.val))) s fun t =>
         ∀ o d, RegAt (svPage p.val) o d → d.shadowed = true → Committed s t d (svPage p.val * 4096 + o)) ∧
     (∀ page : Fin 1024, s.judge via page.val 0x00C true = .ok → s.domState (pageDom page.val) ≠ dON →
       implemented page.val = true →
       Completes (.commit via page) s fun t =>
         t.flag (PG_FAULT page.val faultUNPWR) = true ∧ OnlyRegs s t [page.val * 4096 + 0x020]) ∧
     -- SRST
     (∀ page : Fin 1024, s.judge via page.val 0x00C true = .ok → s.powered page.val = true → s.regsWf = true →
       page.val ∈ [0x005, 0x006, 0x007, 0x008, 0x009, 0x039, 0x043, 0x102, 0x103, 0x116, 0x142, 0x150, 0x151, 0x152, 0x161, 0x190] →
       Completes (.srst via page) s fun t =>
         t.reg (page.val * 4096 + 0x01C) = 0 ∧ t.reg (page.val * 4096 + 0x020) = 0 ∧
         (∀ row o d, (findPage page.val).map Prod.fst = some row → 0x040 ≤ o → o < 4096 → RegAt page.val o d →
           let keep := srstKeep row.start d o
           let a := page.val * 4096 + o
           t.reg a = (regReset a &&& ~~~keep) ||| (s.reg a &&& keep)) ∧
         { t with regs := s.regs } = s ∧
         ∀ a, (a / 4096 ≠ page.val ∨ a % 4096 < 0x040) → a % 4096 ≠ 0x01C → a % 4096 ≠ 0x020 → t.reg a = s.reg a) ∧
     (s.judge via 0x110 0x00C true = .ok → s.powered 0x110 = true →
       Completes (.srst via 0x110) s fun t =>
         t.sky.ofs = false ∧ t.sky.clip = false ∧ t.sky.gridPend = some (regReset F.GRID_DUMP.addr, wholeSec s.now) ∧
         t.reg 0x11001C = 0 ∧ t.reg 0x110020 = 0 ∧ t.sky.time = s.sky.time ∧ t.comb = s.comb) ∧
     -- FREEZE
     (∀ (page : Fin 1024) (on : Bool), s.judge via page.val 0x00C true = .ok →
       Completes (.freeze via page on) s fun t =>
         t.flag (PG_FREEZE page.val) = on ∧ OnlyRegs s { t with snap := s.snap, fresh := s.fresh } [pgCtl page.val] ∧
         (on = false → ∀ a, a / 4096 = page.val → t.held a = 0) ∧
         (on = true → s.flag (PG_FREEZE page.val) = true → t.snap = s.snap) ∧
         (on = true → s.flag (PG_FREEZE page.val) = false → s.powered page.val = true → ∀ o d, RegAt page.val o d →
           let a := page.val * 4096 + o
           d.bits .RO ≠ 0 → popping a = false → drawnReg a = false → a ≠ F.Q_NEXTIN_T.addr →
           ∀ r ∈ readers, t.held (snapKey r a) = (s.fputB (PG_FREEZE page.val) true).view (if perReader a then r else 0) a)) ∧
     -- NOW_T2
     (∀ r : Reader, s.domPowered 1 = true → s.boot.dead = false →
       (s.flag (PG_FREEZE 0x110) = false → Completes (.nowT2Read r) s fun t =>
         t.latched (readerIdx r) (F.NOW_T 1).addr = BitVec.ofNat 32 (s.now / 2 ^ 32) ∧
         t.latched (readerIdx r) (F.NOW_T 2).addr = BitVec.ofNat 32 s.now ∧
         t.latched (readerIdx r) F.SMP_HI.addr = BitVec.ofNat 32 (s.sky.smp / 2 ^ 32) ∧
         t.latched (readerIdx r) F.SMP_LO.addr = BitVec.ofNat 32 s.sky.smp ∧
         t.latched (readerIdx r) F.WEEK.addr = BitVec.ofNat 32 (s.now / sec / 604800) ∧
         t.out = [BitVec.ofNat 32 (s.now / 2 ^ 64)] ∧ { t with out := s.out, latch := s.latch } = s) ∧
       (s.flag (PG_FREEZE 0x110) = true → Completes (.nowT2Read r) s fun t =>
         t.out = [s.held (F.NOW_T 0).addr] ∧ { t with out := s.out } = s)))

/-- R40 to R44, R46, R51, R52, R218: STEP, LEAP_APPLY, ESTIMATE_TIMEOUT, SRC_RETURN_SAMPLE, AON_PERIOD_MEASURE,
GRID_ACTIVATE and the boundaries of the two grids complete. -/
def Obligations.SkyClockEventsAct : Prop :=
  (∀ s : State,
     (∀ via : Via, s.judge via 0x110 0x044 true = .ok → s.skyState = skFOLLOW →
       Completes (.skyStep via) s fun t => t.flag (PG_FAULT 0x110 0) = true ∧ OnlyRegs s t [0x110020]) ∧
     (∀ via : Via, s.judge via 0x110 0x044 true = .ok → s.skyState ≠ skFOLLOW →
       Completes (.skyStep via) s fun t =>
         t.sky.stepReq = s.sky.stepReq ++ [sgn 64 (s.get64 F.STEP_S F.STEP_F) * 2 ^ 16] ∧
         { t with sky.stepReq := s.sky.stepReq } = s) ∧
     (∀ d : Int, s.srcAON = true → s.sky.stepReq = [d] →
       let n := if s.sky.started then (s.sky.smp + 1) % 2 ^ 64 else 0
       s.sampleTick = ({ s with sky.stepReq := [], sky.started := true, sky.smp := n } : State).skyStepBy d) ∧
     (∀ d : Int, let t := s.skyStepBy d
       t.sky.time = (((s.sky.time : Int) + d * 2 ^ 32) % (2 ^ 128 : Int)).toNat ∧
         t.fget F.DISC_STEPS = satInc 16 (s.fget F.DISC_STEPS) ∧ Rises s t 0x110 1 ∧ t.sky.stepDump = true ∧ t.sky.stepEpoch = true ∧
         t.comb = s.comb ∧ ∀ a, a ∉ [0x110040, 0x110094, 0x11001C] → t.reg a = s.reg a) ∧
     (s.flag F.LEAP_PEND = true → s.get96 F.LEAP_T ≤ s.now →
       Completes .leapApply s fun t =>
         t.fget F.LEAP_CUR = s.fget F.LEAP_NEXT ∧ t.flag F.LEAP_PEND = false ∧ Rises s t 0x110 2 ∧
         OnlyRegsEvents s t [0x110070] [0x110]) ∧
     (s.now < s.get96 F.LEAP_T → exec .leapApply s = .next s) ∧
     (s.skyState = skSTEERED →
       let r := clampInt incLo incHi s.sky.base
       Completes .estimateTimeout s fun t =>
         t.skyState = skHOLDOVER ∧ t.inc = r.toNat ∧ t.sky.slewLeft = 0 ∧ t.sky.time = s.sky.time ∧
         Rises s t 0x110 0 ∧ t.comb = s.comb ∧ (r ≠ s.sky.base → t.flag (PG_FAULT 0x110 1) = true) ∧
         ∀ a, a ∉ [0x110040, 0x11005C, 0x110060, 0x11001C, 0x110020] → t.reg a = s.reg a) ∧
     (s.srcAON = true → s.flag F.CLK_STAT_BYP = false →
       Completes .srcReturnSample s fun t =>
         t.srcAON = false ∧ t.fget F.DISC_SRCSW = satInc 16 (s.fget F.DISC_SRCSW) ∧ Rises s t 0x110 4 ∧
         t.sky = (s.aonTick false true).sky ∧ OnlyRegsEvents (s.aonTick false true) t [0x110040, 0x110094] [0x110]) ∧
     (∀ p : BitVec 96, s.srcAON = false → s.skyState = skSTEERED →
       Completes (.aonPeriodMeasure p) s fun t => t.sky.iA = p.toNat ∧ { t with sky.iA := s.sky.iA } = s) ∧
     (∀ (w : Word) (g : Nat), s.sky.gridPend = some (w, g) →
       (s.now < g → exec .gridActivate s = .next s) ∧
       (g ≤ s.now → s.sky.stepClose = false → s.gridDue = false → s.epochDue = false → s.scOn = false →
         Completes .gridActivate s fun t =>
           t.reg 0x110864 = w ∧ t.sky.gridPend = none ∧ ∀ a, a ≠ 0x110864 → t.reg a = s.reg a))) ∧
  (∀ (s : State) (os : List (Fin 8 × List Word)),
     (s.gridDue = true → Completes .dumpGridBoundary s fun t => t.sky.stepDump = false ∧ t.gridDue = false) ∧
     (s.epochDue = true → os = [] → Completes (.epochBoundary os) s fun t =>
       t.sky.stepEpoch = false ∧ t.sky.stepSum = 0 ∧ t.meas.epseq = (s.meas.epseq + 1) % 2 ^ 32 ∧ t.meas.open_ = none) ∧
     (s.srcAON = true → exec .dumpGridBoundary s = .next s ∧
       (s.meas.open_ = none → exec (.epochBoundary os) s = .next s)))

/-- R56, R57, R58, R60: SCHED_WRITE, SCHED_READ, SCHED_DISARM, SCHED_ARM_DONE and ENTRY_FIRE complete. -/
def Obligations.ScheduleCommandsAct : Prop :=
  ∀ (s : State) (via : Via) (i : Nat), i = s.fget F.SCHED_IDX_IDX →
    (s.judge via 0x111 0x044 true = .ok → s.armed i = false → 1 ≤ s.fget F.E_ACT_ACTION → s.fget F.E_ACT_ACTION ≤ 6 →
      argOk (s.fget F.E_ACT_ACTION) (s.reg F.E_ARG.addr) = true →
      Completes (.schedWrite via) s fun t =>
        t.armed i = true ∧ t.mapBit F.FIRED i = false ∧ t.mapBit F.LATE i = false ∧ t.mapBit F.VOTEF i = false ∧
        copiesOut (t.entry i) = 0 ∧ (t.entry i).fires = 0 ∧ (t.entry i).anchor = s.get96 F.E_T ∧ (t.entry i).inCmp = false ∧
        ((t.entry i).mainsRel = false → (t.entry i).cmp = s.get96 F.E_T) ∧
        (t.entry i).act = s.reg F.E_ACT_ACTION.addr ∧ (t.entry i).arg = s.reg F.E_ARG.addr ∧
        (t.entry i).per = s.reg F.E_PER_UNIT.addr ∧ t.flag F.SCHED_STAT_REFUSED = false ∧ t.schedBusy = some i ∧ t.comb = s.comb) ∧
    (s.judge via 0x111 0x044 true = .ok → s.armed i = false →
      (s.fget F.E_ACT_ACTION = 0 ∨ 7 ≤ s.fget F.E_ACT_ACTION ∨ argOk (s.fget F.E_ACT_ACTION) (s.reg F.E_ARG.addr) = false) →
      Completes (.schedWrite via) s fun t =>
        t.flag F.SCHED_STAT_REFUSED = true ∧ t.flag (PG_FAULT 0x111 0) = true ∧ OnlyRegs s t [0x111048, 0x111020]) ∧
    (s.judge via 0x111 0x044 true = .ok → s.armed i = true →
      Completes (.schedWrite via) s fun t =>
        t.flag F.SCHED_STAT_REFUSED = true ∧ t.flag (PG_FAULT 0x111 1) = true ∧ OnlyRegs s t [0x111048, 0x111020]) ∧
    (s.judge via 0x111 0x044 true = .ok →
      Completes (.schedRead via) s fun t =>
        t.get96 F.E_T = (s.entry i).cmp % 2 ^ 96 ∧ t.reg E_STAT_W.addr = BitVec.ofNat 32 (s.entryStat i) ∧ t.reg F.E_ACT_ACTION.addr = (s.entry i).act ∧
        t.reg F.E_ARG.addr = (s.entry i).arg ∧ t.reg F.E_PER_UNIT.addr = (s.entry i).per ∧
        t.flag F.E_STAT_ARMED = s.armed i ∧
        OnlyRegs s t [0x11104C, 0x111050, 0x111054, 0x111058, 0x11105C, 0x111060, 0x111064]) ∧
    (s.judge via 0x111 0x044 true = .ok →
      Completes (.schedDisarm via) s fun t => t.armed i = false ∧ OnlyRegs s t [(F.ARMED (i / 32)).addr]) ∧
    (∀ j, s.schedBusy = some j →
      Completes .schedArmDone s fun t =>
        t.schedBusy = none ∧ (t.entry j).inCmp = true ∧ (t.entry j).tardy = decide ((s.entry j).cmp ≤ s.now) ∧ (t.entry j).cmp = (s.entry j).cmp ∧ copiesOut (t.entry j) = 0) ∧
    (∀ k : Fin 512, s.domPowered 1 = true → s.entryDue k.val = true →
      exec (.entryFire k) s = .next s.closeDue.fireAll ∧
      (s.sky.stepClose = false → s.gridDue = false → s.epochDue = false → s.dueList = [k.val] → copiesOut (s.entry k.val) = 0 →
        (s.entry k.val).errs = 0 → s.late (s.entry k.val) = false →
        (actionOf (s.entry k.val) = 2 → (s.entry k.val).handed = true) →
        ∃ u : State, exec (.entryFire k) s = .next (u.act k.val (s.entry k.val)) ∧ u.mapBit F.FIRED k.val = true ∧
          u.mapBit F.LATE k.val = s.mapBit F.LATE k.val ∧
          ((s.entry k.val).count = 0 → u.armed k.val = false ∧ (u.entry k.val).fires = satInc 16 (s.entry k.val).fires) ∧
          u.comb = s.comb))

/-- R61, R62: SCRUB_VOTE completes with every copy written back from the majority. -/
def Obligations.ScrubberRestoresCopies : Prop :=
  ∀ s : State, Completes .scrubVote s fun t =>
    ∀ i, copiesOut (t.entry i) = 0 ∧ (t.entry i).cmp = (s.entry i).cmp ∧ (t.armed i = true → (t.entry i).errs = 0) ∧ t.comb = s.comb

/-- R67, R68, R73 to R76: RF_REQ, PATH_TRANSITION_DONE, SYNTH_UNLOCK, RELOCK_ATTEMPT_TIMEOUT, SYNTH_RELOCK and AGC_BLOCK complete. -/
def Obligations.PathStatesFollowTheirRequests : Prop :=
  ∀ (s : State) (p : Fin 8),
    (∀ (via : Via) (rq : BitVec 3), s.judge via (rfPage p.val) 0x040 true = .ok → 3 < rq.toNat →
      Completes (.rfReq via p rq) s fun t => t.flag (PG_FAULT (rfPage p.val) 3) = true ∧ OnlyRegs s t [rfPage p.val * 4096 + 0x020]) ∧
    (∀ (via : Via) (rq : BitVec 3), s.judge via (rfPage p.val) 0x040 true = .ok → 1 ≤ rq.toNat → rq.toNat ≤ 3 →
      s.rfState p.val = rfSLEEP → (s.rfp p.val).move = .idle →
      Completes (.rfReq via p rq) s fun t =>
        t.fget (F.RF_CTL_REQ p.val) = rq.toNat ∧ (t.rfp p.val).move = .toStandby ∧ t.comb = s.comb ∧
        ∀ a, a ≠ rfPage p.val * 4096 + 0x040 → t.reg a = s.reg a) ∧
    (∀ (via : Via) (rq : BitVec 3), s.judge via (rfPage p.val) 0x040 true = .ok → rq.toNat ≤ 3 →
      s.rfState p.val = rq.toNat → (s.rfp p.val).move = .idle →
      Completes (.rfReq via p rq) s fun t =>
        t.fget (F.RF_CTL_REQ p.val) = rq.toNat ∧ Rises s t (rfPage p.val) 0 ∧ t.rfState p.val = s.rfState p.val) ∧
    (∀ (via : Via) (rq : BitVec 3), s.judge via (rfPage p.val) 0x040 true = .ok → rq.toNat ≤ 3 →
      Completes (.rfReq via p rq) s fun t => t.fget (F.RF_CTL_REQ p.val) = rq.toNat ∧ t.comb = s.comb) ∧
    (∀ band : BitVec 5,
      let x := s.rfp p.val
      let rq := s.fget (F.RF_CTL_REQ p.val)
      let refok := s.flag F.CLK_STAT_REFOK
      (x.move = .idle → exec (.pathTransitionDone p band) s = .next s) ∧
      (x.move = .toLock → refok = false → exec (.pathTransitionDone p band) s = .next s) ∧
      (x.failed = false → x.retunePend = false →
        (x.move = .toStandby ∨ x.move = .downStandby → Completes (.pathTransitionDone p band) s fun t =>
          t.rfState p.val = if 2 ≤ rq ∧ refok = true then rfSYNTH else rfSTANDBY) ∧
        (x.move = .toLock → refok = true → s.loMaster p.val = p.val → Completes (.pathTransitionDone p band) s fun t =>
          t.rfState p.val = rfSYNTH ∧ t.flag (F.RF_STAT_LOCK p.val) = true ∧ t.fget (F.RF_STAT_VCOBAND p.val) = band.toNat) ∧
        (x.move = .toLock → refok = true → s.loMaster p.val ≠ p.val → s.flag (F.RF_STAT_LOCK (s.loMaster p.val)) = true →
          Completes (.pathTransitionDone p band) s fun t => t.rfState p.val = rfSYNTH ∧ t.flag (F.RF_STAT_LOCK p.val) = true ∧
            t.fget (F.RF_STAT_VCOBAND p.val) = s.fget (F.RF_STAT_VCOBAND p.val)) ∧
        (x.move = .toReceive → rq = 3 → s.flag (F.RF_STAT_LOCK p.val) = true → Completes (.pathTransitionDone p band) s fun t =>
          t.rfState p.val = rfRECEIVE ∧ t.flag (F.RF_STAT_INVALID p.val) = false ∧ t.flag (F.RF_STAT_AGCSET p.val) = false ∧
          t.fget (F.RF_GAIN_GAIN p.val) = s.fget (F.RF_BB_MGAIN p.val).act ∧ (t.rfp p.val).move = .idle ∧
          (x.evPend = true → Rises s t (rfPage p.val) 0)) ∧
        (x.move = .toReceive → rq = 3 → s.flag (F.RF_STAT_LOCK p.val) = false → Completes (.pathTransitionDone p band) s fun t =>
          t.rfState p.val = s.rfState p.val ∧ (s.rfState p.val = rfSYNTH → (t.rfp p.val).move = .idle)) ∧
        (x.move = .toTransmit → Completes (.pathTransitionDone p band) s fun t => t.rfState p.val = rfTRANSMIT) ∧
        (x.move = .fromTransmit → Completes (.pathTransitionDone p band) s fun t => t.rfState p.val = rfRECEIVE) ∧
        (x.move = .downSynth → Completes (.pathTransitionDone p band) s fun t => t.rfState p.val = rfSYNTH)) ∧
      (x.move = .toSleep → rq = 0 → Completes (.pathTransitionDone p band) s fun t =>
        t.rfState p.val = rfSLEEP ∧ t.flag (F.RF_STAT_LOCK p.val) = false ∧ t.flag (F.RF_STAT_AGCSET p.val) = false ∧
        (t.rfp p.val).move = .idle)) ∧
    (s.loMaster p.val = p.val →
      Completes (.synthUnlock p) s fun t => ∀ q ∈ s.driven p.val, rfSYNTH ≤ s.rfState q → s.flag (F.RF_STAT_LOCK q) = true →
        t.flag (F.RF_STAT_LOCK q) = false ∧ t.flag (F.RF_STAT_INVALID q) = true ∧ t.rfState q = s.rfState q ∧
        Rises s t (rfPage q) 1 ∧ (t.rfp q).relock = true ∧ (t.rfp q).attempts = 1) ∧
    ((s.rfp p.val).relock = true → s.flag F.CLK_STAT_REFOK = true → s.loMaster p.val = p.val → (s.rfp p.val).attempts < 3 →
      Completes (.relockAttemptTimeout p) s fun t => (t.rfp p.val).attempts = (s.rfp p.val).attempts + 1 ∧
        t.reg (F.RF_STAT_LOCK p.val).addr = s.reg (F.RF_STAT_LOCK p.val).addr) ∧
    ((s.rfp p.val).relock = true → s.flag F.CLK_STAT_REFOK = true → s.driven p.val = [p.val] → 3 ≤ (s.rfp p.val).attempts →
      s.rf.cal = .idle → rfSYNTH ≤ s.rfState p.val → (s.rfp p.val).move = .idle →
      Completes (.relockAttemptTimeout p) s fun t =>
        t.rfState p.val = rfSTANDBY ∧ t.flag (PG_FAULT (rfPage p.val) 2) = true ∧ Rises s t (rfPage p.val) 2 ∧
        ∀ a, a / 4096 ≠ 0x038 → a ∉ [rfPage p.val * 4096 + 0x01C, rfPage p.val * 4096 + 0x020, rfPage p.val * 4096 + 0x044] →
          t.reg a = s.reg a) ∧
    (∀ band : BitVec 5, (s.rfp p.val).relock = true → s.flag F.CLK_STAT_REFOK = true → s.loMaster p.val = p.val →
      (s.rfp p.val).retunePend = false →
      Completes (.synthRelock p band) s fun t =>
        t.flag (F.RF_STAT_LOCK p.val) = true ∧ t.flag (F.RF_STAT_INVALID p.val) = (s.rfp p.val).retune ∧
        t.fget (F.RF_STAT_VCOBAND p.val) = band.toNat ∧ (t.rfp p.val).relock = false) ∧
    (let x := s.rfp p.val
     let target := s.fget (F.RF_AGC_TARGET p.val)
     let g := s.fget (F.RF_GAIN_GAIN p.val)
     let on := s.flag (F.RF_CTL_AGCEN p.val)
     s.rfState p.val = rfRECEIVE → x.powN ≠ 0 →
      (on = false → Completes (.agcBlock p) s fun t =>
        t.fget (F.RF_GAIN_GAIN p.val) = s.fget (F.RF_BB_MGAIN p.val).act ∧
        ∀ a, a ≠ (F.RF_GAIN_GAIN p.val).addr → t.reg a = s.reg a) ∧
      (on = true → x.blk = true → Completes (.agcBlock p) s fun t => t.regs = s.regs ∧ (t.rfp p.val).powN = 0) ∧
      (on = true → x.blk = false → x.within target = true → Completes (.agcBlock p) s fun t =>
        t.fget (F.RF_GAIN_GAIN p.val) = g ∧ t.flag (F.RF_STAT_AGCSET p.val) = decide (4 ≤ x.agcOk)) ∧
      (on = true → x.blk = false → x.within target = false → x.above target = true → Completes (.agcBlock p) s fun t =>
        t.fget (F.RF_GAIN_GAIN p.val) = g - (if x.agcBlocks < 10 then 4 else 1) ∧ t.flag (F.RF_STAT_AGCSET p.val) = false ∧
        (g = 0 → x.agcSat = false → Rises s t (rfPage p.val) 3)) ∧
      (on = true → x.blk = false → x.within target = false → x.above target = false → Completes (.agcBlock p) s fun t =>
        t.fget (F.RF_GAIN_GAIN p.val) = min 63 (g + if x.agcBlocks < 10 then 4 else 1) ∧
        t.flag (F.RF_STAT_AGCSET p.val) = false ∧ (g = 63 → x.agcSat = false → Rises s t (rfPage p.val) 3)))

/-- R78 to R80, R82, R87: CAL_GO, COEX_GNT, GNTWAIT_TIMEOUT, CAL_BLOCK, CAL_DONE and AUTOCAL_START complete. -/
def Obligations.CalibrationRunsItsSteps : Prop :=
  ∀ s : State,
    (∀ (via : Via) (m : Byte), s.judge via 0x028 0x044 true = .ok → s.flag F.CAL_STAT_BUSY = false →
      ((∃ p ∈ maskPaths m.toNat, s.rfState p ≠ rfRECEIVE) →
        Completes (.calGo via m) s fun t =>
          t.fget F.CAL_STAT_RESULT = 1 ∧ t.flag F.CAL_STAT_BUSY = false ∧ Rises s t 0x028 13 ∧ t.fget F.CAL_CMD_MASK = m.toNat ∧
          t.comb = s.comb ∧ ∀ a, a ∉ [0x028044, 0x028048, 0x02801C] → t.reg a = s.reg a) ∧
      ((∀ p ∈ maskPaths m.toNat, s.rfState p = rfRECEIVE ∧ (s.rfp p).move = .idle ∧ s.badInj p = false) →
        s.flag F.COEX_REQCAL = true → s.fget F.COEX_GNTWAIT ≠ 0 → s.coexGnt = false →
        Completes (.calGo via m) s fun t =>
          t.flag F.CAL_STAT_BUSY = true ∧ t.fget F.CAL_STAT_DISC = 0 ∧ t.rf.cal = .waitGnt ∧ t.rf.calMask = m.toNat ∧
          t.coexReq = true ∧ ∀ a, a ∉ [0x028044, 0x028048] → t.reg a = s.reg a) ∧
      ((∀ p ∈ maskPaths m.toNat, s.rfState p = rfRECEIVE ∧ (s.rfp p).move = .idle ∧ s.badInj p = false) → m ≠ 0 →
        s.coexGnt = true → Completes (.calGo via m) s fun t => t.flag F.CAL_STAT_BUSY = true ∧ t.rf.cal = .moving ∧
          ∀ p ∈ maskPaths m.toNat, (t.rfp p).move = .toTransmit) ∧
      ((∀ p ∈ maskPaths m.toNat, s.rfState p = rfRECEIVE ∧ (s.rfp p).move = .idle) → (∃ p ∈ maskPaths m.toNat, s.badInj p = true) →
        Completes (.calGo via m) s fun t => t.fget F.CAL_STAT_RESULT = 4 ∧ t.flag (PG_FAULT 0x028 0) = true ∧ Rises s t 0x028 13)) ∧
    (let m := maskPaths s.rf.calMask
     s.rf.cal = .waitGnt → m ≠ [] → (∀ p ∈ m, s.rfState p = rfRECEIVE ∧ (s.rfp p).move = .idle) →
      (∀ level : Bool, (level ^^ s.flag F.COEX_GNTPOL) = true → Completes (.coexGnt level) s fun t =>
        t.rf.cal = .moving ∧ (∀ p ∈ m, (t.rfp p).move = .toTransmit) ∧ t.regs = s.regs) ∧
      (∀ level : Bool, (level ^^ s.flag F.COEX_GNTPOL) = false → Completes (.coexGnt level) s fun t =>
        t.rf.gntWire = level ∧ { t with rf.gntWire := s.rf.gntWire } = s) ∧
      (Completes .gntwaitTimeout s fun t =>
        t.rf.cal = .moving ∧ (∀ p ∈ m, (t.rfp p).move = .toTransmit) ∧ Rises s t 0x028 15 ∧
        ∀ a, a ≠ 0x02801C → t.reg a = s.reg a)) ∧
    (s.rf.cal = .blocks → s.rf.calOk < 10 →
      (s.rf.calBlank = false → Completes .calBlock s fun t =>
        t.rf.calOk = s.rf.calOk + 1 ∧ t.rf.calBad = 0 ∧ t.regs = s.regs) ∧
      (s.rf.calBlank = true → s.rf.calBad < 2 → Completes .calBlock s fun t =>
        t.rf.calBad = s.rf.calBad + 1 ∧ t.rf.calOk = s.rf.calOk ∧ t.fget F.CAL_STAT_DISC = satInc 8 (s.fget F.CAL_STAT_DISC) ∧
        ∀ a, a ≠ 0x028048 → t.reg a = s.reg a) ∧
      (s.rf.calBlank = true → s.rf.calBad = 2 → Completes .calBlock s fun t =>
        t.fget F.CAL_STAT_RESULT = 2 ∧ t.flag F.CAL_STAT_BUSY = false ∧ Rises s t 0x028 13 ∧
        t.fget F.CAL_STAT_DISC = satInc 8 (s.fget F.CAL_STAT_DISC) ∧
        (∀ p ∈ maskPaths s.rf.calMask, s.rfState p = rfTRANSMIT → (s.rfp p).move = .idle → (t.rfp p).move = .fromTransmit) ∧
        ∀ a, a ∉ [0x028048, 0x02801C] → t.reg a = s.reg a)) ∧
    (∀ rs : List (Half × Half × Half), s.rf.cal = .blocks → 10 ≤ s.rf.calOk →
      Completes (.calDone rs) s fun t =>
        t.fget F.CAL_STAT_DONE = s.rf.calMask % 256 ∧ t.fget F.CAL_STAT_RESULT = 0 ∧ t.flag F.CAL_STAT_BUSY = false ∧
        Rises s t 0x028 12 ∧ ∀ p ∈ maskPaths s.rf.calMask,
          let r := calRel rs p (((maskPaths s.rf.calMask).head?).getD 0)
          t.fget (F.RF_CALD_DELAY p) = r.1.toNat ∧ t.fget (F.RF_CALPG_PHASE p) = r.2.1.toNat ∧
          t.fget (F.RF_CALPG_GAIN p) = r.2.2.toNat ∧ t.get96 (F.RF_CALT p) = s.now % 2 ^ 96) ∧
    (∀ g : Fin 2, s.rf.auto.contains g.val = true → s.rf.cal = .idle → s.flag F.CAL_STAT_BUSY = false →
      (∀ p ∈ maskPaths (s.groupMask g.val), s.rfState p = rfRECEIVE ∧ (s.rfp p).move = .idle ∧ s.badInj p = false) →
      s.flag F.ARRAY_AUTOCAL.act = true → s.groupMask g.val ≠ 0 →
      s.flag F.COEX_REQCAL = true → s.fget F.COEX_GNTWAIT ≠ 0 → s.coexGnt = false →
      Completes (.autocalStart g) s fun t =>
        t.flag F.CAL_STAT_BUSY = true ∧ t.rf.cal = .waitGnt ∧ t.rf.calMask = s.groupMask g.val ∧
        g.val ∉ t.rf.auto ∧ ∀ a, a ≠ 0x028048 → t.reg a = s.reg a)

/-- R83 to R86: ANTB_CTL_WRITE, ANTB_BLANK_END, ANTB_FAULT_DETECT, ANTB_TRIP and the TXACT commands complete. -/
def Obligations.BiasAndCoexistenceAct : Prop :=
  let op (n : Nat) := antb F.ANTB_STAT_OPEN n
  let sh (n : Nat) := antb F.ANTB_STAT_SHORT n
  let tr (n : Nat) := antb F.ANTB_STAT_TRIP n
  let bl (n : Nat) := antb F.ANTB_STAT_BLANK n
  let faulted (t : State) : Prop := ∀ p : Fin 8, t.powered (rfPage p.val) = true → t.flag (F.RF_STAT_ANTFLT p.val) =
    (List.range 4).any fun n => (t.flag (op n) || t.flag (sh n) || t.flag (tr n)) && (t.fget (F.ANTB_CTL_PATHS n)).testBit p.val
  let cur : List Nat := [F.ANTB_I01_I_LO.addr, F.ANTB_I23_I_LO.addr]
  let stats : List Nat := cur ++ (List.range 8).map fun p => (0x020 + p) * 4096 + 0x044
  ∀ (s : State) (n : Fin 4),
    (∀ (via : Via) (v : Word), s.judge via 0x028 (0x058 + 4 * n.val) true = .ok →
      Completes (.antbCtlWrite via n v) s fun t =>
        t.reg (0x028058 + 4 * n.val) &&& 0x00FFFF03 = v &&& 0x00FFFF03 ∧ faulted t ∧
        (s.flag (F.ANTB_CTL_EN n.val) = false → v.getLsbD 0 = true →
          t.flag (tr n.val) = false ∧ t.flag (bl n.val) = true ∧ t.flag (op n.val) = s.flag (op n.val) ∧ t.flag (sh n.val) = s.flag (sh n.val)) ∧
        (v.getLsbD 0 = false → t.flag (bl n.val) = false ∧ t.flag (op n.val) = false ∧ t.flag (sh n.val) = false ∧
          t.flag (tr n.val) = s.flag (tr n.val) ∧ (s.flag (op n.val) = true → Rises s t 0x028 n.val)) ∧
        (s.flag (F.ANTB_CTL_EN n.val) = true → v.getLsbD 0 = true → v.getLsbD 1 ≠ s.flag (F.ANTB_CTL_V50 n.val) →
          t.flag (bl n.val) = (s.flag (bl n.val) || !s.flag (tr n.val)) ∧ t.flag (tr n.val) = s.flag (tr n.val) ∧
          t.flag (op n.val) = s.flag (op n.val) ∧ t.flag (sh n.val) = s.flag (sh n.val))) ∧
    (∀ ua mv : Nat, let o := s.antbOpen n.val ua
     let h := s.antbShort n.val mv
     s.flag (bl n.val) = true → Completes (.antbBlankEnd n ua mv) s fun t =>
        t.flag (bl n.val) = false ∧ t.flag (op n.val) = o ∧ t.flag (sh n.val) = h ∧ faulted t ∧
        (s.flag (op n.val) ≠ o → Rises s t 0x028 n.val) ∧ (s.flag (sh n.val) ≠ h → Rises s t 0x028 (4 + n.val)) ∧
        OnlyRegsEvents s t (0x028068 :: stats) [0x028]) ∧
    (∀ ua mv : Nat, let o := s.antbOpen n.val ua
     let h := s.antbShort n.val mv
     s.flag (F.ANTB_CTL_EN n.val) = true → s.flag (bl n.val) = false → Completes (.antbFaultDetect n ua mv) s fun t =>
        t.flag (op n.val) = o ∧ t.flag (sh n.val) = h ∧ t.flag (tr n.val) = s.flag (tr n.val) ∧ faulted t ∧
        (s.flag (op n.val) ≠ o → Rises s t 0x028 n.val) ∧ (s.flag (sh n.val) ≠ h → Rises s t 0x028 (4 + n.val)) ∧
        OnlyRegsEvents s t (0x028068 :: stats) [0x028]) ∧
    (∀ ua : Nat, s.flag (F.ANTB_CTL_EN n.val) = true → s.flag (tr n.val) = false →
      (s.fget (F.ANTB_CTL_ILIM n.val) + 1) * 25000 < ua → Completes (.antbTrip n ua) s fun t =>
        t.flag (tr n.val) = true ∧ Rises s t 0x028 (8 + n.val) ∧ t.flag (bl n.val) = s.flag (bl n.val) ∧ faulted t ∧
        OnlyRegsEvents s t (0x028068 :: stats) [0x028]) ∧
    (s.rf.txact = false → Completes .coexTxactAssert s fun t =>
        t.fget F.COEX_CNT = satInc 32 (s.fget F.COEX_CNT) ∧ Rises s t 0x028 14 ∧
        (∀ p : Fin 8, t.blanked p.val = (s.fget F.COEX_TXMASK).testBit p.val) ∧ ∀ a, a ∉ [0x028050, 0x02801C] → t.reg a = s.reg a) ∧
    (s.rf.txact = true → Completes .coexTxactRelease s fun t =>
        t.rf.txact = false ∧ t.rf.tail = decide (s.fget F.COEX_TXTAIL ≠ 0) ∧ t.regs = s.regs) ∧
    (s.rf.txact = false → Completes .blankTailEnd s fun t =>
        (∀ p : Fin 8, t.blanked p.val = false) ∧ { t with rf.tail := s.rf.tail } = s)

/-- R90, R91, R96 to R98: MASTER_UNLOCK, REFERENCE_LOSS, FORCEBYP, REFERENCE_RETURN, MASTER_LOCK, BYPASS_RETURN and RESUME_POINT
complete. -/
def Obligations.LossOfLockAndReference : Prop :=
  ∀ s : State,
    (s.flag F.CLK_STAT_LOCK = true → Completes .masterUnlock s fun t =>
        t.flag F.CLK_STAT_LOCK = false ∧ t.fget F.CLK_CNT_UNLOCK = satInc 16 (s.fget F.CLK_CNT_UNLOCK) ∧ t.byp = true ∧
        t.flag F.CLK_STAT_REFOK = s.flag F.CLK_STAT_REFOK ∧ Rises s t 0x010 0 ∧ t.sieve.cmpIn = false ∧ (s.byp = false → t.sieve.flagging = true) ∧
        (s.byp = false → s.dfly.jobs = [] → s.hive.chans = [] → t.srcAON = true ∧
          (s.skyState = skSTEERED ∨ s.skyState = skFOLLOW → t.skyState = skHOLDOVER))) ∧
    (s.flag F.CLK_STAT_REFOK = true → Completes .referenceLoss s fun t =>
        t.flag F.CLK_STAT_REFOK = false ∧ t.flag F.CLK_STAT_LOCK = false ∧ t.byp = true ∧
        t.fget F.CLK_CNT_REFLOSS = satInc 16 (s.fget F.CLK_CNT_REFLOSS) ∧ t.fget F.CLK_CNT_UNLOCK = s.fget F.CLK_CNT_UNLOCK ∧
        Rises s t 0x010 1 ∧
        (∀ p : Fin 8, rfSYNTH ≤ s.rfState p.val → s.flag (F.RF_STAT_LOCK p.val) = true →
          t.flag (F.RF_STAT_LOCK p.val) = false ∧ t.flag (F.RF_STAT_INVALID p.val) = true ∧ t.rfState p.val = s.rfState p.val) ∧
        (s.flag (PG_EN 0x011) = true → t.flag F.AUX_STAT_HOLD = true ∧ t.flag F.AUX_STAT_LOCK = false)) ∧
    (∀ via : Via, s.judge via 0x010 0x044 true = .ok →
      (Completes (.forcebyp via true) s fun t =>
        t.flag F.CLK_CTL_FORCEBYP = true ∧ t.byp = true ∧ t.reg F.CLK_CNT_UNLOCK.addr = s.reg F.CLK_CNT_UNLOCK.addr ∧
        t.flag F.CLK_STAT_LOCK = s.flag F.CLK_STAT_LOCK ∧ t.reg 0x01001C = s.reg 0x01001C) ∧
      (Completes (.forcebyp via false) s fun t =>
        t.flag F.CLK_CTL_FORCEBYP = false ∧ t.byp = s.byp ∧ OnlyRegs s t [0x010044])) ∧
    (s.domPowered 1 = true → s.flag F.CLK_STAT_REFOK = false → Completes .referenceReturn s fun t =>
        t.flag F.CLK_STAT_REFOK = true ∧ t.flag F.AUX_STAT_HOLD = false ∧ t.flag F.CLK_STAT_LOCK = s.flag F.CLK_STAT_LOCK) ∧
    (s.boot.sampled = true → s.flag F.CLK_STAT_REFOK = true → Completes .masterLock s fun t =>
        t.flag F.CLK_STAT_LOCK = true ∧ OnlyRegs s { t with sieve.cmpIn := s.sieve.cmpIn } [0x010048] ∧
        (s.domPowered 1 = true → s.boot.dead = false → t.lockAn = .vdda)) ∧
    (s.boot.dead = false → s.domPowered 1 = true → (s.sieve.cmpIn = false ∨ s.flag F.CLK_STAT_REFOK = false) → s.lockAn = .ground) ∧
    ((s.boot.dead = true ∨ s.domPowered 1 = false) → s.lockAn = .floating) ∧
    (s.flag F.CLK_STAT_REFOK = false → exec .masterLock s = .next s) ∧
    (s.byp = true → s.flag F.CLK_STAT_LOCK = true → s.flag F.CLK_STAT_REFOK = true → s.flag F.CLK_CTL_FORCEBYP = false →
      Completes .bypassReturn s fun t =>
        t.byp = false ∧ t.srcAON = s.srcAON ∧ Rises s t 0x010 2 ∧ t.sky.time = s.sky.time ∧ ∀ u : Fin 4, t.flag (F.U_STAT_BYPHOLD u.val) = false) ∧
    (s.byp = false → s.srcAON = false → s.sieve.flagging = true → Completes .resumePoint s fun t => t.sieve.flagging = false) ∧
    (s.byp = true → exec .resumePoint s = .next s)

/-- R92, R94, R95: AUX_UNLOCK, AUX_LOCK and CLKOUT_APPLY complete. -/
def Obligations.ClockOutputsAndAuxPll : Prop :=
  ∀ s : State,
    (s.flag F.AUX_STAT_LOCK = true → Completes .auxUnlock s fun t =>
        t.flag F.AUX_STAT_LOCK = false ∧ Rises s t 0x011 0 ∧ OnlyRegsEvents s t [0x011040, 0x012050] [0x011]) ∧
    (s.flag (PG_EN 0x011) = true → s.boot.sampled = true → s.flag F.CLK_STAT_REFOK = true → s.flag F.AUX_STAT_LOCK = false →
      Completes .auxLock s fun t =>
        t.flag F.AUX_STAT_LOCK = true ∧ Rises s t 0x011 1 ∧ OnlyRegsEvents s t [0x011040, 0x012050] [0x011]) ∧
    (s.flag F.CLK_STAT_REFOK = false → exec .auxLock s = .next s) ∧
    (Completes .clkoutApply s fun t =>
      (∀ n : Fin 4, t.clkForce n.val = s.reg (0x012840 + 4 * n.val) ∧
        (t.flag (outBit F.CLKOUT_STAT_RUN n.val) = t.clkRuns n.val) ∧ (t.flag (outBit F.CLKOUT_STAT_SQ n.val) = t.clkSquelched n.val)) ∧
      t.comb = s.comb ∧ ∀ a, a ≠ 0x012050 → t.reg a = s.reg a)

/-- R103, R107, R110, R127 to R129: NOTCH_DETECT, NOTCH_LOST, IQ_BLOCK, SPECTRUM_GO, SPECTRUM_DONE, CODE_COPY, CODE_COPY_DONE and
NAV_MESSAGE complete. -/
def Obligations.SieveAndSignalCommandsAct : Prop :=
  ∀ (s : State) (p k : Fin 8),
    (let o := s.laneOut p.val
     let cs := carriers (s.fget (F.NDET_DETTHR p.val)) o.det
     let off (j : Nat) : Prop := s.notchOn p.val j = false
     let only (t : State) : Prop := OnlyRegsEvents s { t with sieve.outs := s.sieve.outs } [(F.NSTAT_ON p.val k.val).addr] [svPage p.val]
     (s.byp = true ∨ o.detN < 16 → exec (.notchDetect p) s = .next s) ∧
     (s.byp = false → 16 ≤ o.detN →
       (cs = [] → (∀ j < 8, off j) → Completes (.notchDetect p) s fun t => t.regs = s.regs ∧ (t.laneOut p.val).detN = 0) ∧
       (∀ c : Int, cs = [c] → (∀ j < 8, off j) → ((List.range 8).find? fun j => decide (s.notchMode p.val j = ntAUTO)) = some k.val →
         Completes (.notchDetect p) s fun t =>
           t.flag (F.NSTAT_ON p.val k.val) = true ∧ t.flag (F.NSTAT_LOCKED p.val k.val) = true ∧
           t.fget (F.NSTAT_FREQ p.val k.val) = unsigned 16 c ∧ Rises s t (svPage p.val) 1 ∧ only t) ∧
       (∀ c : Int, cs = [c] → s.notchMode p.val k.val = ntTRACK → s.notchOn p.val k.val = true → (∀ j < 8, j ≠ k.val → off j) →
         -32768 ≤ c → c < 32768 → s.within p.val k.val 4 c (s.notchFreq p.val k.val) = true → Completes (.notchDetect p) s fun t =>
           t.flag (F.NSTAT_LOCKED p.val k.val) = true ∧ t.fget (F.NSTAT_FREQ p.val k.val) = unsigned 16 c ∧ only t)) ∧
     (s.byp = false → s.notchOn p.val k.val = true → 25 ≤ o.miss.getD k.val 0 →
       (s.notchMode p.val k.val = ntAUTO → Completes (.notchLost p k) s fun t =>
         t.flag (F.NSTAT_LOCKED p.val k.val) = false ∧ t.flag (F.NSTAT_ON p.val k.val) = false ∧ Rises s t (svPage p.val) 2 ∧ only t) ∧
       (s.notchMode p.val k.val = ntTRACK → Completes (.notchLost p k) s fun t =>
         t.flag (F.NSTAT_LOCKED p.val k.val) = false ∧ t.flag (F.NSTAT_ON p.val k.val) = true ∧ Rises s t (svPage p.val) 2 ∧ only t))) ∧
    (let x := s.lane p.val
     let r : Int := isqrt (x.mII * x.mQQ - x.mIQ.natAbs ^ 2)
     let g := 2 ^ 15 + signed 16 (s.fget (F.SV_IQ_G p.val))
     let q := signed 16 (s.fget (F.SV_IQ_P p.val))
     let g' := roundDiv (g * x.mII) r - 2 ^ 15
     let only (t : State) : Prop := (t.lane p.val).mII = 0 ∧ (t.lane p.val).mQQ = 0 ∧ (t.lane p.val).mIQ = 0 ∧
       OnlyRegsEvents s { t with sieve.lanes := s.sieve.lanes } [(F.SV_IQ_G p.val).addr] [svPage p.val]
     (s.byp = true → exec (.iqBlock p) s = .next s) ∧
     (s.byp = false → s.flag (F.SV_CTL_IQEN p.val) = false → Completes (.iqBlock p) s fun t =>
       t.fget (F.SV_IQ_G p.val) = 0 ∧ t.fget (F.SV_IQ_P p.val) = 0 ∧ only t) ∧
     (s.byp = false → s.flag (F.SV_CTL_IQEN p.val) = true → r ≠ 0 → Completes (.iqBlock p) s fun t =>
       t.fget (F.SV_IQ_G p.val) = unsigned 16 (clampInt (-3276) 3276 g') ∧
       t.fget (F.SV_IQ_P p.val) = unsigned 16 (clampInt (-6553) 6553 (roundDiv (q * x.mII - x.mIQ * 2 ^ 15) r)) ∧
       (3276 ≤ g' → Rises s t (svPage p.val) 3) ∧ only t)) ∧
    (∀ via : Via, s.judge via 0x039 0x040 true = .ok → s.flag F.SM_STAT_BUSY = true →
      Completes (.spectrumGo via) s fun t => t.flag (PG_FAULT 0x039 0) = true ∧ OnlyRegs s t [0x039020]) ∧
    (∀ via : Via, s.judge via 0x039 0x040 true = .ok → s.flag F.SM_STAT_BUSY = false →
      Completes (.spectrumGo via) s fun t => t.flag F.SM_STAT_BUSY = true ∧ t.fget F.SM_STAT_DISC = 0 ∧
        t.sieve.readout = some { path := s.fget F.SM_CTL_PATH, tap := s.fget F.SM_CTL_TAP, want := 2 ^ min 12 (s.fget F.SM_CTL_AVG),
                                 since := s.adcN } ∧
        OnlyRegs s { t with sieve.readout := s.sieve.readout } [0x039048]) ∧
    (∀ r : Readout, s.sieve.readout = some r → s.flag F.SM_STAT_BUSY = true → r.want ≤ r.n → s.runner 0x0029 = none →
      (∀ q < 4, s.combOn q = true) →
      Completes .spectrumDone s fun t =>
        t.combBytes (s.fget F.SM_ADDR_ADDR * 64) 16384 = wordBytes r.words ∧
        (∀ a, a < 2 ^ 24 → (∀ i < 16384, (s.fget F.SM_ADDR_ADDR * 64 + i) % 2 ^ 24 ≠ a) → t.combByte a = s.combByte a) ∧
        t.get96 F.SM_T = r.t % 2 ^ 96 ∧ t.flag F.SM_STAT_BUSY = s.flag F.SM_CTL_CONT ∧ Rises s t 0x039 0) ∧
    (∀ (via : Via) (h : Fin 16), s.judge via (tapsPage h.val) 0x144 true = .ok → s.flag (F.CS_STAT_BUSY h.val) = false →
      (s.unitsBusy h.val (s.fget (F.CS_CTL_UNIT h.val)) (max 1 (s.fget (F.CS_CTL_NUNITS h.val))) = true →
        Completes (.codeCopy via h) s fun t =>
          t.flag (F.CS_STAT_REFUSED h.val) = true ∧ t.flag (PG_FAULT (tapsPage h.val) 0) = true ∧
          OnlyRegs s t [(F.CS_STAT_BUSY h.val).addr, tapsPage h.val * 4096 + 0x020]) ∧
      (s.unitsBusy h.val (s.fget (F.CS_CTL_UNIT h.val)) (max 1 (s.fget (F.CS_CTL_NUNITS h.val))) = false →
        Completes (.codeCopy via h) s fun t =>
          t.flag (F.CS_STAT_BUSY h.val) = true ∧ t.flag (F.CS_STAT_REFUSED h.val) = false ∧
          Tab.get (fun _ => none) t.hive.copies h.val =
            some ⟨s.fget (F.CS_SRC_V h.val) * 64, s.fget (F.CS_CTL_UNIT h.val), max 1 (s.fget (F.CS_CTL_NUNITS h.val))⟩ ∧
          t.comb = s.comb ∧ ∀ a, a ≠ (F.CS_STAT_BUSY h.val).addr → t.reg a = s.reg a)) ∧
    (∀ (h : Fin 16) (j : CopyJob), Tab.get (fun _ => none) s.hive.copies h.val = some j → s.unitsBusy h.val j.unit j.n = true →
      Completes (.codeCopyDone h) s fun t =>
        t.flag (F.CS_STAT_BUSY h.val) = false ∧ t.flag (F.CS_STAT_REFUSED h.val) = true ∧ t.flag (PG_FAULT (tapsPage h.val) 0) = true ∧
        t.hive.store = s.hive.store ∧ Rises s t (tapsPage h.val) 0) ∧
    (∀ (h : Fin 16) (j : CopyJob), Tab.get (fun _ => none) s.hive.copies h.val = some j → s.unitsBusy h.val j.unit j.n = false →
      (∀ q < 4, s.combOn q = true) →
      Completes (.codeCopyDone h) s fun t =>
        (∀ i < j.n, j.unit + i < 1024 → t.unitLoaded h.val (j.unit + i) = true) ∧
        (∀ i < 256 * j.n, 256 * j.unit + i < 2 ^ 18 →
          Tab.get (fun _ => 0) t.hive.store (2 ^ 18 * h.val + (256 * j.unit + i)) = s.combByte (j.src + i)) ∧
        t.flag (F.CS_STAT_BUSY h.val) = false ∧ Rises s t (tapsPage h.val) 0 ∧ t.comb = s.comb) ∧
    (∀ m : NavMsg, let ch := m.ch.val
     let ok := navOk (sgSIG (s.chan ch).sig) m.star m.bits
     (s.live ch = false → exec (.navMessage m) s = .next s) ∧
     (s.live ch = true → ok = false → Completes (.navMessage m) s fun t =>
        t.fget (F.CH_DECFAIL_V ch) = satInc (F.CH_DECFAIL_V ch).w (s.fget (F.CH_DECFAIL_V ch)) ∧
        (s.fget (F.CH_STAT_EVC ch) = 0 → Rises s t (chPage ch) (ch % 16)) ∧ t.comb = s.comb) ∧
     (s.live ch = true → ok = true → s.openTenants = [] → Completes (.navMessage m) s fun t =>
        (∀ u, m.utc = some u → t.fget F.LEAP_CUR = u.1.toNat ∧ t.fget F.LEAP_NEXT = u.2.1.toNat ∧ t.flag F.LEAP_VALID = true ∧
          t.get96 F.LEAP_T = u.2.2.1.toNat ∧ t.flag F.LEAP_PEND = u.2.2.2) ∧
        (∀ n week k, m.utc = none → m.time = some (n, week, k) → (t.chan ch).origin = some (s.origin ch n week k))))

/-- R137 to R140, R143, R144, R148: the nine Dragonfly commands complete. A job's `search` is none where the Warden submitted it. -/
def Obligations.DragonflyJobsMoveThroughTheirStates : Prop :=
  let ended (s t : State) (n : Nat) : Prop := t.jsState n = jsDONE ∧ t.mapBit F.JS_DONE n = true ∧
    t.fget F.DF_JOBS = satInc 32 (s.fget F.DF_JOBS)
  ∀ (s : State) (n : Fin 64),
    (∀ via : Via, s.judge via 0x041 0x080 true = .ok →
      (s.jobCheck s.stagedJob ≠ 0 → Completes (.jobSubmit via) s fun t =>
        t.flag F.JOB_RET_VALID = true ∧ t.fget F.JOB_RET_CODE = s.jobCheck s.stagedJob ∧ t.flag (PG_FAULT 0x040 0) = true ∧
        OnlyRegs s t [0x041084, 0x040020]) ∧
      (s.jobCheck s.stagedJob = 0 → ((List.range 64).find? fun k => decide (s.jsState k = jsFREE)) = some n.val →
        Completes (.jobSubmit via) s fun t =>
          t.flag F.JOB_RET_VALID = true ∧ t.fget F.JOB_RET_CODE = 0 ∧ t.fget F.JOB_RET_SLOT = n.val ∧
          t.fget F.LG_PLAN = min 0xFFFFFFFF (s.fget F.LG_PLAN + s.acqCost s.stagedJob) ∧
          t.fget (F.JS_TENANT n.val) = jdTenant s.stagedJob ∧ t.fget (F.JS_PRIO n.val) = jdPrio s.stagedJob ∧
          (∃ j, t.job n.val = some j ∧ j.desc = s.stagedJob ∧
            (jdBlocks s.stagedJob ≤ s.freeBlocks.length → j.blocks = s.freeBlocks.take (jdBlocks s.stagedJob))) ∧
          (jdBlocks s.stagedJob ≤ s.freeBlocks.length → t.jsState n.val = jsARMED) ∧
          (s.freeBlocks.length < jdBlocks s.stagedJob → t.jsState n.val = jsWAITRAM ∧ Rises s t 0x040 2) ∧
          (∀ k < 64, k ≠ n.val → t.jsState k = s.jsState k) ∧ t.comb = s.comb)) ∧
    (∀ via : Via, s.judge via 0x041 0x080 true = .ok →
      (s.jsState n.val = jsFREE → Completes (.jobAbort via n) s fun t =>
        t.fget F.JOB_RET_CODE = 9 ∧ t.fget F.JOB_RET_SLOT = n.val ∧ OnlyRegs s t [0x041084]) ∧
      (s.jsState n.val ≠ jsFREE → s.jsState n.val ≠ jsDONE → (∃ j, s.job n.val = some j ∧ j.search = none) →
        Completes (.jobAbort via n) s fun t =>
          ended s t n.val ∧ t.fget F.JOB_RET_CODE = 0 ∧ t.fget F.JOB_RET_SLOT = n.val ∧ Rises s t 0x040 1)) ∧
    (∀ via : Via, s.judge via 0x040 0x040 true = .ok →
      ((∀ k < 64, s.jsState k ≠ jsFREE → ∃ j, s.job k = some j ∧ j.search = none) →
        Completes (.abortall via) s fun t => ∀ k < 64, t.jsState k = if s.jsState k = jsFREE then jsFREE else jsDONE) ∧
      (Completes (.dfHold via true) s fun t => t.flag F.DF_CTL_HOLD = true ∧ (∀ k < 64, t.jsState k = s.jsState k) ∧ t.comb = s.comb) ∧
      (s.byp = false → (∀ k < 64, s.jsState k ≠ jsRUN) → s.jsState n.val = jsREADY → (∃ j, s.job n.val = some j) →
        Completes (.dfHold via false) s fun t => t.flag F.DF_CTL_HOLD = false ∧
          ∃ k < 64, t.jsState k = jsRUN ∧ (s.jsState k = jsREADY ∨ s.jsState k = jsSUSPENDED) ∧
            s.fget (F.JS_PRIO n.val) ≤ s.fget (F.JS_PRIO k) ∧ ∀ m < 64, m ≠ k → t.jsState m = s.jsState m)) ∧
    (∀ j : Job, s.job n.val = some j →
      let k0 := if jdStart j.desc = 0 then j.armT * s.gridRate / sec + 1 else s.gridAt (jdStart j.desc)
      s.jsState n.val = jsARMED → s.byp = false → s.fget F.DF_STAT_CAPS ≠ 8 → k0 ≤ s.gridIndex →
      Completes (.captureStart n) s fun t =>
        t.jsState n.val = jsCAPTURE ∧ t.flag (F.JS_LATE n.val) = decide (k0 < s.gridIndex) ∧
        t.job n.val = some { j with tsnap := s.gridNow } ∧ t.comb = s.comb) ∧
    (∀ j : Job, s.job n.val = some j → s.jsState n.val = jsCAPTURE →
      let ticks := jdSegs j.desc * (segRow (sgSIG (jdSig j.desc))).1 * 163680
      (j.ticks < ticks → exec (.captureDone n) s = .next s) ∧
      (ticks ≤ j.ticks → s.flag F.DF_CTL_HOLD = true → Completes (.captureDone n) s fun t =>
        t.jsState n.val = jsREADY ∧ t.job n.val = some { j.flush n.val (j.q + 1) with ready := s.dfly.orders + 1 })) ∧
    (∀ j : Job, s.running = some n.val → s.job n.val = some j → s.byp = false → j.bins + 1 < jdBins j.desc →
      Completes .binDone s fun t =>
        t.job n.val = some { j with bins := j.bins + 1 } ∧ t.comb = s.comb ∧
        (s.flag F.DF_CTL_HOLD = true → t.jsState n.val = jsSUSPENDED ∧ t.flag (F.JS_PREEMPTED n.val) = true) ∧
        (s.flag F.DF_CTL_HOLD = false → (∀ k < 64, s.jsState k = jsREADY → s.fget (F.JS_PRIO k) ≤ s.fget (F.JS_PRIO n.val)) →
          t.regs = s.regs)) ∧
    (∀ j : Job, s.running = some n.val → s.job n.val = some j → j.search = none → s.byp = false → jdBins j.desc ≤ j.bins + 1 →
      let s' := (s.setJob n.val (some { j with bins := jdBins j.desc })).ranCells (jdCells j.desc * jdSegs j.desc)
      let few := jdPoints j.desc < 8 * j.inv
      let ps := if few then [] else (s'.jobPeaks j).2
      let flags := (if s.flag (F.JS_PREEMPTED n.val) then 4 else 0) + (if j.stepped then 2 else 0) + if s.flag (F.JS_LATE n.val) then 1 else 0
      let rec_ := jobRecord (j.desc.getD 14 0) flags n.val (if few then 1 else 0) j.tsnap (s'.jobPeaks j).1 j.inv j.blk ps
      Completes .jobDone s fun t =>
        ended s t n.val ∧ (few → Rises s t 0x040 1) ∧ (¬ few → Rises s t 0x040 0) ∧
        ((∀ q < 4, s.combOn q = true) → t.combBytes (jdBits j.desc 10 6 18 * 64) (4 * rec_.length) = wordBytes rec_)) ∧
    (∀ via : Via, s.judge via 0x042 (0x140 + 4 * (n.val / 32)) true = .ok → s.jsState n.val = jsDONE → s.dfly.waiting = [] →
      Completes (.jsDoneClear via n) s fun t =>
        t.jsState n.val = jsFREE ∧ t.mapBit F.JS_DONE n.val = false ∧ t.job n.val = none ∧
        (∀ k < 64, k ≠ n.val → t.jsState k = s.jsState k) ∧ t.comb = s.comb)

/-- R151, R161, R162, R164, R166, R178, R179, R182: CH_START, CH_STOP, HV_START, DMODE_WRITE, NCO_WORD_WRITE,
CHANNEL_LOCK_TIMEOUT, LOCK_ESTIMATE, CN0_ESTIMATE and CN0_LOSS complete. -/
def Obligations.ChannelsStartTrackAndStop : Prop :=
  ∀ (s : State) (ch : Fin 1024),
    let c := ch.val
    let h := c / 64
    let u := s.chanLoad (s.reg (chReg c 0).addr) (s.reg (chReg c 12).addr)
    let armed (t : State) : Prop := t.chState c = chARMED ∧ t.fget (F.HV_LOAD_LOAD h) = s.fget (F.HV_LOAD_LOAD h) + u ∧
      t.mapBit (F.HV_RUN h) (c % 64) = true ∧ (t.chan c).sig = s.reg (chReg c 4).addr ∧ (t.chan c).load = u ∧
      t.reg (chReg c 0x50).addr = 0x40000000 ∧ t.reg (chReg c 0x54).addr = 0 ∧ t.comb = s.comb ∧
      ∀ k < 1024, k ≠ c → t.chState k = s.chState k
    let idle (t : State) : Prop := t.chState c = chIDLE ∧ t.fget (F.HV_LOAD_LOAD h) = s.fget (F.HV_LOAD_LOAD h) - (s.chan c).load ∧
      t.mapBit (F.HV_RUN h) (c % 64) = false ∧ t.mapBit F.VC_TAKEN c = false ∧ t.chan c = {} ∧ t.comb = s.comb ∧
      ∀ k < 1024, k ≠ c → t.chState k = s.chState k
    (∀ via : Via, s.judge via (chPage c) (chOff c) true = .ok →
      (∀ b, s.startFault c = some b → Completes (.chStart via ch) s fun t =>
        t.flag (PG_FAULT (hvPage h) b) = true ∧ t.fget (F.HV_LASTF_L h) = c % 64 ∧
        OnlyRegs s t [hvPage h * 4096 + 0x020, (F.HV_LASTF_L h).addr]) ∧
      (s.startFault c = none → Completes (.chStart via ch) s armed) ∧
      (s.chState c ≠ chIDLE → Completes (.chStop via ch) s idle) ∧
      (s.chState c = chIDLE → exec (.chStop via ch) s = .next s)) ∧
    (∀ (via : Via) (hv : Fin 16), hv.val = h → s.judge via (hvPage h) (if c % 64 < 32 then 0x050 else 0x054) true = .ok →
      s.startFault c = none → Completes (.hvStart via hv (BitVec.ofNat 64 (2 ^ (c % 64)))) s armed) ∧
    (∀ (via : Via) (hv : Fin 16) (mask : BitVec 64), mask.toNat < 2 ^ 32 → s.judge via (hvPage hv.val) 0x050 true = .ok →
      Completes (.hvStart via hv mask) s fun t =>
        t = ((List.range 64).filter mask.toNat.testBit).foldl (fun u l => u.chStart (64 * hv.val + l)) s) ∧
    (∀ (via : Via) (hv : Fin 16) (d : Bool), s.judge via (hvPage hv.val) 0x040 true = .ok →
      (s.flag (F.HV_CTL_DMODE hv.val) ≠ d → s.fget (F.HV_LOAD_NCH hv.val) ≠ 0 → Completes (.dmodeWrite via hv d) s fun t =>
        t.flag (PG_FAULT (hvPage hv.val) 5) = true ∧ OnlyRegs s t [hvPage hv.val * 4096 + 0x020]) ∧
      (s.fget (F.HV_LOAD_NCH hv.val) = 0 → Completes (.dmodeWrite via hv d) s fun t =>
        t.flag (F.HV_CTL_DMODE hv.val) = d ∧ OnlyRegs s t [(F.HV_CTL_DMODE hv.val).addr])) ∧
    (∀ (via : Via) (v : Word), s.judge via (chPage c) (chOff c + 0x1C) true = .ok → (s.live c = true ∨ s.chState c = chCOAST) →
      ((∃ n, via = .hive n) → s.chState c = chVECTOR → exec (.ncoWordWrite via ch 0x1C v) s = .next s) ∧
      ((∀ n, via ≠ .hive n) ∨ s.chState c ≠ chVECTOR → Completes (.ncoWordWrite via ch 0x1C v) s fun t =>
        (t.chan c).newCar = some (v.toNat % 2 ^ 16 * 2 ^ 32 + s.fget (F.CH_CAR_FL c)) ∧ t.carNow c = s.carNow c ∧
        ∀ a, a ≠ (F.CH_CAR_FH_FCW c).addr → t.reg a = s.reg a)) ∧
    (s.chState c = chPULLIN → s.flag (F.CH_FLAGS_PLOCK c) = false → Completes (.channelLockTimeout ch) s fun t =>
      idle t ∧ ∀ x, Tab.get (fun _ => none) s.dfly.tries c = some x → t.dfly.ended = s.dfly.ended ++ [x]) ∧
    (let ps := (s.recent c 10000000).map fun d => d.1
     let i := sumNat (ps.map fun p => p.1.natAbs ^ 2)
     let q := sumNat (ps.map fun p => p.2.natAbs ^ 2)
     s.live c = true → ps ≠ [] → 0 < i + q →
      ((s.fget (F.CH_LOCK_PLLTHR c) : Int) * (i + q : Nat) ≤ 256 * ((i : Int) - q) → 1 ≤ (s.chan c).okM → s.chState c = chPULLIN →
        s.flag (F.CH_FLAGS_PLOCK c) = false →
        Completes (.lockEstimate ch) s fun t =>
          t.flag (F.CH_FLAGS_PLOCK c) = true ∧ t.chState c = chTRACK ∧ (t.fget (F.CH_STAT_EVC c)).testBit evLOCK = true ∧
          (s.fget (F.CH_STAT_EVC c) = 0 → Rises s t (chPage c) (c % 16))) ∧
      (256 * ((i : Int) - q) < ((s.fget (F.CH_LOCK_PLLTHR c) : Int) - 64) * (i + q : Nat) → s.flag (F.CH_FLAGS_PLOCK c) = true →
        Completes (.lockEstimate ch) s fun t =>
          t.flag (F.CH_FLAGS_PLOCK c) = false ∧ t.flag (F.CH_FLAGS_SLIP c) = true ∧ t.fget (F.CH_LOCKT c) = 0 ∧
          (t.chan c).halfAdj = false ∧ t.chState c = s.chState c)) ∧
    (s.live c = true → s.recent c 20000000 ≠ [] → Completes (.cn0Estimate ch) s fun t =>
        (∀ x, cn0Ratio ((tapsOf (s.chan c).ctl).testBit 9) (s.recent c 20000000) (s.dumpNs c) = some x →
          (t.fget (F.CH_CN0_V c) : Int) = clampInt 0 0xFFFF (dB16 x.1 x.2)) ∧ t.comb = s.comb ∧
        ∀ a, a ≠ (F.CH_CN0_V c).addr → t.reg a = s.reg a) ∧
    (s.chState c = chTRACK → s.fget (F.CH_CN0_V c) < 16 * s.fget (F.CH_LOCK_LOSSCN0 c) →
      s.fget (F.CH_LOCK_LOSST c) ≤ (s.chan c).low → Completes (.cn0Loss ch) s fun t =>
        t.chState c = chLOST ∧ t.mapBit F.VC_TAKEN c = false ∧ (t.fget (F.CH_STAT_EVC c)).testBit evLOSS = true ∧
        t.fget (F.HV_LOAD_LOAD h) = s.fget (F.HV_LOAD_LOAD h) ∧ t.dfly.again = s.dfly.again ++ [(c, 3)] ∧ t.comb = s.comb)

/-- R172 to R174, R176, R288: CODE_EPOCH_DUMP, GATHER_BLOCK_WRITE, GATHER_FRAME_DONE, GA_CLRLAT, WV_LOAD_GO, WV_RST and WV_RUN
complete. -/
def Obligations.GatherAndHiveWeevilsAct : Prop :=
  ∀ s : State,
    (∀ (ch : Fin 1024) (d : Nat × Dump),
      let h := ch.val / 64
      let len := s.fget (F.HV_CSLEN_V h)
      let wp := s.fget (F.HV_CSWP_V h)
      let at_ := s.fget (F.HV_CSBASE_V h) * 64 + 64 * wp
      s.hive.csOut.find? (fun d => decide (d.2.ch = ch.val)) = some d → s.grid h = false → s.byp = false → s.domPowered (13 + h) = true →
      ((len = 0 ∨ (wp + 1) % len = s.fget (F.HV_CSRP_V h) % len) → Completes (.codeEpochDump ch) s fun t =>
        t.fget (F.HV_CSDROP h) = satInc 32 (s.fget (F.HV_CSDROP h)) ∧ Rises s t (hvPage h) 0 ∧ t.comb = s.comb) ∧
      (len ≠ 0 → (wp + 1) % len ≠ s.fget (F.HV_CSRP_V h) % len → s.combOn (combQuarter at_) = true →
        Completes (.codeEpochDump ch) s fun t =>
          t.fget (F.HV_CSWP_V h) = (wp + 1) % len ∧ t.combBytes at_ 4 = [BitVec.ofNat 8 (ch.val % 64), BitVec.ofNat 8 d.2.status] ++ leBytes 2 d.1 ∧
          (t.core h).ipend.getLsbD 1 = true ∧ t.fget (F.HV_CSDROP h) = s.fget (F.HV_CSDROP h) ∧
          ∀ a, a < 2 ^ 24 → (∀ i < 64, (at_ + i) % 2 ^ 24 ≠ a) → t.combByte a = s.combByte a)) ∧
    (∀ (h : Fin 16) (f : GFrame), s.hive.frame = some f → f.todo.contains h.val = true → (f.block h.val).length = 3904 →
      s.combOn (combQuarter (s.frameBase f.seq + 0x40 + 0xF40 * h.val)) = true →
      Completes (.gatherBlockWrite h) s fun t =>
        t.combBytes (s.frameBase f.seq + 0x40 + 0xF40 * h.val) 3904 = f.block h.val ∧
        t.hive.frame = some { f with todo := f.todo.erase h.val, hmask := f.hmask + 2 ^ h.val } ∧
        (t.core h.val).ipend.getLsbD 0 = true ∧
        ((s.core h.val).ipend.getLsbD 0 = true → Rises s t (0x081 + 8 * h.val) 1)) ∧
    (∀ (n : Nat) (f : GFrame), s.hive.frame = some f → f.todo = [] → s.combOn (combQuarter (s.frameBase f.seq)) = true →
      Completes (.gatherFrameDone n) s fun t =>
        t.combBytes (s.frameBase f.seq) 24 = wordBytes ([BitVec.ofNat 32 f.seq] ++ timeWords f.t ++
          [BitVec.ofNat 32 f.hmask, if f.stepped then 1 else 0]) ∧
        t.fget F.GA_SEQ = f.seq % 2 ^ 32 ∧ t.fget F.GA_MAXLAT_V = max (s.fget F.GA_MAXLAT_V) (min n 0xFFFF) ∧ t.hive.frame = none ∧ t.hive.last = some f ∧
        Rises s t 0x100 0 ∧ (2618 < n → t.fget F.GA_LATE = satInc 32 (s.fget F.GA_LATE) ∧ Rises s t 0x100 1)) ∧
    (∀ (n : Nat) (f : GFrame), s.hive.frame = some f → f.todo ≠ [] → exec (.gatherFrameDone n) s = .next s) ∧
    (∀ via : Via, s.judge via 0x100 0x040 true = .ok → Completes (.gaClrlat via) s fun t =>
        t.fget F.GA_MAXLAT_V = 0 ∧ OnlyRegs s t [0x100050]) ∧
    (∀ (via : Via) (h : Fin 16), s.judge via (wvPage h.val) 0x050 true = .ok →
      (s.flag (F.WV_CTL_RUN h.val) = true → Completes (.wvLoadGo via h) s fun t =>
        t.flag (PG_FAULT (wvPage h.val) 0) = true ∧ OnlyRegs s t [wvPage h.val * 4096 + 0x020]) ∧
      (s.flag (F.WV_CTL_RUN h.val) = false → (∀ q < 4, s.combOn q = true) →
        Completes (.wvLoadGo via h) s fun t =>
          (∀ i, i < min 16384 (if s.fget (F.WV_LDCTL_WORDS h.val) = 0 then 16384 else s.fget (F.WV_LDCTL_WORDS h.val)) →
            Tab.get (fun _ => 0) (if s.flag (F.WV_LDCTL_DATA h.val) then (t.core h.val).data else (t.core h.val).code) i =
              BitVec.ofNat 16 ((s.combByte (64 * s.fget (F.WV_LDSRC_V h.val) + 2 * i)).toNat +
                256 * (s.combByte (64 * s.fget (F.WV_LDSRC_V h.val) + 2 * i + 1)).toNat)) ∧
          t.comb = s.comb)) ∧
    (∀ (via : Via) (h : Fin 16), s.judge via (wvPage h.val) 0x040 true = .ok →
      (Completes (.wvRst via h) s fun t =>
        (t.core h.val).p = 8 ∧ (t.core h.val).a = 0 ∧ (t.core h.val).ipend = 0 ∧ (t.core h.val).stack = [] ∧
        (t.core h.val).faulted = false ∧ (t.core h.val).code = (s.core h.val).code ∧ (t.core h.val).data = (s.core h.val).data ∧
        (t.core h.val).table = (s.core h.val).table ∧ (t.core h.val).micro = (s.core h.val).micro ∧ t.comb = s.comb ∧
        ∀ a, a ≠ (F.WV_STAT_FAULT h.val).addr → t.reg a = s.reg a) ∧
      ∀ on, Completes (.wvRun via h on) s fun t =>
        t.flag (F.WV_CTL_RUN h.val) = on ∧ t.flag (F.WV_STAT_RUNNING h.val) = (on && !(s.core h.val).faulted) ∧
        OnlyRegs s t [(F.WV_CTL_RUN h.val).addr, (F.WV_STAT_FAULT h.val).addr])

/-- R189 to R192, R208, R220: FULL_UPDATE, FIX_LOSS_TIMEOUT, RESETF, EXCLUSION_READMIT, MODEL_LOAD and MODEL_CHECK_DONE complete. -/
def Obligations.FullFilterAndModelTables : Prop :=
  ∀ s : State,
    (∀ u : FullIn, s.scOn = true → s.epochIndex % s.fullD = 0 → s.byp = false → s.follower = false → s.openTenants = [] → s.meas.held = [] →
      let pl := s.modelActivate.levels u
      let plOk := decide (pl.1 < s.mf 0x34 16 16) && decide (pl.2.1 < s.mf 0x34 0 16) && decide (pl.2.2 < s.mf 0x38 16 16)
      Completes (.fullUpdate u) s fun t =>
        t.get96 F.SC_FT = s.epochT % 2 ^ 96 ∧ t.fget F.IN_PL_HPL = min pl.1 0xFFFF ∧ t.fget F.IN_PL_VPL = min pl.2.1 0xFFFF ∧
        t.scarab.seq = (s.scarab.seq + 1) % 2 ^ 32 ∧
        ((∀ q < 4, s.combOn q = true) →
          t.combBytes (s.fget F.SC_SOLB_ADDR * 64 + 128 * (s.scarab.seq % max 1 (s.fget F.SC_SOLB_NREC))) 128 = wordBytes t.scarab.sol) ∧
        (∀ m, s.scarab.pending = some m → t.scarab.model = some m ∧ t.flag F.SC_MRES_PENDING = false ∧ Rises s t 0x101 1) ∧
        (s.scarab.pending = none →
          t.scarab.innov = (s.used u).1.map (s.innovation u) ∧
          t.fget F.SC_STAT_NSV = min 255 ((s.used u).1.map fun g => s.satOf g.ch.val).eraseDups.length ∧
          (s.fstate = fsNOFIX → u.posSdM < 100 → u.residOk = true → t.fstate = fsFIX ∧ Rises s t 0x101 0) ∧
          (s.fstate = fsFIX → s.faultFound u = false → plOk = true → t.fstate = fsFIX) ∧
          (s.fstate = fsFIX → s.faultFound u = false → plOk = false → t.fstate = fsDEGRADED ∧ Rises s t 0x101 0 ∧ Rises s t 0x103 0) ∧
          (s.fstate = fsFIX → s.faultFound u = true → s.culprit u = none → t.fstate = fsFAULT ∧ Rises s t 0x101 2) ∧
          (∀ x, s.fstate = fsFIX → s.faultFound u = true → s.culprit u = some x → plOk = true → t.fstate = fsFIX ∧ x ∈ t.scarab.excl))) ∧
    (∀ u : FullIn, s.scOn = false ∨ s.epochIndex % s.fullD ≠ 0 → exec (.fullUpdate u) s = .next s) ∧
    (∀ u : FullIn, s.scOn = true → s.epochIndex % s.fullD = 0 →
      (s.byp = true → exec (.fullUpdate u) s = .next s.modelActivate) ∧
      (s.byp = false → s.follower = true → s.openTenants = [] → s.meas.held = [] → s.scarab.pending = none → u.master.length = 32 →
        Completes (.fullUpdate u) s fun t => t.scarab.sol = u.master ∧ t.scarab.clkBias = u.clk.offset ∧ t.scarab.clkDrift = u.clk.drift ∧
          t.fstate = s.fstate ∧ t.scarab.seq = s.scarab.seq ∧ t.comb = s.comb)) ∧
    (∀ b, s.scOn = true → s.scarab.fewT = some b → b + 2 * sec ≤ s.now → Completes .fixLossTimeout s fun t =>
        t.fstate = fsNOFIX ∧ (s.fstate ≠ fsNOFIX → Rises s t 0x101 0) ∧ t.scarab.okPl = 0 ∧ t.scarab.okRes = 0 ∧ t.comb = s.comb ∧
        ∀ a, a ∉ [0x101044, 0x10101C] → t.reg a = s.reg a) ∧
    (∀ via : Via, s.judge via 0x101 0x040 true = .ok → Completes (.resetf via) s fun t =>
        t.fstate = fsNOFIX ∧ (s.fstate ≠ fsNOFIX → Rises s t 0x101 0) ∧ t.scarab.okPl = 0 ∧ t.scarab.okRes = 0 ∧
        ∀ a, a ∉ [0x101044, 0x10101C] → t.reg a = s.reg a) ∧
    (∀ (y : Fin 8) (p : Byte), Completes (.exclusionReadmit y p) s fun t =>
        t.scarab.excl = s.scarab.excl.filter (fun x => x ≠ (y.val, p.toNat)) ∧
        t.fget F.IN_STAT_NEXCLD = min 255 (s.scarab.excl.filter (fun x => x ≠ (y.val, p.toNat))).length ∧
        ∀ a, a ∉ [0x10304C, 0x103050, 0x103048] → t.reg a = s.reg a) ∧
    (∀ via : Via, s.judge via 0x101 0x04C true = .ok →
      (s.flag F.SC_MRES_PENDING = true → Completes (.modelLoad via) s fun t =>
        t.flag (PG_FAULT 0x101 0) = true ∧ OnlyRegs s t [0x101020]) ∧
      (s.flag F.SC_MRES_PENDING = false → s.flag F.SC_MRES_BUSY = false → (∀ q < 4, s.combOn q = true) →
        Completes (.modelLoad via) s fun t => t.flag F.SC_MRES_BUSY = true ∧
          t.scarab.check = some (bytesWords (s.combBytes (s.fget F.SC_MTAB_ADDR * 64) 132)) ∧ t.comb = s.comb)) ∧
    (∀ m, s.scarab.check = some m → s.runner 0x0038 = none → Completes .modelCheckDone s fun t =>
        t.flag F.SC_MRES_BUSY = false ∧ t.fget F.SC_MRES_CODE = modelCode m ∧ t.scarab.check = none ∧ Rises s t 0x101 1 ∧
        (modelCode m = 0 → t.flag F.SC_MRES_PENDING = true ∧ t.scarab.pending = some m) ∧
        (modelCode m ≠ 0 → t.flag F.SC_MRES_PENDING = s.flag F.SC_MRES_PENDING ∧ t.scarab.pending = s.scarab.pending))

/-- R183, R193 to R200, R202, R203, R205: VECTOR_TICK, GHOLD_EXPIRY, RELALL, COAST_REFRESH, COAST_TIMEOUT, BEAM_WEIGHTS and
COMBINER_WEIGHTS complete. -/
def Obligations.VectorCoreFallsAndReturns : Prop :=
  let fell (s t : State) (k v : Nat) : Prop := t.vstate = v ∧ t.fget F.VC_STAT_GCAUSE = k ∧
    t.fget F.VC_CNT_GFALL = satInc 16 (s.fget F.VC_CNT_GFALL) ∧ t.get96 F.VC_GT = s.gridNow % 2 ^ 96 ∧ Rises s t 0x102 1 ∧
    ∀ ch ∈ s.vecChans, (t.chan ch).release = true
  ∀ s : State,
    (∀ (xs : List VecChan) (sing : Bool) (n : Nat), s.scOn = true → mVEC s = true → s.flag F.GRID_DUMP.act = false →
      s.flag F.GA_CTL_EN = true → s.vstate = vsACTIVE → s.scarab.g4 = none →
      let ys := xs.foldr insertVec []
      let vs := ys.filter fun x => decide (s.chState x.ch.val = chVECTOR)
      let tr := ys.filter fun x => decide (s.chState x.ch.val = chTRACK)
      let g := (tr.foldl State.shadowTest (ys.foldl State.noteTick s)).globalCause vs sing
      g ≠ 0 → Completes (.vectorTick xs sing n) s fun t =>
        fell s t g vsHOLD ∧ t.fget F.VC_CNT_CFALL = s.fget F.VC_CNT_CFALL ∧ t.comb = s.comb) ∧
    (∀ (xs : List VecChan) (n : Nat), s.scOn = true → mVEC s = true → s.flag F.GRID_DUMP.act = false →
      s.flag F.GA_CTL_EN = true → s.vstate = vsACTIVE → s.scarab.g4 = none → xs.Pairwise (fun x y => x.ch ≠ y.ch) →
      (∀ x ∈ xs, s.chState x.ch.val = chVECTOR ∧ (s.chan x.ch.val).vlow = 0) →
      let u := (xs.foldr insertVec []).foldl State.noteTick s
      u.globalCause (xs.foldr insertVec []) false = 0 → Completes (.vectorTick xs false n) s fun t =>
        t.vstate = vsACTIVE ∧ ∀ x ∈ xs, (u.vecCause x = 0 → t.chan x.ch.val = (u.steerWords x).chan x.ch.val) ∧
          (u.vecCause x ≠ 0 → (t.chan x.ch.val).release = true ∧ t.mapBit F.VC_REL x.ch.val = true ∧
            (t.chan x.ch.val).newCar = (s.chan x.ch.val).newCar)) ∧
    (∀ (x : VecChan) (n : Nat), s.scOn = true → mVEC s = true → s.flag F.GRID_DUMP.act = false →
      s.flag F.GA_CTL_EN = true → s.vstate = vsACTIVE → s.scarab.g4 = none → s.dumpUsable x = false →
      let w := s.wordsFor x.ch.val (s.doppler x.ch.val x.rate x.offRate x.satDrift)
      let car := unsigned 48 (w.1 + (if mVCARR s then (s.chan x.ch.val).vres else 0) / 2 ^ 16)
      let code := unsigned 40 (w.2 + x.codeErr / (s.strFs (strmOf (s.chan x.ch.val).strm) / 1000 : Nat))
      (s.chState x.ch.val = chVECTOR → s.vecCause x = 0 → (s.chan x.ch.val).vlow = 0 → Completes (.vectorTick [x] false n) s fun t =>
        (t.chan x.ch.val).newCar = some car ∧ (t.chan x.ch.val).newCode = some code ∧
        (t.chan x.ch.val).release = (s.chan x.ch.val).release ∧ t.vstate = vsACTIVE) ∧
      (s.chState x.ch.val = chVECTOR → s.vecCause x ≠ 0 → (s.chan x.ch.val).vlow = 0 → Completes (.vectorTick [x] false n) s fun t =>
        (t.chan x.ch.val).release = true ∧ t.mapBit F.VC_REL x.ch.val = true ∧ t.fget F.VC_LASTCH_CH = x.ch.val ∧
        t.fget F.VC_LASTCH_CAUSE = s.vecCause x ∧ t.fget F.VC_CNT_CFALL = satInc 16 (s.fget F.VC_CNT_CFALL) ∧ Rises s t 0x102 0 ∧
        (t.chan x.ch.val).newCar = (s.chan x.ch.val).newCar ∧ t.vstate = vsACTIVE) ∧
      (s.canTake x = true → 1 ≤ s.mf 0x2C 16 8 → Completes (.vectorTick [x] false n) s fun t =>
        (t.chan x.ch.val).take = true ∧ (t.chan x.ch.val).newCar = some car ∧ Rises s t 0x102 2 ∧
        t.chState x.ch.val = chTRACK)) ∧
    (∀ b, s.scarab.holdT = some b → s.vstate = vsHOLD → s.fixed = true → b + s.mf 0x2C 24 8 * sec ≤ s.now →
      Completes .gholdExpiry s fun t => t.vstate = vsACTIVE ∧ Rises s t 0x102 3 ∧ OnlyRegsEvents s t [0x102040] [0x102]) ∧
    (∀ via : Via, s.judge via 0x101 0x040 true = .ok →
      (s.vstate = vsACTIVE → Completes (.relall via) s fun t => fell s t gcCMD vsHOLD ∧ t.comb = s.comb) ∧
      (s.vstate ≠ vsACTIVE → exec (.relall via) s = .next s)) ∧
    (∀ x : CoastSet, s.scOn = true → x.ch.val ∈ s.hive.chans.map Prod.fst → s.chState x.ch.val = chCOAST →
      let w := s.wordsFor x.ch.val (s.doppler x.ch.val x.rate x.offRate x.satDrift)
      Completes (.coastRefresh [x]) s fun t =>
        (t.chan x.ch.val).pred = some (x.cpi, x.cpf, x.carP, BitVec.ofInt 48 w.1, BitVec.ofInt 40 w.2) ∧ { t with hive := s.hive } = s ∧
        (∀ k ∈ s.hive.chans.map Prod.fst, k ≠ x.ch.val → s.chState k = chCOAST → t.chan k = (s.coastPlain k).chan k) ∧
        ∀ k, s.chState k ≠ chCOAST → t.chan k = s.chan k) ∧
    (s.scarab.bypT + 5 * sec ≤ s.now → Completes .coastTimeout s fun t =>
        (∀ ch < 1024, ch ∈ s.hive.chans.map Prod.fst → s.chState ch = chCOAST → t.chState ch = chLOST) ∧
        (∀ ch < 1024, s.chState ch ≠ chCOAST → t.chState ch = s.chState ch) ∧ t.comb = s.comb) ∧
    (s.now < s.scarab.bypT + 5 * sec → exec .coastTimeout s = .next s) ∧
    (∀ (ch : Fin 1024) (x : Int × Int × Int), s.scOn = true → mBEAM s = true → s.flag F.IN_STAT_ATTV = true → s.live ch.val = true →
      2 ≤ elems (s.chan ch.val).strm → Completes (.beamWeights [(ch, x)]) s fun t =>
        (t.chan ch.val).weights = some (s.beamWords ch.val x) ∧ { t with hive := s.hive } = s ∧ ∀ k, k ≠ ch.val → t.chan k = s.chan k) ∧
    (∀ (g : Fin 2) (w : List Cx), s.scOn = true → s.fget (F.CMB_CTL_MODE g.val).act = 2 →
      capon (s.groupCov g.val) (s.vertical g.val) = some w → Completes (.combinerWeights g) s fun t =>
        Tab.get (fun _ => none) t.sieve.weights g.val = some (s.memberWords g.val w) ∧ { t with sieve := s.sieve } = s)

/-- R236, R237, R242, R243: PULSE_HANDOFF, TP_EDGE, TP_TRAILING_EDGE, TP_FLT_RELEASE, REARM and TP_CTL_WRITE complete. -/
def Obligations.TimePulsesAreHandedOffAndChecked : Prop :=
  ∀ (s : State) (n : Fin 2),
    (∀ i : Fin 512,
      let e := s.entry i.val
      let m := e.arg.toNat % 2
      s.armed i.val = true → e.inCmp = true → actionOf e = 2 → e.handed = false → e.cmp ≠ allOnes → s.now + us 10 ≤ e.cmp →
        s.tioOn = true →
      (s.now + us 10 + s.tickMax ≤ e.cmp → exec (.pulseHandoff i) s = .next s) ∧
      (e.cmp < s.now + us 10 + s.tickMax →
       (s.flag (F.TP_CTL_EN m) = true → (s.fget (F.TP_CTL_QUAL m)).testBit s.skyState = true → s.fget (F.TP_CTL_UNCMAX m) = 0 →
        s.byp = false → Completes (.pulseHandoff i) s fun t =>
          (t.entry i.val).handed = true ∧ (t.entry i.val).cmp = e.cmp ∧ t.regs = s.regs ∧ t.comb = s.comb ∧
          (t.tp m).fir = (s.tp m).fir ++ [⟨e.cmp, sgn 32 (s.fget (F.TP_OFS m)), max 100 (s.fget (F.TP_WID m)),
            s.flag (F.TP_CTL_POL m), false, false⟩]) ∧
      (s.flag (F.TP_CTL_EN m) = false → Completes (.pulseHandoff i) s fun t =>
          (t.entry i.val).handed = true ∧ t.fget (F.TP_CNT_SKIP m) = satInc 16 (s.fget (F.TP_CNT_SKIP m)) ∧
          (t.tp m).fir = (s.tp m).fir ∧ t.tio.sendQ.length = s.tio.sendQ.length + 1 ∧
          OnlyRegs s { t with sched := s.sched, tio := s.tio } [(F.TP_CNT_SKIP m).addr]))) ∧
    (∀ i : Fin 512, s.armed i.val = false → exec (.pulseHandoff i) s = .next s) ∧
    (∀ (ea eb : Int) (sw : Bool) (f : TpFiring) (r : List TpFiring), (s.tp n.val).fir = f :: r → s.tioOn = true →
      (f.late = false → s.tickOf f.place = false → exec (.tpEdge n ea eb sw) s = .next s) ∧
      (f.late = true → Completes (.tpEdge n ea eb sw) s fun t =>
        t.fget (F.TP_CNT_SKIP n.val) = satInc 16 (s.fget (F.TP_CNT_SKIP n.val)) ∧ t.fget (F.TP_EDGES n.val) = s.fget (F.TP_EDGES n.val) ∧
        (t.tp n.val).fir = r) ∧
      (f.late = false → s.tickOf f.place = true → sw = true → s.inSwitch f.place = true → Completes (.tpEdge n ea eb sw) s fun t =>
        t.fget (F.TP_CNT_SKIP n.val) = satInc 16 (s.fget (F.TP_CNT_SKIP n.val)) ∧ t.fget (F.TP_EDGES n.val) = s.fget (F.TP_EDGES n.val) ∧
        (t.tp n.val).fir = r) ∧
      (f.late = false → s.tickOf f.place = true → tooClose (s.tp n.val).last f.place = false → (sw = false ∨ s.inSwitch f.place = false) →
        (ea.natAbs ≤ 100 → Completes (.tpEdge n ea eb sw) s fun t =>
          t.fget (F.TP_EDGES n.val) = satInc 32 (s.fget (F.TP_EDGES n.val)) ∧ t.fget (F.TP_ERR n.val) = (ea % 2 ^ 32).toNat ∧
          t.flag (F.TP_STAT_ACT n.val) = s.flag (F.TP_STAT_ACT n.val) ∧ t.flag (F.TP_STAT_FLTSTB n.val) = decide (100 < eb.natAbs) ∧
          (s.flag (F.TP_STAT_DUAL n.val) = false → t.flag (F.TP_STAT_FLT n.val) = s.flag (F.TP_STAT_FLT n.val)) ∧
          (t.tp n.val).fir = r ∧ (t.tp n.val).pulse = true ∧ (t.tp n.val).dline = s.fineSteps f.place ∧ t.tio.sendQ.length = s.tio.sendQ.length + 1 ∧ t.comb = s.comb) ∧
        (100 < ea.natAbs → ea.natAbs ≤ 200000 → eb.natAbs ≤ 100 → s.flag (F.TP_STAT_ACT n.val) = false →
          s.flag (F.TP_STAT_FAULTB n.val) = false → Completes (.tpEdge n ea eb sw) s fun t =>
            t.flag (F.TP_STAT_FAULTA n.val) = true ∧ t.flag (F.TP_STAT_ACT n.val) = true ∧ t.flag (F.TP_STAT_FLT n.val) = true ∧
            t.fget (F.TP_CNT_FAULTS n.val) = satInc 16 (s.fget (F.TP_CNT_FAULTS n.val)) ∧ Rises s t 0x113 n.val ∧
            t.fget (F.TP_ERR n.val) = (ea % 2 ^ 32).toNat))) ∧
    (∀ k, (s.tp n.val).polWait = some k → (s.tp n.val).pulse = true → s.tickOf (s.tp n.val).trail = true → Completes (.tpTrailingEdge n) s fun t =>
        (t.tp n.val).pulse = false ∧ t.regs = s.regs ∧ t.comb = s.comb ∧
        (k = 1 → (t.tp n.val).pol = s.flag (F.TP_CTL_POL n.val) ∧ (t.tp n.val).polWait = none) ∧
        (2 ≤ k → (t.tp n.val).polWait = some (k - 1) ∧ (t.tp n.val).pol = (s.tp n.val).pol)) ∧
    (∀ b, (s.tp n.val).fltT = some b →
      (b + ms (max 1 (s.fget (F.TP_CTL_FLTW n.val))) ≤ s.now → Completes (.tpFltRelease n) s fun t =>
        t.flag (F.TP_STAT_FLT n.val) = false ∧ OnlyRegs s { t with tio := s.tio } [(F.TP_STAT_FLT n.val).addr]) ∧
      (s.now < b + ms (max 1 (s.fget (F.TP_CTL_FLTW n.val))) → exec (.tpFltRelease n) s = .next s)) ∧
    (∀ via : Via, s.judge via 0x113 (0x040 + 0x20 * n.val) true = .ok → Completes (.rearm via n) s fun t =>
        t.flag (F.TP_STAT_FAULTA n.val) = false ∧ t.flag (F.TP_STAT_FAULTB n.val) = false ∧ t.flag (F.TP_STAT_CHKF n.val) = false ∧
        t.flag (F.TP_STAT_DUAL n.val) = false ∧ t.flag (F.TP_STAT_ACT n.val) = s.flag (F.TP_STAT_ACT n.val) ∧
        OnlyRegs s t [(F.TP_STAT_FLT n.val).addr]) ∧
    (∀ (via : Via) (v : Word), s.judge via 0x113 (0x040 + 0x20 * n.val + 8) true = .ok →
      (5000000 < (sgn 32 v.toNat).natAbs → Completes (.tpCtlWrite via n 8 v) s fun t =>
        t.flag (PG_FAULT 0x113 0) = true ∧ OnlyRegs s t [0x113020]) ∧
      ((sgn 32 v.toNat).natAbs ≤ 5000000 → Completes (.tpCtlWrite via n 8 v) s fun t =>
        t.fget (F.TP_OFS n.val) = v.toNat ∧ OnlyRegs s t [(F.TP_OFS n.val).addr])) ∧
    (∀ (via : Via) (v : Word), s.judge via 0x113 (0x040 + 0x20 * n.val) true = .ok → (s.tp n.val).fir = [] →
      (s.tp n.val).pulse = false → v.getLsbD 2 = false → Completes (.tpCtlWrite via n 0 v) s fun t =>
        (t.tp n.val).pol = v.getLsbD 1 ∧ (t.tp n.val).polWait = none ∧ t.flag (F.TP_CTL_EN n.val) = v.getLsbD 0 ∧
        ∀ a, a ≠ (F.TP_CTL_EN n.val).addr → t.reg a = s.reg a) ∧
    (∀ (via : Via) (v : Word), s.judge via 0x113 (0x040 + 0x20 * n.val) true = .ok → (s.tp n.val).fir ≠ [] → v.getLsbD 2 = false →
      Completes (.tpCtlWrite via n 0 v) s fun t =>
        (t.tp n.val).pol = (s.tp n.val).pol ∧ (t.tp n.val).fir = (s.tp n.val).fir ∧ t.flag (F.TP_CTL_EN n.val) = v.getLsbD 0 ∧
        (t.tp n.val).polWait = some ((s.tp n.val).fir.length + if (s.tp n.val).pulse then 1 else 0)) ∧
    (∀ (via : Via) (v : Word), s.judge via 0x113 (0x040 + 0x20 * n.val + 4) true = .ok → Completes (.tpCtlWrite via n 4 v) s fun t =>
        t.fget (F.TP_WID n.val) = v.toNat % 2 ^ (F.TP_WID n.val).w ∧ OnlyRegs s t [(F.TP_WID n.val).addr])

/-- R244, R246 to R248, R252, R253: EVENT_EDGE, EV_POP, MAINS_CROSSING, MAINS_GAP, MN_CTL_WRITE, STEER_UPDATE and STAMP_SEND
complete. -/
def Obligations.StampsMainsAndSteering : Prop :=
  ∀ s : State,
    (∀ (n : Fin 8) (rise : Bool) (j : Byte) (hold since : Nat),
      let picked := s.tioOn && s.flag (F.EV_CFG_EN n.val) && (s.fget (F.EV_CFG_EDGE n.val) = 0 && rise ||
        s.fget (F.EV_CFG_EDGE n.val) = 1 && !rise || decide (2 ≤ s.fget (F.EV_CFG_EDGE n.val)))
      (picked = false → exec (.eventEdge n rise j hold since) s = .next s) ∧
      (picked = true → hold < s.fget (F.EV_CFG_GLITCH n.val) ∨ since < 2 → Completes (.eventEdge n rise j hold since) s fun t =>
        t.fget (F.EV_CNT_REJ n.val) = satInc 16 (s.fget (F.EV_CNT_REJ n.val)) ∧ OnlyRegs s t [(F.EV_CNT_REJ n.val).addr]) ∧
      (picked = true → s.fget (F.EV_CFG_GLITCH n.val) ≤ hold → 2 ≤ since →
        (256 ≤ s.tio.fifo.length → Completes (.eventEdge n rise j hold since) s fun t =>
          t.fget (F.EV_CNT_DROP n.val) = satInc 16 (s.fget (F.EV_CNT_DROP n.val)) ∧ t.tio.fifo = s.tio.fifo ∧ Rises s t 0x114 0) ∧
        (s.tio.fifo.length < 256 → Completes (.eventEdge n rise j hold since) s fun t =>
          t.fget F.EV_FILL_V = s.tio.fifo.length + 1 ∧
          (⟨n.val, rise, Tab.get (fun _ => 0) s.tio.evSeq n.val, s.stampAt j.toNat, s.byp, s.skyState, s.fget F.UNC⟩ : Stamp) ∈ t.tio.fifo ∧
          (∀ x ∈ s.tio.fifo, x ∈ t.tio.fifo) ∧ (s.tio.fifo.length = 127 → Rises s t 0x114 1) ∧ t.comb = s.comb))) ∧
    (∀ c : Core, s.domPowered 1 = true → s.boot.dead = false → s.domState (pageDom 0x114) = dON →
      (s.tio.fifo = [] → Completes (.evPop c) s fun t => t.out = [0] ∧ { t with out := s.out } = s) ∧
      (∀ x r, s.tio.fifo = x :: r → x.skyst < 4 → x.input < 8 → x.seq < 65536 → Completes (.evPop c) s fun t =>
        (∃ w, t.out = [w] ∧ w.getLsbD 31 = true) ∧ t.tio.fifo = r ∧ t.get96 F.EV_T = x.t % 2 ^ 96 ∧
        t.fget F.EV_FILL_V = r.length % 512 ∧
        t.tio.sendQ.length = s.tio.sendQ.length + (if c = .warden then 1 else 0) ∧ t.comb = s.comb)) ∧
    (∀ (j : Byte) (high : Nat), s.mnAccepts high = false → exec (.mainsCrossing j high) s = .next s) ∧
    (∀ (j : Byte) (high : Nat), (s.fget F.AON_CTL_CEN).testBit 2 = true → s.mnAccepts high = true →
      (s.tioOn = false → s.aon.mnCyc + 1 < 2 ^ 32 → Completes (.mainsCrossing j high) s fun t =>
        t.aon.mnCyc = s.aon.mnCyc + 1 ∧ { t with aon := s.aon } = s) ∧
      (s.tioOn = true → Completes (.mainsCrossing j high) s fun t =>
        t.aon.mnCyc = (s.aon.mnCyc + 1) % 2 ^ 32 ∧ t.tio.cross.head? = some ((s.aon.mnCyc + 1) % 2 ^ 32, s.stampAt j.toNat) ∧
        t.get96 F.MN_ZT = s.stampAt j.toNat ∧ t.tio.sendQ.length = s.tio.sendQ.length + 1 ∧ t.comb = s.comb)) ∧
    (s.tioOn = true → s.tio.cross ≠ [] → s.tio.gapSeen = false → Completes .mainsGap s fun t =>
        t.fget F.MN_GAPS = satInc 32 (s.fget F.MN_GAPS) ∧ t.flag F.MN_FLAGS_GAP = true ∧ t.flag F.MN_STAT_LOCK = false ∧
        Rises s t 0x115 1 ∧ t.tio.gapSeen = true ∧ (s.flag F.MN_STAT_LOCK = true → Rises s t 0x115 0)) ∧
    (∀ (via : Via) (v : Word), s.judge via 0x115 0x040 true = .ok → Completes (.mnCtlWrite via v) s fun t =>
        t.flag F.MN_STAT_LOCK = false ∧ t.fget F.MN_CTL_NAVG = v.toNat / 2 ^ 16 % 16 ∧ t.flag F.MN_CTL_NOM = v.getLsbD 0 ∧
        ∀ a, a ∉ [0x115040, 0x115044, 0x11501C] → t.reg a = s.reg a) ∧
    (s.steerDue = false → exec .steerUpdate s = .next s) ∧
    (s.tioOn = true → s.fget F.ST_CTL_MODE = 3 → s.steerDue = true →
      ((s.skyState = skSTEERED ∨ s.skyState = skFOLLOW) → s.byp = false → Completes .steerUpdate s fun t =>
        (t.fget F.ST_OUT_CODE : Int) = clampInt (s.fget F.ST_MIN_CODE) (s.fget F.ST_MAX_CODE) ((s.fget F.ST_OUT_CODE : Int) +
          clampInt (-((max 1 (s.fget F.ST_CTL_MAXD) : Nat) : Int)) ((max 1 (s.fget F.ST_CTL_MAXD) : Nat) : Int)
            (roundDiv (s.steerE * sgn 32 (s.fget F.ST_GAIN)) 256000)) ∧
        t.fget F.ST_FERR = (s.steerE % 2 ^ 32).toNat ∧ t.tio.incCnt = 0 ∧
        ∀ a, a ∉ [0x116048, 0x116058, 0x11601C] → t.reg a = s.reg a) ∧
      (s.skyState = skHOLDOVER → Completes .steerUpdate s fun t =>
        t.fget F.ST_OUT_CODE = s.fget F.ST_OUT_CODE ∧ t.tio.stHeld = true ∧ (s.tio.stHeld = false → Rises s t 0x116 1))) ∧
    (s.fget F.ST_CTL_MODE ≠ 3 → exec .steerUpdate s = .next s) ∧
    (Completes .stampSend s fun t => t.tio.sendQ = [] ∧ t.sky = s.sky ∧ t.comb = s.comb)

/-- R225, R229, R232, R300, R301, R306, R309: FRAME_RECEIVE, RTCM_INPUT, BASE_EPOCH_CLOSE and AUTH_TIMEOUT complete. -/
def Obligations.FramesAndBaseDataAreTaken : Prop :=
  ∀ s : State,
    (∀ (c : Fin 8) (b : List Byte), s.domPowered 2 = true → frameOk b = false →
      (Completes (.frameReceive .spi c b) s fun t =>
        t.fget F.SPI_CNT_FERR = satInc 16 (s.fget F.SPI_CNT_FERR) ∧ Rises s t 0x152 0 ∧ OnlyRegsEvents s t [0x15204C] [0x152]) ∧
      ∀ u : Fin 4, Completes (.frameReceive (.uart u) c b) s fun t =>
        t.fget (F.U_CNT_FERR u.val) = satInc (F.U_CNT_FERR u.val).w (s.fget (F.U_CNT_FERR u.val)) ∧
        OnlyRegs s t [(F.U_CNT_FERR u.val).addr]) ∧
    (∀ (port : Port) (c : Fin 8) (b : List Byte), port ≠ .pcie → port ≠ .usb →
      (s.domPowered (portDom port) = false → exec (.frameReceive port c b) s = .next s) ∧
      (s.domPowered (portDom port) = true → frameOk b = true → frameOp b = some 0x0001 → Completes (.frameReceive port c b) s fun t =>
        t.tn.openIn = s.tn.openIn ++ [(port, c.val, b)] ∧ { t with tn.openIn := s.tn.openIn } = s) ∧
      (s.domPowered (portDom port) = true → frameOk b = true → frameCls b < 11 → frameOp b ≠ some 0x0001 →
        s.boundTo (frameTenant b) port c.val = false → Completes (.frameReceive port c b) s fun t =>
          t.tn = s.tn ∧ t.comb = s.comb ∧ (port = .spi → t.fget F.SPI_CNT_FERR = satInc 16 (s.fget F.SPI_CNT_FERR))) ∧
      (s.domPowered (portDom port) = true → frameOk b = true → frameCls b < 11 → frameOp b ≠ some 0x0001 →
        s.boundTo (frameTenant b) port c.val = true → (s.tenant (frameTenant b)).state = .opened →
        let i := 2 * frameTenant b
        let n := (frameItems (classPri (frameCls b)) b).length
        (s.queue i).part = [] → (s.queue i).batch = none → (∀ w ∈ s.tn.waiting, w.2 ≠ i) → n ≤ (s.queue i).cred →
        Completes (.frameReceive port c b) s fun t =>
          (t.queue i).ready.length = (s.queue i).ready.length + 1 ∧ (t.queue i).ready.getLast?.map msgBytes = some b ∧
          (t.queue i).cred = (s.queue i).cred - n ∧ t.comb = s.comb)) ∧
    (∀ (t : Fin 4096) (m : List Byte),
      (s.tn.base ≠ some t.val ∨ rtcmWhole m = false → Completes (.rtcmInput t m) s fun u =>
        u.scarab.baseBad = s.scarab.baseBad + 1 ∧ { u with scarab := s.scarab } = s) ∧
      (s.tn.base = some t.val → rtcmWhole m = true → rtcmNumber m = 1005 → Completes (.rtcmInput t m) s fun u =>
        u.scarab.baseId = some (rtcmStation m) ∧ { u with scarab.baseId := s.scarab.baseId } = s) ∧
      (∀ y, s.tn.base = some t.val → rtcmWhole m = true → msmAccepted (rtcmNumber m) = some y → s.scarab.baseOpen = none →
        (rtcmMore m = false → Completes (.rtcmInput t m) s fun u =>
          u.scarab.baseT = some s.now ∧ u.scarab.baseOpen = none ∧ { u with scarab := s.scarab } = s) ∧
        (rtcmMore m = true → Completes (.rtcmInput t m) s fun u =>
          u.scarab.baseT = s.scarab.baseT ∧ u.scarab.baseOpen = some [(y, false)] ∧ u.scarab.baseAt = some s.now ∧
          { u with scarab := s.scarab } = s))) ∧
    (∀ l b, s.scarab.baseOpen = some l → s.scarab.baseAt = some b →
      (b + ms 200 ≤ s.now → Completes .baseEpochClose s fun t =>
        t.scarab.baseT = some b ∧ t.scarab.baseOpen = none ∧ { t with scarab := s.scarab } = s) ∧
      (s.now < b + ms 200 → exec .baseEpochClose s = .next s)) ∧
    (∀ (prn : Byte) (b : Nat), (∀ ch ∈ s.hive.chans.map Prod.fst, s.chState ch = chTRACK ∨ s.chState ch = chVECTOR →
        ¬ (sysOf (sgSIG (s.chan ch).sig) = 1 ∧ sgPRN (s.chan ch).sig = prn.toNat)) →
      Tab.get (fun _ => none) s.meas.trackT prn.toNat = some b →
      (s.now < b + 300 * sec → exec (.authTimeout prn) s = .next s) ∧
      (b + 300 * sec ≤ s.now → Completes (.authTimeout prn) s fun t =>
        Tab.get (fun _ => 0) t.meas.auth prn.toNat = authNONE ∧ (∀ k, k ≠ prn.toNat →
          Tab.get (fun _ => 0) t.meas.auth k = Tab.get (fun _ => 0) s.meas.auth k) ∧ { t with meas := s.meas } = s))

/-- R306 to R309, R323, R325, R330 to R332: WINDOW_PUSH, WINDOW_POP, OUTOP_MARK, OUTOP_REWIND, OUTOP_RELEASE, PCIE_QUENCH and
PCIE_GQ complete. -/
def Obligations.TenantWindowsMoveItems : Prop :=
  ∀ (s : State) (n : Fin 4096) (x : Item),
    let t := n.val
    let i := 2 * t
    let o := 2 * t + 1
    let q := s.queue i
    let out := s.queue o
    let cmds : List Instr := [.windowPush n x, .windowPop n, .outopMark n, .outopRewind n, .outopRelease n, .pcieQuench n true true]
    let credits (v w : Queue) : Prop := { v with cred := 0 } = { w with cred := 0 } ∧ w.cred ≤ v.cred
    let msg := msgBytes (q.part ++ [x])
    (s.pcieUp = false → ∀ c ∈ cmds, exec c s = .next s) ∧
    (s.pcieUp = true → s.windowOk t = false → ∀ c ∈ cmds, Completes c s fun u =>
      u.fget F.PCIE_CNT_WINERR = satInc 16 (s.fget F.PCIE_CNT_WINERR) ∧ u.out = [0, 0] ∧ Rises s u 0x150 2 ∧ u.tn = s.tn ∧
      u.comb = s.comb) ∧
    (s.pcieUp = true → s.windowOk t = true →
      (q.cred ≠ 0 → q.batch = none → (∀ w ∈ s.tn.waiting, w.2 ≠ i) →
        (itemEnd x = false ∨ (frameOk msg = true ∧ (s.tenant t).state = .opened) → Completes (.windowPush n x) s fun u =>
          u.queue i = { q.push x with cred := q.cred - 1 } ∧ (u.core 16).ipend.getLsbD 1 = true ∧ (∀ j, j ≠ i → u.queue j = s.queue j) ∧
          u.comb = s.comb) ∧
        (itemEnd x = true → frameOk msg = false → Completes (.windowPush n x) s fun u =>
          (u.queue i).ready = q.ready ∧ (u.queue i).part = [] ∧ (u.tenant t).ferr = satInc 16 (s.tenant t).ferr) ∧
        (itemEnd x = true → frameOk msg = true → (s.tenant t).state = .fault → (frameOp msg).any keptInFault = false →
          Completes (.windowPush n x) s fun u => (u.queue i).ready = q.ready ∧ (u.queue i).part = [] ∧ u.tenant t = s.tenant t)) ∧
      (q.cred = 0 → (s.tenant t).state = .opened → Completes (.windowPush n x) s fun u =>
        (u.tenant t).state = .fault ∧ (u.tenant t).cause = 1 ∧ credits (u.queue i) q ∧ (u.queue o).ready = [] ∧
        (u.queue o).batch = none ∧ Rises s u 0x141 0 ∧ Rises s u 0x140 2) ∧
      (∀ y r, out.pop = some (y, r) → Completes (.windowPop n) s fun u =>
        u.out = [y.truncate 32] ∧ u.latched (windowReader t) F.Q_POPH.addr = (y >>> 32).truncate 32 ∧ u.queue o = r ∧
        (∀ j, j ≠ o → u.queue j = s.queue j) ∧ u.comb = s.comb) ∧
      (out.readable = false → Completes (.windowPop n) s fun u => u.queue o = out ∧ (windowReader t, o) ∈ u.tn.waiting ∧ u.regs = s.regs) ∧
      ((∀ w ∈ s.tn.waiting, w.2 ≠ o) → ∀ cf ∈ [(Instr.outopMark n, Queue.mark), (.outopRewind n, Queue.rewind), (.outopRelease n, Queue.release)],
        Completes cf.1 s fun u => credits (u.queue o) (cf.2 out) ∧ (∀ j, j ≠ o → credits (u.queue j) (s.queue j)) ∧ u.comb = s.comb) ∧
      (∀ discard : Bool, Completes (.pcieQuench n true discard) s fun u =>
        (u.tenant t).q = true ∧ (u.tenant t).state = (s.tenant t).state ∧ (u.tenant t).subs = (s.tenant t).subs ∧
        (u.queue o).batch = none ∧ (u.queue o).ready = (if discard then [] else out.ready) ∧ (u.queue o).cur = out.cur ∧
        Rises s u 0x140 4) ∧
      (∀ discard : Bool, Completes (.pcieQuench n false discard) s fun u =>
        (u.tenant t).q = false ∧ u.tn.queues = s.tn.queues ∧ u.regs = s.regs)) ∧
    (∀ on : Bool, s.pcieUp = true → Completes (.pcieGq on) s fun u =>
      u.flag F.TN_GQ_GQ = on ∧ u.tn.tenants = s.tn.tenants ∧ (on = false → OnlyRegs s u [F.TN_GQ_GQ.addr]) ∧
      (on = true → Rises s u 0x140 4 ∧ ∀ k, (s.tenant k).state ≠ .free → (u.queue (2 * k + 1)).batch = none))

/-- R301, R326, R328, R333 to R336: OPENPUSH, OPENPOP, DMA_GO, DMA_DONE, PCIE_LINK_DOWN and PCIE_LINK_UP complete. -/
def Obligations.MailboxDmaAndLink : Prop :=
  ∀ s : State,
    (∀ x : Item, s.pcieUp = true →
      ((s.pcie.busy = true ∨ s.pcie.reply ≠ []) → Completes (.openpush x) s fun u =>
        u.fget F.PCIE_CNT_MBXBUSY = satInc 16 (s.fget F.PCIE_CNT_MBXBUSY) ∧ OnlyRegs s u [F.PCIE_CNT_MBXBUSY.addr]) ∧
      (s.pcie.busy = false → s.pcie.reply = [] → itemEnd x = false → exec (.openpush x) s = .next { s with pcie.mbox := s.pcie.mbox ++ [x] }) ∧
      (s.pcie.busy = false → s.pcie.reply = [] → itemEnd x = true → frameOk (msgBytes (s.pcie.mbox ++ [x])) = true →
        frameOp (msgBytes (s.pcie.mbox ++ [x])) = some 1 → Completes (.openpush x) s fun u =>
          u.pcie.mbox = [] ∧ u.pcie.busy = true ∧ u.tn.openIn = s.tn.openIn ++ [(.pcie, 0, msgBytes (s.pcie.mbox ++ [x]))] ∧ u.regs = s.regs) ∧
      (∀ r, s.pcie.reply = x :: r → exec .openpop s = .next { s with pcie.reply := r, out := [x.truncate 32, (x >>> 32).truncate 32] }) ∧
      (s.pcie.reply = [] → exec .openpop s = .next { s with out := [0, 0] })) ∧
    (∀ (via : Via) (n : Fin 4), s.judge via 0x150 (0x08C + 16 * n.val) true = .ok →
      (n.val ∈ s.pcie.dma → exec (.dmaGo via n) s = .next s) ∧
      (n.val ∉ s.pcie.dma → Completes (.dmaGo via n) s fun u =>
        u.flag (F.DMA_CTL_DONE n.val) = false ∧ u.flag (F.DMA_CTL_ERR n.val) = false ∧ u.pcie.dma = s.pcie.dma ++ [n.val] ∧
        u.comb = s.comb ∧ ∀ a, a ≠ (F.DMA_CTL_DONE n.val).addr → u.reg a = s.reg a)) ∧
    (∀ (n : Fin 4) (host : List Byte),
      let k := dmaLen (s.fget (F.DMA_CTL_LEN n.val))
      let a := s.fget (F.DMA_CB_CADDR n.val)
      s.pcieUp = true → n.val ∈ s.pcie.dma → (∀ q < 4, s.combOn q = true) → Completes (.dmaDone n host) s fun u =>
        u.flag (F.DMA_CTL_DONE n.val) = true ∧ u.pcie.dma = s.pcie.dma.erase n.val ∧ Rises s u 0x150 1 ∧
        (s.flag (F.DMA_CTL_DIR n.val) = false → u.out = bytesWords (s.combBytes a k) ∧ u.comb = s.comb) ∧
        (s.flag (F.DMA_CTL_DIR n.val) = true → u.combBytes a k = (host ++ List.replicate k 0).take k ∧
          ∀ b, b < 2 ^ 24 → (∀ j < k, (a + j) % 2 ^ 24 ≠ b) → u.combByte b = s.combByte b)) ∧
    (∀ width gen : BitVec 4, s.portsOn = true → s.flag F.PCIE_LINK_UP = false → (width = 1 ∨ width = 2 ∨ width = 4) →
      1 ≤ gen.toNat → gen.toNat ≤ 4 → Completes (.pcieLinkUp width gen) s fun u =>
        u.flag F.PCIE_LINK_UP = true ∧ u.fget F.PCIE_LINK_WIDTH = width.toNat ∧ u.fget F.PCIE_LINK_GEN = gen.toNat ∧
        OnlyRegs s u [F.PCIE_LINK_UP.addr]) ∧
    (∀ flr : Bool, s.pcieUp = true → Completes (.pcieLinkDown flr) s fun u =>
      u.pcie.dma = [] ∧ u.pcie.mbox = [] ∧ u.pcie.reply = [] ∧ u.pcie.busy = false ∧
      (∀ k < 4096, (s.tenant k).live = true → (s.tenant k).port = .pcie → (s.tenant k).client = 0 → (u.tenant k).state = .closing) ∧
      ((∀ e ∈ s.tn.tenants, e.2.live = true → e.2.port ≠ .pcie) →
        u.flag F.PCIE_LINK_UP = flr ∧ (∀ m < 4, m ∈ s.pcie.dma → u.flag (F.DMA_CTL_ERR m) = true) ∧ Rises s u 0x150 0))

/-- R27, R306, R309, R343 to R346, R479: RWR, RRD, FWR, FRD and SPI_QUENCH complete. -/
def Obligations.SpiMovesWordsAndFrames : Prop :=
  ∀ (s : State) (m : Bool), s.portsOn = true →
    let sm := s.fputB F.SPI_STAT_MODE3 m
    (∀ (a : BitVec 24) (v : Word), (h : a.toNat < 2 ^ 22) →
      exec (.rwr m a [v] false) s = exec (.registerWrite .spi ⟨a.toNat / 4096, by omega⟩ (BitVec.ofNat 12 a.toNat) v 15) sm) ∧
    (∀ v : Word, s.judge .spi 0x152 0x040 true = .ok → Completes (.rwr m 0x152040 [v] false) s fun u =>
      u.fget F.SPI_WT_T = v.toNat % 4096 ∧ u.flag F.SPI_STAT_MODE3 = m ∧ OnlyRegs s u [F.SPI_WT_T.addr, F.SPI_STAT_MODE3.addr]) ∧
    (∀ a, Completes (.rwr m a [] true) s fun u =>
      u.fget F.SPI_CNT_PART = satInc 16 (s.fget F.SPI_CNT_PART) ∧ OnlyRegs s u [F.SPI_CNT_PART.addr, F.SPI_STAT_MODE3.addr]) ∧
    (∀ (a : BitVec 24) (v : Word), 2 ^ 22 ≤ a.toNat →
      exec (.rwr m a [v] false) s = .next sm ∧ exec (.rrd m a 1) s = .next { sm with out := [0] }) ∧
    (s.domPowered 1 = true →
      (s.domState 2 = dON → exec (.rrd m 0x158058 1) s = .next { sm with out := [0] }) ∧
      (s.domState 2 = dENTRY → Completes (.rrd m 0x158058 1) s fun u =>
        u.out = [0xFFFFFFFF] ∧ u.fget F.SPI_CNT_PART = satInc 16 (s.fget F.SPI_CNT_PART) ∧ u.uarts = s.uarts)) ∧
    (∀ b : List Byte, frameOk b = true → frameCls b = 0 → frameOp b ≠ some 1 → s.spi.rx = [] →
      let t := frameTenant b
      let q := s.queue (2 * t)
      s.boundTo t .spi 0 = true → (s.tenant t).state = .opened → (frameItems 1 b).length ≤ q.cred → q.part = [] → q.batch = none →
      (∀ w ∈ s.tn.waiting, w.2 ≠ 2 * t) → Completes (.fwr m b) s fun u =>
        u.queue (2 * t) = { q with ready := q.ready ++ [frameItems 1 b], cred := q.cred - (frameItems 1 b).length } ∧
        u.spi.rx = [] ∧ u.flag F.SPI_STAT_MODE3 = m ∧ (∀ j, j ≠ 2 * t → u.queue j = s.queue j) ∧ u.comb = s.comb) ∧
    (∀ n : Nat, s.spiWaiting = 0 → exec (.frd m n) s = .next { sm with out := 0 :: List.replicate n 0 }) ∧
    (∀ b : List Byte, s.spi.tx = b → 0 < b.length → Completes (.frd m b.length) s fun u =>
      u.out = BitVec.ofNat 32 (min 0xFFFF s.spiWaiting) :: (b.take 0xFFFF ++ List.replicate (b.length - 0xFFFF) 0).map
        (fun (x : Byte) => x.zeroExtend 32) ∧ u.spi.tx = b.drop 0xFFFF ∧ u.tn = s.tn) ∧
    (∀ (via : Via) (v : Word), s.judge via 0x152 0x044 true = .ok →
      (v.getLsbD 31 = false → exec (.spiQuench via v) s = .next s) ∧
      (v.getLsbD 31 = true → v.getLsbD 16 = true → v.getLsbD 18 = false → (s.tenant (v.toNat % 4096)).state ≠ .free →
        Completes (.spiQuench via v) s fun u =>
          (u.tenant (v.toNat % 4096)).q = true ∧ (u.queue (2 * (v.toNat % 4096) + 1)).batch = none ∧
          (v.getLsbD 17 = true → (u.queue (2 * (v.toNat % 4096) + 1)).ready = []) ∧ Rises s u 0x140 4))

/-- R347, R348: XSPI_READ, XSPI_PROGRAM, XSPI_ERASE4K, XSPI_ERASE64K and XSPI_DONE complete. -/
def Obligations.FlashCommandsRunToTheirEnd : Prop :=
  ∀ (s : State) (via : Via) (cmd : Instr) (op : Nat),
    (cmd, op) ∈ [(Instr.xspiRead via, 1), (.xspiProgram via, 2), (.xspiErase4k via, 3), (.xspiErase64k via, 4)] →
    let flash (u : State) (a : Nat) : Byte := Tab.get flashDefault u.xspi.flash a
    let size := s.fget F.XS_STAT_MIB * 2 ^ 20
    let blk := if op = 3 then 4096 else 65536
    (s.judge via 0x15C 0x040 true = .ok →
      (s.flag F.XS_STAT_BUSY = true → Completes cmd s fun u => u.flag (PG_FAULT 0x15C 0) = true ∧ OnlyRegs s u [0x15C020]) ∧
      (s.flag F.XS_STAT_BUSY = false → Completes cmd s fun u =>
        u.flag F.XS_STAT_BUSY = true ∧ u.xspi.cmd = some (op, s.fget F.XS_FADDR_A, s.fget F.XS_CADDR_A, s.fget F.XS_LEN_N) ∧ u.xspi.flash = s.xspi.flash ∧ u.comb = s.comb ∧
        ∀ a, a ≠ F.XS_STAT_BUSY.addr → u.reg a = s.reg a)) ∧
    (∀ fa ca n : Nat, s.xspi.cmd = some (op, fa, ca, n) → ca < 2 ^ 24 → ca + n ≤ 2 ^ 24 → n < 2 ^ 24 → (∀ q < 4, s.combOn q = true) →
      Completes (.xspiDone true) s (fun u => u.flag F.XS_STAT_BUSY = false ∧ u.fget F.XS_STAT_RESULT = 1 ∧ u.xspi.cmd = none ∧
        u.xspi.flash = s.xspi.flash ∧ u.comb = s.comb ∧ Rises s u 0x15C 1) ∧
      (op = 1 → fa + n ≤ size → Completes (.xspiDone false) s fun u =>
        u.combBytes ca n = s.flashBytes fa n ∧ u.fget F.XS_CRC = crc32c (s.flashBytes fa n) % 2 ^ 32 ∧ u.fget F.XS_STAT_RESULT = 0 ∧
        u.xspi.flash = s.xspi.flash ∧ Rises s u 0x15C 0 ∧ ∀ a, a < 2 ^ 24 → (a < ca ∨ ca + n ≤ a) → u.combByte a = s.combByte a) ∧
      (op = 2 → fa + n ≤ size → fa % 256 = 0 → n % 256 = 0 → Completes (.xspiDone false) s fun u =>
        (∀ k < n, flash u (fa + k) = s.combByte (ca + k) &&& flash s (fa + k)) ∧ (∀ a, (a < fa ∨ fa + n ≤ a) → flash u a = flash s a) ∧
        u.fget F.XS_CRC = crc32c (s.combBytes ca n) % 2 ^ 32 ∧ u.fget F.XS_STAT_RESULT = 0 ∧ u.comb = s.comb ∧ Rises s u 0x15C 0) ∧
      ((op = 3 ∨ op = 4) → fa < size → Completes (.xspiDone false) s fun u =>
        (∀ a, flash u a = if fa / blk * blk ≤ a ∧ a < fa / blk * blk + blk then flashDefault a else flash s a) ∧
        u.fget F.XS_STAT_RESULT = 0 ∧ u.comb = s.comb ∧ Rises s u 0x15C 0) ∧
      (size ≤ fa → 0 < n ∨ 3 ≤ op → Completes (.xspiDone false) s fun u =>
        u.fget F.XS_STAT_RESULT = 2 ∧ u.flag F.XS_STAT_BUSY = false ∧ u.xspi.flash = s.xspi.flash ∧ u.comb = s.comb ∧ Rises s u 0x15C 1))


/-- R27, R300, R323, R327, R339, R340, R386: USB_REGWR, USB_REGWR_COMMIT, USB_QUENCH, USB_OPEN, OPENRD, QSTAT and USB_REGRD
complete. -/
def Obligations.UsbControlRequestsCommitOrDiscard : Prop :=
  ∀ (s : State) (page : Fin 1024) (off : BitVec 12) (t v : Half) (ws : List Word) (b : List Byte),
    let disc (u : State) : Prop := s.usb.held ≠ none → u.fget F.USB_CNT_DISC = satInc 16 (s.fget F.USB_CNT_DISC)
    let only (u : State) : Prop := ∀ a, a ≠ F.USB_CNT_DISC.addr → u.reg a = s.reg a
    (s.usbUp = false → ∀ c ∈ [Instr.usbRegwr page off t ws, .usbRegwrCommit, .usbQuench v t, .usbOpen b, .openrd, .qstat t,
      .usbRegrd page off 1], exec c s = .next s) ∧
    (s.usbUp = true →
      (let good := off.toNat % 4 = 0 ∧ ws ≠ [] ∧ ws.length ≤ 64 ∧ t.toNat < 4096
       Completes (.usbRegwr page off t ws) s fun u => disc u ∧ only u ∧ u.tn = s.tn ∧ u.comb = s.comb ∧
        (good → u.usb.held = some (page.val, off.toNat, t.toNat, ws) ∧ u.usb.stall = false) ∧
        (¬ good → u.usb.held = none ∧ u.usb.stall = true)) ∧
      (∀ w : Word, ∀ n : Fin 4096, s.usb.held = some (page.val, off.toNat, n.val, [w]) →
        exec .usbRegwrCommit s = exec (.registerWrite (.usb n) page off w 15) { s with usb.held := none }) ∧
      (∀ (n : Fin 4096) (vs : List Word), s.usb.held = some (page.val, off.toNat, n.val, vs) → Completes .usbRegwrCommit s fun u =>
        u = ({ s with usb.held := none } : State).busWrites (.usb n) page.val off.toNat vs) ∧
      (∀ (n : Fin 4096) (w : Word), s.usb.held = some (0x002, 0x048, n.val, [w]) → s.judge (.usb n) 0x002 0x048 true = .ok →
        Completes .usbRegwrCommit s fun u => u.fget F.RST_WDOG_PERIOD = w.toNat % 2 ^ 16 ∧ u.usb.held = none ∧
          OnlyRegs s { u with usb := s.usb } [0x002048]) ∧
      (s.usb.held = none → exec .usbRegwrCommit s = .next s) ∧
      ((8 ≤ v.toNat ∨ 4096 ≤ t.toNat) → Completes (.usbQuench v t) s fun u =>
        disc u ∧ only u ∧ u.usb.stall = true ∧ u.tn = s.tn) ∧
      (v.toNat < 8 → t.toNat < 4096 → v.getLsbD 2 = false → (s.tenant t.toNat).state ≠ .free → Completes (.usbQuench v t) s fun u =>
        disc u ∧ (u.tenant t.toNat).q = v.getLsbD 0 ∧ (v.getLsbD 0 = true → Rises s u 0x140 4 ∧
          (u.queue (2 * t.toNat + 1)).batch = none ∧ (v.getLsbD 1 = true → (u.queue (2 * t.toNat + 1)).ready = []))) ∧
      (Completes (.usbOpen b) s fun u => disc u ∧ only u ∧
        (b.length ≤ 128 → frameOk b = true → frameOp b = some 1 → u.tn.openIn = s.tn.openIn ++ [(.usb, 0, b)]) ∧
        ((128 < b.length ∨ frameOk b = false ∨ frameOp b ≠ some 1) → u.tn = s.tn)) ∧
      (Completes .openrd s fun u => disc u ∧ only u ∧ u.usb.reply = [] ∧ u.tn = s.tn ∧
        u.out = s.usb.reply.map (fun (x : Byte) => x.zeroExtend 32)) ∧
      (t.toNat < 4096 → Completes (.qstat t) s fun u => disc u ∧ only u ∧ u.tn = s.tn ∧
        u.out = [BitVec.ofNat 32 (min 0xFFFF (s.queue (2 * t.toNat + 1)).pkt * 65536 + min 0xFFFF (s.queue (2 * t.toNat)).cred)]) ∧
      (∀ k : Nat, off.toNat % 4 = 0 → 1 ≤ k → k ≤ 64 → s.readHeld (.usb 0) page.val off.toNat k = false →
        Completes (.usbRegrd page off k) s fun u =>
          let s' := s.usbRequest
          let r := s'.busReads (.usb 0) page.val off.toNat k
          u = { r.2 with out := r.1 } ∧ r.1.length = k) ∧
      (∀ k : Nat, off.toNat % 4 ≠ 0 ∨ k = 0 ∨ 64 < k → Completes (.usbRegrd page off k) s fun u =>
        disc u ∧ only u ∧ u.usb.stall = true ∧ u.out = s.out) ∧
      (∀ d, RegAt page.val off.toNat d → off.toNat % 4 = 0 → 0x040 ≤ off.toNat → s.domPowered 1 = true → s.boot.dead = false →
        s.domState (pageDom page.val) = dON → s.flag (PG_FREEZE page.val) = false → absentReg page.val off.toNat = false →
        let a := page.val * 4096 + off.toNat
        popping a = false → drawnReg a = false → a ≠ F.Q_NEXTIN_T.addr →
        Completes (.usbRegrd page off 1) s fun u => disc u ∧ only u ∧ u.out = [s.usbRequest.view (viaReader (.usb 0)) a]) ∧
      (s.domPowered 1 = true → s.domState 2 = dON → Completes (.usbRegrd 0x158 0x058 1) s fun u =>
        disc u ∧ only u ∧ u.out = [0] ∧ u.uarts = s.uarts) ∧
      (s.domPowered 1 = true → s.domState 2 = dENTRY → Completes (.usbRegrd 0x158 0x058 1) s fun u =>
        disc u ∧ only u ∧ u.pwr.held = s.pwr.held ++ [(2, .usbRegrd 0x158 0x058 1)]))

/-- R301, R308, R309, R326, R340 to R342: SET_CONFIGURATION, USB_BUS_RESET, USB_DETACH, USB_ATTACH, EP1_OUT_MESSAGE and
EP1_IN_ACK complete. -/
def Obligations.UsbBusEventsAndBulkMessages : Prop :=
  ∀ s : State,
    let credits (v w : Queue) : Prop := { v with cred := 0 } = { w with cred := 0 } ∧ w.cred ≤ v.cred
    let closes (u : State) : Prop := ∀ k < 4096, (s.tenant k).live = true → (s.tenant k).port = .usb → (s.tenant k).client = 0 →
      (u.tenant k).state = .closing
    let alone : Prop := ∀ e ∈ s.tn.tenants, e.2.live = true → e.2.port ≠ .usb
    (s.portsOn = true → Completes .usbAttach s fun u => u.flag F.USB_STAT_VBUS = true ∧ OnlyRegs s u [F.USB_STAT_VBUS.addr]) ∧
    (s.usbUp = true → s.usb.held = none →
      (Completes (.setConfiguration 1) s fun u => u.flag F.USB_STAT_CONF = true ∧ u.usb.stall = false ∧
        OnlyRegs s { u with usb := s.usb } [F.USB_STAT_CONF.addr]) ∧
      (Completes (.setConfiguration 0) s fun u => closes u ∧ (alone → s.usb.ep1 = none → u.flag F.USB_STAT_CONF = false ∧
        OnlyRegs s { u with usb := s.usb } [F.USB_STAT_CONF.addr])) ∧
      (∀ v : Byte, v ≠ 0 → v ≠ 1 → Completes (.setConfiguration v) s fun u => u.usb.stall = true ∧ { u with usb := s.usb } = s)) ∧
    (s.usbUp = true → (Completes .usbBusReset s fun u =>
      u.fget F.USB_RST_CNT = satInc 16 (s.fget F.USB_RST_CNT) ∧ u.flag F.USB_STAT_HS = true ∧ u.flag F.USB_STAT_CONF = false ∧
      u.fget F.USB_STAT_ADDR = 0 ∧ u.flag F.USB_STAT_VBUS = true ∧ u.usb.held = none ∧ u.usb.ep1 = none ∧ Rises s u 0x151 0 ∧
      u.tn.tenants = s.tn.tenants ∧
      (s.usb.held ≠ none → u.fget F.USB_CNT_DISC = satInc 16 (s.fget F.USB_CNT_DISC)) ∧
      (∀ t, s.usb.ep1 = some t → (∀ w ∈ s.tn.waiting, w.2 ≠ 2 * t + 1) →
        credits (u.queue (2 * t + 1)) (s.queue (2 * t + 1)).rewind)) ∧
     (Completes .usbDetach s fun u => closes u ∧ u.usb.held = none ∧ u.usb.reply = [] ∧
      (alone → u.flag F.USB_STAT_VBUS = false ∧ Rises s u 0x151 1))) ∧
    (s.usbUp = true → s.flag F.USB_STAT_CONF = true →
      (∀ (xs : List Item) (x : Item) (whole : Bool),
        let m := xs ++ [x]
        let t := ((m.head?.getD 0).toNat / 65536) % 4096
        let q := s.queue (2 * t)
        ((whole = false ∨ s.boundTo t .usb 0 = false) → Completes (.ep1OutMessage m whole) s fun u =>
          u.fget F.USB_CNT_FERR = satInc 16 (s.fget F.USB_CNT_FERR) ∧ OnlyRegs s u [F.USB_CNT_FERR.addr]) ∧
        (s.boundTo t .usb 0 = true → (s.tenant t).state = .opened → itemEnd x = true → (∀ y ∈ xs, itemEnd y = false) →
          frameOk (msgBytes m) = true → m.length ≤ q.cred → q.part = [] → q.batch = none → (∀ w ∈ s.tn.waiting, w.2 ≠ 2 * t) →
          Completes (.ep1OutMessage m true) s fun u =>
            u.queue (2 * t) = { q with ready := q.ready ++ [m], cred := q.cred - m.length } ∧
            (∀ j, j ≠ 2 * t → u.queue j = s.queue j) ∧ u.comb = s.comb)) ∧
      (∀ t, s.usb.ep1 = some t → (∀ w ∈ s.tn.waiting, w.2 % 2 = 0) → Completes .ep1InAck s fun u =>
        let next := s.turn s.usb.ep1rr (fun x => decide (x.port = .usb))
        (next = none → u.usb.ep1 = none ∧ credits (u.queue (2 * t + 1)) (s.queue (2 * t + 1)).release) ∧
        (∀ n, next = some n → n ≠ t →
          let (m, q) := (s.queue (2 * n + 1)).mark.nextMsg
          u.usb.ep1 = some n ∧ u.usb.ep1rr = n ∧ u.out = (msgBytes m).map (fun (x : Byte) => x.zeroExtend 32) ∧
          credits (u.queue (2 * n + 1)) q ∧ credits (u.queue (2 * t + 1)) (s.queue (2 * t + 1)).release)) ∧
      (s.usb.ep1 = none → s.turn s.usb.ep1rr (fun x => decide (x.port = .usb)) = none → exec .ep1InAck s = .next s))

/-- R298, R299, R307 to R309, R311, R314, R315, R323: QUEUE_PUSH, QUEUE_POP, QWAIT_EXPIRY, MARK, REWIND, RELEASE, BATCHOPEN,
BATCHCLOSE, FLUSH and NEXTIN_READ complete. -/
def Obligations.QueuePageActsOnTheSelectedQueue : Prop :=
  ∀ s : State,
    let credits (v w : Queue) : Prop := { v with cred := 0 } = { w with cred := 0 } ∧ w.cred ≤ v.cred
    let ops (via : Via) : List (Instr × (Queue → Queue)) := [(.mark via, Queue.mark), (.rewind via, Queue.rewind),
      (.release via, Queue.release), (.batchopen via, Queue.batchopen), (.batchclose via, Queue.batchclose), (.flush via, Queue.flush)]
    (∀ hi : Word,
      let i := s.qSel 19
      let q := s.queue i
      let x : Item := hi ++ s.latched 19 F.Q_PUSHL.addr
      (s.judge .warden 0x141 0x054 true = .ok →
        (i % 2 = 1 → s.muted (i / 2) = true → q.isReply x = false → exec (.queuePush .warden hi) s = .next s) ∧
        (i % 2 = 0 ∨ s.muted (i / 2) = false ∨ q.isReply x = true →
          (q.cred = 0 → Completes (.queuePush .warden hi) s fun u => u.tn = s.tn ∧ Rises s u 0x141 0) ∧
          (q.cred ≠ 0 → (∀ w ∈ s.tn.waiting, w.2 ≠ i) → Completes (.queuePush .warden hi) s fun u =>
            u.queue i = { q.push x with cred := q.cred - 1 } ∧ (∀ j, j ≠ i → u.queue j = s.queue j) ∧
            u.tn.tenants = s.tn.tenants ∧ u.comb = s.comb))) ∧
      (s.judge .warden 0x141 0x044 true = .ok → (∀ w ∈ s.tn.waiting, w.2 ≠ i) → ∀ cf ∈ ops .warden, Completes cf.1 s fun u =>
        credits (u.queue i) (cf.2 q) ∧ (∀ j, j ≠ i → credits (u.queue j) (s.queue j)) ∧ u.tn.tenants = s.tn.tenants ∧ u.comb = s.comb)) ∧
    (∀ (via : Via) (t : Nat) (hi : Word),
      let i := s.qSel (viaReader via)
      let bad (u : State) : Prop := (u.tenant t).state = .fault ∧ (u.tenant t).cause = 2 ∧ Rises s u 0x140 2 ∧
        (i ≠ 2 * t + 1 → credits (u.queue i) (s.queue i))
      s.writer via 0x141 = .tenant t → (s.tenant t).state = .opened →
      (s.judge via 0x141 0x054 true = .ok → i ≠ 2 * t → Completes (.queuePush via hi) s bad) ∧
      (s.judge via 0x141 0x044 true = .ok →
        (i ≠ 2 * t + 1 → ∀ c ∈ [Instr.mark via, .rewind via, .release via], Completes c s bad) ∧
        (∀ c ∈ [Instr.batchopen via, .batchclose via, .flush via], Completes c s bad))) ∧
    (∀ c : Core, s.domPowered 1 = true → s.boot.dead = false →
      let r := 3 + coreIdx c
      let i := s.qSel r
      (∀ x q, (s.queue i).pop = some (x, q) → Completes (.queuePop c) s fun u =>
        u.out = [x.truncate 32] ∧ u.latched r F.Q_POPH.addr = (x >>> 32).truncate 32 ∧ u.queue i = q ∧
        (∀ j, j ≠ i → u.queue j = s.queue j) ∧ u.tn.tenants = s.tn.tenants) ∧
      ((s.queue i).readable = false → Completes (.queuePop c) s fun u =>
        u.tn.queues = s.tn.queues ∧ u.regs = s.regs ∧
        (c = .warden → i % 2 = 0 → u.tn.stalled = some i) ∧ (c ≠ .warden ∨ i % 2 = 1 → (r, i) ∈ u.tn.waiting ∧
          Tab.get (fun _ => 0) u.tn.waitT r = s.now + us (min (s.fget F.Q_CFG_QWAIT) 100)))) ∧
    (∀ w rest, s.tn.waiting = w :: rest →
      (s.waited w.1 = true → Completes .qwaitExpiry s fun u =>
        u.out = [0] ∧ u.tn.waiting = rest ∧ u.tn.queues = s.tn.queues ∧ u.regs = s.regs) ∧
      (s.waited w.1 = false → exec .qwaitExpiry s = .next s)) ∧
    (s.tn.waiting = [] → exec .qwaitExpiry s = .next s) ∧
    (∀ r : Reader, s.domPowered 1 = true → s.boot.dead = false → s.flag (PG_FREEZE 0x141) = false →
      let ready (e : Nat × Tenant) : Prop := e ∈ s.tn.tenants ∧ e.2.live = true ∧ (s.queue (2 * e.1)).readable = true
      ((∀ e, ¬ ready e) → exec (.nextinRead r) s = .next { s with out := [0] }) ∧
      ((∃ e, ready e) → Completes (.nextinRead r) s fun u => ∃ e, ready e ∧ u.tn.rr = e.1 ∧ u.tn.queues = s.tn.queues ∧
        u.out = [BitVec.ofNat 32 (2 ^ 31 + (if s.pri3 e.1 then 2 ^ 30 else 0) + e.1)] ∧
        ((∃ f, ready f ∧ s.pri3 f.1 = true) → s.pri3 e.1 = true)))


/-- R311, R316 to R320, R323, R325: CREDIT and QUENCH complete; the sequence rule of every command, shown on CREDIT. -/
def Obligations.CommandsAreSequencedAndAnswered : Prop :=
  ∀ (s : State) (n : Fin 4096) (seq arg0 : Half),
    let k := n.val
    let x := s.tenant k
    let o := 2 * k + 1
    let sent (u : State) (status cseq : Nat) (op : Nat) (res : List Byte) : Prop :=
      let m := frameItems 2 (frameBytes 1 k x.outSeq (replyPayload op status cseq (s.icred k) res))
      (s.queue o).batch = none → (∀ w ∈ s.tn.waiting, w.2 ≠ o) →
        if (s.queue o).cred < m.length then u.queue o = s.queue o ∧ (u.tenant k).outSeq = x.outSeq
        else (u.queue o).ready = (s.queue o).ready ++ [m] ∧ (u.queue o).cred = (s.queue o).cred - m.length ∧
          (u.tenant k).outSeq = (x.outSeq + 1) % 65536
    (x.live = false → exec (.credit n seq arg0) s = .next s) ∧
    (x.live = true →
      (x.classify seq.toNat = .accept → x.state = .opened →
        Answers (.credit n seq arg0) s k 4 seq.toNat cOK (leBytes 2 (min 0xFFFF (s.queue o).held)) fun u =>
          sent u cOK seq.toNat 4 (leBytes 2 (min 0xFFFF (s.queue o).held)) ∧ (u.tenant k).subs = x.subs ∧ u.comb = s.comb) ∧
      (x.classify seq.toNat = .accept → x.state = .fault →
        Answers (.credit n seq arg0) s k 4 seq.toNat cFAULTED (leBytes 1 x.cause) fun u =>
          sent u cFAULTED seq.toNat 4 (leBytes 1 x.cause) ∧ (u.tenant k).state = .fault) ∧
      (∀ r, x.classify seq.toNat = .again r → Completes (.credit n seq arg0) s fun u =>
        (u.tenant k).rep = satInc 16 x.rep ∧ (u.tenant k).lastSeq = x.lastSeq ∧ (u.tenant k).cache = x.cache ∧
        sent u (0x8000 + (if r.trunc then 0x4000 else 0) + r.status) r.seq r.op r.res) ∧
      (x.classify seq.toNat = .running → exec (.credit n seq arg0) s = .next s) ∧
      (x.classify seq.toNat = .gap → Completes (.credit n seq arg0) s fun u =>
        (u.tenant k).gaps = satInc 16 x.gaps ∧ (u.tenant k).lastSeq = x.lastSeq ∧ (u.tenant k).cache = x.cache ∧
        sent u cSEQGAP seq.toNat 4 (leBytes 2 ((x.lastSeq.getD 0 + 1) % 65536)))) ∧
    (∀ l, x.lastSeq = some l → l < 65536 →
      (seq.toNat = (l + 1) % 65536 → x.classify seq.toNat = .accept) ∧
      (seq.toNat ≠ (l + 1) % 65536 → x.classify seq.toNat ≠ .accept) ∧
      ((l + 65536 - seq.toNat) % 65536 ≤ 31 → seq.toNat ≠ (l + 1) % 65536 →
        ∀ r, x.cache.find? (fun r => r.seq = seq.toNat) = some r → x.classify seq.toNat = .again r)) ∧
    (x.lastSeq = none → x.classify seq.toNat = .accept) ∧
    (∀ w : Word, s.accepts k seq.toNat → arg0.getLsbD 2 = false → w.toNat < 4096 →
      (k ≠ 0 → w.toNat ≠ k → Answers (.quench n seq arg0 [w]) s k 5 seq.toNat cRIGHTS [] fun u =>
        ∀ j, (u.tenant j).q = (s.tenant j).q) ∧
      (k = 0 ∨ w.toNat = k → (s.tenant w.toNat).state ≠ .free → Answers (.quench n seq arg0 [w]) s k 5 seq.toNat cOK [] fun u =>
        (u.tenant w.toNat).q = arg0.getLsbD 0 ∧ (∀ j, j ≠ w.toNat → (u.tenant j).q = (s.tenant j).q) ∧
        (arg0.getLsbD 0 = true → Rises s u 0x140 4)))

/-- R300 to R302, R310, R318, R319: OPEN, CLEANUP_DONE and CLIENT_LOSS complete. -/
def Obligations.TenantsOpenAndAreFreed : Prop :=
  ∀ (s : State) (port : Port) (client : Fin 8) (t : Fin 4096) (seq arg0 : Half) (oc ic : Word) (rest : List Word),
    let any := arg0.getLsbD 0
    let owner := arg0.getLsbD 1
    let c : Instr := .tenantOpen port client t seq arg0 (oc :: ic :: rest)
    let told (u : State) (b : List Byte) : Prop := match port with
      | .pcie => u.pcie.reply = frameItems 2 b ∧ u.pcie.busy = false
      | .usb => u.usb.reply = b
      | p => (p, client.val, b) ∈ u.tn.openOut
    let refused (u : State) (code : Nat) : Prop := u.tn.tenants = s.tn.tenants ∧
      told u (frameBytes 1 t.val 0 (replyPayload 1 code seq.toNat 0 []))
    let opened (u : State) (id : Nat) : Prop :=
      let x := u.tenant id
      x.state = .opened ∧ x.port = port ∧ x.client = client.val ∧ x.lastSeq = some seq.toNat ∧ x.subs = [] ∧ x.q = false ∧
      x.ocmax = ocGrant oc.toNat ∧ x.icmax = icGrant ic.toNat ∧ (u.queue (2 * id)).limit = icGrant ic.toNat ∧
      (u.queue (2 * id + 1)).limit = ocGrant oc.toNat ∧ (u.queue (2 * id)).held = 0 ∧ 16 ≤ (u.queue (2 * id)).cred ∧
      u.fget F.TN_OPEN_NOPEN = (s.fget F.TN_OPEN_NOPEN + 1) % 2 ^ 13 ∧ Rises s u 0x140 0 ∧ (∀ j, j ≠ id → u.tenant j = s.tenant j) ∧
      (port = .pcie → told u (frameBytes 1 id 0 (replyPayload 1 cOK seq.toNat (u.icred id)
        (leBytes 2 id ++ leBytes 2 (ocGrant oc.toNat) ++ leBytes 2 (icGrant ic.toNat)))))
    (owner = false → rest = [] →
      (any = false → t.val = 0 → Completes c s fun u => refused u cBADARG) ∧
      (any = false → t.val ≠ 0 → (s.tenant t.val).state ≠ .free → Completes c s fun u => refused u cINUSE) ∧
      (any = false → t.val ≠ 0 → (s.tenant t.val).state = .free → Completes c s fun u => opened u t.val) ∧
      (any = true → (∀ j < 4096, j ≠ 0 → (s.tenant j).state ≠ .free) → Completes c s fun u => refused u cNOCTX ∧
        u.fget F.TN_OPEN_REFUSED = satInc 16 (s.fget F.TN_OPEN_REFUSED) ∧ Rises s u 0x140 3) ∧
      (∀ id < 4096, any = true → id ≠ 0 → (s.tenant id).state = .free → (∀ j < id, j ≠ 0 → (s.tenant j).state ≠ .free) →
        Completes c s fun u => opened u id)) ∧
    (owner = true → rest.length = 16 →
      (t.val ≠ 0 → Completes c s fun u => refused u cBADARG) ∧
      (t.val = 0 → (s.session (wordBytes rest)).1 = false → Completes c s fun u => refused u cAUTH) ∧
      (t.val = 0 → (s.session (wordBytes rest)).1 = true → (s.tenant 0).state ≠ .free → Completes c s fun u => refused u cINUSE) ∧
      (t.val = 0 → (s.session (wordBytes rest)).1 = true → (s.tenant 0).state = .free → Completes c s fun u => opened u 0)) ∧
    (Completes (.clientLoss port client) s fun u => ∀ k < 4096, (s.tenant k).live = true → (s.tenant k).port = port →
      (s.tenant k).client = client.val → (u.tenant k).state = .closing) ∧
    ((s.tenant t.val).state ≠ .closing → exec (.cleanupDone t) s = .next s) ∧
    ((s.tenant t.val).state = .closing → Completes (.cleanupDone t) s fun u =>
      u.tenant t.val = {} ∧ u.queue (2 * t.val) = {} ∧ u.queue (2 * t.val + 1) = {} ∧ Rises s u 0x140 1 ∧
      u.fget F.TN_OPEN_NOPEN = s.fget F.TN_OPEN_NOPEN - 1 ∧ ∀ j, j ≠ t.val → u.tenant j = s.tenant j)

/-- R299, R302, R303, R320, R323: RESET, CLOSE, the six operations of TN_CMD and GLOBAL_QUENCH complete. -/
def Obligations.TenantsResetCloseAndQuench : Prop :=
  ∀ s : State,
    let clean (k : Nat) (u : State) : Prop := (u.tenant k).q = false ∧ (u.tenant k).cause = 0 ∧ (u.tenant k).subs = [] ∧
      (u.tenant k).running = [] ∧ (u.queue (2 * k)).held = 0 ∧ (∀ d < 38, u.voted d k = false) ∧
      (∀ p, s.flag (PG_OWNED p) = true → s.fget (PG_TENANT p) = k → u.flag (PG_OWNED p) = false) ∧
      (∀ i < 512, (∃ e, (i, e) ∈ s.sched) → s.armed i = true → ownerOf (s.entry i) = k → u.armed i = false)
    (∀ (n m : Fin 4096) (seq : Half),
      let k := n.val
      let arg : Half := BitVec.ofNat 16 m.val
      (s.tenant k).live = true → (s.tenant k).classify seq.toNat = .accept →
      (m = n → Answers (.tenantReset n seq arg) s k 3 seq.toNat cOK [] (fun u => clean k u ∧ (u.tenant k).state = .opened) ∧
        Completes (.tenantClose n seq arg) s fun u => clean k u ∧ (u.tenant k).state = .closing) ∧
      (m ≠ n → k ≠ 0 → Answers (.tenantReset n seq arg) s k 3 seq.toNat cRIGHTS [] (fun u => u.tenant m.val = s.tenant m.val) ∧
        Answers (.tenantClose n seq arg) s k 2 seq.toNat cRIGHTS [] fun u => u.tenant m.val = s.tenant m.val) ∧
      (m ≠ n → k = 0 → (s.tenant m.val).live = true →
        Answers (.tenantReset n seq arg) s k 3 seq.toNat cOK [] (fun u => clean m.val u ∧ (u.tenant m.val).state = .opened ∧
          (u.tenant m.val).lastSeq = none) ∧
        Answers (.tenantClose n seq arg) s k 2 seq.toNat cOK [] fun u => clean m.val u ∧ (u.tenant m.val).state = .closing) ∧
      (m ≠ n → k = 0 → (s.tenant m.val).live = false →
        Answers (.tenantReset n seq arg) s k 3 seq.toNat cBADARG [] (fun u => u.tenant m.val = s.tenant m.val) ∧
        Answers (.tenantClose n seq arg) s k 2 seq.toNat cBADARG [] fun u => u.tenant m.val = s.tenant m.val)) ∧
    (∀ via : Via, s.judge via 0x140 0x044 true = .ok →
      let k := s.tnIdx via
      let x := s.tenant k
      (Completes (.tnRead via) s fun u =>
        u.fget F.TN_STAT_STATE = (match x.state with | .free => 0 | .opened => 1 | .fault => 2 | .closing => 3) ∧
        u.flag F.TN_STAT_Q = x.q ∧ u.fget F.TN_STAT_CAUSE = x.cause % 256 ∧ u.fget F.TN_STAT_NSUB = x.subs.length % 256 ∧
        u.flag F.TN_STAT_SEQV = x.lastSeq.isSome ∧ u.fget F.TN_SEQ_LO = x.lastSeq.getD 0 % 65536 ∧ u.fget F.TN_SEQ_HI = x.outSeq % 65536 ∧
        u.fget F.TN_CNT_HI = x.odrop % 65536 ∧ u.fget F.TN_CNT_LO = x.ferr % 65536 ∧ u.fget F.TN_REP_HI = x.rep % 65536 ∧
        u.fget F.TN_REP_LO = x.gaps % 65536 ∧ OnlyRegs s u [0x140048, 0x14004C, 0x140050, 0x140054]) ∧
      (x.live = true → Completes (.tnReset via) s fun u => clean k u ∧ (u.tenant k).state = .opened ∧ (u.tenant k).lastSeq = none) ∧
      (x.live = true → Completes (.tnClose via) s fun u => clean k u ∧ (u.tenant k).state = .closing) ∧
      (x.live = false → exec (.tnReset via) s = .next s ∧ exec (.tnClose via) s = .next s) ∧
      (x.state ≠ .free → (∀ c ∈ [Instr.tnQuench via, .tnQuenchDiscard via], Completes c s fun u =>
          (u.tenant k).q = true ∧ (u.tenant k).state = x.state ∧ (u.tenant k).subs = x.subs ∧ (u.queue (2 * k + 1)).batch = none ∧
          ((u.queue (2 * k + 1)).ready = if c = .tnQuenchDiscard via then [] else (s.queue (2 * k + 1)).ready) ∧ Rises s u 0x140 4) ∧
        Completes (.tnUnquench via) s fun u => (u.tenant k).q = false ∧ u.tn.queues = s.tn.queues ∧ u.regs = s.regs)) ∧
    (∀ (via : Via) (on : Bool), s.judge via 0x140 0x05C true = .ok → Completes (.globalQuench via on) s fun u =>
      u.flag F.TN_GQ_GQ = on ∧ u.tn.tenants = s.tn.tenants ∧
      (on = true → Rises s u 0x140 4 ∧ ∀ k, (s.tenant k).state ≠ .free → (u.queue (2 * k + 1)).batch = none))


/-- R162, R304, R320, R384, R385, R387: SUB, UNSUB, PIN, UNPIN, BASE and VOTE complete. -/
def Obligations.SubscriptionsPinsBaseAndVotes : Prop :=
  ∀ (s : State) (n : Fin 4096) (seq arg0 : Half) (sel code : Word) (place : Option (Fin 1024)), s.accepts n.val seq.toNat →
    let k := n.val
    let x := s.tenant k
    let a := arg0.toNat
    let q := seq.toNat
    let kind := a % 256
    let div := max 1 (a / 256)
    let signal := kind = 1 ∨ kind = 2
    let sub : Instr := .subscribe n seq arg0 [sel] place
    let same (u : State) : Prop := (u.tenant k).subs = x.subs
    let unplaced (l : List Sub) : List Sub := l.map fun b => { b with place := none }
    (kind = 0 ∨ 8 < kind → Answers sub s k 0x10 q cBADARG [] same) ∧
    ((kind = 7 ∨ kind = 8) → k ≠ 0 → Answers sub s k 0x10 q cRIGHTS [] same) ∧
    (signal → sel.toNat % 64 ≠ 0 → sigRow (sel.toNat % 64) = none → Answers sub s k 0x10 q cUNSUPP [] same) ∧
    (1 ≤ kind → kind ≤ 8 → (7 ≤ kind → k = 0) → (signal → sel.toNat % 64 = 0 ∨ (sigRow (sel.toNat % 64)).isSome = true) →
      (∀ b, x.subs.find? (fun b => b.kind = kind ∧ b.div = div ∧ b.sel = sel.toNat) = some b →
        Answers sub s k 0x10 q cOK (leBytes 2 b.handle) same) ∧
      (x.subs.find? (fun b => b.kind = kind ∧ b.div = div ∧ b.sel = sel.toNat) = none →
        (64 ≤ x.subs.length → Answers sub s k 0x10 q cLIMIT [] same) ∧
        (x.subs.length < 64 → ∃ b : Sub, b.kind = kind ∧ b.div = div ∧ b.sel = sel.toNat ∧ (∀ y ∈ x.subs, y.handle ≠ b.handle) ∧
          Answers sub s k 0x10 q cOK (leBytes 2 b.handle) fun u =>
            unplaced (u.tenant k).subs = unplaced (x.subs ++ [b]) ∧ u.comb = s.comb ∧
            -- one signal of one satellite: every subscription to it shares the channel chosen (R13)
            (b.oneSignal = true → ∀ c, s.carrier sel.toNat = some c → ∀ y ∈ (u.tenant k).subs,
              y.handle = b.handle → y.place = some c)))) ∧
    ((∃ b ∈ x.subs, b.handle = a) → Answers (.unsub n seq arg0) s k 0x11 q cOK [] fun u =>
      (u.tenant k).subs = x.subs.filter (fun b => b.handle ≠ a)) ∧
    ((∀ b ∈ x.subs, b.handle ≠ a) → Answers (.unsub n seq arg0) s k 0x11 q cBADARG [] same) ∧
    (let pins (u : State) (c : Nat) := Tab.get (fun _ => none) u.tn.pins c
     (k ≠ 0 → Answers (.pin n seq arg0 [sel, code]) s k 0x12 q cRIGHTS [] (fun u => u.tn.pins = s.tn.pins) ∧
      Answers (.unpin n seq arg0) s k 0x13 q cRIGHTS [] (fun u => u.tn.pins = s.tn.pins) ∧
      Answers (.base n seq arg0) s k 0x14 q cRIGHTS [] fun u => u.tn.base = s.tn.base) ∧
     (k = 0 →
      (a < 1024 → sigOk sel = true → Answers (.pin n seq arg0 [sel, code]) s k 0x12 q cOK [] fun u =>
        pins u a = some (sel, code) ∧ (∀ c, c ≠ a → pins u c = pins s c) ∧
        (s.chState a = chIDLE → s.powered (chPage a) = true → u.reg (chReg a 4).addr = sel ∧ u.reg (chReg a 8).addr = code)) ∧
      (1024 ≤ a ∨ sigOk sel = false → Answers (.pin n seq arg0 [sel, code]) s k 0x12 q cBADARG [] fun u => u.tn.pins = s.tn.pins) ∧
      (pins s a ≠ none → Answers (.unpin n seq arg0) s k 0x13 q cOK [] fun u => pins u a = none ∧ ∀ c, c ≠ a → pins u c = pins s c) ∧
      (pins s a = none → Answers (.unpin n seq arg0) s k 0x13 q cBADARG [] fun u => u.tn.pins = s.tn.pins) ∧
      (a < 4096 → Answers (.base n seq arg0) s k 0x14 q cOK [] fun u => u.tn.base = some a) ∧
      (4096 ≤ a → Answers (.base n seq arg0) s k 0x14 q cBADARG [] fun u => u.tn.base = s.tn.base))) ∧
    (let d := a % 64
     (votable d = false → Answers (.vote n seq arg0) s k 0x20 q cBADARG [] fun u =>
       u.flag F.PW_VRES_BADDOM = true ∧ u.pwr.votes = s.pwr.votes) ∧
     (votable d = true → arg0.getLsbD 8 = true → ∃ h, Answers (.vote n seq arg0) s k 0x20 q cOK (leBytes 2 h) fun u =>
       u.holders d = h ∧ h = (if s.voted d k then s.holders d else (s.holders d + 1) % 2 ^ 13) ∧ u.voted d k = true ∧
       (∀ e c, c < 8192 → (e ≠ d ∨ c ≠ k) → u.voted e c = s.voted e c) ∧
       (s.voted d k = false → s.holders d + 1 < 2 ^ 13 → s.domState d = dOFF → u.domState d = dWAKING)) ∧
     (votable d = true → arg0.getLsbD 8 = false → ∃ h, Answers (.vote n seq arg0) s k 0x20 q cOK (leBytes 2 h) fun u =>
       u.holders d = h ∧ u.voted d k = false ∧ (∀ c < 4096, c ≠ k → u.voted d c = s.voted d c)))

/-- R27, R29, R34, R35, R320, R321, R386: REGRD and REGWR complete. -/
def Obligations.RegisterCommandsOfTenants : Prop :=
  ∀ (s : State) (n : Fin 4096) (seq arg0 : Half), s.accepts n.val seq.toNat →
    let k := n.val
    let q := seq.toNat
    let o := 2 * k + 1
    let sent (u : State) (v : Word) : Prop :=
      let m := frameItems 2 (frameBytes 1 k (s.tenant k).outSeq (replyPayload 0x21 cOK q (s.icred k) (wordBytes [v])))
      (s.queue o).batch = none → (∀ w ∈ s.tn.waiting, w.2 ≠ o) → m.length ≤ (s.queue o).cred →
        (u.queue o).ready = (s.queue o).ready ++ [m]
    let up := s.domPowered 1 = true ∧ s.boot.dead = false
    (∀ p < 1024, up → implemented p = true →
      Answers (.regrd n seq 1 [BitVec.ofNat 32 (p * 4096)]) s k 0x21 q cOK (wordBytes [s.reg (p * 4096)]) fun u => sent u (s.reg (p * 4096))) ∧
    (up → s.domState 2 = dON → Answers (.regrd n seq 1 [0x158058]) s k 0x21 q cOK (wordBytes [0]) fun u => sent u 0 ∧ u.uarts = s.uarts) ∧
    -- any block register that pops nothing
    (∀ (p o : Nat) (d : RegDef), up → p < 1024 → o < 4096 → regKind p o = some (.block d) → o % 4 = 0 → s.domState (pageDom p) = dON →
      s.flag (PG_FREEZE p) = false →
      let a := p * 4096 + o
      popping a = false → drawnReg a = false → a ≠ F.Q_NEXTIN_T.addr →
      Answers (.regrd n seq 1 [BitVec.ofNat 32 a]) s k 0x21 q cOK (wordBytes [s.view (viaReader (.behalf n)) a]) fun u => u.comb = s.comb) ∧
    (∀ (p o : Nat) (d : RegDef) (v : Word), p ∈ [0x005, 0x006, 0x007, 0x008, 0x012, 0x114, 0x131, 0x132, 0x139, 0x151, 0x161] →
      o < 4096 → o % 4 = 0 → regKind p o = some (.block d) → (k = 0 → s.flag (PG_LOCK p) = false) → s.judge (.behalf n) p o true = .ok →
      Answers (.regwr n seq 1 [BitVec.ofNat 32 (p * 4096 + o), v]) s k 0x22 q cOK [] fun u =>
        u.reg (p * 4096 + o) = d.write (s.reg (p * 4096 + o)) v ∧ u.comb = s.comb) ∧
    (∀ w : Word, arg0.toNat = 0 ∨ 64 < arg0.toNat ∨ w.toNat % 4 ≠ 0 ∨ 4096 < w.toNat % 4096 + 4 * arg0.toNat →
      Answers (.regrd n seq arg0 [w]) s k 0x21 q cBADARG [] fun u => u.comb = s.comb) ∧
    (up → s.domState 2 = dENTRY → Completes (.regrd n seq 1 [0x158058]) s fun u =>
      u.pwr.held = s.pwr.held ++ [(2, .regrd n seq 1 [0x158058])] ∧ u.tn = s.tn ∧ u.regs = s.regs) ∧
    (∀ v : Word, s.judge (if k = 0 ∧ s.flag (PG_LOCK 0x152) = true then .warden else .behalf n) 0x152 0x040 true = .ok →
      Answers (.regwr n seq 1 [0x152040, v]) s k 0x22 q cOK [] fun u => u.fget F.SPI_WT_T = v.toNat % 4096 ∧
        ∀ a, a / 4096 ≠ 0x142 → a ≠ F.SPI_WT_T.addr → u.reg a = s.reg a) ∧
    (∀ (w v : Word), w.toNat % 4 = 0 → notForOwner (w.toNat / 4096 % 1024) = true → s.flag (PG_LOCK (w.toNat / 4096 % 1024)) = true →
      k = 0 → Answers (.regwr n seq 1 [w, v]) s k 0x22 q cRIGHTS [] fun u => ∀ a, a / 4096 ≠ 0x142 → u.reg a = s.reg a) ∧
    (∀ (w v : Word) (d : RegDef), w.toNat % 4 = 0 → k ≠ 0 → w.toNat < 2 ^ 22 → up → s.flag (PG_LOCK (w.toNat / 4096)) = true →
      regKind (w.toNat / 4096) (w.toNat % 4096) = some (.block d) →
      Answers (.regwr n seq 1 [w, v]) s k 0x22 q cOK [] fun u => u.flag (PG_FAULT (w.toNat / 4096) faultLOCKED) = true ∧
        ∀ a, a / 4096 ≠ 0x142 → a ≠ w.toNat / 4096 * 4096 + 0x020 → u.reg a = s.reg a)

/-- R56, R63, R110, R147, R149, R188, R287, R320, R322: SEARCH, SPECTRUM, SCHED, UNSCHED, MODEL and UCLOAD complete. -/
def Obligations.TenantsOrderSearchesSpectraAndSchedules : Prop :=
  ∀ (s : State) (n : Fin 4096) (seq arg0 : Half), s.accepts n.val seq.toNat →
    let k := n.val
    let q := seq.toNat
    let a := arg0.toNat
    (∀ ws : List Word, ws.length = 10 →
      let id := s.dfly.nextSearch
      let js := searchJobs k (searchPrio k (jdBits ws 1 20 2)) id ws
      ((∃ d ∈ js, 128 < jdBlocks d) → Answers (.search n seq arg0 ws) s k 0x28 q cTOOBIG [] fun u => u.dfly = s.dfly) ∧
      ((∀ d ∈ js, jdBlocks d ≤ 128) → Answers (.search n seq arg0 ws) s k 0x28 q cOK (leBytes 4 id) fun u =>
        u.dfly.nextSearch = id % (2 ^ 32 - 1) + 1 ∧
        (s.domState 12 ≠ dON → u.dfly.waiting = s.dfly.waiting ++ js.map (fun d => ⟨k, some id, d⟩)))) ∧
    (s.domState 11 ≠ dON → Answers (.spectrum n seq arg0) s k 0x29 q cREFUSED (leBytes 2 0) fun u => (u.tenant k).running = []) ∧
    (s.domState 11 = dON → s.flag F.SM_STAT_BUSY = true →
      Answers (.spectrum n seq arg0) s k 0x29 q cREFUSED (leBytes 2 1) fun u => (u.tenant k).running = []) ∧
    (s.domState 11 = dON → s.flag F.SM_STAT_BUSY = false → Completes (.spectrum n seq arg0) s fun u =>
      u.flag F.SM_STAT_BUSY = true ∧ u.fget F.SM_CTL_PATH = a % 8 ∧ u.fget F.SM_CTL_TAP = a / 16 % 2 ∧ u.fget F.SM_CTL_AVG = a / 256 % 16 ∧
      (u.tenant k).running = [(0x29, q)] ∧ (u.tenant k).lastSeq = some q ∧ u.comb = s.comb) ∧
    (∀ t2 t1 t0 act arg per : Word,
      let action := act.toNat / 2 ^ 20 % 16
      let c : Instr := .sched n seq arg0 [t2, t1, t0, act, arg, per]
      (s.schedRight k action arg.toNat = false → Answers c s k 0x30 q cRIGHTS [] fun u => ∀ i < 512, u.armed i = s.armed i) ∧
      (s.schedRight k action arg.toNat = true → (∀ i < 512, s.armed i = true) → Answers c s k 0x30 q cSCHEDFULL [] fun u =>
        ∀ i < 512, u.armed i = s.armed i) ∧
      (∀ i < 512, s.schedRight k action arg.toNat = true → s.armed i = false → (∀ j < i, s.armed j = true) →
        (action = 0 ∨ 7 ≤ action → Answers c s k 0x30 q cREFUSED (leBytes 2 1) fun u => u.armed i = false) ∧
        (1 ≤ action → action ≤ 6 → argOk action arg = true → Answers c s k 0x30 q cOK (leBytes 2 i) fun u =>
          u.armed i = true ∧ ownerOf (u.entry i) = k ∧ actionOf (u.entry i) = action ∧ (u.entry i).arg = arg ∧ u.mapBit F.FIRED i = false ∧
          ((u.entry i).mainsRel = false → (u.entry i).cmp = t2.toNat * 2 ^ 64 + t1.toNat * 2 ^ 32 + t0.toNat)))) ∧
    ((512 ≤ a ∨ s.armed a = false) → Answers (.unsched n seq arg0) s k 0x31 q cBADARG [] fun u => ∀ i < 512, u.armed i = s.armed i) ∧
    (a < 512 → s.armed a = true → k ≠ 0 → ownerOf (s.entry a) ≠ k → Answers (.unsched n seq arg0) s k 0x31 q cRIGHTS [] fun u =>
      u.armed a = true) ∧
    (a < 512 → s.armed a = true → (k = 0 ∨ ownerOf (s.entry a) = k) → Answers (.unsched n seq arg0) s k 0x31 q cOK [] fun u =>
      u.armed a = false ∧ ∀ i < 512, i ≠ a → u.armed i = s.armed i) ∧
    (∀ ws : List Word, k ≠ 0 → Answers (.model n seq arg0 ws) s k 0x38 q cRIGHTS [] (fun u => u.scarab = s.scarab) ∧
      Answers (.ucload n seq arg0 ws) s k 0x39 q cRIGHTS [] fun u => u.wv = s.wv) ∧
    (∀ ws : List Word, k = 0 → ws.length = 33 → s.domState 29 = dON → s.flag F.SC_MRES_PENDING = false → s.flag F.SC_MRES_BUSY = false →
      s.combOn 1 = true → Completes (.model n seq arg0 ws) s fun u =>
        u.scarab.check = some ws ∧ u.flag F.SC_MRES_BUSY = true ∧ (u.tenant 0).running = [(0x38, q)] ∧ u.combBytes 0x594000 132 = wordBytes ws) ∧
    (∀ (first : Word) (vals : List Word), k = 0 → arg0.getLsbD 8 = true → s.flag F.UC_STAT_BUSY = false → s.domPowered 1 = true →
      a % 32 ≤ 16 → vals ≠ [] → first.toNat + vals.length ≤ 16 →
      (s.flag ⟨F.UC_SEAL_V.addr, a % 32, 1⟩ = true → Answers (.ucload n seq arg0 (first :: vals)) s k 0x39 q cREFUSED (leBytes 2 1) fun u =>
        u.wv = s.wv) ∧
      (s.flag ⟨F.UC_SEAL_V.addr, a % 32, 1⟩ = false → (a % 32 < 16 → s.flag (F.WV_CTL_RUN (a % 32)) = false) →
        (∀ v ∈ vals, entryBad (v.setWidth 64) = false) →
        Answers (.ucload n seq arg0 (first :: vals)) s k 0x39 q cOK (leBytes 2 0) fun u => u.flag F.UC_STAT_BUSY = true ∧
          u.wv.uc = some { core := a % 32, part := true, src := 0, first := first.toNat, words := vals.length,
                           vals := vals.map fun (v : Word) => v.setWidth 64 }))


/-- R64, R382, R384 to R389, R391, R483: PW_CAST, PW_WITHDRAW, DOMAIN_WAKE_DONE, ENTRY_ABORT_POINT and BACKUP_ENTRY complete; the
balls of a domain without power float. -/
def Obligations.PowerVotesMoveDomains : Prop :=
  ∀ s : State,
    (∀ (via : Via) (dom : BitVec 6) (client : BitVec 13), s.judge via 0x004 0x040 true = .ok →
      let d := dom.toNat
      let c := client.toNat
      let refused (u : State) (baddom badcli : Bool) (n : Nat) : Prop := u.flag F.PW_VRES_BADDOM = baddom ∧ u.flag F.PW_VRES_BADCLI = badcli ∧
        u.flag F.PW_VRES_CHANGED = false ∧ u.flag F.PW_VRES_DONE = true ∧ u.fget F.PW_VRES_HOLDERS = n ∧ OnlyRegs s u [0x004044]
      let voted (u : State) (was : Bool) : Prop := u.flag F.PW_VRES_CHANGED = was ∧ u.flag F.PW_VRES_BADDOM = false ∧
        u.flag F.PW_VRES_BADCLI = false ∧ u.fget F.PW_VRES_HOLDERS = u.holders d
      (∀ cmd ∈ [Instr.pwCast via dom client, .pwWithdraw via dom client],
        (votable d = false → Completes cmd s fun u => refused u true false 0) ∧
        (votable d = true → 4099 ≤ c → Completes cmd s fun u => refused u false true (s.holders d))) ∧
      (votable d = true → c < 4099 → Completes (.pwCast via dom client) s fun u =>
        u.voted d c = true ∧ voted u (!s.voted d c) ∧ u.holders d = (if s.voted d c then s.holders d else (s.holders d + 1) % 2 ^ 13) ∧
        (s.domState d = dOFF → s.voted d c = false → s.holders d + 1 < 2 ^ 13 → u.domState d = dWAKING) ∧
        (∀ e b, b < 8192 → (e ≠ d ∨ b ≠ c) → u.voted e b = s.voted e b)) ∧
      (votable d = true → c < 4099 → (d < 13 ∨ 28 < d) → Completes (.pwWithdraw via dom client) s fun u =>
        u.voted d c = false ∧ voted u (s.voted d c) ∧ u.holders d = (if s.voted d c then s.holders d - 1 else s.holders d) ∧
        (s.domState d = dON → s.voted d c = true → s.holders d ≤ 1 → u.domState d = dENTRY) ∧
        (∀ e b, b < 8192 → (e ≠ d ∨ b ≠ c) → u.voted e b = s.voted e b)) ∧
      (13 ≤ d → d ≤ 28 → c < 4099 → Completes (.pwWithdraw via dom client) s fun u => u.voted d c = false)) ∧
    (∀ dom : Fin 38,
      let d := dom.val
      (s.domState d ≠ dWAKING → exec (.domainWakeDone dom) s = .next s) ∧
      (s.domState d = dWAKING → d ∈ [31, 34, 35] → Completes (.domainWakeDone dom) s fun u =>
        u.domState d = (if s.holders d = 0 then dENTRY else dON) ∧ u.flag (pwOn d) = true ∧ Rises s u 0x004 0 ∧
        (Tab.get (fun _ => false) s.pwr.retOk d = true → Tab.wf regReset s.pwr.ret = true → ∀ e ∈ s.pwr.ret, inDom d e.1 = true →
          u.reg e.1 = e.2)) ∧
      (s.domState d ≠ dENTRY → exec (.entryAbortPoint dom) s = .next s) ∧
      (s.domState d = dENTRY → d ≠ 1 → (∀ x ∈ s.pwr.held, x.1 ≠ d) →
        let ap := s.fget (F.PW_D_AP d)
        (s.holders d ≠ 0 → Completes (.entryAbortPoint dom) s fun u => u.domState d = dON ∧
          u.fget (F.PW_CNT_ABAND d) = satInc 16 (s.fget (F.PW_CNT_ABAND d)) ∧ Rises s u 0x004 2 ∧
          (∀ a, inDom d a = true → a ≠ F.CB_STAT_QON.addr → u.reg a = s.reg a) ∧ u.comb = s.comb) ∧
        (s.holders d = 0 → ap < 3 → Completes (.entryAbortPoint dom) s fun u => u.domState d = dENTRY ∧ u.fget (F.PW_D_AP d) = ap + 1 ∧
          (ap = 1 → s.regsWf = true → Tab.get (fun _ => false) u.pwr.retOk d = true ∧ ∀ a, inDom d a = true →
            Tab.get regReset u.pwr.ret a = (regReset a &&& ~~~(retBits a)) ||| (s.reg a &&& retBits a))) ∧
        (s.holders d = 0 → ap = 3 → d ∈ [29, 31, 32, 33, 35, 36] → Completes (.entryAbortPoint dom) s fun u => u.domState d = dOFF ∧
          u.flag (pwOn d) = false ∧ u.fget (F.PW_CNT_ENTRIES d) = satInc 16 (s.fget (F.PW_CNT_ENTRIES d)) ∧ Rises s u 0x004 1 ∧
          u.pwr.ret = s.pwr.ret ∧ (29 = d ∨ 35 ≤ d → ∀ a, inDom d a = true → u.reg a = regReset a) ∧
          (31 ≤ d → d ≤ 33 → ∀ a < 2 ^ 24, u.combByte a = if a / 2 ^ 22 = d - 30 then 0 else s.combByte a)))) ∧
    (s.domPowered 1 = true → s.pwr.sleeping = true → s.voted 1 WARDEN = true → s.holders 1 = 1 → Completes .backupEntry s fun u =>
      u.voted 1 WARDEN = false ∧ (∀ d, 0 < d → d < 38 → u.domState d = dOFF) ∧ u.pwr.sleeping = false ∧
      ((∀ n j, s.job n = some j → ∀ b ∈ j.blocks, b < 128) → ∀ i e, i < 512 → (i, e) ∈ s.sched → s.armed i = true → actionOf (s.entry i) = 6 → (s.entry i).cmp < 2 ^ 96 →
        u.flag F.AON_ALMEN_EN = true ∧ u.get96 F.AON_ALM_T ≤ (s.entry i).cmp)) ∧
    (s.pwr.sleeping = false → exec .backupEntry s = .next s) ∧
    (∀ b : Ball, s.domPowered b.dom = false → s.drive b = .floats)

/-- R387, R390, R397: THERM_SAMPLE and DWELL_EXPIRY complete. -/
def Obligations.ThermalFlagsFollowTheSensors : Prop :=
  ∀ (s : State) (t0 t1 t2 t3 : Int),
    let r (t : Int) : Int := clampInt (-0x8000) 0x7FFF ((4 * t + 500) / 1000)
    let ts := [r t0, r t1, r t2, r t3]
    let after (k : Nat) (free : Bool) (temps : List Int) : Bool :=
      if s.flag (thFlag k) then !(free && temps.all (fun t => decide (t ≤ s.thLimit k - 12)))
      else (free || k == 2) && temps.any (fun t => decide (s.thLimit k ≤ t))
    let crit (u : State) : Prop :=
      (s.flag (thFlag 2) = false → u.flag (thFlag 2) = true → ∀ d ∈ critDomains, u.domState d = dFORCED) ∧
      (s.flag (thFlag 2) = true → u.flag (thFlag 2) = false → ∀ d ∈ critDomains, s.domState d = dFORCED →
        u.domState d = if s.holders d = 0 then dOFF else dWAKING)
    (s.domPowered 1 = false → exec (.thermSample [t0, t1, t2, t3]) s = .next s) ∧
    (s.domPowered 1 = true → Completes (.thermSample [t0, t1, t2, t3]) s fun u =>
      (∀ i < 4, u.fget (F.TH_T_T i) = unsigned 16 (ts.getD i 0)) ∧
      (∀ t ∈ ts, t ≤ sgn 16 (u.fget F.TH_MAX_T)) ∧ (sgn 16 (u.fget F.TH_MAX_T) = sgn 16 (s.fget F.TH_MAX_T) ∨ sgn 16 (u.fget F.TH_MAX_T) ∈ ts) ∧
      (∀ k < 3, u.flag (thFlag k) = after k (!s.flag (thDwell k)) ts ∧
        (u.flag (thFlag k) ≠ s.flag (thFlag k) → u.flag (thDwell k) = true ∧ Rises s u 0x009 k) ∧
        (u.flag (thFlag k) = s.flag (thFlag k) → u.flag (thDwell k) = s.flag (thDwell k))) ∧ crit u) ∧
    (∀ k : Fin 3,
      (s.flag (thDwell k.val) = false → exec (.dwellExpiry k) s = .next s) ∧
      (s.flag (thDwell k.val) = true → Completes (.dwellExpiry k) s fun u =>
        u.flag (thFlag k.val) = after k.val true s.thTemps ∧ u.flag (thDwell k.val) = (u.flag (thFlag k.val) != s.flag (thFlag k.val)) ∧
        (u.flag (thFlag k.val) ≠ s.flag (thFlag k.val) → Rises s u 0x009 k.val) ∧ (k.val = 2 → crit u)))

/-- R48, R270, R288, R368, R392 to R394: WAKE_ALARM, WAKE_PIN, AON_COMPARATOR_CHANGE, AON_GWREQ, GWRST, GWLD, GWLD_DONE and
UART_SLEEP_WAKE complete. -/
def Obligations.AlwaysOnDomainWatchesAndWakes : Prop :=
  ∀ s : State,
    let woken (u : State) (b : Nat) : Prop := u.domPowered 1 = true ∧ u.fget F.RST_CAUSE_CAUSE = 2 ∧ (u.fget F.AON_WCAUSE_C).testBit b = true ∧
      u.boot.fromBackup = true
    let event (c : Instr) (b line : Nat) : Prop :=
      (s.domPowered 1 = true ∨ (s.fget F.AON_WAKEEN_EN).testBit b = false → Completes c s fun u =>
        (u.core 17).ipend.getLsbD line = true ∧ u.domPowered 1 = s.domPowered 1 ∧ u.comb = s.comb ∧ u.aon.late = s.aon.late) ∧
      (s.domPowered 1 = false → (s.fget F.AON_WAKEEN_EN).testBit b = true → Completes c s fun u =>
        (u.core 17).ipend.getLsbD line = true ∧ woken u b)
    (s.flag F.AON_ALMEN_EN = true → s.get96 F.AON_ALM_T ≤ s.sky.aon → event .wakeAlarm 0 0) ∧
    ((s.flag F.AON_ALMEN_EN = false ∨ s.sky.aon < s.get96 F.AON_ALM_T) → exec .wakeAlarm s = .next s) ∧
    ((s.fget F.AON_CTL_CEN).testBit 3 = true → s.flag (aonLvl 3) = false → event .wakePin 1 1 ∧ event (.aonComparatorChange .wake true) 1 1) ∧
    ((s.fget F.AON_CTL_CEN).testBit 3 = false ∨ s.flag (aonLvl 3) = true → exec .wakePin s = .next s) ∧
    ((s.fget F.AON_CTL_CEN).testBit 0 = true → s.flag (aonLvl 0) = true → Completes (.aonComparatorChange .vbat false) s fun u =>
      u.flag (aonLvl 0) = false ∧ u.flag F.SKY_STATE_AONVALID = false ∧ (u.core 17).ipend.getLsbD 1 = true ∧
      (s.domPowered 1 = true → Rises s u 0x1A0 0) ∧ (s.domPowered 1 = false → 0 ∈ u.aon.late)) ∧
    ((s.fget F.AON_CTL_CEN).testBit 0 = true → s.flag (aonLvl 0) = false → s.domPowered 1 = true → s.skyState = skSTEERED →
      Completes (.aonComparatorChange .vbat true) s fun u => u.flag (aonLvl 0) = true ∧ u.flag F.SKY_STATE_AONVALID = true) ∧
    (∀ level : Bool, (s.fget F.AON_CTL_CEN).testBit 1 = true → s.flag (aonLvl 1) ≠ level → Completes (.aonComparatorChange .vmain level) s
      fun u => u.flag (aonLvl 1) = level ∧ (u.core 17).ipend.getLsbD 1 = true ∧ u.aon.vmainT = (if level then some s.now else none)) ∧
    (∀ level : Bool, (s.fget F.AON_CTL_CEN).testBit 2 = true → s.flag (aonLvl 2) ≠ level → Completes (.aonComparatorChange .mains level) s
      fun u => u.flag (aonLvl 2) = level ∧ (u.core 17).ipend.getLsbD 1 = true ∧ OnlyRegs { s with wv := u.wv } u [F.AON_STAT_LVL.addr]) ∧
    (s.domPowered 1 = true → exec .aonGwreq s = .next s) ∧
    (s.domPowered 1 = false → Completes .aonGwreq s fun u => woken u 5) ∧
    (∀ via : Via,
      (s.judge via 0x1A0 0x040 true = .ok → Completes (.gwrst via) s fun u =>
        let c := s.core 17
        u.core 17 = { code := c.code, data := c.data, table := c.table, micro := c.micro } ∧ (u.core 17).p = 8 ∧
        u.flag F.AON_STAT_GWFAULT = false ∧ u.fget F.AON_STAT_GWCAUSE = 0 ∧ OnlyRegs { s with wv := u.wv } u [F.AON_STAT_GWFAULT.addr]) ∧
      (s.judge via 0x1A0 0x06C true = .ok → s.flag F.AON_GWLD_GO = true → exec (.gwld via) s = .next s) ∧
      (s.judge via 0x1A0 0x06C true = .ok → s.flag F.AON_GWLD_GO = false → Completes (.gwld via) s fun u =>
        u.flag F.AON_GWLD_GO = true ∧ u.core 17 = s.core 17 ∧ ∃ j, Tab.get (fun _ => none) u.wv.loads 17 = some j ∧
          j.src = 64 * s.fget F.AON_GWSRC_ADDR ∧ j.part = s.flag F.AON_GWLD_DATA ∧
          (let full := if s.flag F.AON_GWLD_DATA then 1024 else 2048
           j.words = if s.fget F.AON_GWLD_WORDS = 0 then full else min full (s.fget F.AON_GWLD_WORDS)))) ∧
    (∀ j, Tab.get (fun _ => none) s.wv.loads 17 = some j → (∀ q < 4, s.combOn q = true) → Completes .gwldDone s fun u =>
      let word (a : Nat) : Half := BitVec.ofNat 16 (ofLe (s.combBytes (j.src + 2 * a) 2))
      let mem (v : State) : Tab Half := if j.part then (v.core 17).data else (v.core 17).code
      (∀ a, Tab.get (fun _ => 0) (mem u) a = if a < j.words then word a else Tab.get (fun _ => 0) (mem s) a) ∧
      u.flag F.AON_GWLD_GO = false ∧ Tab.get (fun _ => none) u.wv.loads 17 = none ∧ u.comb = s.comb) ∧
    (Tab.get (fun _ => none) s.wv.loads 17 = none → exec .gwldDone s = .next s) ∧
    (∀ (u : Fin 4) (line : List Bool), u.val = 0 ∨ u.val = 3 →
      let m := s.fget (F.U_SLEEP_SLMODE u.val)
      let addr := Tab.get regReset s.pwr.ret (F.U_ADDR_ADDR u.val).addr
      let heard := ∃ c, sleepChar (s.flag (F.U_SLEEP_SLRATE u.val)) line = some c ∧ c.testBit 8 = true ∧
        addrMatch (addr.toNat % 256) (addr.toNat / 256 % 256) (addr.getLsbD 16) (c % 256) = true
      (s.domPowered 2 = true ∨ (m ≠ 1 ∧ m ≠ 2) → exec (.uartSleepWake u line) s = .next s) ∧
      (m = 1 → (∀ c, sleepChar (s.flag (F.U_SLEEP_SLRATE u.val)) line = some c → c.testBit 8 = false) → exec (.uartSleepWake u line) s = .next s) ∧
      (s.domPowered 2 = false → m = 2 ∨ (m = 1 ∧ Tab.get (fun _ => false) s.pwr.retOk 2 = true ∧ heard) →
        event (.uartSleepWake u line) (if u.val = 0 then 3 else 4) 3 ∧
        Completes (.uartSleepWake u line) s fun v => v.fget (F.U_SLEEP_WAKES u.val) =
          satInc (F.U_SLEEP_WAKES u.val).w (s.fget (F.U_SLEEP_WAKES u.val))))

/-- R391, R399, R401 to R403, R405 to R408: METER_TICK, PLANNING_STEP, VMAIN_CUT, VMAIN_RETURN, RESERVE_SPENT, GRANT_EXPIRY, GRANT,
SHEDPRI and SLEEP complete. -/
def Obligations.LedgerMetersPlansAndCuts : Prop :=
  ∀ s : State,
    (∀ rails : List (Nat × Half × Half), s.domPowered 1 = true → Completes (.meterTick rails) s fun u =>
      let uj (r : Nat) : Nat := (rails.getD r (0, 0, 0)).1
      let total := uj 0 + uj 1 + uj 2 + uj 3 + uj 4 + uj 6
      let cls := s.clsUj.1
      u.get64 F.LG_TOT_HI F.LG_TOT_LO = (s.get64 F.LG_TOT_HI F.LG_TOT_LO + total) % 2 ^ 64 ∧
      (∀ r ∈ [0, 1, 2, 3, 4, 6], u.get64 (F.LG_RAIL_HI r) (F.LG_RAIL_LO r) = (s.get64 (F.LG_RAIL_HI r) (F.LG_RAIL_LO r) + uj r) % 2 ^ 64 ∧
        u.fget (F.PW_RAIL_MA r) = (rails.getD r (0, 0, 0)).2.2.toNat) ∧ u.fget (F.PW_RAIL_MA 5) = 0 ∧
      (∀ c < 6, u.get64 (F.LG_CLS_HI c) (F.LG_CLS_LO c) =
        (s.get64 (F.LG_CLS_HI c) (F.LG_CLS_LO c) + if c = 0 then total - sumNat cls else cls.getD (c - 1) 0) % 2 ^ 64) ∧
      u.pwr.clsRem = s.clsUj.2 ∧ u.pwr.ranCells = 0 ∧ u.pwr.ranFull = 0 ∧ u.pwr.ranArc = 0 ∧ u.pwr.cutMs = none ∧
      (s.pwr.cutMs = none → s.flag F.LG_STAT_CUT = false → u.pwr.ePer = s.pwr.ePer + total ∧ u.pwr.rsvUj = s.pwr.rsvUj) ∧
      (s.pwr.cutMs = none → s.flag F.LG_STAT_CUT = true → u.pwr.ePer = s.pwr.ePer ∧ u.pwr.rsvUj = s.pwr.rsvUj + total) ∧
      (∀ est, s.pwr.cutMs = some (est, true) → u.pwr.ePer = s.pwr.ePer + (total - est) ∧ u.pwr.rsvUj = s.pwr.rsvUj) ∧
      (∀ est, s.pwr.cutMs = some (est, false) → s.flag F.LG_STAT_CUT = true → u.pwr.ePer = s.pwr.ePer ∧
        u.pwr.rsvUj = s.pwr.rsvUj - est + total)) ∧
    (s.domPowered 1 = true →
      let sod := s.utcSod (s.now / sec)
      let v := (s.tickClose sod).takeItems
      let only := s.flag F.LG_CTL_EN = true ∧ s.flag F.LG_CTL_TAREN = false ∧ s.flag F.LG_STAT_THSHED = false
      (∀ x, x ∈ v.pwr.items ∨ x ∈ v.pwr.shed → x ∈ (s.tickClose sod).workItems) ∧
      Completes .planningStep s fun u =>
        (u.pwr.items ++ u.pwr.shed).Perm (v.pwr.items ++ v.pwr.shed) ∧
        (∀ x ∈ v.pwr.items, x.prio.val = 7 → x ∈ u.pwr.items) ∧
        (sod % s.dmdLen = 0 → u.fget F.DMD_LAST = min 0xFFFFFFFF (s.pwr.eInt / 1000) ∧ u.fget F.DMD_E = 0 ∧ u.pwr.eInt = 0 ∧ Rises s u 0x008 3) ∧
        (only → s.flag F.LG_CTL_DEMEN = false → s.flag F.LG_STAT_CUT = true → u.pwr.allow = some (s.fget F.RSV_CFG_P.act)) ∧
        (only → s.flag F.LG_CTL_DEMEN = true → s.flag F.LG_STAT_CUT = false → s.fget F.DMD_CAP.act ≠ 0 → sod % s.dmdLen ≠ 0 →
          u.pwr.allow = some ((((s.fget F.DMD_CAP.act * 1000 : Nat) : Int) - s.pwr.eInt) / ((s.dmdLeft sod * 1000 : Nat) : Int)).toNat) ∧
        (s.flag F.LG_STAT_CUT = true → (s.tarValid.map fun i => s.tarStart i % 86400).contains sod = true →
          u.flag F.LG_STAT_TARPEND = true ∧ u.fget F.LG_STAT_PER = s.fget F.LG_STAT_PER)) ∧
    (∀ j : Byte,
      ((s.domPowered 1 = false ∨ s.vmainOn = false ∨ s.flag (aonLvl 1) = true ∨ s.flag F.LG_STAT_CUT = true ∨ s.aon.vmainF = none) →
        exec (.vmainCut j) s = .next s) ∧
      (∀ t inc, s.aon.vmainF = some (t, inc) →
        (s.now < t + us 100 → exec (.vmainCut j) s = .next s) ∧
        (t + us 100 ≤ s.now → s.domPowered 1 = true → s.vmainOn = true → s.flag (aonLvl 1) = false → s.flag F.LG_STAT_CUT = false →
          let c := (t + j.toNat * inc / 256 / 2 ^ 32) % 2 ^ 96
          let m := ms s.pwr.meterMs
          let uj (x : Nat) : Nat := s.pwr.lastUj * x / ms 1
          let late := min (uj (m - c)) (min s.pwr.ePer s.pwr.eInt)
          let est := uj (m + ms 1 - max c m)
          Completes (.vmainCut j) s fun u =>
            u.flag F.LG_STAT_CUT = true ∧ u.pwr.ePer = s.pwr.ePer - late ∧ u.pwr.eInt = s.pwr.eInt - late ∧ u.pwr.rsvUj = late + est ∧
            u.fget F.RSV_USED = min 0xFFFFFFFF ((late + est) / 1000) ∧ u.pwr.cutMs = some (est, decide (m ≤ c)) ∧
            u.pwr.allow = some (s.fget F.RSV_CFG_P.act) ∧ Rises s u 0x008 0 ∧
            ∀ x ∈ u.pwr.items, s.fget F.RSV_CFG_KEEP.act ≤ x.prio.val ∨ x.prio.val = 7 ∨ x.cls = 3 ∨ x.cls = 0))) ∧
    (s.vmainOn = true → s.domPowered 1 = true →
      (s.flag F.LG_STAT_CUT = false ∨ s.aon.vmainT = none → exec .vmainReturn s = .next s) ∧
      (∀ t, s.aon.vmainT = some t →
        let due := t + max 1 (s.fget F.LG_CTL_RESTT) * sec
        (s.now < due → exec .vmainReturn s = .next s) ∧
        (due ≤ s.now → s.flag F.LG_STAT_CUT = true → Completes .vmainReturn s fun u => u.flag F.LG_STAT_CUT = false ∧
          u.flag F.LG_STAT_TARPEND = false ∧ Rises s u 0x008 1 ∧
          (s.flag F.LG_STAT_TARPEND = true → ∀ i < 8, s.tarAt (s.utcSod (s.now / sec)) = some i → u.fget F.LG_STAT_PER = i ∧ u.pwr.ePer = 0)))) ∧
    (s.vmainOn = true → s.domPowered 1 = false → s.flag (aonLvl 1) = true → (s.fget F.AON_WAKEEN_EN).testBit 2 = true →
      Completes .vmainReturn s fun u => u.domPowered 1 = true ∧ u.fget F.RST_CAUSE_CAUSE = 2 ∧ (u.fget F.AON_WCAUSE_C).testBit 2 = true) ∧
    (s.flag F.LG_STAT_CUT = false ∨ s.fget F.RSV_USED < s.fget F.RSV_E.act → exec .reserveSpent s = .next s) ∧
    (s.flag F.LG_STAT_CUT = true → s.fget F.RSV_E.act ≤ s.fget F.RSV_USED →
      (s.flag F.RSV_CFG_END.act = true → exec .reserveSpent s = .next { s with pwr.sleeping := true }) ∧
      (s.flag F.RSV_CFG_END.act = false → Completes .reserveSpent s fun u =>
        (∀ d < 38, d ≠ 1 → u.voted d ALLOCATOR = false ∧ u.voted d WARDEN = false) ∧ u.voted 1 WARDEN = s.voted 1 WARDEN ∧
        ∀ d c, c < 4096 → u.voted d c = s.voted d c)) ∧
    (∀ (slot : Fin 16) (g : Grant), Tab.get (fun _ => none) s.pwr.grants slot.val = some g →
      (g.left ≠ 0 → exec (.grantExpiry slot) s = .next s) ∧
      (g.left = 0 → Completes (.grantExpiry slot) s fun u => Tab.get (fun _ => none) u.pwr.grants slot.val = none ∧
        u.fget F.LG_GRANT_N = u.grantsOn.length % 32)) ∧
    (∀ (n : Fin 4096) (seq arg0 : Half) (w d : Word), s.accepts n.val seq.toNat →
      let k := n.val
      let q := seq.toNat
      let a := arg0.toNat
      let slots (u : State) (i : Nat) := Tab.get (fun _ => none) u.pwr.grants i
      (k ≠ 0 → Answers (.grant n seq arg0 [w, d]) s k 0x40 q cRIGHTS [] (fun u => u.pwr = s.pwr) ∧
        Answers (.shedpri n seq arg0 [w]) s k 0x41 q cRIGHTS [] (fun u => ∀ j, (u.tenant j).prio = (s.tenant j).prio) ∧
        Answers (.sleep n seq arg0) s k 0x42 q cRIGHTS [] fun u => u.pwr = s.pwr) ∧
      (k = 0 →
        (a < 16 → Completes (.grant n seq arg0 [w, d]) s fun u => (u.tenant 0).lastSeq = some q ∧
          slots u a = (if d.toNat = 0 then none else some ⟨w.toNat, d.toNat⟩) ∧ (∀ i, i ≠ a → slots u i = slots s i) ∧
          u.fget F.LG_GRANT_N = u.grantsOn.length % 32) ∧
        (16 ≤ a → Answers (.grant n seq arg0 [w, d]) s 0 0x40 q cBADARG [] fun u => u.pwr = s.pwr) ∧
        (a < 8 → w.toNat < 4096 → (s.tenant w.toNat).live = true → Answers (.shedpri n seq arg0 [w]) s 0 0x41 q cOK [] fun u =>
          (u.tenant w.toNat).prio = a ∧ ∀ j, j ≠ w.toNat → (u.tenant j).prio = (s.tenant j).prio) ∧
        (8 ≤ a ∨ 4096 ≤ w.toNat ∨ (s.tenant w.toNat).live = false → Answers (.shedpri n seq arg0 [w]) s 0 0x41 q cBADARG [] fun u =>
          ∀ j, (u.tenant j).prio = (s.tenant j).prio) ∧
        (a = 0 → Answers (.sleep n seq arg0) s 0 0x42 q cOK [] fun u => u.pwr.sleeping = true) ∧
        (a ≠ 0 → Answers (.sleep n seq arg0) s 0 0x42 q cBADARG [] fun u => u.pwr = s.pwr)))


/-- R423, R427, R428: UPDOPEN, UPDDATA, UPDWRITE, FLASH_WRITE_DONE and UPDABORT complete. -/
def Obligations.UpdateIsReceivedWrittenAndStaged : Prop :=
  ∀ s : State,
    let st := s.fget F.UP_STAT_STATE
    let got := s.fget F.UP_RCVD_N
    let len := s.fget F.UP_LEN_N
    let at' (u : State) (state result : Nat) : Prop := u.fget F.UP_STAT_STATE = state ∧ u.fget F.UP_STAT_RESULT = result
    (∀ (n : Fin 4096) (seq arg0 : Half) (ws : List Word) (offset : Word) (bytes : List Byte), s.accepts n.val seq.toNat → n.val ≠ 0 →
      ∀ c op, (c, op) ∈ [(Instr.updopen n seq arg0 ws, 0x50), (.upddata n seq arg0 offset bytes, 0x51), (.updwrite n seq arg0, 0x52),
          (.updhover n seq arg0 ws, 0x53), (.updabort n seq arg0, 0x54), (.confirm n seq arg0, 0x55), (.osnmaroot n seq arg0 bytes, 0x5A)] →
        Answers c s n.val op seq.toNat cRIGHTS [] fun u => at' u st (s.fget F.UP_STAT_RESULT) ∧ u.upd = s.upd ∧ u.fuses = s.fuses ∧
          u.cp = s.cp ∧ u.comb = s.comb ∧ u.xspi = s.xspi) ∧
    (∀ (seq : Half) (w crc offset : Word) (bytes : List Byte), s.accepts 0 seq.toNat →
      let q := seq.toNat
      ((st = 0 ∨ st = 3 ∨ st = 5 ∨ st = 6) →
        (w.toNat ≤ 0x100000 → Answers (.updopen 0 seq 0 [w, crc]) s 0 0x50 q cOK [] fun u => at' u 1 0 ∧ u.fget F.UP_LEN_N = w.toNat ∧
          u.fget F.UP_CRC = crc.toNat ∧ u.fget F.UP_RCVD_N = 0 ∧ u.voted 33 ALLOCATOR = true) ∧
        (0x100000 < w.toNat → Answers (.updopen 0 seq 0 [w, crc]) s 0 0x50 q cBADARG [] fun u => at' u st (s.fget F.UP_STAT_RESULT))) ∧
      (st = 1 → bytes.length ≤ 65000 →
        (offset.toNat = got → got + bytes.length ≤ len →
          Answers (.upddata 0 seq 0 offset bytes) s 0 0x51 q cOK (leBytes 4 (got + bytes.length)) fun u =>
            u.fget F.UP_RCVD_N = got + bytes.length ∧ u.combBytes (0xE00000 + got) bytes.length = bytes ∧
            ∀ a < 2 ^ 24, (a < 0xE00000 + got ∨ 0xE00000 + got + bytes.length ≤ a) → u.combByte a = s.combByte a) ∧
        (offset.toNat ≠ got → Answers (.upddata 0 seq 0 offset bytes) s 0 0x51 q cBADARG [] fun u =>
          u.fget F.UP_RCVD_N = got ∧ u.comb = s.comb)) ∧
      (st = 1 →
        let image := s.combBytes 0xE00000 len
        let magic := ofLe (image.take 4)
        let bad := if got ≠ len then 3 else if crc32c image ≠ s.fget F.UP_CRC then 1 else if magic ≠ 0x4D49544B then 2 else 0
        (bad ≠ 0 → Answers (.updwrite 0 seq 0) s 0 0x52 q cOK (leBytes 2 bad) fun u => at' u 5 bad ∧ u.xspi = s.xspi ∧ Rises s u 0x161 0) ∧
        (bad = 0 → Completes (.updwrite 0 seq 0) s fun u => at' u 2 0 ∧ u.xspi = s.xspi ∧ (u.tenant 0).running = [(0x52, q)] ∧
          (u.tenant 0).lastSeq = some q)) ∧
      ((st = 1 ∨ st = 3 ∨ st = 4) → Answers (.updabort 0 seq 0) s 0 0x54 q cOK [] fun u => at' u 0 6 ∧ u.upd.entry = none ∧
        ∀ i, s.upd.entry = some i → i < 512 → u.armed i = false)) ∧
    (∀ bad : List (Nat × Byte),
      (st ≠ 2 → exec (.flashWriteDone bad) s = .next s) ∧
      (st = 2 → s.domPowered 2 = true → Completes (.flashWriteDone bad) s fun u =>
        (u.fget F.XS_CRC = s.fget F.UP_CRC → at' u 3 0 ∧ Rises s u 0x161 0) ∧
        (u.fget F.XS_CRC ≠ s.fget F.UP_CRC → s.upd.again = false → u.fget F.UP_STAT_STATE = 2 ∧ u.upd.again = true) ∧
        (u.fget F.XS_CRC ≠ s.fget F.UP_CRC → s.upd.again = true → at' u 5 4 ∧ Rises s u 0x161 0) ∧
        (bad = [] → (∀ a < len, Tab.get flashDefault u.xspi.flash a = s.combByte (0xE00000 + a)) ∧
          (crc32c (s.combBytes 0xE00000 len) = s.fget F.UP_CRC → at' u 3 0))))

/-- R426, R428 to R430: UPDHOVER, HANDOVER and CONFIRM complete. -/
def Obligations.ImagesHandOverAndAreConfirmed : Prop :=
  ∀ s : State,
    let st := s.fget F.UP_STAT_STATE
    let at' (u : State) (state result : Nat) : Prop := u.fget F.UP_STAT_STATE = state ∧ u.fget F.UP_STAT_RESULT = result
    let new := parseImage (s.combBytes 0xE00000 (s.fget F.UP_LEN_N))
    (∀ (seq : Half) (w2 w1 w0 : Word), s.accepts 0 seq.toNat →
      let q := seq.toNat
      let h := w2.toNat * 2 ^ 64 + w1.toNat * 2 ^ 32 + w0.toNat
      let hover : Instr := .updhover 0 seq 0 [w2, w1, w0]
      let apart := s.upd.image.map Image.hover ≠ some new.hover
      (st ≠ 3 ∨ s.epochAt h = false ∨ h < s.now + 28147497671066 →
        Answers hover s 0 0x53 q cREFUSED (leBytes 2 (s.fget F.UP_STAT_RESULT)) fun u => at' u st (s.fget F.UP_STAT_RESULT) ∧ u.sched = s.sched) ∧
      (st = 3 → s.epochAt h = true → s.now + 28147497671066 ≤ h →
        (apart → Answers hover s 0 0x53 q cREFUSED (leBytes 2 5) fun u => at' u 3 5 ∧ u.sched = s.sched) ∧
        (∀ i < 512, ¬ apart → s.armed i = false → (∀ j < i, s.armed j = true) → Answers hover s 0 0x53 q cOK (leBytes 2 i) fun u =>
          at' u 4 0 ∧ u.armed i = true ∧ (u.entry i).anchor = h ∧ u.upd.entry = some i ∧ u.get96 F.UP_HT = h ∧
          ∀ j < 512, j ≠ i → u.armed j = s.armed j))) ∧
    ((s.upd.entry = none ∨ st ≠ 4) → exec .handover s = .next s) ∧
    (∀ i, s.upd.entry = some i → st = 4 → s.armed i = false → s.mapBit F.FIRED i = true →
      (crc32c (bankBytes new) = new.bankcrc → Completes .handover s fun u =>
        at' u 6 0 ∧ u.upd.image = some new ∧ (u.core 16).k = BitVec.ofNat 2 new.hand.1 ∧ (u.core 16).p = BitVec.ofNat 16 new.hand.2 ∧
        u.combBytes 0 (s.fget F.UP_LEN_N) = s.combBytes 0xE00000 (s.fget F.UP_LEN_N) ∧ u.fget F.UP_RUN_SECVER = new.secver ∧
        (∀ a < 3 * 65536, Tab.get (fun _ => 0) (u.core 16).code a = new.banks.getD a 0) ∧
        u.fget F.UP_RUN_SETFMT = new.setfmt ∧ u.fget F.UP_VER = new.version ∧ u.flag F.UP_CONF_CONFIRMED = false) ∧
      (∀ old, s.upd.image = some old → crc32c (bankBytes new) ≠ new.bankcrc → Completes .handover s fun u =>
        at' u 3 5 ∧ u.upd.image = some old ∧ (u.core 16).k = BitVec.ofNat 2 old.restart.1 ∧ (u.core 16).p = BitVec.ofNat 16 old.restart.2 ∧
        u.comb = s.comb ∧ Rises s u 0x161 0)) ∧
    (∀ (seq : Half), s.accepts 0 seq.toNat →
      (1 ≤ st → st ≤ 4 → Answers (.confirm 0 seq 0) s 0 0x55 seq.toNat cINUSE [] fun u => u.fuses = s.fuses ∧ u.upd = s.upd) ∧
      (∀ i, s.upd.image = some i → i.secver ≤ 64 → (st = 0 ∨ st = 5 ∨ st = 6) →
        Answers (.confirm 0 seq 0) s 0 0x55 seq.toNat cOK (leBytes 2 (max s.fuses.arb i.secver)) fun u =>
          u.fuses = { s.fuses with arb := max s.fuses.arb i.secver } ∧ (∀ f ∈ u.upd.formats, f = i.setfmt) ∧
          u.flag F.UP_CONF_CONFIRMED = true ∧ u.flag F.UP_CONF_OLDFMT = false))

/-- R417 to R419: CP_SHA256, CP_HMAC, CP_CMAC, CP_GCMENC, CP_GCMDEC, CP_ECDSA256, CP_ECDSA521, CP_RANDOM, CP_JOB_DONE and CP_DONE_CLEAR
complete. -/
def Obligations.CarapaceTakesAndRunsJobs : Prop :=
  ∀ (s : State) (via : Via),
    let cls := s.fget F.CP_CMD_CLASS
    let ret (u : State) (code slot : Nat) : Prop := u.flag F.CP_RET_VALID = true ∧ u.fget F.CP_RET_CODE = code ∧ u.fget F.CP_RET_SLOT = slot
    (∀ c op, (c, op) ∈ [(Instr.cpSha256 via, 1), (.cpHmac via, 2), (.cpCmac via, 3), (.cpGcmenc via, 4), (.cpGcmdec via, 5),
        (.cpEcdsa256 via, 6), (.cpEcdsa521 via, 7), (.cpRandom via, 8)] → s.judge via 0x160 0x040 true = .ok →
      (cls = 3 → Completes c s fun u => ret u 2 0 ∧ u.cp = s.cp ∧ ∀ i < 4, u.cpState i = s.cpState i) ∧
      (cls ≤ 2 → (∀ i < 4, s.cpState i ≠ cpFREE) → Completes c s fun u => ret u 1 0 ∧ u.cp = s.cp ∧
        u.fget F.CP_CNT_BUSY = satInc 16 (s.fget F.CP_CNT_BUSY) ∧ Rises s u 0x160 2 ∧ ∀ i < 4, u.cpState i = s.cpState i) ∧
      (∀ n < 4, cls ≤ 2 → s.cpState n = cpFREE → (∀ i < n, s.cpState i ≠ cpFREE) → Completes c s fun u =>
        ret u 0 n ∧ u.fget (F.CP_SLOT_CLASS n) = cls ∧ u.fget (F.CP_SLOT_TENANT n) = s.fget F.CP_CMD_TENANT ∧
        u.cpJob n = some ⟨op, cls, s.fget F.CP_CMD_TENANT, s.fget F.CP_SRC_V, s.fget F.CP_LEN_V, s.fget F.CP_DST_V, s.fget F.CP_KEY_V,
          s.cp.orders, none, none⟩ ∧ (∀ i < 4, i ≠ n → u.cpJob i = s.cpJob i) ∧ u.comb = s.comb ∧
        ((∀ i < 4, s.cpState i = cpFREE ∨ s.cpState i = cpDONE) → u.cpState n = cpRUN) ∧
        (∀ m j, s.cpRunning = some m → s.cpJob m = some j →
          (cls < 2 ∨ j.cls = 2 ∨ 6 ≤ j.op → u.cpState n = cpQUEUED ∧ u.cpState m = cpRUN) ∧
          (cls = 2 → j.cls < 2 → j.op ≤ 5 → (∀ i < 4, i ≠ m → s.cpState i ≠ cpRUN ∧ ∀ x, i ≠ n → s.cpJob i = some x → x.cls < 2) →
            u.cpState m = cpSUSPENDED ∧ u.cpState n = cpRUN ∧ u.fget F.CP_CNT_SUSP = satInc 16 (s.fget F.CP_CNT_SUSP))))) ∧
    (s.cpRunning = none → exec .cpJobDone s = .next s) ∧
    (∀ n j, s.cpRunning = some n → s.cpJob n = some j → j.own = none → j.osnma = none → s.ecc = [] → (∀ q < 4, s.combOn q = true) →
      let data := s.combBytes j.src j.len
      let key := if j.op = 1 then [] else s.combBytes j.key (keyLen j.op)
      let done (u : State) (result : Nat) : Prop := u.cpState n = cpDONE ∧ u.fget (F.CP_SLOT_RESULT n) = result ∧
        (u.fget F.CP_DONE_S).testBit n = true
      (1 ≤ j.op → j.op ≤ 7 → Completes .cpJobDone s fun u => match cpResult j.op key data with
        | none => done u 1 ∧ u.comb = s.comb
        | some r => done u 0 ∧ (6 ≤ j.op → u.comb = s.comb) ∧ (j.op ≤ 5 → r.length < 2 ^ 24 → u.combBytes j.dst r.length = r ∧
            ∀ a < 2 ^ 24, (∀ i < r.length, (j.dst + i) % 2 ^ 24 ≠ a) → u.combByte a = s.combByte a)) ∧
      (j.op = 8 → j.len < 2 ^ 24 → Completes .cpJobDone s fun u => done u 0 ∧
        ∀ a < 2 ^ 24, (∀ i < j.len, (j.dst + i) % 2 ^ 24 ≠ a) → u.combByte a = s.combByte a) ∧
      (∀ m x, m < 4 → s.cpJob m = some x → (s.cpState m = cpQUEUED ∨ s.cpState m = cpSUSPENDED) →
        (∀ i < 4, s.cpState i = cpRUN → i = n) →
        (∀ i y, i < 4 → i ≠ m → i ≠ n → s.cpJob i = some y → y.cls < x.cls ∨ (y.cls = x.cls ∧ x.order < y.order)) →
        Completes .cpJobDone s fun u => u.cpState m = cpRUN)) ∧
    (∀ n : Fin 4, s.judge via 0x160 0x070 true = .ok →
      (s.cpState n.val = cpDONE → Completes (.cpDoneClear via n) s fun u => u.cpState n.val = cpFREE ∧ u.cpJob n.val = none ∧
        (u.fget F.CP_DONE_S).testBit n.val = false ∧ ∀ i < 4, i ≠ n.val → u.cpState i = s.cpState i ∧ u.cpJob i = s.cpJob i) ∧
      (s.cpState n.val ≠ cpDONE → exec (.cpDoneClear via n) s = .next s))

/-- R228, R229, R418, R422, R427: CRYPTO, RANDOM, OSNMAROOT and CP_JOB_DONE of a tenant's and of an OSNMA job complete. -/
def Obligations.SecurityCommandsOfTenants : Prop :=
  ∀ s : State,
    (∀ (n : Fin 4096) (seq arg0 : Half) (key data : List Byte), s.accepts n.val seq.toNat →
      let k := n.val
      let q := seq.toNat
      let op := arg0.toNat % 16
      let c : Instr := .crypto n seq arg0 key data
      (op = 0 ∨ 7 < op → data.length ≤ 65000 → Answers c s k 0x58 q cBADARG [] fun u => u.cp = s.cp) ∧
      (1 ≤ op → op ≤ 7 → data.length ≤ 65000 → s.domPowered 34 = true →
        ((∀ i < 4, s.cpState i ≠ cpFREE) → Answers c s k 0x58 q cREFUSED (leBytes 2 1) fun u => u.cp = s.cp ∧
          u.fget F.CP_CNT_BUSY = satInc 16 (s.fget F.CP_CNT_BUSY) ∧ Rises s u 0x160 2) ∧
        (∀ m < 4, s.cpState m = cpFREE → (∀ i < m, s.cpState i ≠ cpFREE) → Completes c s fun u =>
          (u.tenant k).running = [(0x58, q)] ∧ (u.tenant k).lastSeq = some q ∧ u.fget (F.CP_SLOT_TENANT m) = k ∧
          u.fget (F.CP_SLOT_CLASS m) = 0 ∧ ∃ j, u.cpJob m = some j ∧ j.op = op ∧ j.cls = 0 ∧ j.tenant = k ∧ j.own = some (key, data))) ∧
      (1 ≤ arg0.toNat → arg0.toNat ≤ 1024 → ∃ r : List Byte, r.length = arg0.toNat ∧
        Answers (.random n seq arg0) s k 0x59 q cOK r fun u => u.fresh = s.fresh + arg0.toNat) ∧
      (arg0.toNat = 0 ∨ 1024 < arg0.toNat → Answers (.random n seq arg0) s k 0x59 q cBADARG [] fun u => u.fresh = s.fresh) ∧
      (k = 0 → arg0 = 0 → data.length = 32 → Answers (.osnmaroot n seq arg0 data) s k 0x5A q cOK [] fun u =>
        u.cp = { s.cp with root := some data })) ∧
    (∀ n j key data q, s.cpRunning = some n → s.cpJob n = some j → j.own = some (key, data) → j.osnma = none → 1 ≤ j.op → j.op ≤ 7 →
      (s.tenant j.tenant).running = [(0x58, q)] → (s.tenant j.tenant).state = .opened →
      let verdict := if (cpResult j.op key data).isSome then 0 else 1
      let res := if 6 ≤ j.op then leBytes 2 verdict else (cpResult j.op key data).getD []
      Completes .cpJobDone s fun u => u.cpState n = cpDONE ∧ u.fget (F.CP_SLOT_RESULT n) = verdict ∧
        (u.tenant j.tenant).running = [] ∧ u.comb = s.comb ∧
        (u.tenant j.tenant).cache.head? = some ⟨q, 0x58, cOK, if res.length ≤ 2 then res else [], decide (2 < res.length)⟩) ∧
    (∀ n j, s.cpRunning = some n → s.cpJob n = some j → j.osnma.isSome = true → s.skyState ≠ skUNSTEERED →
      let auth (v : State) (p : Byte) : Nat := Tab.get (fun _ => 0) v.meas.auth p.toNat
      Completes .cpJobDone s fun u => u.cpState n = cpFREE ∧ u.cpJob n = none ∧ match Config.osnma s.cp.root s.cp.pages with
        | .none => u.meas.auth = s.meas.auth
        | .tagOk p => auth u p = (if auth s p = authPENDING then authOK else auth s p) ∧ ∀ q, q ≠ p → auth u q = auth s q
        | .tagFail p => (auth s p = authPENDING ∨ auth s p = authOK → auth u p = authFAIL ∧ Rises s u 0x160 0) ∧
            ∀ q, q ≠ p → auth u q = auth s q
        | .keyFail => u.meas.auth = s.meas.auth ∧ Rises s u 0x160 0)

/-- R349, R352, R353, R356 to R358, R360 to R362, R364, R366, R367: UART_CHAR_RECEIVED, BREAK, BREAK_END, U_TX, U_RX, UART_CHAR_SENT,
DE_RELEASE and BUS_RETRY complete. -/
def Obligations.SerialPortsReceiveAndSend : Prop :=
  ∀ (s : State) (u : Fin 4) (line : List Bool),
    let n := u.val
    let x := s.uTake n line
    let d := x.data
    let got : Instr := .uartCharReceived u line
    let good := x.fe = false ∧ x.pe = false ∧ x.ne = false
    let err (v : State) (b : Nat) : Prop := (v.fget (F.U_ERR_E n)).testBit b = true
    let capt := s.flag (F.U_CTL_CAPT n)
    let addr := s.flag (F.U_FMT_ADDR9 n) && d.getLsbD 8
    let deaf := s.flag (F.U_CTL_RXOFFDE n) && s.flag (F.U_STAT_DE n)
    (s.uOn n = false ∨ deaf = true → exec got s = .next s ∧ ∀ low, exec (.uartBreak u low) s = .next s) ∧
    (s.uOn n = true → deaf = false → x.falseStart = true → Completes got s fun v => err v 4 ∧ v.uarts = s.uarts ∧
      OnlyRegs s v [F.U_ERR_E n |>.addr]) ∧
    (s.uOn n = true → deaf = false → x.falseStart = false →
      (s.flag (F.U_STAT_MUTE n) = true → s.flag (F.U_ADDR_MUTEEN n) = true → addr = false → exec got s = .next s) ∧
      (s.flag (F.U_STAT_MUTE n) = false → s.flag (F.U_ADDR_MUTEEN n) = false → s.uMode n = umRAW →
        ((x.fe = true ∨ x.pe = true) → capt = false → Completes got s fun v =>
          (x.fe = true → err v 1) ∧ (x.pe = true → err v 2) ∧ (x.ne = true → err v 3) ∧ v.fget (F.U_CNT_CHERR n) = satInc 16 (s.fget (F.U_CNT_CHERR n)) ∧
          v.flag (F.U_STAT_RXF n) = s.flag (F.U_STAT_RXF n) ∧ v.fget (F.U_RX_DATA n) = s.fget (F.U_RX_DATA n)) ∧
        (s.flag (F.U_FLOW_XREC n) = false → capt = true ∨ (x.fe = false ∧ x.pe = false) → Completes got s fun v =>
          v.flag (F.U_STAT_RXF n) = true ∧ v.fget (F.U_RX_DATA n) = d.toNat ∧
          v.fget (F.U_RX_TAG n) = (if capt then (if x.fe then 1 else 0) + (if x.pe then 2 else 0) + (if x.ne then 4 else 0) +
            (if s.flag (F.U_STAT_RXF n) then 8 else 0) else 0) ∧
          (s.flag (F.U_STAT_RXF n) = true → err v 0 ∧ v.fget (F.U_CNT2_OVRN n) = satInc 16 (s.fget (F.U_CNT2_OVRN n)) ∧
            Rises s v (0x158 + n) 1))) ∧
      (s.flag (F.U_FLOW_XREC n) = true → s.flag (F.U_ADDR_MUTEEN n) = false → addr = false → (d = 0x13 ∨ d = 0x11) → good →
        Completes got s fun v => v.flag (F.U_STAT_XOFFRX n) = decide (d = 0x13) ∧
          v.flag (F.U_STAT_RXF n) = s.flag (F.U_STAT_RXF n) ∧ v.fget (F.U_RX_DATA n) = s.fget (F.U_RX_DATA n) ∧
          (v.uart n).rx = (s.uart n).rx) ∧
      (addr = true → s.flag (F.U_ADDR_MUTEEN n) = true → good →
        let hit := (d.toNat % 256 &&& s.fget (F.U_ADDR_MASK n) = s.fget (F.U_ADDR_ADDR n) &&& s.fget (F.U_ADDR_MASK n)) ∨
          (s.flag (F.U_ADDR_BCAST n) = true ∧ d.getLsbD 3 = true)
        (hit → s.uMode n = umRAW → Completes got s fun v => v.flag (F.U_STAT_MUTE n) = false ∧
          v.flag (F.U_STAT_RXF n) = true ∧ v.fget (F.U_RX_DATA n) = d.toNat) ∧
        (hit → s.uMode n = umBUS → Completes got s fun v => v.flag (F.U_STAT_MUTE n) = false ∧
          (v.uart n).peer = d.toNat / 16 % 8) ∧
        (¬ hit → Completes got s fun v => v.flag (F.U_STAT_MUTE n) = true ∧ v.uarts = s.uarts ∧
          v.flag (F.U_STAT_RXF n) = s.flag (F.U_STAT_RXF n)))) ∧
    (∀ low, low < 2 * (s.uM n + 1) → exec (.uartBreak u low) s = .next s) ∧
    (∀ low, s.uOn n = true → deaf = false → 2 * (s.uM n + 1) ≤ low → Completes (.uartBreak u low) s fun v =>
      err v 5 ∧ v.flag (F.U_STAT_BRKON n) = true ∧ v.flag (F.U_STAT_XOFFRX n) = false ∧
      (v.uart n).rx = [] ∧ (v.uart n).armed = decide (s.uMode n = umFRAME ∨ s.uMode n = umBUS) ∧ Rises s v (0x158 + n) 2 ∧
      (capt = true → v.flag (F.U_STAT_RXF n) = true ∧ v.fget (F.U_RX_DATA n) = 0 ∧ (v.fget (F.U_RX_TAG n)).testBit 4 = true)) ∧
    (Completes (.uartBreakEnd u) s fun v => v.flag (F.U_STAT_BRKON n) = false ∧ v.flag (F.U_STAT_LINE n) = true ∧ OnlyRegs s v [F.U_STAT_BRKON n |>.addr]) ∧
    (∀ via, s.judge via (0x158 + n) 0x05C true = .ok → s.uMode n = umRAW →
      ((s.uart n).hold ≠ none → Completes (.uTx via u d) s fun v => err v 7 ∧ v.uarts = s.uarts) ∧
      (s.uOn n = true → s.flag (F.U_STAT_XOFFRX n) = false → (s.uart n).gen = none → (s.uart n).hold = none → (s.uart n).shift = none →
        Completes (.uTx via u d) s fun v => (v.uart n).shift = some d ∧ (v.uart n).hold = none ∧ v.flag (F.U_STAT_TXE n) = true ∧
          v.flag (F.U_STAT_TXIDLE n) = false ∧ (s.flag (F.U_FLOW_DEEN n) = true → v.flag (F.U_STAT_DE n) = true)) ∧
      ((s.uart n).hold = none → (s.uart n).shift ≠ none → Completes (.uTx via u d) s fun v =>
        (v.uart n).hold = some d ∧ (v.uart n).shift = (s.uart n).shift ∧ v.flag (F.U_STAT_TXE n) = false)) ∧
    (∀ c : Core, s.domPowered 1 = true → s.boot.dead = false → s.domPowered 2 = true → s.domState 2 ≠ dENTRY →
      (s.flag (F.U_STAT_RXF n) = true → Completes (.uRx c u) s fun v => v.out = [s.reg (F.U_RX_DATA n |>.addr) ||| 0x80000000] ∧
        v.flag (F.U_STAT_RXF n) = false) ∧
      (s.flag (F.U_STAT_RXF n) = false → Completes (.uRx c u) s fun v => v.out = [0] ∧ v.regs = s.regs)) ∧
    (∀ back : List Bool, (s.uart n).gen = none →
      let sends (c : BitVec 9) (v : State) : Prop := v.out.head? = some (c.zeroExtend 32) ∧ (s.flag (F.U_CTL_HALF n) = false →
        let bits := if (s.uart n).shift = none then s.charBits n c else (s.uart n).bits
        v.out = [c.zeroExtend 32, BitVec.ofNat 32 (bits.zipIdx.foldl (fun w y => if y.1 then w + 2 ^ y.2 else w) 0)])
      let may := s.uOn n = true ∧ s.flag (F.U_STAT_XOFFRX n) = false
      (s.uMode n = umRAW → (s.uart n).hold = none → ∀ c, (s.uart n).shift = some c → Completes (.uartCharSent u back) s fun v =>
        sends c v ∧ (v.uart n).shift = none ∧ v.flag (F.U_STAT_TXIDLE n) = true) ∧
      (s.uMode n = umRAW → may → ∀ c, (s.uart n).hold = some c → (s.uart n).shift = none → Completes (.uartCharSent u back) s fun v =>
        sends c v ∧ (v.uart n).shift = none ∧ (v.uart n).hold = none ∧ v.flag (F.U_STAT_TXE n) = true) ∧
      ((s.uMode n = umFRAME ∨ s.uMode n = umBUS) → may → s.flag (F.U_CTL_HALF n) = false → (s.uart n).retry = false → (s.uart n).shift = none →
        ∀ c r, (s.uart n).frame = c :: r → Completes (.uartCharSent u back) s fun v => sends c v ∧
          ∀ c' r', r = c' :: r' → (v.uart n).shift = some c' ∧ (v.uart n).frame = r') ∧
      (s.uMode n = umRAW → (s.uart n).hold = none → (s.uart n).shift = none → Completes (.uartCharSent u back) s fun v =>
        (v.uart n).shift = none ∧ v.out = s.out) ∧
      (∀ c, n = 3 → s.uMode 3 = umBUS → s.flag (F.U_CTL_HALF 3) = true → (s.uart 3).shift = some c → collided (s.uart 3).bits back = true →
        (Completes (.uartCharSent 3 back) s fun v => (v.fget (F.U_ERR_E 3)).testBit 6 = true ∧ Rises s v 0x15B 3) ∧
        ((s.uart 3).tries < 7 → Completes (.uartCharSent 3 back) s fun v => (v.uart 3).retry = true ∧ (v.uart 3).frame = [] ∧
          (v.uart 3).whole = (s.uart 3).whole ∧ (v.uart 3).tries = (s.uart 3).tries + 1 ∧ (v.uart 3).shift = none) ∧
        (7 ≤ (s.uart 3).tries → Completes (.uartCharSent 3 back) s fun v =>
          v.fget (F.U_CNT2_COLLDROP 3) = satInc 16 (s.fget (F.U_CNT2_COLLDROP 3)) ∧ (v.uart 3).retry = false))) ∧
    (∀ high,
      ((s.uart 3).retry = false ∨ high < 12 + 2 * s.fget F.SYS_STRAP_DEVADDR → exec (.busRetry high) s = .next s) ∧
      ((s.uart 3).retry = true → 12 + 2 * s.fget F.SYS_STRAP_DEVADDR ≤ high → s.uOn 3 = true → s.flag (F.U_STAT_XOFFRX 3) = false →
        s.uMode 3 = umBUS → (s.uart 3).gen = none → (s.uart 3).shift = none →
        ∀ c r, (s.uart 3).whole = c :: r → Completes (.busRetry high) s fun v => (v.uart 3).shift = some c ∧ (v.uart 3).frame = r ∧
          (v.uart 3).retry = false)) ∧
    (∀ since,
      ((s.uart n).shift = none → (s.uart n).hold = none → s.fget (F.U_FLOW_TAIL n) ≤ since → Completes (.deRelease u since) s fun v =>
        v.flag (F.U_STAT_DE n) = false ∧ OnlyRegs s v [F.U_STAT_DE n |>.addr]) ∧
      ((s.uart n).shift ≠ none ∨ (s.uart n).hold ≠ none ∨ since < s.fget (F.U_FLOW_TAIL n) → exec (.deRelease u since) s = .next s))

/-- R431, R432, R435 to R439: ARCHIVE_RECORD_CLOSE, EXTENT_FULL, AR_RESTART, RP_GO and RP_STOP complete. -/
def Obligations.ArchiveRecordsExtentsAndReplay : Prop :=
  ∀ s : State,
    let slot (k : Nat) : Nat := s.fget F.AR_BUF_ADDR * 64 + 4096 * (k % 256)
    let seq (u : State) (m : Nat) : Nat := Tab.get (fun _ => 0) u.ar.seq m
    (∀ (src : Fin 25) (last : Bool) (taken : Nat),
      let m := src.val
      let room := s.ar.inRing - taken
      let close : Instr := .archiveRecordClose src last taken
      let body (u : State) (r : RecSt) (flags : Nat) : Prop :=
        let b := u.combBytes (slot s.ar.placed) 4096
        b.take 4 = [0x4B, 0x54, 0x41, 0x52] ∧ ofLe ((b.drop 4).take 4) = ((if m = 24 then 2 ^ 28 else m * 65536) + r.bitofs) % 2 ^ 32 ∧
        (b.drop 8).take 12 = wordBytes (timeWords r.t) ∧ ofLe ((b.drop 0x14).take 8) = r.tick % 2 ^ 64 ∧
        ofLe ((b.drop 0x1C).take 4) = (r.runs.length * 65536 + r.nsamp) % 2 ^ 32 ∧
        ofLe ((b.drop 0x30).take 8) = seq s m % 2 ^ 64 ∧ ofLe ((b.drop 0x38).take 8) = s.aaddr ∧ (b.drop 0x40).take 4 = leBytes 4 r.str.toNat ∧
        ofLe ((b.drop 0x44).take 4) % 8 = flags ∧ ofLe ((b.drop 0x4C).take 4) = crc32c (b.take 0x4C ++ b.drop 0x50) % 2 ^ 32 ∧
        b.drop 0x50 = leBytes 4016 r.acc
      (s.arOn = false ∨ s.flag F.AR_STAT_FULL = true → exec close s = .next s) ∧
      (s.arOn = true → s.flag F.AR_STAT_FULL = false →
        (s.ar.closed.find? (fun x => x.1 = m) = none → s.openRec m = none → Completes close s fun u => u.comb = s.comb ∧
          u.ar.placed = s.ar.placed ∧ u.ar.inRing = room) ∧
        (∀ r, s.openRec m = some r → s.ar.closed.find? (fun x => x.1 = m) = none → s.recorded m = false → s.ar.stepped.contains m = false →
          s.gapsBefore m r.tick = [] → room < 256 → (∀ q < 4, s.combOn q = true) → Completes close s fun u =>
            body u r (4 + if last then 2 else 0) ∧ u.openRec m = none ∧ u.ar.placed = s.ar.placed + 1) ∧
        (∀ r, s.ar.closed.find? (fun x => x.1 = m) = some (m, r) →
          let gs := s.gapsBefore m r.tick
          (gs = [] → room < 256 → (∀ q < 4, s.combOn q = true) → Completes close s fun u =>
            body u r ((if r.stepped then 1 else 0) + (if last then 2 else 0) + (if r.early then 4 else 0)) ∧
            (∀ a < 2 ^ 24, (∀ i < 4096, (slot s.ar.placed + i) % 2 ^ 24 ≠ a) → u.combByte a = s.combByte a) ∧
            u.ar.placed = s.ar.placed + 1 ∧ u.ar.inRing = room + 1 ∧ u.aaddr = (s.aaddr + 4096) % 2 ^ 52 ∧
            seq u m = (seq s m + 1) % 2 ^ 64 ∧ ∀ k, k ≠ m → seq u k = seq s k) ∧
          (gs ≠ [] → room + 1 + gs.length ≤ 256 → Completes close s fun u => u.gapsOf m = (s.gapsOf m).filter (fun g => decide (r.tick < g.tick)) ∧
            u.ar.placed = s.ar.placed + 1 + gs.length ∧ (gs.length = 1 → u.fget F.AR_GAPS = satInc 32 (s.fget F.AR_GAPS)) ∧ Rises s u 0x170 2) ∧
          (256 < room + 1 + gs.length → Completes close s fun u => u.fget F.AR_DROP = satInc 32 (s.fget F.AR_DROP) ∧ u.comb = s.comb ∧
            u.ar.placed = s.ar.placed ∧ seq u m = seq s m ∧ (gs = [] → u.gapsOf m = ⟨r.t, r.tick, 3⟩ :: s.gapsOf m))))) ∧
    (s.arOn = true →
      (∀ (h : BitVec 64) (l : Half), s.ar.ext = none → s.arRun = true → Completes (.extentFull (some (h, l))) s fun u =>
        u.ar.ext = some (h.toNat, 0, (l.toNat + 1) * 2 ^ 20) ∧ u.fget F.AR_STAT_EXT = 0) ∧
      (∀ h b e, s.ar.ext = some (h, b, e) →
        let i := s.fget F.AR_STAT_EXT
        (s.aaddr < e → ∀ next, exec (.extentFull next) s = .next s) ∧
        (e ≤ s.aaddr → i < 65535 → ∀ (h : BitVec 64) (l : Half), Completes (.extentFull (some (h, l))) s fun u =>
          u.ar.ext = some (h.toNat, e, e + (l.toNat + 1) * 2 ^ 20) ∧ u.fget F.AR_STAT_EXT = i + 1 ∧ u.aaddr = s.aaddr) ∧
        (e ≤ s.aaddr → ∀ next, (next = none ∨ i = 65535) →
          (s.flag F.AR_CTL_MODE = true → Completes (.extentFull next) s fun u => u.aaddr = 0 ∧ u.fget F.AR_STAT_EXT = 0 ∧
            u.fget F.AR_WRAPS = satInc 32 (s.fget F.AR_WRAPS) ∧ u.arRun = s.arRun ∧ u.ar.seq = s.ar.seq ∧ Rises s u 0x170 1) ∧
          (s.flag F.AR_CTL_MODE = false → Completes (.extentFull next) s fun u => u.flag F.AR_STAT_FULL = true ∧ u.arRun = false ∧
            Rises s u 0x170 0)))) ∧
    (∀ via, s.judge via 0x170 0x040 true = .ok → Completes (.arRestart via) s fun u => (∀ m, seq u m = 0) ∧ u.aaddr = 0 ∧
      u.fget F.AR_STAT_EXT = 0 ∧ u.flag F.AR_STAT_FULL = false ∧ u.arRun = s.flag F.AR_CTL_EN ∧ u.comb = s.comb) ∧
    (∀ (via : Via) (n : Fin 8), s.judge via 0x170 (0x080 + 16 * n.val) true = .ok →
      (Completes (.rpGo via n) s fun u => u.flag (F.RP_STAT_ACTIVE n.val) = true ∧ u.flag (F.RP_STAT_ERR n.val) = false ∧ n.val ∈ u.ar.rpWait ∧
        (u.rpSt n.val).next = s.fget (F.RP_AADDR_HI_A n.val) * 2 ^ 32 + s.fget (F.RP_AADDR_LO n.val)) ∧
      (Completes (.rpStop via n) s fun u => u.flag (F.RP_STAT_ACTIVE n.val) = false ∧ n.val ∉ u.ar.rpWait ∧
        ∀ m < 8, m ≠ n.val → u.flag (F.RP_STAT_ACTIVE m) = s.flag (F.RP_STAT_ACTIVE m)))


/-- R441 to R446, R453: LINK_FRAME_RECEIVE, TRAINING_DONE, RETRAIN, CTRL, SLOTDESC, GROUP, DATA and BLOCK_LOCK_LOSS complete. -/
def Obligations.PenholtPortsCarryWords : Prop :=
  ∀ (s : State) (west : Bool),
    let w := penIdx west
    let o := 1 - w
    let up := s.penOn && decide (s.penState w = ptUP)
    let toOther (u : State) (ct tgt src : Nat) (bs : List Byte) : Prop :=
      (s.penState o = ptUP → (u.penPort o).sent = (s.penPort o).sent ++ [(ct, [tgt, src, ofLe (bs.take 7)])]) ∧
      (s.penState o ≠ ptUP → (s.penPort o).queue.length < 256 →
        (u.penPort o).queue = (s.penPort o).queue ++ [(ct, tgt, src, bs.take 7)]) ∧
      (s.penState o ≠ ptUP → 256 ≤ (s.penPort o).queue.length → (u.penPort o).queue = (s.penPort o).queue ∧
        u.fget (F.PP_CNT_DROP o) = satInc 16 (s.fget (F.PP_CNT_DROP o))) ∧ u.tn = s.tn ∧ u.penPort w = s.penPort w
    (∀ (tick : Nat) (frame : List Byte) (tgt src : Fin 8) (bs : List Byte) (b0 b1 b2 b3 : Bool) (t : Fin 4096)
        (k : Fin 7) (m : Fin 24) (str : Word) (cald : Half) (tofs : Int) (at' t2 : BitVec 96) (q : Half), up = false →
      ∀ c ∈ [Instr.linkFrameReceive west tick frame, .group west tgt src bs, .data west tgt src bs, .ctrl west src b0 b1 b2 b3 t,
        .slotdesc west k src m str cald tgt tofs, .time west at', .delayReq west q at' t2, .delayRsp west q at' t2 tofs], exec c s = .next s) ∧
    (up = true →
      (∀ (tick : Nat) (frame : List Byte),
        let c : Instr := .linkFrameReceive west tick frame
        (linkOk frame = false → Completes c s fun u =>
          u.fget (F.PP_CNT_CRCERR w) = satInc 16 (s.fget (F.PP_CNT_CRCERR w)) ∧ (u.penPort w).inval = List.replicate 7 true ∧
          (∀ k < 7, u.slotInvalid w k = true) ∧
          ((s.penPort w).fails + 1 < 16 → u.penState w = ptUP ∧ (u.penPort w).fails = (s.penPort w).fails + 1) ∧
          (16 ≤ (s.penPort w).fails + 1 → u.penState w = ptTRAIN ∧ Rises s u 0x180 0)) ∧
        (linkOk frame = true → linkByte frame 246 % 16 ≠ 6 → linkByte frame 246 % 16 ≠ 7 → Completes c s fun u =>
          (u.penPort w).fails = 0 ∧ u.penState w = ptUP ∧
          (u.penPort w).frames.head? = some ⟨tick, (List.range 7).map fun k => s.slotSamples w k frame⟩ ∧
          (∀ k < 7, s.flag (F.PP_SLOT_VALID w k) = true → u.fget (F.PP_SLOT_HOPS w k) = linkFlag frame k / 2 ^ 6 % 4 + 1))) ∧
      (s.sky.smp % 33 = 32 → (s.penPort w).tx.length = 32 → linkOk ((s.penTick w).penPort w).line = true) ∧
      (∀ (tgt src : Fin 8) (bs : List Byte),
        (tgt.val ≠ devAddr s → Completes (.group west tgt src bs) s (fun u => toOther u 6 tgt.val src.val bs) ∧
          Completes (.data west tgt src bs) s fun u => toOther u 7 tgt.val src.val bs) ∧
        (tgt.val = devAddr s → Completes (.group west tgt src bs) s fun u => u.tn = s.tn ∧ ∀ d,
          Tab.get (fun _ => []) u.pen.group d = Tab.get (fun _ => []) s.pen.group d ++ if d = src.val then bs.take 7 else []) ∧
        (∀ b : List Byte, tgt.val = devAddr s → Tab.get (fun _ => []) s.pen.rx src.val ++ bs.take 7 = b → frameOk b = true → frameCls b = 0 →
          frameOp b ≠ some 1 →
          let t := frameTenant b
          let q := s.queue (2 * t)
          s.boundTo t .penEast src.val = true → (s.tenant t).state = .opened → (frameItems 1 b).length ≤ q.cred → q.part = [] →
          q.batch = none → (∀ x ∈ s.tn.waiting, x.2 ≠ 2 * t) → Completes (.data west tgt src bs) s fun u =>
            u.queue (2 * t) = { q with ready := q.ready ++ [frameItems 1 b], cred := q.cred - (frameItems 1 b).length } ∧
            Tab.get (fun _ => []) u.pen.rx src.val = [])) ∧
      (∀ (k : Fin 7) (dev hops : Fin 8) (m : Fin 24) (str : Word) (cald : Half) (tofs : Int), Completes (.slotdesc west k dev m str cald hops tofs) s fun u =>
        u.flag (F.PP_SLOT_VALID w k.val) = true ∧ u.fget (F.PP_SLOT_SRCDEV w k.val) = dev.val ∧ u.fget (F.PP_SLOT_SRCSTR w k.val) = m.val ∧
        u.fget (F.PP_SLOT_WIDTH w k.val) = str.toNat / 2 ^ 23 % 4 ∧ u.fget (F.PP_SLOT_DECIM w k.val) = str.toNat / 2 ^ 21 % 4 ∧
        u.fget (F.PP_SLOT_HOPS w k.val) = hops.val ∧ u.fget (F.PP_TOFS w k.val) = unsigned 32 tofs ∧
        Tab.get (fun _ => 0) (u.penPort w).cald k.val = cald.toNat ∧
        (∀ j < 24, u.strRun j = true → u.hopLimit j = true → u.flag (PG_FAULT 0x180 1) = true)) ∧
      (∀ (c : Fin 8) (on discard : Bool) (t : Fin 4096),
        let right := s.boundTo 0 (penPortOf w) c.val = true ∨ s.boundTo t.val (penPortOf w) c.val = true
        (∀ all, s.byp = false → Completes (.ctrl west c true on discard all t) s fun u => u.penState w = ptTRAIN ∧ Rises s u 0x180 0) ∧
        (¬ right → exec (.ctrl west c false on discard false t) s = .next s) ∧
        (right → (s.tenant t.val).state ≠ .free → Completes (.ctrl west c false on discard false t) s fun u =>
          (u.tenant t.val).q = on ∧ ∀ j, j ≠ t.val → (u.tenant j).q = (s.tenant j).q))) ∧
    (s.penOn = true → s.byp = false → s.penState w = ptTRAIN → Completes (.trainingDone west) s fun u =>
      let q := (s.penPort w).queue
      u.penState w = ptUP ∧ (u.penPort w).queue = [] ∧ (u.penPort w).inval = [] ∧ Rises s u 0x180 0 ∧
      (u.penPort w).sent = (s.penPort w).sent ++ (q.filter (fun x => decide (x.1 = 6)) ++ q.filter (fun x => decide (x.1 ≠ 6))).map
        fun x => (x.1, [x.2.1, x.2.2.1, ofLe (x.2.2.2.take 7)])) ∧
    (s.penOn = false ∨ s.byp = true ∨ s.penState w ≠ ptTRAIN → exec (.trainingDone west) s = .next s) ∧
    (∀ via, s.judge via (0x181 + w) 0x040 true = .ok →
      (s.flag F.PH_CTL_EN = false ∨ s.byp = true → exec (.retrain via west) s = .next s) ∧
      (s.flag F.PH_CTL_EN = true → s.byp = false → Completes (.retrain via west) s fun u => u.penState w = ptTRAIN ∧ u.penState o = s.penState o ∧
        (s.penState w ≠ ptTRAIN → Rises s u 0x180 0))) ∧
    (s.penOn = true → s.penState w ≠ ptDOWN → Completes (.blockLockLoss west) s fun u => u.penState w = ptTRAIN ∧ Rises s u 0x180 0) ∧
    (s.penOn = false ∨ s.penState w = ptDOWN → exec (.blockLockLoss west) s = .next s)

/-- R43, R47, R301, R445, R448 to R452: HELLO, PEER_LOST, MASTER_CLAIM, SYNC_PULSE, MASTER_LOSS, TIME, DELAY_REQ_TIMER, DELAY_REQ and
DELAY_RSP complete. -/
def Obligations.PenholtSharesTimeAndTopology : Prop :=
  ∀ (s : State) (west : Bool),
    let w := penIdx west
    let dev := devAddr s
    let up := s.penOn && decide (s.penState w = ptUP)
    let master := s.fget F.PH_STAT_MASTER
    (∀ (addr : Fin 8) (men : Bool) (role : Fin 3) (hops : List (Fin 8 × Fin 8)),
      let c : Instr := .hello west addr men role hops
      let takes := if s.penRole = rlMASTER then addr.val < dev
        else s.penRole = rlNONE ∨ master = addr.val ∨ s.pen.elect = true ∨ s.pen.syncT.getD 0 + 2 * sec ≤ s.now
      (s.penOn = false → exec c s = .next s) ∧
      (s.penOn = true → addr.val = dev → Completes c s fun u => u.flag (PG_FAULT 0x180 0) = true ∧ Rises s u 0x180 2 ∧ u.penState w = ptDOWN ∧
        u.penRole = s.penRole) ∧
      (s.penOn = true → addr.val ≠ dev → Completes c s fun u =>
        u.flag (F.PP_STAT_NBRV w) = true ∧ u.fget (F.PP_STAT_NBR w) = addr.val ∧ (u.fget F.PH_TOPO_PRES).testBit addr.val = true ∧
        (u.fget F.PH_TOPO_PRES).testBit dev = true ∧ (u.penPort w).hops.head? = some (addr.val, 0) ∧
        (role.val = rlMASTER → takes → u.penRole = rlFOLLOWER ∧ u.fget F.PH_STAT_MASTER = addr.val ∧
          u.fget F.PH_STAT_HOPS = 1 ∧ (s.penRole = rlNONE ∨ s.penRole = rlMASTER ∨ master ≠ addr.val → Rises s u 0x180 1)) ∧
        (role.val ≠ rlMASTER ∨ ¬ takes → u.penRole = s.penRole ∧ u.fget F.PH_STAT_MASTER = master))) ∧
    (∀ d : Fin 8, (s.penOn = false → exec (.peerLost d) s = .next s) ∧
      (s.penOn = true → Completes (.peerLost d) s fun u => (∀ p < 2, ∀ h ∈ (u.penPort p).hops, h.1 ≠ d.val) ∧
        ∀ k < 4096, (s.tenant k).live = true → (s.tenant k).port = .penEast ∨ (s.tenant k).port = .penWest → (s.tenant k).client = d.val →
          (u.tenant k).state = .closing)) ∧
    (let due := s.pen.syncT.getD 0 + ms (2000 + 100 * dev)
     (s.penOn = true → s.flag F.PH_CTL_MASTEREN = true → s.penRole ≠ rlMASTER → due ≤ s.now → Completes .masterClaim s fun u =>
       u.penRole = rlMASTER ∧ u.fget F.PH_STAT_MASTER = dev ∧ u.fget F.PH_STAT_HOPS = 0 ∧ Rises s u 0x180 1 ∧
       (s.skyState = skFOLLOW → u.skyState = skHOLDOVER) ∧ (s.skyState ≠ skFOLLOW → u.skyState = s.skyState)) ∧
     (s.penOn = false ∨ s.flag F.PH_CTL_MASTEREN = false ∨ s.penRole = rlMASTER ∨ s.now < due → exec .masterClaim s = .next s)) ∧
    (s.penOn = true → exec .syncPulse s =
      .next { s with pen.elect := s.pen.elect || decide (s.pen.syncT.getD 0 + 2 * sec ≤ s.now), pen.syncT := some s.now }) ∧
    (s.penOn = false → exec .syncPulse s = .next s) ∧
    let silent := s.penOn = true → ∀ p < 2, ∀ t, (s.penPort p).timeT = some t → t + ms 10 ≤ s.now
    (s.skyState ≠ skFOLLOW ∨ ¬ silent → exec .masterLoss s = .next s) ∧
    (s.skyState = skFOLLOW → silent → Completes .masterLoss s fun u => u.skyState = skHOLDOVER ∧ u.sky.time = s.sky.time ∧ Rises s u 0x110 0) ∧
    (∀ t : BitVec 96, up = true →
      (s.penRole = rlMASTER ∨ s.timePort w = false → Completes (.time west t) s fun u => (u.penPort w).timeT = some s.now ∧ u.sky = s.sky ∧
        u.regs = s.regs) ∧
      (s.penRole ≠ rlMASTER → s.penRoute master = w → Completes (.time west t) s fun u =>
        let off : Int := (s.now : Int) - ((t.toNat : Int) + ofPs (s.fget (F.PP_DELAY_PS w)))
        u.fget F.PH_OFS = unsigned 32 (psOf off) ∧ u.penRole = rlFOLLOWER ∧
        (s.skyState = skSTEERED → u.skyState = skSTEERED ∧ u.sky.time = s.sky.time) ∧
        (s.skyState ≠ skSTEERED → s.skyState ≠ skHOLDOVER ∨ off.natAbs ≤ s.stepThr ∨ s.flag F.SKY_CTL_AUTOSTEP = true →
          u.skyState = skFOLLOW ∧ u.fget F.UNC = (40 * u.fget F.PH_STAT_HOPS + 999) / 1000) ∧
        (s.skyState = skHOLDOVER → s.stepThr < off.natAbs → s.flag F.SKY_CTL_AUTOSTEP = false →
          u.skyState = skHOLDOVER ∧ u.sky.time = s.sky.time))) ∧
    (Completes .delayReqTimer s fun u => ∀ p < 2,
      if s.penOn = true ∧ s.penState p = ptUP then
        let n := ((s.penPort p).dseq + 1) % 65536
        u.penPort p = { s.penPort p with dseq := n, dwait := true, sent := (s.penPort p).sent ++ [(3, [0, n])] }
      else u.penPort p = s.penPort p) ∧
    (∀ (q : Half) (t2 t3 : BitVec 96), up = true → Completes (.delayReq west q t2 t3) s fun u =>
      (u.penPort w).sent = (s.penPort w).sent ++ [(3, [1, q.toNat, unsigned 32 (psOf ((t3.toNat : Int) - t2.toNat))])] ∧ u.regs = s.regs) ∧
    (∀ (q : Half) (t1 t4 : BitVec 96) (turn : Int), up = true →
      let x := s.penPort w
      let l := ((psOf ((t4.toNat : Int) - t1.toNat) - turn) / 2 :: x.delays).take 64
      (x.dwait = true → x.dseq = q.toNat → Completes (.delayRsp west q t1 t4 turn) s fun u =>
        (u.penPort w).delays = l ∧ (u.penPort w).dwait = false ∧ u.fget (F.PP_DELAY_PS w) = unsigned 24 (roundDiv l.sum l.length)) ∧
      (x.dwait = false ∨ x.dseq ≠ q.toNat → exec (.delayRsp west q t1 t4 turn) s = .next s))


/-- R254, R257 to R259, R261 to R263, R274: the operand of every instruction of the operand class, and the faults of all. -/
def Obligations.WeevilOperandsFollowTheModes : Prop :=
  ∀ (s : State) (c : Core) (e : Enc),
    let i := coreIdx c
    let k := s.core i
    let plain : List (Core → Enc → Instr) := [.lda, .lde, .ldx, .ldy, .add, .adc, .sub, .sbc, .and, .or, .xor, .cmp, .tst, .adx, .ady, .cpx, .mul,
      .mulu, .mac, .div, .shl, .shr, .sar, .rol, .dshl, .dsar, .btst, .par, .pare, .brev]
    let crc : List (Core → Enc → Instr) := [.crcq, .crcc, .crcw]
    let stores : List (Core → Enc → Instr) := [.sta, .ste, .stx, .sty]
    let others : List (Core → Enc → Instr) := [.nop, .wait, .ei, .di, .rts, .reti, .swap, .sex, .ldb, .mov, .jmpx, .jsrx, .jmp, .jsr, .fjmp, .fjsr,
      .sat, .neg, .abs, .bra, .bz, .bnz, .bn, .bnn, .bc, .bnc, .bv, .bnv, .bt, .bnt, .dbnz, .bge, .blt]
    let local' (w : Half) : Half := Tab.get (fun _ => 0) k.data w.toNat
    (Issuing s c e →
      (∀ b : Byte, e = .short b →
        (b.toNat < 64 → Supplies s c e 0 ((b.setWidth 6).signExtend 16) none 0 (s.issued c e)) ∧
        (64 ≤ b.toNat → b.toNat < 128 → Supplies s c e 0 (local' (BitVec.ofNat 16 (b.toNat - 64))) none 0 (s.issued c e)) ∧
        (128 ≤ b.toNat → b.toNat < 192 → k.b = 0 → (k.x.toNat + (b.toNat - 128)) % 65536 < dataWords c →
          Supplies s c e 0 (local' (BitVec.ofNat 16 (k.x.toNat + (b.toNat - 128)))) none 0 (s.issued c e)) ∧
        (192 ≤ b.toNat → b.toNat < 200 →
          Supplies s c e 0 (((s.issued c e).core i).getReg (b.toNat - 192)) none 0 (s.issued c e))) ∧
      (∀ (m : Byte) (w : Half), e = .long m w →
        (m = 0 → Supplies s c e 0 w none 0 (s.issued c e)) ∧
        (m = 0xE0 → w.toNat < 8 → Supplies s c e 0 (((s.issued c e).core i).getReg w.toNat) none 0 (s.issued c e)) ∧
        (∀ a inc, (m = 0x20 ∧ a = w ∧ inc = none) ∨ (k.b = 0 ∧ ((m = 0x40 ∧ a = w ∧ inc = none) ∨ (m = 0x60 ∧ a = k.x + w ∧ inc = none) ∨
            (m = 0x80 ∧ a = k.y + w ∧ inc = none) ∨ (m = 0xA0 ∧ a = k.x ∧ inc = some (false, w)) ∨
            (m = 0xC0 ∧ a = k.y ∧ inc = some (true, w)))) →
          (a.toNat < dataWords c → Supplies s c e 0 (local' a) inc 0 (s.issued c e)) ∧
          (dataWords c ≤ a.toNat → a.toNat < 0xFF00 → ∀ ins ∈ plain ++ stores, exec (ins c e) s = .next ((s.wake c).coreFault c 2)) ∧
          (a.toNat = 0xFF00 → Supplies s c e 0 (k.ien.setWidth 16) inc 0 (s.issued c e))) ∧
        (m = 0x40 → c ≠ .glow → 0x40 ≤ k.b.toNat → k.b.toNat < 0xC0 →
          let a := (k.b.toNat - 0x40) * 2 ^ 17 + 2 * w.toNat
          s.combOn (combQuarter a) = true → s.ecc = [] → ∃ n t, 4 ≤ n ∧ n ≤ 20 ∧
            Supplies s c e 0 (BitVec.ofNat 16 (ofLe (s.combBytes a 2))) none n t ∧ t.comb = s.comb ∧ t.core i = (s.issued c e).core i) ∧
        (∀ p < 1024, m = 0x40 → k.b.toNat = 0x20 + p / 32 → c ≠ .glow → implemented p = true → s.unreachable (coreVia c) p = false →
          let n := if localPort (coreVia c) p then 1 else 3
          (w.toNat = p % 32 * 2048 → ∃ t, Supplies s c e 0 (loHalf (s.reg (p * 4096))) none n t ∧
            t.core i = { (s.issued c e).core i with hold := s.reg (p * 4096) } ∧ t.comb = s.comb) ∧
          (w.toNat = p % 32 * 2048 + 1 → Supplies s c e 0 (hiHalf k.hold) none (if localPort (coreVia c) p then 1 else 0) (s.issued c e))) ∧
        (m = 0x40 → (1 ≤ k.b.toNat ∧ k.b.toNat < 0x20) ∨ 0xC0 ≤ k.b.toNat →
          ∀ ins ∈ plain ++ stores, exec (ins c e) s = .next ((s.wake c).coreFault c 2))) ∧
      ((∃ b : Byte, e = .short b ∧ 200 ≤ b.toNat) ∨ (∃ (m : Byte) (w : Half), e = .long m w ∧
          (m.toNat % 32 ≠ 0 ∨ (m = 0xE0 ∧ 8 ≤ w.toNat))) → ∀ ins ∈ plain ++ stores, exec (ins c e) s = .next ((s.wake c).coreFault c 1)) ∧
      ((∃ b : Byte, e = .short b ∧ 200 ≤ b.toNat) ∨ (∃ (m : Byte) (w : Half), e = .long m w ∧ m.toNat / 16 % 2 = 1) →
        ∀ ins ∈ crc, exec (ins c e) s = .next ((s.wake c).coreFault c 1))) ∧
    (∀ ins ∈ plain ++ crc ++ stores ++ others,
      (s.issues c = false → exec (ins c e) s = .next s) ∧
      (s.issues c = true → k.inCode c e = false → exec (ins c e) s = .next ((s.wake c).coreFault c 3)) ∧
      (s.issues .glow = true → (s.core 17).inCode .glow e = true → encWords e = 1 →
        exec (ins .glow e) s = .next ((s.wake .glow).coreFault .glow 1))) ∧
    (∀ (h : Fin 16) (cause : Nat), c = .hive h → cause < 256 →
      (s.coreFault c cause).core i = { k with faulted := true, cause := cause, waiting := false } ∧
      (s.coreFault c cause).flag (F.WV_STAT_FAULT h.val) = true ∧ (s.coreFault c cause).fget (F.WV_STAT_CAUSE h.val) = cause ∧
      Rises s (s.coreFault c cause) (wvPage h.val) 0 ∧ (s.coreFault c cause).comb = s.comb)

/-- R255, R256, R259, R260, R264: the arithmetic, logic and shift instructions complete. -/
def Obligations.WeevilArithmeticLogicAndShifts : Prop :=
  ∀ (s : State) (c : Core) (e : Enc),
    let land := (s.core (coreIdx c)).load
    let zn (f : Flags) (r : Half) : Flags := (f.put fZ (r == 0)).put fN (r.getLsbD 15)
    let zn32 (f : Flags) (r : Word) : Flags := (f.put fZ (r == 0)).put fN (r.getLsbD 31)
    let cv (f : Flags) (x y : Bool) : Flags := (f.put fC x).put fV y
    let wide (k : CoreSt) (r : Word) : CoreSt := { k with a := r.extractLsb' 0 16, e := r.extractLsb' 16 16 }
    let C (k : CoreSt) : Bool := k.f.getLsbD fC
    let bit (b : Bool) : Nat := if b then 1 else 0
    let cnt (v : Half) : Nat := if 16 < v.toNat % 32 then 16 else v.toNat % 32
    let shifted (k : CoreSt) (n : Nat) (r : Half) (out : Bool) : CoreSt := { k with a := r, f := (zn k.f r).put fC (if n = 0 then C k else out) }
    (∀ v inc n t, Supplies s c e 0 v inc n t →
      let gives (ins : Core → Enc → Instr) (cycles : Nat) (f : CoreSt → CoreSt) : Prop :=
        exec (ins c e) s = .next (t.retire c land inc (cycles + n) f)
      gives .add 1 (fun k => { k with a := k.a + v, f := cv (zn k.f (k.a + v)) (BitVec.uaddOverflow k.a v) (BitVec.saddOverflow k.a v) }) ∧
      gives .adc 1 (fun k =>
        let sum : BitVec 18 := k.a.signExtend 18 + v.signExtend 18 + BitVec.ofNat 18 (bit (C k))
        { k with a := sum.setWidth 16, f := cv (zn k.f (sum.setWidth 16)) (65535 < k.a.toNat + v.toNat + bit (C k)) (sum.getLsbD 16 ^^ sum.getLsbD 15) }) ∧
      gives .sub 1 (fun k => { k with a := k.a - v, f := cv (zn k.f (k.a - v)) (v.ule k.a) (BitVec.ssubOverflow k.a v) }) ∧
      gives .sbc 1 (fun k =>
        let dif : BitVec 18 := k.a.signExtend 18 - v.signExtend 18 - BitVec.ofNat 18 (1 - bit (C k))
        { k with a := dif.setWidth 16, f := cv (zn k.f (dif.setWidth 16)) (v.toNat + (1 - bit (C k)) ≤ k.a.toNat) (dif.getLsbD 16 ^^ dif.getLsbD 15) }) ∧
      gives .and 1 (fun k => { k with a := k.a &&& v, f := zn k.f (k.a &&& v) }) ∧
      gives .or 1 (fun k => { k with a := k.a ||| v, f := zn k.f (k.a ||| v) }) ∧
      gives .xor 1 (fun k => { k with a := k.a ^^^ v, f := zn k.f (k.a ^^^ v) }) ∧
      gives .cmp 1 (fun k => { k with f := cv (zn k.f (k.a - v)) (v.ule k.a) (BitVec.ssubOverflow k.a v) }) ∧
      gives .tst 1 (fun k => { k with f := zn k.f (k.a &&& v) }) ∧
      gives .adx 1 (fun k => { k with x := k.x + v }) ∧
      gives .ady 1 (fun k => { k with y := k.y + v }) ∧
      gives .cpx 1 (fun k => { k with f := cv (zn k.f (k.x - v)) (v.ule k.x) (BitVec.ssubOverflow k.x v) }) ∧
      gives .mul 2 (fun k => let r : Word := k.a.signExtend 32 * v.signExtend 32; { wide k r with f := zn32 k.f r }) ∧
      gives .mulu 2 (fun k => let r : Word := k.a.zeroExtend 32 * v.zeroExtend 32; { wide k r with f := zn32 k.f r }) ∧
      gives .mac 2 (fun k => let p : Word := k.y.signExtend 32 * v.signExtend 32
        { wide k (k.e ++ k.a + p) with f := (zn32 k.f (k.e ++ k.a + p)).put fV (BitVec.saddOverflow (k.e ++ k.a) p) }) ∧
      gives .shl 1 (fun k => let w : BitVec 32 := k.a.zeroExtend 32 <<< cnt v; shifted k (cnt v) (w.setWidth 16) (w.getLsbD 16)) ∧
      gives .shr 1 (fun k => let w : BitVec 17 := (k.a ++ 0#1) >>> cnt v; shifted k (cnt v) (w.extractLsb' 1 16) (w.getLsbD 0)) ∧
      gives .sar 1 (fun k => let w : BitVec 17 := (k.a ++ 0#1).sshiftRight (cnt v); shifted k (cnt v) (w.extractLsb' 1 16) (w.getLsbD 0)) ∧
      gives .rol 1 (fun k =>
        let y := (bit (C k) * 2 ^ 16 + k.a.toNat) * 2 ^ cnt v
        let r := y % 2 ^ 17 + y / 2 ^ 17
        { k with a := BitVec.ofNat 16 r, f := (zn k.f (BitVec.ofNat 16 r)).put fC (r.testBit 16) }) ∧
      gives .dshl 1 (fun k => let w : BitVec 64 := (k.e ++ k.a).zeroExtend 64 <<< (v.toNat % 32)
        { wide k (w.setWidth 32) with f := (zn32 k.f (w.setWidth 32)).put fC (if v.toNat % 32 = 0 then C k else w.getLsbD 32) }) ∧
      gives .dsar 1 (fun k => let w : BitVec 33 := (k.e ++ k.a ++ 0#1).sshiftRight (v.toNat % 32)
        { wide k (w.extractLsb' 1 32) with
            f := (zn32 k.f (w.extractLsb' 1 32)).put fC (if v.toNat % 32 = 0 then C k else w.getLsbD 0) })) ∧
    (Issuing s c e → (e = .short 0 ∨ e = .long 0 0) →
      let gives (ins : Core → Enc → Instr) (f : CoreSt → CoreSt) : Prop :=
        exec (ins c e) s = .next ((s.issued c e).retire c land none 1 f)
      gives .sat (fun k =>
        let low := (k.e ++ k.a).slt 0xFFFF8000
        let high := BitVec.slt 0x00007FFF (k.e ++ k.a)
        let r : Half := if low then 0x8000 else if high then 0x7FFF else k.a
        { k with a := r, f := (zn k.f r).put fV (low || high) }) ∧
      gives .neg (fun k => { k with a := -k.a, f := cv (zn k.f (-k.a)) (k.a == 0) (k.a == 0x8000) }) ∧
      gives .abs (fun k =>
        let r : Half := if k.a = 0x8000 then 0x7FFF else if k.a.getLsbD 15 then -k.a else k.a
        { k with a := r, f := (zn k.f r).put fV (k.a == 0x8000) }) ∧
      gives .swap (fun k => { k with a := k.e, e := k.a }) ∧
      gives .sex (fun k => { k with e := if k.a.getLsbD 15 then 0xFFFF else 0 }))

/-- R265: DIV completes. -/
def Obligations.DivisionTruncatesOrSaturates : Prop :=
  ∀ (s : State) (c : Core) (e : Enc) (v : Half) (inc : Option (Bool × Half)) (n : Nat) (t : State), Supplies s c e 0 v inc n t →
    let k := t.core (coreIdx c)
    let d : Int := (k.e ++ k.a : Word).toInt
    ∃ (q r : Half) (lim : Bool),
      exec (.div c e) s = .next (t.retire c (s.core (coreIdx c)).load inc (18 + n) fun k =>
        { k with a := q, e := r, f := ((k.f.put fZ (q == 0)).put fN (q.getLsbD 15)).put fV lim }) ∧
      (lim = false → v ≠ 0 ∧ d = q.toInt * v.toInt + r.toInt ∧ r.toInt.natAbs < v.toInt.natAbs ∧ (0 ≤ d → 0 ≤ r.toInt) ∧ (d < 0 → r.toInt ≤ 0)) ∧
      (lim = true → q = (if 0 ≤ d then 0x7FFF else 0x8000) ∧ r = 0 ∧
        (v = 0 ∨ ∀ x y : Int, d = x * v.toInt + y → y.natAbs < v.toInt.natAbs → (0 ≤ d → 0 ≤ y) → (d < 0 → y ≤ 0) →
          x < -32768 ∨ 32767 < x))

/-- R267: BREV completes. -/
def Obligations.BitReversalReversesTheLowBits : Prop :=
  ∀ (s : State) (c : Core) (e : Enc) (v : Half) (inc : Option (Bool × Half)) (m : Nat) (t : State), Supplies s c e 0 v inc m t →
    let a := (t.core (coreIdx c)).a
    let n := if v.toNat % 32 = 0 ∨ 16 < v.toNat % 32 then 16 else v.toNat % 32
    ∃ r : Half, (∀ i < 16, r.getLsbD i = if i < n then a.getLsbD (n - 1 - i) else false) ∧
      exec (.brev c e) s = .next (t.retire c (s.core (coreIdx c)).load inc (1 + m) fun k =>
        { k with a := r, f := (k.f.put fZ (r == 0)).put fN (r.getLsbD 15) })

/-- R264, R266: BTST, PAR, PARE, CRCQ, CRCC and CRCW complete. -/
def Obligations.WeevilTestsAndCrcSteps : Prop :=
  let odd (w : Half) : Bool := decide (((List.range 16).filter fun i => w.getLsbD i).length % 2 = 1)
  let down (v : Half) (n : Nat) : List Bool := ((List.range n).map v.getLsbD).reverse
  let up (v : Half) (n : Nat) : List Bool := (List.range n).map v.getLsbD
  let q (r : BitVec 24) (d : Bool) : BitVec 24 := (r <<< 1) ^^^ if d ^^ r.getLsbD 23 then 0x864CFB else 0
  let cc (r : Half) (d : Bool) : Half := (r <<< 1) ^^^ if d ^^ r.getLsbD 15 then 0x1021 else 0
  let cw (r : Word) (d : Bool) : Word := (r >>> 1) ^^^ if d ^^ r.getLsbD 0 then 0x82F63B78 else 0
  let digits : List Half := [0x31, 0x32, 0x33, 0x34, 0x35, 0x36, 0x37, 0x38, 0x39]
  (∀ (s : State) (c : Core) (e : Enc),
    let land := (s.core (coreIdx c)).load
    (∀ v inc n t, Supplies s c e 0 v inc n t →
      let gives (ins : Core → Enc → Instr) (b : CoreSt → Bool) : Prop :=
        exec (ins c e) s = .next (t.retire c land inc (1 + n) fun k => { k with f := k.f.put fT (b k) })
      gives .btst (fun k => k.a.getLsbD (v.toNat % 16)) ∧ gives .par (fun k => odd (k.a &&& v)) ∧
      gives .pare (fun k => k.f.getLsbD fT ^^ odd (k.e &&& v))) ∧
    (∀ v inc n t, Supplies s c e 4 v inc n t →
      let bits := match e with | .short _ => 8 | .long m _ => m.toNat % 16 + 1
      let gives (ins : Core → Enc → Instr) (f : CoreSt → CoreSt) : Prop :=
        exec (ins c e) s = .next (t.retire c land inc ((if bits ≤ 8 then 1 else 2) + n) f)
      gives .crcq (fun k =>
        let r := (down v bits).foldl q (k.e.setWidth 8 ++ k.a : BitVec 24)
        { k with a := r.extractLsb' 0 16, e := (r.extractLsb' 16 8).zeroExtend 16, f := k.f.put fZ (r == 0) }) ∧
      gives .crcc (fun k => let r := (down v bits).foldl cc k.a; { k with a := r, f := k.f.put fZ (r == 0) }) ∧
      gives .crcw (fun k => let r := (up v bits).foldl cw (k.e ++ k.a : Word)
        { k with a := r.extractLsb' 0 16, e := r.extractLsb' 16 16, f := k.f.put fZ (r == 0) }))) ∧
  (digits.flatMap fun b => down b 8).foldl q 0 = 0xCDE703 ∧ (digits.flatMap fun b => down b 8).foldl cc 0xFFFF = 0x29B1 ∧
  (digits.flatMap fun b => up b 8).foldl cw 0xFFFFFFFF ^^^ 0xFFFFFFFF = 0xE3069283


/-- R255, R257, R259, R260, R263, R264, R269, R273, R274: the loads, stores, MOV, LDB, NOP, WAIT, EI and DI complete. -/
def Obligations.WeevilLoadsStoresAndMoves : Prop :=
  ∀ (s : State) (c : Core) (e : Enc),
    let i := coreIdx c
    let k := s.core i
    let loaded (k : CoreSt) (r : Nat) (v : Half) : CoreSt := match r with
      | 0 => { k with a := v } | 1 => { k with e := v } | 2 => { k with x := v } | _ => { k with y := v }
    let illegal := s.wake c |>.coreFault c 1
    (∀ ins r, (ins, r) ∈ [((Instr.lda : Core → Enc → Instr), 0), (.lde, 1), (.ldx, 2), (.ldy, 3)] → ∀ v inc n t, Supplies s c e 0 v inc n t →
      ((∃ b w j, k.operand e 0 = some (.mem b w j)) →
        exec (ins c e) s = .next (t.retire c k.load inc (1 + n) fun k => { k with load := some (r, v) })) ∧
      ((¬ ∃ b w j, k.operand e 0 = some (.mem b w j)) → exec (ins c e) s = .next (t.retire c k.load inc (1 + n) fun k => loaded k r v))) ∧
    (∀ r x, r < 4 → k.load = some (r, x) → Issuing s c e → e = .short 0 ∨ e = .long 0 0 → Completes (.nop c e) s fun u =>
      (u.core i).load = none ∧ (r = 0 → (u.core i).a = x) ∧ (r ≠ 0 → (u.core i).a = k.a) ∧ (r = 1 → (u.core i).e = x) ∧
      (r ≠ 1 → (u.core i).e = k.e) ∧ (r = 2 → (u.core i).x = x) ∧ (r ≠ 2 → (u.core i).x = k.x) ∧ (r = 3 → (u.core i).y = x) ∧
      (r ≠ 3 → (u.core i).y = k.y) ∧ (u.core i).p = k.p + BitVec.ofNat 16 (encWords e) ∧ u.comb = s.comb) ∧
    (∀ x v : Half, k.load = some (0, x) → e = .long 0 v → Issuing s c e → Completes (.add c e) s fun u =>
      (u.core i).a = x ∧ (u.core i).f.getLsbD fZ = (k.a + v == 0) ∧ (u.core i).f.getLsbD fN = (k.a + v).getLsbD 15) ∧
    (∀ ins v, (ins, v) ∈ [((Instr.sta : Core → Enc → Instr), k.a), (.ste, k.e), (.stx, k.x), (.sty, k.y)] → Issuing s c e →
      ((¬ ∃ b w j, k.operand e 0 = some (.mem b w j)) → exec (ins c e) s = .next illegal) ∧
      (∀ b w inc, k.operand e 0 = some (.mem b w inc) →
        let t (n : Nat) : State := (s.issued c e).retire c k.load inc n id
        (∀ a, place c b w = .data a → Completes (ins c e) s fun u =>
          u = (t 1).setCore i { (t 1).core i with data := (u.core i).data } ∧
          ∀ x, Tab.get (fun _ => 0) (u.core i).data x = if x = a then v else Tab.get (fun _ => 0) k.data x) ∧
        (∀ a, place c b w = .comb a → c ≠ .glow → s.combOn (combQuarter a) = true → Completes (ins c e) s fun u =>
          u.combByte a = v.setWidth 8 ∧ u.combByte (a + 1) = v.extractLsb' 8 8 ∧
          (∀ x < 2 ^ 24, x ≠ a % 2 ^ 24 → x ≠ (a + 1) % 2 ^ 24 → u.combByte x = s.combByte x) ∧
          (u.core i).a = ((t 1).core i).a ∧ (u.core i).x = ((t 1).core i).x ∧ (u.core i).y = ((t 1).core i).y ∧ (u.core i).p = ((t 1).core i).p) ∧
        (∀ p o, place c b w = .regs p o false → c ≠ .glow ∨ p = 0x1A0 ∨ s.domPowered 1 = true → Completes (ins c e) s fun u =>
          (u.core i).hold = k.hold.extractLsb' 16 16 ++ v ∧ (u.core i).p = ((t 1).core i).p ∧ u.comb = s.comb) ∧
        (∀ p o, place c b w = .regs p o true → c ≠ .glow → exec (ins c e) s = .next
          ((t (1 + if localPort (coreVia c) p then 1 else 3)).busWrite (coreVia c) p o (v ++ k.hold.extractLsb' 0 16) true)) ∧
        (place c b w = .control 0xFF00 → Completes (ins c e) s fun u => u = (t 1).setCore i { (t 1).core i with ien := v.setWidth 4 }) ∧
        (place c b w = .control 0xFF01 → Completes (ins c e) s fun u =>
          u = (t 1).setCore i { (t 1).core i with ipend := ((t 1).core i).ipend &&& ~~~(v.setWidth 4) }) ∧
        (place c b w = .control 0xFF02 → Completes (ins c e) s fun u => u = (t 1).setCore i { (t 1).core i with treload := v, tcnt := v }) ∧
        (place c b w = .control 0xFF0A → c = .warden → Completes (ins c e) s fun u => (u.core i).cwa = k.cwa + 1 ∧
          ∀ x, Tab.get (fun _ => 0) (u.core i).code x =
            if k.cwk ≠ 3 ∧ x = 65536 * k.cwk.toNat + k.cwa.toNat then v else Tab.get (fun _ => 0) k.code x))) ∧
    (Issuing s c e →
      let gives (ins : Core → Enc → Instr) (f : CoreSt → CoreSt) : Prop :=
        exec (ins c e) s = .next ((s.issued c e).retire c k.load none 1 f)
      ((e = .short 0 ∨ e = .long 0 0) → gives .nop id ∧ gives .ei (fun k => { k with f := k.f ||| 0x20 }) ∧
        gives .di (fun k => { k with f := k.f &&& 0x1F }) ∧ gives .wait fun k => { k with waiting := k.ien &&& k.ipend == 0 }) ∧
      (∀ b : Byte, (e = .short b ∨ e = .long 0 (b.zeroExtend 16)) → gives .ldb fun k => { k with b := b }) ∧
      (∀ d r : Nat, d < 6 → r < 8 → (e = .short (BitVec.ofNat 8 (8 * d + r)) ∨ e = .long (BitVec.ofNat 8 (8 * d + r)) 0) → gives .mov fun k =>
        let v : Half := match r with
          | 0 => k.a | 1 => k.e | 2 => k.x | 3 => k.y | 4 => k.b.zeroExtend 16 | 5 => k.f.zeroExtend 16 | 6 => k.mr | _ => k.k.zeroExtend 16
        match d with
          | 4 => { k with b := v.setWidth 8 } | 5 => { k with f := v.setWidth 6 } | _ => loaded k d v) ∧
      (∀ b : Byte, 48 ≤ b.toNat → (e = .short b ∨ ∃ w, e = .long b w) → exec (.mov c e) s = .next illegal) ∧
      (∀ (b : Byte) (w : Half), e = .long b w → w ≠ 0 → exec (.mov c e) s = .next illegal) ∧
      (∀ (b : Byte) (w : Half), e = .long b w → b ≠ 0 ∨ 256 ≤ w.toNat → exec (.ldb c e) s = .next illegal) ∧
      (e ≠ .short 0 → e ≠ .long 0 0 → ∀ ins ∈ [(Instr.nop : Core → Enc → Instr), .wait, .ei, .di, .rts, .reti, .swap, .sex, .jmpx, .jsrx, .sat,
        .neg, .abs], exec (ins c e) s = .next illegal))

/-- R263, R264, R268, R269, R271, R272, R274: the branches, jumps, calls and returns, INTERRUPT_ENTRY and WEEVIL_TIMER complete. -/
def Obligations.WeevilBranchesCallsAndInterrupts : Prop :=
  ∀ (s : State) (c : Core) (e : Enc),
    let i := coreIdx c
    let k := s.core i
    let t := s.issued c e
    let fault (n : Nat) := (s.wake c).coreFault c n
    let bit (n : Nat) : Bool := k.f.getLsbD n
    let conds : List ((Core → Enc → Instr) × Bool) := [(.bra, true), (.bz, bit 0), (.bnz, !bit 0), (.bn, bit 1), (.bnn, !bit 1), (.bc, bit 2),
      (.bnc, !bit 2), (.bv, bit 3), (.bnv, !bit 3), (.bt, bit 4), (.bnt, !bit 4), (.bge, bit 1 == bit 3), (.blt, bit 1 != bit 3)]
    (Issuing s c e →
      (∀ ofs : Half, (∃ b : Byte, e = .short b ∧ ofs = b.signExtend 16) ∨ e = .long 0 ofs →
        (∀ ins taken, (ins, taken) ∈ conds → exec (ins c e) s = .next (t.retire c k.load none (if taken then 2 else 1) fun k =>
          { k with p := if taken then k.p + ofs else k.p })) ∧
        exec (.dbnz c e) s = .next (t.retire c k.load none (if k.x = 1 then 1 else 2) fun k =>
          { k with x := k.x - 1, p := if k.x = 1 then k.p else k.p + ofs })) ∧
      (∀ (m : Byte) (w : Half), e = .long m w → m ≠ 0 → (∀ x ∈ conds, exec (x.1 c e) s = .next (fault 1)) ∧ exec (.dbnz c e) s = .next (fault 1) ∧
        exec (.jmp c e) s = .next (fault 1) ∧ exec (.jsr c e) s = .next (fault 1)) ∧
      (∀ (m : Byte) (w : Half), e = .long m w → c ≠ .warden ∨ 4 ≤ m.toNat →
        exec (.fjmp c e) s = .next (fault 1) ∧ exec (.fjsr c e) s = .next (fault 1)) ∧
      (∀ b : Byte, e = .short b → ∀ ins ∈ [(Instr.jmp : Core → Enc → Instr), .jsr, .fjmp, .fjsr], exec (ins c e) s = .next (fault 1)) ∧
      (let goes (jump call : Core → Enc → Instr) (dst : Half) (bank : BitVec 2) : Prop :=
         exec (jump c e) s = .next (t.retire c k.load none 2 fun k => { k with p := dst, k := bank }) ∧
         (8 ≤ k.stack.length → exec (call c e) s = .next (fault 4)) ∧
         (k.stack.length < 8 → ∃ f m, exec (call c e) s = .next ({ t with fresh := t.fresh + 1 }.retire c k.load none 2 fun k =>
           { k with stack := ⟨k.p, k.k, f, m⟩ :: k.stack, p := dst, k := bank }))
       (e = .short 0 ∨ e = .long 0 0 → goes .jmpx .jsrx k.x k.k) ∧ (∀ dst, e = .long 0 dst → goes .jmp .jsr dst k.k) ∧
       (∀ dst bank, c = .warden → e = .long (bank.zeroExtend 8) dst → goes .fjmp .fjsr dst bank)) ∧
      (e = .short 0 ∨ e = .long 0 0 →
        (k.stack = [] → exec (.rts c e) s = .next (fault 5) ∧ exec (.reti c e) s = .next (fault 5)) ∧
        (∀ x rest, k.stack = x :: rest →
          exec (.rts c e) s = .next (t.retire c k.load none 2 fun k =>
            { k with stack := rest, p := x.p, k := if c = .warden then x.k else k.k }) ∧
          exec (.reti c e) s = .next (t.retire c k.load none 3 fun k => { k with stack := rest, p := x.p, k := x.k, f := x.f, mr := x.mr })))) ∧
    (∀ l < 4, s.coreRuns c = true → k.f.getLsbD fIE = true → k.load = none → k.stack.length < 8 → (k.ien &&& k.ipend).getLsbD l = true →
      (∀ j < l, (k.ien &&& k.ipend).getLsbD j = false) → Completes (.interruptEntry c) s fun u =>
        (u.core i).stack = ⟨k.p, k.k, k.f, k.mr⟩ :: k.stack ∧ (u.core i).p = BitVec.ofNat 16 (2 * l) ∧ (u.core i).f = k.f &&& 0x1F ∧
        (u.core i).mr = 0 ∧ (u.core i).k = 0 ∧ (u.core i).ipend = k.ipend ∧ (u.core i).a = k.a ∧ (u.core i).waiting = false ∧ u.comb = s.comb) ∧
    (s.coreRuns c = false ∨ k.f.getLsbD fIE = false ∨ k.load ≠ none ∨ 8 ≤ k.stack.length ∨ (k.ien &&& k.ipend) = 0 →
      exec (.interruptEntry c) s = .next s) ∧
    (k.treload ≠ 0 → ¬ (c = .glow ∧ k.waiting = true) → Completes (.weevilTimer c) s fun u =>
      u.core i = { k with tcnt := k.treload, ipend := k.ipend ||| 4 } ∧ { u with wv := s.wv } = s) ∧
    (k.treload = 0 ∨ (c = .glow ∧ k.waiting = true) → exec (.weevilTimer c) s = .next s)

/-- R269, R276, R277, R279 to R283, R285, R287, R288, R296: USER_INSTRUCTION, CWD_WRITE, UC_LOAD, UC_LOAD_DONE, UC_SEAL and CB_CLR
complete. -/
def Obligations.MicrocodeIsLoadedSealedAndRun : Prop :=
  ∀ s : State,
    (∀ (c : Core) (u : Fin 16) (e : Enc) (yields : Nat),
      let i := coreIdx c
      let k := s.core i
      let ins : Instr := .userInstruction c u e yields
      let entry := (Tab.get (fun _ => 0) k.table u.val).toNat
      let step := if k.mr.msb then k.mr.toNat % 1024 else entry % 1024
      let word : BitVec 64 := Tab.get (Config.microInit i) k.micro step
      let f (lo n : Nat) : Nat := word.toNat / 2 ^ lo % 2 ^ n
      let quiet := s.issues c = true ∧ k.inCode c e = true ∧ c ≠ .glow ∧ (c = .warden → s.flag F.UC_STAT_BUSY = false) ∧ encWords e = 2 ∧
        k.user = none ∧ k.load = none ∧ 2 ^ 31 ≤ entry ∧ 1 ≤ entry / 2 ^ 16 % 512
      let opnd := entry / 2 ^ 29 % 4
      let ends (t : State) (a : Half) (g : Flags) : Prop := (t.core i).a = a ∧ (t.core i).f = g ∧ (t.core i).e = k.e ∧ (t.core i).x = k.x ∧
        (t.core i).y = k.y ∧ (t.core i).b = k.b ∧ (t.core i).p = k.p + 2 ∧ (t.core i).mr = 0 ∧ (t.core i).user = none ∧ t.comb = s.comb
      (s.issues c = false → exec ins s = .next s) ∧
      (c = .warden → s.flag F.UC_STAT_BUSY = true → exec ins s = .next s) ∧
      (∀ h : Fin 16, c = .hive h → s.issues c = true → k.inCode c e = true → Completes ins s fun t =>
        (encWords e = 1 → (t.core i).faulted = true ∧ (t.core i).cause = 1 ∧ (t.core i).p = k.p) ∧
        (encWords e = 2 → k.user = none → entry < 2 ^ 31 → (t.core i).faulted = true ∧ (t.core i).cause = 0x20 ∧ (t.core i).p = k.p ∧
          (t.core i).a = k.a ∧ Rises s t (wvPage h.val) 0)) ∧
      (quiet → opnd = 0 → e = .long 0 0 → f 60 4 = 1 → f 56 4 = 0 → f 52 4 = 1 → f 48 4 = 0 → f 46 2 = 0 → f 39 5 = 15 → f 36 3 = 4 →
        Completes ins s fun t => ends t (k.a + k.e) ((((k.f.put fZ (k.a + k.e == 0)).put fN (k.a + k.e).msb).put fC
          (BitVec.uaddOverflow k.a k.e)).put fV (BitVec.saddOverflow k.a k.e))) ∧
      (∀ w : Half, quiet → opnd = 1 → e = .long 0 w → f 60 4 = 0 → f 56 4 = 6 → f 48 4 = 0 → f 46 2 = 0 → f 39 5 = 0 → f 36 3 = 4 →
        Completes ins s fun t => ends t w k.f) ∧
      (∀ w : Half, quiet → opnd = 2 → e = .long 0x20 w → w.toNat < dataWords c → f 60 4 = 0 → f 56 4 = 0 → f 48 4 = 13 → f 46 2 = 2 →
        f 39 5 = 0 → f 36 3 = 4 → Completes ins s fun t => ends t k.a k.f ∧
          ∀ x, Tab.get (fun _ => 0) (t.core i).data x = if x = w.toNat then k.a else Tab.get (fun _ => 0) k.data x) ∧
      (∀ h : Fin 16, quiet → c = .hive h → opnd = 0 → e = .long 0 0 → f 46 2 = 0 →
        (f 36 3 = 5 → Completes ins s fun t => (t.core i).faulted = true ∧ (t.core i).cause = 0x28 + f 0 3 ∧ (t.core i).p = k.p ∧
          (t.core i).a = k.a ∧ (t.core i).f = k.f ∧ (t.core i).data = k.data) ∧
        (f 36 3 = 1 → f 16 10 = step → f 31 1 = 0 → Completes ins s fun t => (t.core i).faulted = true ∧ (t.core i).cause = 0x21 ∧
          (t.core i).p = k.p ∧ (t.core i).a = k.a)) ∧
      (quiet → opnd = 0 → e = .long 0 0 → f 60 4 = 0 → f 56 4 = 1 → f 48 4 = 0 → f 46 2 = 0 → f 39 5 = 0 → f 36 3 = 0 → f 31 1 = 1 → yields = 0 →
        (k.f.getLsbD fIE = false → Completes ins s fun t => (t.core i).a = k.e ∧ (t.core i).p = k.p ∧
          (t.core i).mr = BitVec.ofNat 16 (0x8000 + (step + 1) % 1024) ∧ (t.core i).user.isSome = true) ∧
        (∀ l < 4, k.f.getLsbD fIE = true → k.stack.length < 8 → (k.ien &&& k.ipend).getLsbD l = true →
          (∀ j < l, (k.ien &&& k.ipend).getLsbD j = false) → Completes ins s fun t =>
            (t.core i).stack = ⟨k.p, k.k, k.f, BitVec.ofNat 16 (0x8000 + (step + 1) % 1024)⟩ :: k.stack ∧ (t.core i).a = k.e ∧
            (t.core i).p = BitVec.ofNat 16 (2 * l) ∧ (t.core i).mr = 0 ∧ (t.core i).user = none))) ∧
    (∀ v : Half, s.coreRuns .warden = true → Completes (.cwdWrite v) s fun t =>
      let k := s.core 16
      (t.core 16).cwa = k.cwa + 1 ∧ (t.core 16).p = k.p ∧ { t with wv := s.wv } = s ∧ ∀ x, Tab.get (fun _ => 0) (t.core 16).code x =
        if k.cwk ≠ 3 ∧ x = 65536 * k.cwk.toNat + k.cwa.toNat then v else Tab.get (fun _ => 0) k.code x) ∧
    (s.coreRuns .warden = false → ∀ v, exec (.cwdWrite v) s = .next s) ∧
    (∀ via : Via, s.judge via 0x190 0x100 true = .ok →
      let core := s.fget F.UC_CTL_CORE
      let first := s.fget F.UC_DST_FIRST
      let count := s.fget F.UC_DST_COUNT
      let part := s.flag F.UC_CTL_PART
      let size := if part then 4 else 8
      let bytes := s.combBytes (64 * s.fget F.UC_SRC_V) (size * count)
      let words := (chunks size bytes).map fun b => BitVec.ofNat 64 (ofLe b)
      let result := if 16 < core then 6 else if (s.fget F.UC_SEAL_V).testBit core then 1
        else if core < 16 ∧ s.flag (F.WV_CTL_RUN core) = true then 2
        else if count = 0 ∨ (if part then 16 else 1024) < first + count then 3
        else if crc32c bytes ≠ s.fget F.UC_CRC then 4
        else if words.any (if part then entryBad else microBad) then 5 else 0
      (s.flag F.UC_STAT_BUSY = true → exec (.ucLoad via) s = .next s) ∧
      (s.flag F.UC_STAT_BUSY = false → (∀ q < 4, s.combOn q = true) → s.ecc = [] → Completes (.ucLoad via) s fun t =>
        t.fget F.UC_STAT_RESULT = result ∧ t.flag F.UC_STAT_BUSY = decide (result = 0) ∧ t.wv.cores = s.wv.cores ∧
        (result = 0 → t.wv.uc = some ⟨core, part, 0, first, count, words⟩)) ∧
      (core ≤ 16 → Completes (.ucSeal via) s fun t => (t.fget F.UC_SEAL_V).testBit core = true ∧ OnlyRegs s t [F.UC_SEAL_V.addr] ∧
        ∀ j < 17, j ≠ core → (t.fget F.UC_SEAL_V).testBit j = (s.fget F.UC_SEAL_V).testBit j) ∧
      (16 < core → exec (.ucSeal via) s = .next s)) ∧
    (∀ j, s.wv.uc = some j → Completes .ucLoadDone s fun t => t.flag F.UC_STAT_BUSY = false ∧ t.wv.uc = none ∧
      (j.part = true → ∀ n, Tab.get (fun _ => 0) (t.core j.core).table n = if j.first ≤ n ∧ n < j.first + j.vals.length
        then (j.vals.getD (n - j.first) 0).setWidth 32 else Tab.get (fun _ => 0) (s.core j.core).table n) ∧
      (j.part = false → ∀ n, Tab.get (Config.microInit j.core) (t.core j.core).micro n = if j.first ≤ n ∧ n < j.first + j.vals.length
        then j.vals.getD (n - j.first) 0 else Tab.get (Config.microInit j.core) (s.core j.core).micro n) ∧
      (t.core j.core).p = (s.core j.core).p) ∧
    (s.wv.uc = none → exec .ucLoadDone s = .next s) ∧
    (∀ via : Via, s.judge via 0x120 0x040 true = .ok → Completes (.cbClr via) s fun t =>
      (∀ m < 16, t.fget (F.CB_ACC m) = 0 ∧ t.fget (F.CB_CNF m) = 0) ∧ t.comb = s.comb ∧
      ∀ a, (a < 0x120080 ∨ 0x120100 ≤ a) → t.reg a = s.reg a)


/-- R321, R369 to R373, R386, R409, R428: LenId, PEEK, POKE, DQ, LenLog, DOM, VOTES, LEDGER, UNLOCK, LOAD, LOAD_IMAGE_DONE, CONFIRM,
BAUD, LenFrame, REBOOT and UNLOCK_TIMEOUT complete. The output forms the spec leaves open are the model's own. -/
def Obligations.LenlisRunsItsCommands : Prop :=
  ∀ (s : State) (page : Fin 1024) (off : BitVec 12) (v : Word) (t : Fin 4096) (io : Bool) (n b : Nat) (crc : Word)
      (arg : Option (List Char)),
    let text (u : State) : List Byte := ((u.uart 0).shift.map fun c => c.setWidth 8).toList ++ u.mon.out
    let crlf : List Byte := [0x0D, 0x0A]
    let ends (e : Nat) : List Byte := ascii (if e = 0 then "OK" else "ERR " ++ toString e ++ " " ++ errName e) ++ crlf ++ ascii "L> "
    let line (head : List Byte) (ws : List (List Byte)) : List Byte := head ++ ws.flatMap ([0x20] ++ ·) ++ crlf
    let stat := (F.U_STAT_TXIDLE 0).addr
    let only (u w : State) : Prop := OnlyRegs { w with mon.out := u.mon.out, mon.inT := s.now, uarts := u.uarts } u [stat] ∧ ∀ k, k ≠ 0 → u.uart k = w.uart k
    let prints (c : Instr) (body : List Byte) (e : Nat) (Q : State → Prop) : Prop :=
      (s.uart 0).gen = none → Completes c s fun u => text u = text s ++ body ++ ends e ∧ Q u
    let free : List Instr := [.lenId, .peek page off n, .lenLog n, .dom, .unlock arg, .baud b]
    let owner : List Instr := [.poke page off v, .lenlisConfirm, .lenFrame]
    let normal : List Instr := [.dq t io n, .votes b, .ledger] ++ owner
    let up := s.domState 1 = dON ∧ s.boot.dead = false
    let svc := s.fget F.SYS_BOOT_MODE = bmSERVICE
    let h : State := { s with mon.inT := s.now }
    let stop (e : Nat) : State := { h with mon.out := s.mon.out ++ ends e }
    (exec .unlockTimeout s = .next (if s.mon.inT + 600 * sec ≤ s.now then { s with mon.unlocked := false } else s)) ∧
    (s.monOn = false → ∀ c ∈ free ++ normal ++ [.load b crc, .reboot], exec c s = .next s) ∧
    (s.monOn = true → svc → ∀ c ∈ normal, exec c s = .next (stop 4)) ∧
    (s.monOn = true → ¬ svc → s.mon.unlocked = false → ∀ c ∈ owner, exec c s = .next (stop 3)) ∧
    (s.monOn = true → s.mon.unlocked = false → exec (.load b crc) s = .next (stop 3) ∧ exec .reboot s = .next (stop 3)) ∧
    (s.monOn = true →
      (∃ l, prints .lenId (line (hexN 8 (s.view 19 F.SYS_PART_PART.addr).toNat) (hexN 8 (s.header 0x001 0x004).toNat :: l)) 0 fun u => only u s) ∧
      (s.readHeld (.behalf 0) page.val off.toNat n = true →
        exec (.peek page off n) s = .next { s with pwr.held := s.pwr.held ++ [(pageDom page.val, .peek page off n)] }) ∧
      (s.readHeld (.behalf 0) page.val off.toNat n = false → n = 0 ∨ 64 < n ∨ off.toNat % 4 ≠ 0 ∨ 4096 < off.toNat + 4 * n →
        prints (.peek page off n) [] 2 fun u => only u s) ∧
      (s.readHeld (.behalf 0) page.val off.toNat n = false → 0 < n → n ≤ 64 → off.toNat % 4 = 0 → off.toNat + 4 * n ≤ 4096 →
        let r := h.busReads (.behalf 0) page.val off.toNat n
        prints (.peek page off n) ((chunks 4 r.1).zipIdx.flatMap fun x =>
          line (hexN 3 page.val ++ [0x3A] ++ hexN 3 (off.toNat + 16 * x.2)) (x.1.map fun w => hexN 8 w.toNat)) 0
          fun u => only u { r.2 with out := r.1 }) ∧
      (up → implemented page.val = true → prints (.peek page 0 1)
        (line (hexN 3 page.val ++ [0x3A] ++ hexN 3 0) [hexN 8 (s.reg (page.val * 4096)).toNat]) 0 fun u => only u { s with out := u.out }) ∧
      (up → s.flag (PG_FREEZE 0x110) = false → prints (.peek 0x110 0x048 3)
        (line (ascii "110:048") [hexN 8 (s.now / 2 ^ 64 % 2 ^ 32), hexN 8 (s.now / 2 ^ 32 % 2 ^ 32), hexN 8 (s.now % 2 ^ 32)]) 0
        fun u => only u { s with out := u.out, latch := u.latch }) ∧
      prints (.lenLog n) ((s.logOrder.drop (s.logOrder.length - n)).flatMap fun k =>
        line [] ((bytesWords (s.combBytes (logAddr k) 32)).map fun w => hexN 8 w.toNat)) 0 (fun u => only u s) ∧
      prints .dom ((List.range 38).flatMap fun d => line (hexN 2 d) [hexN 1 (s.domState d), hexN 4 (s.holders d)]) 0 (fun u => only u s) ∧
      prints (.unlock none) (line [] [s.challenge.flatMap fun x => hexN 2 x.toNat]) 0 (fun u => u.mon.half = none ∧ u.challenge = s.challenge) ∧
      (∀ cs : List Char, let bytes : List Byte := cs.map fun c => BitVec.ofNat 8 c.toNat
        ((bytes.length ≠ 64 ∨ hexLine bytes = none) → prints (.unlock (some cs)) [] 1 fun u => u.mon.half = none ∧ u.mon.unlocked = s.mon.unlocked) ∧
        (∀ x, bytes.length = 64 → hexLine bytes = some x →
          (s.mon.half = none → prints (.unlock (some cs)) [] 0 fun u => u.mon.half = some x ∧ u.mon.unlocked = s.mon.unlocked ∧ u.fresh = s.fresh) ∧
          (∀ r, s.mon.half = some r →
            let pass := s.sessionBarred = false ∧ ∃ k, s.ownerKey = some k ∧
              Config.ecdsa 256 k (Config.sha256 (ascii "KTOW" ++ uidBytes s.fuses ++ s.challenge)) (r ++ x) = true
            ∃ e, ((pass ∧ e = 0) ∨ (¬ pass ∧ e = 7)) ∧ prints (.unlock (some cs)) [] e fun u =>
              (u.mon.unlocked = true ↔ (e = 0 ∨ s.mon.unlocked = true)) ∧ u.mon.half = none))) ∧
      (b < 300 ∨ 3000000 < b → prints (.baud b) [] 2 fun u => only u s) ∧
      (300 ≤ b → b ≤ 3000000 → prints (.baud b) [] 0 fun u => u.mon.rate = some b ∧ u.fget (F.U_BAUD_RATE 0) = s.fget (F.U_BAUD_RATE 0)) ∧
      (s.mon.unlocked = true →
        (s.upBusy = true → exec (.load b crc) s = .next (stop 6)) ∧
        (s.upBusy = false → b = 0 ∨ 0x100000 < b → exec (.load b crc) s = .next (stop 2)) ∧
        (s.upBusy = false → 0 < b → b ≤ 0x100000 → (s.uart 0).gen = none → Completes (.load b crc) s fun u =>
          text u = text s ++ ascii "GO" ++ crlf ∧ u.mon.load = some (b, crc.toNat, [])) ∧
        Completes .reboot s fun u => u.fget F.RST_CAUSE_CAUSE = 3 ∧ u.mon = {} ∧ u.comb = [] ∧ u.fuses = s.fuses)) ∧
    (s.monOn = true → ¬ svc →
      prints (.dq t io n) (((s.queue (2 * t.val + if io then 1 else 0)).listed n).flatMap fun x =>
        line (hexN 16 x.toNat) [hexN 1 (itemPri x), hexN 1 (if itemEnd x then 1 else 0), hexN 1 (itemNB x)]) 0 (fun u => only u s) ∧
      (38 ≤ b → prints (.votes b) [] 2 fun u => only u s) ∧
      (b < 38 → Tab.wf voteReset s.pwr.votes = true → ∃ cs : List Nat, prints (.votes b) (line [] (cs.map (hexN 4))) 0 (fun u => only u s) ∧
        ∀ c < 8192, c ∈ cs ↔ s.voted b c = true) ∧
      prints .ledger (line [] ((List.range 42).map fun k => hexN 8 (s.reg (0x008044 + 4 * k)).toNat)) 0 (fun u => only u s) ∧
      (s.mon.unlocked = true →
        (off.toNat % 4 ≠ 0 → prints (.poke page off v) [] 2 fun u => only u s) ∧
        (off.toNat % 4 = 0 → s.flag (PG_LOCK page.val) = true → notForOwner page.val = true → prints (.poke page off v) [] 7 fun u => only u s) ∧
        (off.toNat % 4 = 0 → (s.flag (PG_LOCK page.val) = false → exec (.poke page off v) s =
            .next (((h.busWrite (.behalf 0) page.val off.toNat v true).monEnd 0).uLoad 0)) ∧
          (s.flag (PG_LOCK page.val) = true → notForOwner page.val = false → exec (.poke page off v) s =
            .next (((h.ownerWrites page.val off.toNat [v]).monEnd 0).uLoad 0))) ∧
        (s.judge (if s.flag (PG_LOCK 0x152) = true then .warden else .behalf 0) 0x152 0x040 true = .ok →
          prints (.poke 0x152 0x040 v) [] 0 fun u => u.fget F.SPI_WT_T = v.toNat % 4096 ∧
            ∀ a, a ≠ stat → a ≠ F.SPI_WT_T.addr → u.reg a = s.reg a) ∧
        (s.upBusy = true → prints .lenlisConfirm [] 6 fun u => only u s) ∧
        (∀ i, s.upBusy = false → s.upd.image = some i → prints .lenlisConfirm [] 0 fun u => u.flag F.UP_CONF_CONFIRMED = true ∧
          u.fuses.arb = max s.fuses.arb (min 64 i.secver) ∧ ∀ f ∈ u.upd.formats, f = i.setfmt) ∧
        prints .lenFrame [] 0 fun u => u.mon.toFrame = true ∧ u.uMode 0 = s.uMode 0)) ∧
    (∀ (x : Byte) (c : BitVec 9) (back : List Bool), s.uOn 0 = true → s.uMode 0 = umMONITOR → s.flag (F.U_STAT_XOFFRX 0) = false →
      (s.uart 0).gen = none → (s.uart 0).shift = some c → s.mon.out = [x] → Completes (.uartCharSent 0 back) s fun u =>
        (u.uart 0).shift = some (x.setWidth 9) ∧ u.out.head? = some (c.setWidth 32) ∧
        (∀ r ≤ 3000000, s.mon.rate = some r → u.fget (F.U_BAUD_RATE 0) = r) ∧ (s.mon.toFrame = true → u.uMode 0 = umFRAME) ∧
        u.mon.rate = none ∧ u.mon.toFrame = false) ∧
    (∀ (bytes : Nat) (sum : Nat) (got : List Byte), s.mon.load = some (bytes, sum, got) →
      (∀ wire : List Bool, s.uOn 0 = true → s.uMode 0 = umMONITOR → s.flag (F.U_CTL_RXOFFDE 0) = false → s.flag (F.U_STAT_MUTE 0) = false →
        s.flag (F.U_FMT_ADDR9 0) = false → s.mon.long = false → (s.uTake 0 wire).data.setWidth 8 = (0x0D : Byte) →
        (s.uTake 0 wire).falseStart = false → (s.uTake 0 wire).fe = false → (s.uTake 0 wire).pe = false →
        Completes (.uartCharReceived 0 wire) s fun u =>
          u.mon.line = [] ∧
          (∀ l, 2 ≤ s.mon.line.length → hexLine s.mon.line = some l → u.mon.out = s.mon.out ++ [0x0D] ∧ u.mon.load = some (bytes, sum, got ++ l)) ∧
          (s.mon.line.length < 2 ∨ hexLine s.mon.line = none → u.mon.out = s.mon.out ++ [0x0D] ++ ends 1 ∧ u.mon.load = none)) ∧
      (got.length < bytes → exec .loadImageDone s = .next s) ∧
      (bytes ≤ got.length → s.uMode 0 = umMONITOR → crc32c (got.take bytes) ≠ sum → prints .loadImageDone [] 5 fun u =>
        only { u with mon.load := s.mon.load } s ∧ u.mon.load = none) ∧
      (bytes ≤ got.length → s.uMode 0 = umMONITOR → bytes ≤ 0x100000 → crc32c (got.take bytes) = sum → sum < 2 ^ 32 →
        (imgField (got.take bytes) 0 4 = 0x4D49544B → prints .loadImageDone [] 0 fun u => u.mon.load = none ∧ u.upState = upWRITING ∧
          u.upd.written = 0 ∧ u.staged = got.take bytes) ∧
        (imgField (got.take bytes) 0 4 ≠ 0x4D49544B → prints .loadImageDone [] 7 fun u => u.mon.load = none ∧ u.upState = upFAILED ∧
          u.fget F.UP_STAT_RESULT = 2))) ∧
    (s.mon.load = none → exec .loadImageDone s = .next s)

/-- R270, R375 to R380: CICADA_TAKE_RAISE, COALESCE_WINDOW_CLOSE and CL_CLR complete. The lowest free slot is the model's choice
(log entry 10). -/
def Obligations.CicadaTakesRoutesAndLogsRaises : Prop :=
  ∀ s : State,
    let win (u : State) (i : Nat) : Option Win := Tab.get (fun _ => none) u.cic.wins i
    let slot (u : State) (i : Nat) : Option (Nat × Nat) := Tab.get (fun _ => none) u.cic.slots i
    let record (src : Nat) (w : Win) (final : Nat) : List Byte := wordBytes (timeWords w.t ++
      [BitVec.ofNat 32 (w.count * 65536 + final * 16384 + w.cls * 4096 + src), BitVec.ofNat 32 w.seq,
       BitVec.ofNat 32 (w.inst % 65536 * 65536 + w.page), w.detail, BitVec.ofNat 32 w.lastDt])
    (s.cic.raises = [] → exec .cicadaTakeRaise s = .next s) ∧
    (∀ (r : Raise) (rest : List Raise), s.cic.raises = r :: rest → r.src < 1152 →
      let cls := s.fget (F.SRC_CFG_CLASS r.src)
      let cw := s.fget (F.SRC_CFG_CW r.src)
      let w0 : Win := ⟨s.now, if cw = 0 then 0 else ms (2 ^ (cw - 1)), cls, min r.reps 0xFFFF, s.fget F.CL_SEQ, r.inst, r.page, s.detailOf r, 0, none⟩
      let goes (k : Nat) : Bool := [s.flag (F.SRC_CFG_WARDEN r.src), s.flag (F.SRC_CFG_PCIE r.src), s.flag (F.SRC_CFG_PIN0 r.src),
        s.flag (F.SRC_CFG_PIN1 r.src)].getD k false
      let logged := s.flag (F.SRC_CFG_LOG r.src) = true ∧ r.src ≠ 1117 ∧ r.src ≠ 1118
      let ten := s.flag (F.SRC_CFG_TEN r.src)
      ((∀ w, win s r.src = some w → w.t + w.w ≤ s.now) → Completes .cicadaTakeRaise s fun u =>
        u.fget F.CL_SEQ = (s.fget F.CL_SEQ + 1) % 2 ^ 32 ∧ u.fget (F.SRC_CNT_OCC r.src) = satInc 16 (s.fget (F.SRC_CNT_OCC r.src)) ∧
        (∀ k < 4, u.fget (irqFld k) = if goes k then s.fget (irqFld k) ||| 2 ^ cls else s.fget (irqFld k)) ∧
        (goes 0 = true → u.fget (irqFld 0) &&& u.fget (irqEnFld 0) ≠ 0 → (u.core 16).ipend.getLsbD 0 = true) ∧
        (goes 0 = true → 0x150 ≤ r.page → r.page ≤ 0x15C → (u.core 16).ipend.getLsbD 3 = true) ∧
        (cw = 0 → win u r.src = none) ∧
        (cw ≠ 0 → ∃ w, win u r.src = some w ∧ w.t = w0.t ∧ w.w = w0.w ∧ w.cls = cls ∧ w.count = w0.count ∧ w.seq = w0.seq ∧
          w.page = r.page ∧ w.inst = r.inst ∧ u.fget (F.SRC_CNT_COUNT r.src) = w0.count)) ∧
      (win s r.src = none → ¬ logged → ten = false → (∀ k < 4, goes k = false) → Completes .cicadaTakeRaise s fun u =>
        OnlyRegs { s with cic.raises := rest, cic.wins := u.cic.wins } u [F.CL_SEQ.addr, (F.SRC_CNT_OCC r.src).addr]) ∧
      (win s r.src = none → goes 1 = true → ten = false → ¬ logged → s.irqActive 1 = false → s.fget (irqEnFld 1) &&& 2 ^ cls ≠ 0 →
        s.flag F.PCIE_LINK_UP = true → (Tab.get (fun _ => 0) s.pcie.msix 3).getLsbD 0 = false → Completes .cicadaTakeRaise s fun u =>
          Tab.get (fun _ => 0) u.pcie.msgs 0 = Tab.get (fun _ => 0) s.pcie.msgs 0 + 1) ∧
      (∀ n, win s r.src = none → logged → logGap 1 s.cic.slots = some n → s.combOn 0 = true → Completes .cicadaTakeRaise s fun u =>
        u.combBytes (logAddr n) 32 = record r.src w0 0 ∧ slot u n = some (cls, s.cic.age) ∧ (∀ i, i ≠ n → slot u i = slot s i) ∧
        u.cic.newest = s.fget F.CL_SEQ ∧ (∀ k < 4, u.fget (F.CL_DROP k) = s.fget (F.CL_DROP k))) ∧
      (win s r.src = none → logged → logGap 1 s.cic.slots = none → cls < 4 →
        let above (k : Nat) : Prop := k < 4 ∧ s.fget (resFld k) < s.fget (heldFld k) ∧ (s.fget (resFld cls) ≤ s.fget (heldFld cls) → k ≤ cls)
        let least (k : Nat) : Prop := above k ∧ ∀ j, above j → k ≤ j
        let lost (u : State) (k : Nat) : Prop := u.fget (F.CL_DROP k) = satInc 32 (s.fget (F.CL_DROP k)) ∧ u.cic.lossTot = satInc 32 s.cic.lossTot
        ((∀ k, ¬ above k) → Completes .cicadaTakeRaise s fun u => lost u cls ∧ u.cic.slots = s.cic.slots) ∧
        (∀ k n, least k → s.oldest k = some n → Completes .cicadaTakeRaise s fun u => lost u k ∧ slot u n = some (cls, s.cic.age) ∧
          ∀ i, i ≠ n → slot u i = slot s i)) ∧
      (∀ w, win s r.src = some w → s.now < w.t + w.w →
        let w' : Win := { w with count := min (w.count + 1 + r.reps) 0xFFFF, inst := w.inst ||| r.inst,
                                 lastDt := min ((s.now - w.t) * 1000000 / sec) 0xFFFFFFFF }
        Completes .cicadaTakeRaise s fun u => win u r.src = some w' ∧ u.fget (F.SRC_CNT_COUNT r.src) = w'.count ∧
          u.fget F.CL_SEQ = s.fget F.CL_SEQ ∧ u.tn = s.tn ∧ u.wv = s.wv ∧ u.pcie = s.pcie ∧ u.cic.slots = s.cic.slots ∧
          (w.slot = none → OnlyRegs { s with cic.raises := rest, cic.wins := u.cic.wins } u [(F.SRC_CNT_COUNT r.src).addr]) ∧
          (∀ n < 8192, w.slot = some n → s.combOn 0 = true → u.combBytes (logAddr n) 32 = record r.src w' 0))) ∧
    (∀ src : Fin 1152,
      (win s src.val = none → exec (.coalesceWindowClose src) s = .next s) ∧
      (∀ w, win s src.val = some w → s.now < w.t + w.w → exec (.coalesceWindowClose src) s = .next s) ∧
      (∀ w, win s src.val = some w → w.t + w.w ≤ s.now →
        (w.count = 0 ∨ s.flag (F.SRC_CFG_TEN src.val) = false → Completes (.coalesceWindowClose src) s fun u =>
          win u src.val = none ∧ u.fget (F.SRC_CNT_COUNT src.val) = 0 ∧
          OnlyRegs { s with cic.wins := u.cic.wins } u [(F.SRC_CNT_COUNT src.val).addr]) ∧
        (let m := frameItems 3 (frameBytes 5 0 (s.tenant 0).outSeq (record src.val w 1))
         w.count ≠ 0 → s.flag (F.SRC_CFG_TEN src.val) = true → s.tenTargets w.page = [0] → (s.tenant 0).state = .opened → s.muted 0 = false →
           (s.queue 1).batch = none → (∀ x ∈ s.tn.waiting, x.2 ≠ 1) → m.length ≤ (s.queue 1).cred →
           Completes (.coalesceWindowClose src) s fun u => win u src.val = none ∧ u.fget (F.SRC_CNT_COUNT src.val) = 0 ∧
             (u.queue 1).ready = (s.queue 1).ready ++ [m] ∧ (u.queue 1).cred = (s.queue 1).cred - m.length))) ∧
    (∀ (via : Via) (v : Word), via ≠ .bar2 → s.judge via 0x130 0x04C true = .ok →
      let sum := v.toNat % 2 ^ 13 + v.toNat / 2 ^ 16 % 2 ^ 13 + s.fget F.CL_RES23_RES2 + s.fget F.CL_RES23_RES3
      (8190 < sum → Completes (.registerWrite via 0x130 0x04C (some v) 15) s fun u =>
        u.flag (PG_FAULT 0x130 0) = true ∧ OnlyRegs s u [0x130020]) ∧
      (sum ≤ 8190 → Completes (.registerWrite via 0x130 0x04C (some v) 15) s fun u =>
        u.fget F.CL_RES01_RES0 = v.toNat % 2 ^ 13 ∧ u.fget F.CL_RES01_RES1 = v.toNat / 2 ^ 16 % 2 ^ 13 ∧ OnlyRegs s u [0x13004C])) ∧
    (∀ via : Via, s.judge via 0x130 0x040 true = .ok → Completes (.clClr via) s fun u =>
      (∀ k < 4, u.fget (F.CL_DROP k) = 0) ∧ u.cic.loss = [0, 0, 0, 0] ∧ u.cic.lossTot = 0 ∧ u.fget F.CL_SEQ = s.fget F.CL_SEQ ∧
      u.cic.slots = s.cic.slots ∧ u.cic.wins = s.cic.wins)

/-- R41, R48, R409, R412, R413: VBAT_POWER_ON, POR, DEVRST, WARDEN_RESTART, WATCHDOG_EXPIRY, RST_WDKICK, SERVICE_PRESS, SERVICE_STUCK
and SERVICE_UNSTUCK complete. -/
def Obligations.ResetsClearAndKeepWhatTheyName : Prop :=
  ∀ (s : State) (via : Via) (cause : Byte) (key : Half),
    let own : List Nat := [F.RST_CAUSE_CAUSE.addr, F.RST_CNT_DEVRESET.addr, F.SKY_STATE_STATE.addr] ++ (List.range 8).map fun i => (F.CP_CHAL i).addr
    let device (u : State) (cause : Nat) : Prop :=
      u.fget F.RST_CAUSE_CAUSE = cause ∧ (∀ a, isAonReg a = true → a ≠ F.AON_GWLD_GO.addr → u.reg a = s.reg a) ∧
      (∀ a, isAonReg a = false → a ∉ own → u.reg a = regReset a) ∧
      u.comb = [] ∧ u.tn = {} ∧ u.cic = {} ∧ u.pwr = {} ∧ u.sched = [] ∧ u.hive = {} ∧ u.tio = {} ∧ u.mon = {} ∧ u.uarts = [] ∧
      u.boot = {} ∧ u.pcie = {} ∧ u.fuses = s.fuses ∧ u.xspi.flash = s.xspi.flash ∧ u.aon.ram = s.aon.ram ∧ u.aon.mnCyc = s.aon.mnCyc ∧
      u.sky.aon = s.sky.aon ∧ u.core 17 = s.core 17 ∧ (∀ i, i ≠ 17 → u.core i = coreReset i) ∧ u.pending = s.pending ∧
      (s.flag F.SKY_STATE_AONVALID = true → u.fget F.SKY_STATE_STATE = skHOLDOVER ∧ u.now = s.sky.aon % 2 ^ 96) ∧
      (s.flag F.SKY_STATE_AONVALID = false → u.fget F.SKY_STATE_STATE = skUNSTEERED ∧ u.now = 0)
    let warden (c : Instr) (code bit : Nat) : Prop :=
      let again := ∃ t, s.boot.restartT = some t ∧ s.now < t + 10 * sec
      (again → Completes c s fun u => device u 4 ∧ u.fget F.RST_CAUSE_WCAUSE = code ∧
        u.fget F.RST_CNT_DEVRESET = satInc 16 (s.fget F.RST_CNT_DEVRESET) ∧ u.fget F.RST_CNT_WRESTART = satInc 16 (s.fget F.RST_CNT_WRESTART)) ∧
      (¬ again → Completes c s fun u =>
        u.fget F.RST_CAUSE_WCAUSE = code ∧ u.fget F.RST_CNT_WRESTART = satInc 16 (s.fget F.RST_CNT_WRESTART) ∧ u.boot.restartT = some s.now ∧
        u.comb = s.comb ∧ u.sky = s.sky ∧ u.sched = s.sched ∧ u.hive = s.hive ∧ u.tn.queues = s.tn.queues ∧ u.pwr = s.pwr ∧ Rises s u 0x002 bit ∧
        (∀ i, i ≠ 16 → u.core i = s.core i) ∧ (u.core 16).stack = [] ∧ (u.core 16).f = 0 ∧ (u.core 16).data = (s.core 16).data ∧
        (s.upd.image = none → (u.core 16).k = 3 ∧ (u.core 16).p = 8) ∧
        (∀ i, s.upd.image = some i → (u.core 16).k = BitVec.ofNat 2 i.restart.1 ∧ (u.core 16).p = BitVec.ofNat 16 i.restart.2 ∧
          ∀ a < 3 * 65536, Tab.get (fun _ => 0) (u.core 16).code a = i.banks.getD a 0) ∧
        (∀ k, (u.tenant k).running = [] ∧ (u.tenant k).state = (s.tenant k).state ∧ (u.tenant k).lastSeq = (s.tenant k).lastSeq) ∧
        (∀ k op seq, (s.tenant k).running = [(op, seq)] → (u.tenant k).cache.head? = some ⟨seq, op, cREFUSED, [0xFF, 0xFF], false⟩))
    (Completes .vbatPowerOn s fun u =>
      (∀ a, isAonReg a = true → u.reg a = regReset a) ∧ (∀ a, isAonReg a = false → a ≠ F.SKY_STATE_STATE.addr → u.reg a = s.reg a) ∧
      u.flag F.SKY_STATE_AONVALID = false ∧ u.aon = {} ∧ u.core 17 = coreReset 17 ∧ u.sky.aon = 0 ∧ u.sky.time = s.sky.time ∧
      u.comb = s.comb ∧ u.tn = s.tn ∧ u.fuses = s.fuses ∧ u.xspi = s.xspi ∧ ∀ i, i ≠ 17 → u.core i = s.core i) ∧
    (Completes .por s fun u => device u 1 ∧ u.sky.smp = 0 ∧ u.fget F.RST_CNT_DEVRESET = 0 ∧ u.fget F.RST_CNT_WRESTART = 0) ∧
    (s.judge via 0x002 0x040 true = .ok → Completes (.devrst via) s fun u => device u 3 ∧ u.sky.smp = s.sky.smp ∧
      u.fget F.RST_CNT_DEVRESET = satInc 16 (s.fget F.RST_CNT_DEVRESET) ∧ u.fget F.RST_CAUSE_WCAUSE = s.fget F.RST_CAUSE_WCAUSE) ∧
    (s.domPowered 1 = true → s.boot.dead = false → warden (.wardenRestart cause) cause.toNat 2 ∧
      (s.fget F.RST_WDOG_PERIOD ≠ 0 → s.fget F.SYS_BOOT_STATE = 1 → s.boot.wdT + ms (s.fget F.RST_WDOG_PERIOD) ≤ s.now →
        warden .watchdogExpiry 0x40 3)) ∧
    (s.fget F.SYS_BOOT_STATE ≠ 1 ∨ s.now < s.boot.wdT + ms (s.fget F.RST_WDOG_PERIOD) → exec .watchdogExpiry s = .next s) ∧
    (s.domPowered 1 = false ∨ s.boot.dead = true → exec (.wardenRestart cause) s = .next s ∧ exec .watchdogExpiry s = .next s) ∧
    (s.fget F.RST_WDOG_PERIOD = 0 → exec .watchdogExpiry s = .next s) ∧
    (s.judge via 0x002 0x04C true = .ok →
      exec (.wdkick via key) s = .next (if key = 0x5AFE then { s with boot.wdT := s.now } else s)) ∧
    (s.svcOn = true → s.flag F.RST_SVC_STUCK = false → s.boot.svcPress = true → Completes .servicePress s fun u =>
      u.fget F.RST_SVC_PRESSES = satInc 16 (s.fget F.RST_SVC_PRESSES) ∧ u.boot.svcPress = false ∧
      Rises s u 0x002 0 ∧ (s.domPowered 2 = true → u.uMode 0 = umMONITOR ∧ u.flag (F.U_CTL_EN 0) = true ∧ u.fget (F.U_BAUD_RATE 0) = 115200 ∧
        u.fget (F.U_FMT_DBITS 0) = 8 ∧ u.flag (F.U_FLOW_XREC 0) = true)) ∧
    (let held := s.svcOn = true ∧ s.flag F.RST_SVC_STUCK = false ∧ s.flag F.RST_SVC_LEVEL = true ∧ s.boot.svcT + 60 * sec < s.now
     (held → Completes .serviceStuck s fun u => u.flag F.RST_SVC_STUCK = true ∧ u.fget F.RST_SVC_PRESSES = s.fget F.RST_SVC_PRESSES ∧
       Rises s u 0x002 1) ∧
     (¬ held → exec .serviceStuck s = .next s)) ∧
    (s.svcOn = false ∨ s.flag F.RST_SVC_STUCK = true ∨ s.boot.svcPress = false → exec .servicePress s = .next s) ∧
    (let loose := s.flag F.RST_SVC_STUCK = true ∧ s.flag F.RST_SVC_LEVEL = false ∧ s.boot.svcT + ms 100 ≤ s.now
     (loose → Completes .serviceUnstuck s fun u => u.flag F.RST_SVC_STUCK = false ∧ OnlyRegs s u [F.RST_SVC_STUCK.addr]) ∧
     (¬ loose → exec .serviceUnstuck s = .next s)) ∧
    (∀ b : Bool, s.svcOn = true →
      (s.svcSample b).boot.svcRun = (if b = s.flag F.RST_SVC_LEVEL ∨ 19 ≤ s.boot.svcRun then 0 else s.boot.svcRun + 1) ∧
      ((s.svcSample b).flag F.RST_SVC_LEVEL = if 19 ≤ s.boot.svcRun then b else s.flag F.RST_SVC_LEVEL) ∧
      ((s.svcSample b).boot.svcPress = true ↔ s.boot.svcPress = true ∨ (19 ≤ s.boot.svcRun ∧ b = false ∧ s.flag F.RST_SVC_LEVEL = true ∧
        s.flag F.RST_SVC_STUCK = false ∧ s.now ≤ s.boot.svcT + 60 * sec)))

/-- R39, R88, R411, R414, R424, R425, R473, R480: STRAP_SAMPLE, BOOT, BL_DATA, BL_GO and IMAGE_ENTRY complete. -/
def Obligations.StartUpTakesStrapsAndAnImage : Prop :=
  ∀ (s : State) (bs : BitVec 2) (da : BitVec 3) (rs : BitVec 2) (svc : Bool) (via : Via) (d : Word) (tms : Half),
    let strap := Instr.strapSample bs da rs svc
    (s.domPowered 1 = false ∨ s.boot.sampled = true → exec strap s = .next s) ∧
    (s.domPowered 1 = true → s.boot.sampled = false → Completes strap s fun u =>
      u.boot.sampled = true ∧ u.fget F.SYS_STRAP_BOOTSEL = bs.toNat ∧ u.fget F.SYS_STRAP_DEVADDR = da.toNat ∧
      u.fget F.SYS_STRAP_REFSEL = rs.toNat ∧ u.flag F.SYS_STRAP_SERVICE = svc ∧ u.fget F.CLK_CFG_REFSEL = rs.toNat ∧
      u.fget F.CLK_CFG_R = [25, 50, 65, 100].getD rs.toNat 0 ∧ u.fget F.AUX_STAT_R = [10, 20, 26, 40].getD rs.toNat 0 ∧
      u.fget F.SYS_BOOT_MODE = (if svc then 3 else [0, 1, 2, 0].getD bs.toNat 0) ∧
      u.fget F.SYS_BOOT_STATE = (if svc then 0 else [0, 2, 2, 0].getD bs.toNat 0) ∧ u.voted 2 WARDEN = true ∧ u.voted 34 WARDEN = true ∧
      u.comb = s.comb ∧ u.tn = s.tn) ∧
    (let b := s.flashBytes 0 (min 0x100000 (imgField (s.flashBytes 0 0x200) 0x18 4))
     let ready := s.boot.sampled = true ∧ s.boot.checked = false ∧ s.boot.dead = false ∧ s.fget F.SYS_BOOT_MODE = 0 ∧
       s.fget F.SYS_BOOT_STATE = 0 ∧ s.domPowered 2 = true
     (¬ ready → exec .boot s = .next s) ∧
     (ready → Completes .boot s fun u =>
       if imageOk s.fuses b then s.combOn 0 = true → u.boot.checked = true ∧ u.boot.dead = false ∧ u.combBytes 0 b.length = b ∧
         ∀ a, b.length ≤ a → a < 2 ^ 24 → u.combByte a = s.combByte a
       else u = { s with boot.dead := true })) ∧
    (s.judge via 0x002 0x05C true = .ok → s.combOn (combQuarter (4 * s.fget F.BL_ADDR_A)) = true → Completes (.blData via d) s fun u =>
      u.combBytes (4 * s.fget F.BL_ADDR_A) 4 = leBytes 4 d.toNat ∧ u.fget F.BL_ADDR_A = (s.fget F.BL_ADDR_A + 1) % 2 ^ 22 ∧
      ∀ a < 2 ^ 24, a / 4 ≠ s.fget F.BL_ADDR_A → u.combByte a = s.combByte a) ∧
    (s.judge via 0x002 0x068 true = .ok →
      let n := s.fget F.BL_LEN_N
      let b := s.combBytes 0 n
      let refused (res : Nat) (u : State) : Prop := u.fget F.BL_STAT_RESULT = res ∧ u.boot.checked = s.boot.checked ∧
        u.boot.dead = s.boot.dead ∧ u.fget F.SYS_BOOT_STATE = bsHOSTWAIT ∧ OnlyRegs s u [F.BL_STAT_RESULT.addr]
      (s.fget F.SYS_BOOT_STATE ≠ bsHOSTWAIT → exec (.blGo via) s = .next s) ∧
      (s.fget F.SYS_BOOT_STATE = bsHOSTWAIT →
        (0x100000 < n → Completes (.blGo via) s (refused 3)) ∧
        (n ≤ 0x100000 → crc32c b ≠ s.fget F.BL_CRC → Completes (.blGo via) s (refused 1)) ∧
        (n ≤ 0x100000 → crc32c b = s.fget F.BL_CRC → Completes (.blGo via) s fun u =>
          if imageOk s.fuses b then u.fget F.BL_STAT_RESULT = 0 ∧ u.boot.checked = true ∧ u.comb = s.comb else refused 2 u))) ∧
    (s.boot.checked = false ∨ s.boot.dead = true ∨ s.fget F.SYS_BOOT_STATE = bsIMAGE → exec (.imageEntry tms) s = .next s) ∧
    (s.boot.checked = true → s.boot.dead = false → s.fget F.SYS_BOOT_STATE ≠ bsIMAGE →
      let i := parseImage (s.combBytes 0 (min 0x100000 (imgField (s.combBytes 0 0x200) 0x18 4)))
      Completes (.imageEntry tms) s fun u =>
        u.fget F.SYS_BOOT_STATE = bsIMAGE ∧ u.fget F.SYS_BOOT_TMS = tms.toNat ∧ u.fget F.WEEKFLOOR_WEEK = i.week % 2 ^ 16 ∧
        u.upd.image = some i ∧ (u.core 16).k = BitVec.ofNat 2 i.boot.1 ∧ (u.core 16).p = BitVec.ofNat 16 i.boot.2 ∧
        u.fget F.UP_VER = i.version % 2 ^ 32 ∧ u.flag F.UP_CONF_CONFIRMED = false ∧ u.boot.checked = false ∧ u.boot.wdT = s.now ∧
        (∀ p < 8, Config.rfConfigured p = true → u.voted (3 + p) WARDEN = true) ∧
        (let codes := (Config.imageCodes (s.combBytes 0 (min 0x100000 (ofLe (s.combBytes 0x18 4))))).take (256 * tableUnits)
         (s.domPowered 32 = false → u.comb = s.comb) ∧
         (s.domPowered 32 = true → u.combBytes codeTable codes.length = codes ∧
           ∀ a < 2 ^ 24, (a < codeTable ∨ codeTable + codes.length ≤ a) → u.combByte a = s.combByte a)) ∧
        (∀ p < 1024, implemented p = true → u.flag (PG_LOCK p) = true ∨ p ∈ [0x012, 0x120, 0x130, 0x152]) ∧
        (∀ p ∈ [0x012, 0x120, 0x130, 0x152], u.flag (PG_LOCK p) = s.flag (PG_LOCK p)) ∧
        (∀ p < 1024, implemented p = true → ∀ b < 32, u.flag (PG_EVEN p b) = (evBits p).testBit b))

/-- R48, R254, R369, R377, R383, R409, R412, R473, R480: values the spec gives for reset; and the forms that the invariant names. -/
def Obligations.ResetLeavesTheStatedValues : Prop :=
  let s := State.reset
  s.pending = [] ∧ s.fget F.RST_CAUSE_CAUSE = 1 ∧ s.fget F.RST_WDOG_PERIOD = 1000 ∧
  (∀ p < 1024, implemented p = true → s.reg (p * 4096 + 0x018) = 0 ∧ s.reg (p * 4096 + 0x024) = 0) ∧
  (∀ p ∈ [0x000, 0x001, 0x002, 0x004, 0x010], s.flag (PG_EN p) = true) ∧
  s.domState 1 = dON ∧ s.holders 1 = 1 ∧ (∀ d c, s.voted d c = true ↔ 8192 * d + c = 8192 + WARDEN) ∧
  (s.core 16).k = 3 ∧ (∀ i, (s.core i).p = 8) ∧
  s.uMode 0 = umMONITOR ∧ s.flag (F.U_CTL_EN 0) = true ∧ s.fget (F.U_BAUD_RATE 0) = 115200 ∧
  s.reg 0x130048 = 0x000F ∧ (∀ c < 4, s.fget (resFld c) = 1024) ∧
  s.reg (F.SRC_CFG_CW 0).addr = 0x7103 ∧ s.reg (F.SRC_CFG_CW 1024).addr = 0x5203 ∧ s.reg (F.SRC_CFG_CW 1117).addr = 0x4323 ∧
  (∀ t, (s.tenant t).state = .free) ∧ s.skyState = skUNSTEERED ∧ s.now = 0 ∧
  s.regsWf = true ∧ s.combWf = true ∧ s.flashWf = true ∧ s.queueWf = true

/-- R416, R426, R430: fuses are programmed at the factory, except the anti-rollback counter, which only CONFIRM advances. -/
def Obligations.OnlyConfirmChangesAFuse : Prop :=
  ∀ s t : State, step s = .next t →
    t.fuses.uid = s.fuses.uid ∧ t.fuses.grade = s.fuses.grade ∧ t.fuses.keyHash = s.fuses.keyHash ∧ s.fuses.arb ≤ t.fuses.arb ∧
    (t.fuses.arb ≠ s.fuses.arb → ∃ c, s.pending.head? = some c ∧ ((∃ n seq arg0, c = .confirm n seq arg0) ∨ c = .lenlisConfirm))

/-- R289, R347: registers, Comb and flash keep the one form in which equal contents are equal data. -/
def Obligations.EveryStepKeepsTheCanonicalForms : Prop :=
  ∀ s t : State, s.regsWf = true → s.combWf = true → s.flashWf = true → step s = .next t →
    t.regsWf = true ∧ t.combWf = true ∧ t.flashWf = true
end

