-- ==== Sys2Proof/Laws/Tab.lean ====
section
/-! SUPPORT. Sparse tables: a read after a write, and the canonical form kept by every operation. -/

namespace Sys2Proof.Machine

variable {α : Type}

theorem Tab.get_insert_same (d : Nat → α) (k : Nat) (v : α) (t : Tab α) : Tab.get d (Tab.insert k v t) k = v := by
  induction t with
  | nil => simp [Tab.insert, Tab.get]
  | cons e r ih =>
    obtain ⟨j, w⟩ := e
    simp only [Tab.insert]
    split
    · simp [Tab.get]
    · split
      · simp [Tab.get]
      · next h => simp [Tab.get, h, ih]

theorem Tab.get_insert_other (d : Nat → α) {k j : Nat} (h : j ≠ k) (v : α) (t : Tab α) :
    Tab.get d (Tab.insert k v t) j = Tab.get d t j := by
  induction t with
  | nil => simp [Tab.insert, Tab.get, Ne.symm h]
  | cons e r ih =>
    obtain ⟨i, w⟩ := e
    simp only [Tab.insert]
    split
    · simp [Tab.get, Ne.symm h]
    · split
      · next hi => subst hi; simp [Tab.get, Ne.symm h]
      · simp [Tab.get, ih]

theorem Tab.get_filter (d : Nat → α) (p : Nat → Bool) (t : Tab α) (k : Nat) :
    Tab.get d (t.filter fun e => p e.1) k = if p k then Tab.get d t k else d k := by
  induction t with
  | nil => simp [Tab.get]
  | cons e r ih =>
    obtain ⟨j, w⟩ := e
    simp only [List.filter_cons]
    by_cases hk : j = k
    · subst hk
      cases hp : p j <;> simp [Tab.get, ih, hp]
    · cases hp : p j <;> simp [Tab.get, ih, hk]

theorem Tab.get_erase_same (d : Nat → α) (k : Nat) (t : Tab α) : Tab.get d (Tab.erase k t) k = d k := by
  simpa [Tab.erase] using Tab.get_filter d (fun i => decide (i ≠ k)) t k

theorem Tab.get_erase_other (d : Nat → α) {k j : Nat} (h : j ≠ k) (t : Tab α) :
    Tab.get d (Tab.erase k t) j = Tab.get d t j := by
  simpa [Tab.erase, h] using Tab.get_filter d (fun i => decide (i ≠ k)) t j

/-- A read after a write to the same key gives the value written. -/
@[simp] theorem Tab.get_set_same [DecidableEq α] (d : Nat → α) (t : Tab α) (k : Nat) (v : α) :
    Tab.get d (Tab.set d t k v) k = v := by
  unfold Tab.set
  split
  · next h => rw [Tab.get_erase_same, h]
  · exact Tab.get_insert_same d k v t

/-- A write leaves every other key alone. -/
theorem Tab.get_set_other [DecidableEq α] (d : Nat → α) (t : Tab α) {k j : Nat} (h : j ≠ k) (v : α) :
    Tab.get d (Tab.set d t k v) j = Tab.get d t j := by
  unfold Tab.set
  split
  · exact Tab.get_erase_other d h t
  · exact Tab.get_insert_other d h v t

/-- A read after a write, in one equation. -/
theorem Tab.get_set [DecidableEq α] (d : Nat → α) (t : Tab α) (k j : Nat) (v : α) :
    Tab.get d (Tab.set d t k v) j = if j = k then v else Tab.get d t j := by
  split
  · next h => subst h; simp
  · next h => exact Tab.get_set_other d t h v

/-- Cleared keys read as unlisted; the others stand. -/
theorem Tab.get_clear (d : Nat → α) (p : Nat → Bool) (t : Tab α) (k : Nat) :
    Tab.get d (Tab.clear p t) k = if p k then d k else Tab.get d t k := by
  have h := Tab.get_filter d (fun i => !p i) t k
  simp only [Tab.clear]
  rw [h]
  cases p k <;> simp

-- the canonical form

theorem Tab.rising_weaken {lo : Option Nat} {j : Nat} {t : Tab α} (h : Tab.rising (some j) t = true)
    (hl : ∀ l, lo = some l → l ≤ j) : Tab.rising lo t = true := by
  cases t with
  | nil => rfl
  | cons e r =>
    obtain ⟨i, v⟩ := e
    simp only [Tab.rising, Bool.and_eq_true, decide_eq_true_eq] at h ⊢
    refine ⟨?_, h.2⟩
    cases lo with
    | none => rfl
    | some l => have := hl l rfl; simp; omega

theorem Tab.rising_tail {lo : Option Nat} {e : Nat × α} {r : Tab α} (h : Tab.rising lo (e :: r) = true) :
    Tab.rising lo r = true := by
  obtain ⟨j, v⟩ := e
  simp only [Tab.rising, Bool.and_eq_true] at h
  refine Tab.rising_weaken h.2 fun l hl => ?_
  subst hl
  have := h.1
  simp at this
  omega

theorem Tab.rising_filter (p : Nat × α → Bool) {lo : Option Nat} {t : Tab α} (h : Tab.rising lo t = true) :
    Tab.rising lo (t.filter p) = true := by
  induction t generalizing lo with
  | nil => rfl
  | cons e r ih =>
    rw [List.filter_cons]
    split
    · obtain ⟨j, v⟩ := e
      simp only [Tab.rising, Bool.and_eq_true] at h ⊢
      exact ⟨h.1, ih h.2⟩
    · exact ih (Tab.rising_tail h)

theorem Tab.rising_insert {lo : Option Nat} {k : Nat} (v : α) {t : Tab α} (h : Tab.rising lo t = true)
    (hk : ∀ l, lo = some l → l < k) : Tab.rising lo (Tab.insert k v t) = true := by
  induction t generalizing lo with
  | nil =>
    cases lo with
    | none => rfl
    | some l => simpa [Tab.insert, Tab.rising] using hk l rfl
  | cons e r ih =>
    obtain ⟨j, w⟩ := e
    simp only [Tab.rising, Bool.and_eq_true] at h
    simp only [Tab.insert]
    split
    · next hkj =>
      simp only [Tab.rising, Bool.and_eq_true, decide_eq_true_eq]
      refine ⟨?_, hkj, h.2⟩
      cases lo with
      | none => rfl
      | some l => simpa using hk l rfl
    · split
      · next he =>
        subst he
        simp only [Tab.rising, Bool.and_eq_true]
        exact ⟨h.1, h.2⟩
      · next hn he =>
        simp only [Tab.rising, Bool.and_eq_true]
        refine ⟨h.1, ih h.2 fun l hl => ?_⟩
        cases hl
        omega

theorem Tab.all_filter [DecidableEq α] (d : Nat → α) (p : Nat × α → Bool) {t : Tab α}
    (h : t.all (fun e => decide (e.2 ≠ d e.1)) = true) : (t.filter p).all (fun e => decide (e.2 ≠ d e.1)) = true := by
  simp only [List.all_eq_true, List.mem_filter] at h ⊢
  exact fun e he => h e he.1

theorem Tab.mem_insert {k : Nat} {v : α} {t : Tab α} {e : Nat × α} (h : e ∈ Tab.insert k v t) : e = (k, v) ∨ e ∈ t := by
  induction t with
  | nil => simpa [Tab.insert] using h
  | cons x r ih =>
    obtain ⟨j, w⟩ := x
    simp only [Tab.insert] at h
    split at h
    · simpa using h
    · split at h
      · rcases List.mem_cons.mp h with h | h
        · exact .inl h
        · exact .inr (List.mem_cons_of_mem _ h)
      · rcases List.mem_cons.mp h with h | h
        · exact .inr (h ▸ List.mem_cons_self ..)
        · rcases ih h with h | h
          · exact .inl h
          · exact .inr (List.mem_cons_of_mem _ h)

/-- A write keeps the canonical form. -/
theorem Tab.wf_set [DecidableEq α] {d : Nat → α} {t : Tab α} (h : Tab.wf d t = true) (k : Nat) (v : α) :
    Tab.wf d (Tab.set d t k v) = true := by
  simp only [Tab.wf, Bool.and_eq_true] at h ⊢
  unfold Tab.set
  split
  · exact ⟨Tab.rising_filter _ h.1, Tab.all_filter d _ h.2⟩
  · next hv =>
    refine ⟨Tab.rising_insert v h.1 (by simp), ?_⟩
    rw [List.all_eq_true] at *
    intro e he
    rcases Tab.mem_insert he with he | he
    · subst he; simpa using hv
    · exact h.2 e he

/-- Clearing keeps the canonical form. -/
theorem Tab.wf_clear [DecidableEq α] {d : Nat → α} {t : Tab α} (h : Tab.wf d t = true) (p : Nat → Bool) :
    Tab.wf d (Tab.clear p t) = true := by
  simp only [Tab.wf, Bool.and_eq_true] at h ⊢
  exact ⟨Tab.rising_filter _ h.1, Tab.all_filter d _ h.2⟩

theorem Tab.wf_nil [DecidableEq α] (d : Nat → α) : Tab.wf d ([] : Tab α) = true := rfl

end Sys2Proof.Machine
end

