-- ==== Sys2Proof/Laws/Regs.lean ====
section
/-! SUPPORT. Registers and fields: a read after a write. -/

namespace Sys2Proof.Machine

@[simp] theorem State.reg_setReg_same (s : State) (a : Nat) (w : Word) : (s.setReg a w).reg a = w := by
  simp [State.reg, State.setReg]

theorem State.reg_setReg_other (s : State) {a b : Nat} (h : b ≠ a) (w : Word) : (s.setReg a w).reg b = s.reg b :=
  Tab.get_set_other _ _ h _

theorem State.reg_setReg (s : State) (a b : Nat) (w : Word) : (s.setReg a w).reg b = if b = a then w else s.reg b :=
  Tab.get_set _ _ _ _ _

theorem Fld.mask_bit (f : Fld) (i : Nat) (hw : f.w ≤ 32) :
    f.mask.getLsbD i = (decide (i < 32) && decide (f.lo ≤ i) && decide (i - f.lo < f.w)) := by
  simp only [Fld.mask, BitVec.getLsbD_shiftLeft, BitVec.getLsbD_ushiftRight, BitVec.getLsbD_allOnes]
  by_cases h1 : i < 32 <;> by_cases h2 : f.lo ≤ i
  · have h3 : ¬ i < f.lo := by omega
    simp only [h1, h2, h3, decide_true, decide_false, Bool.true_and, Bool.not_false]
    by_cases h4 : i - f.lo < f.w
    · simp [h4]; omega
    · simp [h4]; omega
  · have h3 : i < f.lo := by omega
    simp [h2, h3]
  · simp [h1]
  · simp [h1]

/-- The bits of a field. -/
theorem Fld.get_bit (lo w : Nat) (x : Word) (i : Nat) :
    (x.toNat / 2 ^ lo % 2 ^ w).testBit i = (decide (i < w) && x.getLsbD (i + lo)) := by
  rw [Nat.testBit_mod_two_pow, ← Nat.shiftRight_eq_div_pow, Nat.testBit_shiftRight, BitVec.testBit_toNat, Nat.add_comm]

theorem Fld.put_bit (f : Fld) (x : Word) (v i : Nat) (hw : f.w ≤ 32) :
    (f.put x v).getLsbD i = if i < 32 ∧ f.lo ≤ i ∧ i - f.lo < f.w then v.testBit (i - f.lo) else x.getLsbD i := by
  unfold Fld.put
  simp only [BitVec.getLsbD_or, BitVec.getLsbD_and, BitVec.getLsbD_not, Fld.mask_bit f i hw, BitVec.getLsbD_shiftLeft,
    BitVec.getLsbD_ofNat]
  by_cases h1 : i < 32
  · by_cases h2 : f.lo ≤ i
    · by_cases h3 : i - f.lo < f.w
      · have : i - f.lo < 32 := by omega
        simp [h1, h2, h3, this]
      · simp [h1, h2, h3]
    · simp [h1, h2]
  · have : x.getLsbD i = false := BitVec.getLsbD_of_ge x i (by omega)
    simp [h1, this]

/-- A field reads as what was written to it. -/
theorem State.fget_fput_same (s : State) (f : Fld) (v : Nat) (h : f.lo + f.w ≤ 32) :
    (s.fput f v).fget f = v % 2 ^ f.w := by
  unfold State.fput State.fget
  rw [State.reg_setReg_same]
  apply Nat.eq_of_testBit_eq
  intro i
  rw [Fld.get_bit, Nat.testBit_mod_two_pow]
  by_cases hi : i < f.w
  · have : i + f.lo < 32 ∧ f.lo ≤ i + f.lo ∧ i + f.lo - f.lo < f.w := by omega
    rw [Fld.put_bit f _ _ _ (by omega : f.w ≤ 32), if_pos this]
    simp
  · simp [hi]

/-- A write of one field leaves a field that shares no bit with it. -/
theorem State.fget_fput_other (s : State) (f g : Fld) (v : Nat) (hw : f.w ≤ 32)
    (h : g.addr ≠ f.addr ∨ g.lo + g.w ≤ f.lo ∨ f.lo + f.w ≤ g.lo) : (s.fput f v).fget g = s.fget g := by
  unfold State.fput State.fget
  by_cases ha : g.addr = f.addr
  · rw [ha, State.reg_setReg_same]
    apply Nat.eq_of_testBit_eq
    intro i
    rw [Fld.get_bit, Fld.get_bit]
    by_cases hi : i < g.w
    · have hn : ¬ (i + g.lo < 32 ∧ f.lo ≤ i + g.lo ∧ i + g.lo - f.lo < f.w) := by
        rcases h with h | h | h
        · exact absurd ha h
        · omega
        · omega
      rw [Fld.put_bit f _ _ _ hw, if_neg hn]
    · simp [hi]
  · rw [State.reg_setReg_other _ ha]

theorem State.reg_fput_other (s : State) (f : Fld) (v : Nat) {b : Nat} (h : b ≠ f.addr) : (s.fput f v).reg b = s.reg b :=
  State.reg_setReg_other _ h _

theorem State.flag_fputB_same (s : State) (f : Fld) (b : Bool) (h : f.lo + f.w ≤ 32) (hw : 0 < f.w) :
    (s.fputB f b).flag f = b := by
  unfold State.fputB State.flag
  rw [State.fget_fput_same _ _ _ h]
  have : 1 < 2 ^ f.w := Nat.one_lt_two_pow (by omega)
  cases b <;> simp [Nat.mod_eq_of_lt this]

theorem State.flag_fputB_other (s : State) (f g : Fld) (b : Bool) (hw : f.w ≤ 32)
    (h : g.addr ≠ f.addr ∨ g.lo + g.w ≤ f.lo ∨ f.lo + f.w ≤ g.lo) : (s.fputB f b).flag g = s.flag g := by
  unfold State.fputB State.flag
  rw [State.fget_fput_other _ _ _ _ hw h]

/-- The register table stays in canonical form. -/
theorem State.regs_wf_setReg {s : State} (h : Tab.wf regReset s.regs = true) (a : Nat) (w : Word) :
    Tab.wf regReset (s.setReg a w).regs = true := Tab.wf_set h a w

end Sys2Proof.Machine
end

