-- ==== Sys2Proof/Laws/State.lean ====
section
/-! SUPPORT. What each update of the state leaves alone, field by field. -/

namespace Sys2Proof.Machine

variable (s : State)

-- setReg
@[simp] theorem State.setReg_pending (a : Nat) (w : Word) : (s.setReg a w).pending = s.pending := rfl
@[simp] theorem State.setReg_cycle (a : Nat) (w : Word) : (s.setReg a w).cycle = s.cycle := rfl
@[simp] theorem State.setReg_adcN (a : Nat) (w : Word) : (s.setReg a w).adcN = s.adcN := rfl
@[simp] theorem State.setReg_fresh (a : Nat) (w : Word) : (s.setReg a w).fresh = s.fresh := rfl
@[simp] theorem State.setReg_out (a : Nat) (w : Word) : (s.setReg a w).out = s.out := rfl
@[simp] theorem State.setReg_snap (a : Nat) (w : Word) : (s.setReg a w).snap = s.snap := rfl
@[simp] theorem State.setReg_latch (a : Nat) (w : Word) : (s.setReg a w).latch = s.latch := rfl
@[simp] theorem State.setReg_comb (a : Nat) (w : Word) : (s.setReg a w).comb = s.comb := rfl
@[simp] theorem State.setReg_ecc (a : Nat) (w : Word) : (s.setReg a w).ecc = s.ecc := rfl
@[simp] theorem State.setReg_sky (a : Nat) (w : Word) : (s.setReg a w).sky = s.sky := rfl
@[simp] theorem State.setReg_sched (a : Nat) (w : Word) : (s.setReg a w).sched = s.sched := rfl
@[simp] theorem State.setReg_schedBusy (a : Nat) (w : Word) : (s.setReg a w).schedBusy = s.schedBusy := rfl
@[simp] theorem State.setReg_cic (a : Nat) (w : Word) : (s.setReg a w).cic = s.cic := rfl
@[simp] theorem State.setReg_tio (a : Nat) (w : Word) : (s.setReg a w).tio = s.tio := rfl
@[simp] theorem State.setReg_tn (a : Nat) (w : Word) : (s.setReg a w).tn = s.tn := rfl
@[simp] theorem State.setReg_rf (a : Nat) (w : Word) : (s.setReg a w).rf = s.rf := rfl
@[simp] theorem State.setReg_sieve (a : Nat) (w : Word) : (s.setReg a w).sieve = s.sieve := rfl
@[simp] theorem State.setReg_hive (a : Nat) (w : Word) : (s.setReg a w).hive = s.hive := rfl
@[simp] theorem State.setReg_dfly (a : Nat) (w : Word) : (s.setReg a w).dfly = s.dfly := rfl
@[simp] theorem State.setReg_scarab (a : Nat) (w : Word) : (s.setReg a w).scarab = s.scarab := rfl
@[simp] theorem State.setReg_meas (a : Nat) (w : Word) : (s.setReg a w).meas = s.meas := rfl
@[simp] theorem State.setReg_wv (a : Nat) (w : Word) : (s.setReg a w).wv = s.wv := rfl
@[simp] theorem State.setReg_pwr (a : Nat) (w : Word) : (s.setReg a w).pwr = s.pwr := rfl
@[simp] theorem State.setReg_aon (a : Nat) (w : Word) : (s.setReg a w).aon = s.aon := rfl
@[simp] theorem State.setReg_fuses (a : Nat) (w : Word) : (s.setReg a w).fuses = s.fuses := rfl
@[simp] theorem State.setReg_boot (a : Nat) (w : Word) : (s.setReg a w).boot = s.boot := rfl
@[simp] theorem State.setReg_pcie (a : Nat) (w : Word) : (s.setReg a w).pcie = s.pcie := rfl
@[simp] theorem State.setReg_usb (a : Nat) (w : Word) : (s.setReg a w).usb = s.usb := rfl
@[simp] theorem State.setReg_spi (a : Nat) (w : Word) : (s.setReg a w).spi = s.spi := rfl
@[simp] theorem State.setReg_xspi (a : Nat) (w : Word) : (s.setReg a w).xspi = s.xspi := rfl
@[simp] theorem State.setReg_ar (a : Nat) (w : Word) : (s.setReg a w).ar = s.ar := rfl
@[simp] theorem State.setReg_pen (a : Nat) (w : Word) : (s.setReg a w).pen = s.pen := rfl
@[simp] theorem State.setReg_uarts (a : Nat) (w : Word) : (s.setReg a w).uarts = s.uarts := rfl
@[simp] theorem State.setReg_mon (a : Nat) (w : Word) : (s.setReg a w).mon = s.mon := rfl
@[simp] theorem State.setReg_cp (a : Nat) (w : Word) : (s.setReg a w).cp = s.cp := rfl
@[simp] theorem State.setReg_upd (a : Nat) (w : Word) : (s.setReg a w).upd = s.upd := rfl

-- fput
@[simp] theorem State.fput_pending (f : Fld) (v : Nat) : (s.fput f v).pending = s.pending := rfl
@[simp] theorem State.fput_cycle (f : Fld) (v : Nat) : (s.fput f v).cycle = s.cycle := rfl
@[simp] theorem State.fput_adcN (f : Fld) (v : Nat) : (s.fput f v).adcN = s.adcN := rfl
@[simp] theorem State.fput_fresh (f : Fld) (v : Nat) : (s.fput f v).fresh = s.fresh := rfl
@[simp] theorem State.fput_out (f : Fld) (v : Nat) : (s.fput f v).out = s.out := rfl
@[simp] theorem State.fput_snap (f : Fld) (v : Nat) : (s.fput f v).snap = s.snap := rfl
@[simp] theorem State.fput_latch (f : Fld) (v : Nat) : (s.fput f v).latch = s.latch := rfl
@[simp] theorem State.fput_comb (f : Fld) (v : Nat) : (s.fput f v).comb = s.comb := rfl
@[simp] theorem State.fput_ecc (f : Fld) (v : Nat) : (s.fput f v).ecc = s.ecc := rfl
@[simp] theorem State.fput_sky (f : Fld) (v : Nat) : (s.fput f v).sky = s.sky := rfl
@[simp] theorem State.fput_sched (f : Fld) (v : Nat) : (s.fput f v).sched = s.sched := rfl
@[simp] theorem State.fput_schedBusy (f : Fld) (v : Nat) : (s.fput f v).schedBusy = s.schedBusy := rfl
@[simp] theorem State.fput_cic (f : Fld) (v : Nat) : (s.fput f v).cic = s.cic := rfl
@[simp] theorem State.fput_tio (f : Fld) (v : Nat) : (s.fput f v).tio = s.tio := rfl
@[simp] theorem State.fput_tn (f : Fld) (v : Nat) : (s.fput f v).tn = s.tn := rfl
@[simp] theorem State.fput_rf (f : Fld) (v : Nat) : (s.fput f v).rf = s.rf := rfl
@[simp] theorem State.fput_sieve (f : Fld) (v : Nat) : (s.fput f v).sieve = s.sieve := rfl
@[simp] theorem State.fput_hive (f : Fld) (v : Nat) : (s.fput f v).hive = s.hive := rfl
@[simp] theorem State.fput_dfly (f : Fld) (v : Nat) : (s.fput f v).dfly = s.dfly := rfl
@[simp] theorem State.fput_scarab (f : Fld) (v : Nat) : (s.fput f v).scarab = s.scarab := rfl
@[simp] theorem State.fput_meas (f : Fld) (v : Nat) : (s.fput f v).meas = s.meas := rfl
@[simp] theorem State.fput_wv (f : Fld) (v : Nat) : (s.fput f v).wv = s.wv := rfl
@[simp] theorem State.fput_pwr (f : Fld) (v : Nat) : (s.fput f v).pwr = s.pwr := rfl
@[simp] theorem State.fput_aon (f : Fld) (v : Nat) : (s.fput f v).aon = s.aon := rfl
@[simp] theorem State.fput_fuses (f : Fld) (v : Nat) : (s.fput f v).fuses = s.fuses := rfl
@[simp] theorem State.fput_boot (f : Fld) (v : Nat) : (s.fput f v).boot = s.boot := rfl
@[simp] theorem State.fput_pcie (f : Fld) (v : Nat) : (s.fput f v).pcie = s.pcie := rfl
@[simp] theorem State.fput_usb (f : Fld) (v : Nat) : (s.fput f v).usb = s.usb := rfl
@[simp] theorem State.fput_spi (f : Fld) (v : Nat) : (s.fput f v).spi = s.spi := rfl
@[simp] theorem State.fput_xspi (f : Fld) (v : Nat) : (s.fput f v).xspi = s.xspi := rfl
@[simp] theorem State.fput_ar (f : Fld) (v : Nat) : (s.fput f v).ar = s.ar := rfl
@[simp] theorem State.fput_pen (f : Fld) (v : Nat) : (s.fput f v).pen = s.pen := rfl
@[simp] theorem State.fput_uarts (f : Fld) (v : Nat) : (s.fput f v).uarts = s.uarts := rfl
@[simp] theorem State.fput_mon (f : Fld) (v : Nat) : (s.fput f v).mon = s.mon := rfl
@[simp] theorem State.fput_cp (f : Fld) (v : Nat) : (s.fput f v).cp = s.cp := rfl
@[simp] theorem State.fput_upd (f : Fld) (v : Nat) : (s.fput f v).upd = s.upd := rfl

-- fputB
@[simp] theorem State.fputB_pending (f : Fld) (b : Bool) : (s.fputB f b).pending = s.pending := rfl
@[simp] theorem State.fputB_cycle (f : Fld) (b : Bool) : (s.fputB f b).cycle = s.cycle := rfl
@[simp] theorem State.fputB_adcN (f : Fld) (b : Bool) : (s.fputB f b).adcN = s.adcN := rfl
@[simp] theorem State.fputB_fresh (f : Fld) (b : Bool) : (s.fputB f b).fresh = s.fresh := rfl
@[simp] theorem State.fputB_out (f : Fld) (b : Bool) : (s.fputB f b).out = s.out := rfl
@[simp] theorem State.fputB_snap (f : Fld) (b : Bool) : (s.fputB f b).snap = s.snap := rfl
@[simp] theorem State.fputB_latch (f : Fld) (b : Bool) : (s.fputB f b).latch = s.latch := rfl
@[simp] theorem State.fputB_comb (f : Fld) (b : Bool) : (s.fputB f b).comb = s.comb := rfl
@[simp] theorem State.fputB_ecc (f : Fld) (b : Bool) : (s.fputB f b).ecc = s.ecc := rfl
@[simp] theorem State.fputB_sky (f : Fld) (b : Bool) : (s.fputB f b).sky = s.sky := rfl
@[simp] theorem State.fputB_sched (f : Fld) (b : Bool) : (s.fputB f b).sched = s.sched := rfl
@[simp] theorem State.fputB_schedBusy (f : Fld) (b : Bool) : (s.fputB f b).schedBusy = s.schedBusy := rfl
@[simp] theorem State.fputB_cic (f : Fld) (b : Bool) : (s.fputB f b).cic = s.cic := rfl
@[simp] theorem State.fputB_tio (f : Fld) (b : Bool) : (s.fputB f b).tio = s.tio := rfl
@[simp] theorem State.fputB_tn (f : Fld) (b : Bool) : (s.fputB f b).tn = s.tn := rfl
@[simp] theorem State.fputB_rf (f : Fld) (b : Bool) : (s.fputB f b).rf = s.rf := rfl
@[simp] theorem State.fputB_sieve (f : Fld) (b : Bool) : (s.fputB f b).sieve = s.sieve := rfl
@[simp] theorem State.fputB_hive (f : Fld) (b : Bool) : (s.fputB f b).hive = s.hive := rfl
@[simp] theorem State.fputB_dfly (f : Fld) (b : Bool) : (s.fputB f b).dfly = s.dfly := rfl
@[simp] theorem State.fputB_scarab (f : Fld) (b : Bool) : (s.fputB f b).scarab = s.scarab := rfl
@[simp] theorem State.fputB_meas (f : Fld) (b : Bool) : (s.fputB f b).meas = s.meas := rfl
@[simp] theorem State.fputB_wv (f : Fld) (b : Bool) : (s.fputB f b).wv = s.wv := rfl
@[simp] theorem State.fputB_pwr (f : Fld) (b : Bool) : (s.fputB f b).pwr = s.pwr := rfl
@[simp] theorem State.fputB_aon (f : Fld) (b : Bool) : (s.fputB f b).aon = s.aon := rfl
@[simp] theorem State.fputB_fuses (f : Fld) (b : Bool) : (s.fputB f b).fuses = s.fuses := rfl
@[simp] theorem State.fputB_boot (f : Fld) (b : Bool) : (s.fputB f b).boot = s.boot := rfl
@[simp] theorem State.fputB_pcie (f : Fld) (b : Bool) : (s.fputB f b).pcie = s.pcie := rfl
@[simp] theorem State.fputB_usb (f : Fld) (b : Bool) : (s.fputB f b).usb = s.usb := rfl
@[simp] theorem State.fputB_spi (f : Fld) (b : Bool) : (s.fputB f b).spi = s.spi := rfl
@[simp] theorem State.fputB_xspi (f : Fld) (b : Bool) : (s.fputB f b).xspi = s.xspi := rfl
@[simp] theorem State.fputB_ar (f : Fld) (b : Bool) : (s.fputB f b).ar = s.ar := rfl
@[simp] theorem State.fputB_pen (f : Fld) (b : Bool) : (s.fputB f b).pen = s.pen := rfl
@[simp] theorem State.fputB_uarts (f : Fld) (b : Bool) : (s.fputB f b).uarts = s.uarts := rfl
@[simp] theorem State.fputB_mon (f : Fld) (b : Bool) : (s.fputB f b).mon = s.mon := rfl
@[simp] theorem State.fputB_cp (f : Fld) (b : Bool) : (s.fputB f b).cp = s.cp := rfl
@[simp] theorem State.fputB_upd (f : Fld) (b : Bool) : (s.fputB f b).upd = s.upd := rfl

-- finc
@[simp] theorem State.finc_pending (f : Fld) : (s.finc f).pending = s.pending := rfl
@[simp] theorem State.finc_cycle (f : Fld) : (s.finc f).cycle = s.cycle := rfl
@[simp] theorem State.finc_adcN (f : Fld) : (s.finc f).adcN = s.adcN := rfl
@[simp] theorem State.finc_fresh (f : Fld) : (s.finc f).fresh = s.fresh := rfl
@[simp] theorem State.finc_out (f : Fld) : (s.finc f).out = s.out := rfl
@[simp] theorem State.finc_snap (f : Fld) : (s.finc f).snap = s.snap := rfl
@[simp] theorem State.finc_latch (f : Fld) : (s.finc f).latch = s.latch := rfl
@[simp] theorem State.finc_comb (f : Fld) : (s.finc f).comb = s.comb := rfl
@[simp] theorem State.finc_ecc (f : Fld) : (s.finc f).ecc = s.ecc := rfl
@[simp] theorem State.finc_sky (f : Fld) : (s.finc f).sky = s.sky := rfl
@[simp] theorem State.finc_sched (f : Fld) : (s.finc f).sched = s.sched := rfl
@[simp] theorem State.finc_schedBusy (f : Fld) : (s.finc f).schedBusy = s.schedBusy := rfl
@[simp] theorem State.finc_cic (f : Fld) : (s.finc f).cic = s.cic := rfl
@[simp] theorem State.finc_tio (f : Fld) : (s.finc f).tio = s.tio := rfl
@[simp] theorem State.finc_tn (f : Fld) : (s.finc f).tn = s.tn := rfl
@[simp] theorem State.finc_rf (f : Fld) : (s.finc f).rf = s.rf := rfl
@[simp] theorem State.finc_sieve (f : Fld) : (s.finc f).sieve = s.sieve := rfl
@[simp] theorem State.finc_hive (f : Fld) : (s.finc f).hive = s.hive := rfl
@[simp] theorem State.finc_dfly (f : Fld) : (s.finc f).dfly = s.dfly := rfl
@[simp] theorem State.finc_scarab (f : Fld) : (s.finc f).scarab = s.scarab := rfl
@[simp] theorem State.finc_meas (f : Fld) : (s.finc f).meas = s.meas := rfl
@[simp] theorem State.finc_wv (f : Fld) : (s.finc f).wv = s.wv := rfl
@[simp] theorem State.finc_pwr (f : Fld) : (s.finc f).pwr = s.pwr := rfl
@[simp] theorem State.finc_aon (f : Fld) : (s.finc f).aon = s.aon := rfl
@[simp] theorem State.finc_fuses (f : Fld) : (s.finc f).fuses = s.fuses := rfl
@[simp] theorem State.finc_boot (f : Fld) : (s.finc f).boot = s.boot := rfl
@[simp] theorem State.finc_pcie (f : Fld) : (s.finc f).pcie = s.pcie := rfl
@[simp] theorem State.finc_usb (f : Fld) : (s.finc f).usb = s.usb := rfl
@[simp] theorem State.finc_spi (f : Fld) : (s.finc f).spi = s.spi := rfl
@[simp] theorem State.finc_xspi (f : Fld) : (s.finc f).xspi = s.xspi := rfl
@[simp] theorem State.finc_ar (f : Fld) : (s.finc f).ar = s.ar := rfl
@[simp] theorem State.finc_pen (f : Fld) : (s.finc f).pen = s.pen := rfl
@[simp] theorem State.finc_uarts (f : Fld) : (s.finc f).uarts = s.uarts := rfl
@[simp] theorem State.finc_mon (f : Fld) : (s.finc f).mon = s.mon := rfl
@[simp] theorem State.finc_cp (f : Fld) : (s.finc f).cp = s.cp := rfl
@[simp] theorem State.finc_upd (f : Fld) : (s.finc f).upd = s.upd := rfl

-- fwrap
@[simp] theorem State.fwrap_pending (f : Fld) : (s.fwrap f).pending = s.pending := rfl
@[simp] theorem State.fwrap_cycle (f : Fld) : (s.fwrap f).cycle = s.cycle := rfl
@[simp] theorem State.fwrap_adcN (f : Fld) : (s.fwrap f).adcN = s.adcN := rfl
@[simp] theorem State.fwrap_fresh (f : Fld) : (s.fwrap f).fresh = s.fresh := rfl
@[simp] theorem State.fwrap_out (f : Fld) : (s.fwrap f).out = s.out := rfl
@[simp] theorem State.fwrap_snap (f : Fld) : (s.fwrap f).snap = s.snap := rfl
@[simp] theorem State.fwrap_latch (f : Fld) : (s.fwrap f).latch = s.latch := rfl
@[simp] theorem State.fwrap_comb (f : Fld) : (s.fwrap f).comb = s.comb := rfl
@[simp] theorem State.fwrap_ecc (f : Fld) : (s.fwrap f).ecc = s.ecc := rfl
@[simp] theorem State.fwrap_sky (f : Fld) : (s.fwrap f).sky = s.sky := rfl
@[simp] theorem State.fwrap_sched (f : Fld) : (s.fwrap f).sched = s.sched := rfl
@[simp] theorem State.fwrap_schedBusy (f : Fld) : (s.fwrap f).schedBusy = s.schedBusy := rfl
@[simp] theorem State.fwrap_cic (f : Fld) : (s.fwrap f).cic = s.cic := rfl
@[simp] theorem State.fwrap_tio (f : Fld) : (s.fwrap f).tio = s.tio := rfl
@[simp] theorem State.fwrap_tn (f : Fld) : (s.fwrap f).tn = s.tn := rfl
@[simp] theorem State.fwrap_rf (f : Fld) : (s.fwrap f).rf = s.rf := rfl
@[simp] theorem State.fwrap_sieve (f : Fld) : (s.fwrap f).sieve = s.sieve := rfl
@[simp] theorem State.fwrap_hive (f : Fld) : (s.fwrap f).hive = s.hive := rfl
@[simp] theorem State.fwrap_dfly (f : Fld) : (s.fwrap f).dfly = s.dfly := rfl
@[simp] theorem State.fwrap_scarab (f : Fld) : (s.fwrap f).scarab = s.scarab := rfl
@[simp] theorem State.fwrap_meas (f : Fld) : (s.fwrap f).meas = s.meas := rfl
@[simp] theorem State.fwrap_wv (f : Fld) : (s.fwrap f).wv = s.wv := rfl
@[simp] theorem State.fwrap_pwr (f : Fld) : (s.fwrap f).pwr = s.pwr := rfl
@[simp] theorem State.fwrap_aon (f : Fld) : (s.fwrap f).aon = s.aon := rfl
@[simp] theorem State.fwrap_fuses (f : Fld) : (s.fwrap f).fuses = s.fuses := rfl
@[simp] theorem State.fwrap_boot (f : Fld) : (s.fwrap f).boot = s.boot := rfl
@[simp] theorem State.fwrap_pcie (f : Fld) : (s.fwrap f).pcie = s.pcie := rfl
@[simp] theorem State.fwrap_usb (f : Fld) : (s.fwrap f).usb = s.usb := rfl
@[simp] theorem State.fwrap_spi (f : Fld) : (s.fwrap f).spi = s.spi := rfl
@[simp] theorem State.fwrap_xspi (f : Fld) : (s.fwrap f).xspi = s.xspi := rfl
@[simp] theorem State.fwrap_ar (f : Fld) : (s.fwrap f).ar = s.ar := rfl
@[simp] theorem State.fwrap_pen (f : Fld) : (s.fwrap f).pen = s.pen := rfl
@[simp] theorem State.fwrap_uarts (f : Fld) : (s.fwrap f).uarts = s.uarts := rfl
@[simp] theorem State.fwrap_mon (f : Fld) : (s.fwrap f).mon = s.mon := rfl
@[simp] theorem State.fwrap_cp (f : Fld) : (s.fwrap f).cp = s.cp := rfl
@[simp] theorem State.fwrap_upd (f : Fld) : (s.fwrap f).upd = s.upd := rfl

-- put64
@[simp] theorem State.put64_pending (h l : Fld) (v : Nat) : (s.put64 h l v).pending = s.pending := rfl
@[simp] theorem State.put64_cycle (h l : Fld) (v : Nat) : (s.put64 h l v).cycle = s.cycle := rfl
@[simp] theorem State.put64_adcN (h l : Fld) (v : Nat) : (s.put64 h l v).adcN = s.adcN := rfl
@[simp] theorem State.put64_fresh (h l : Fld) (v : Nat) : (s.put64 h l v).fresh = s.fresh := rfl
@[simp] theorem State.put64_out (h l : Fld) (v : Nat) : (s.put64 h l v).out = s.out := rfl
@[simp] theorem State.put64_snap (h l : Fld) (v : Nat) : (s.put64 h l v).snap = s.snap := rfl
@[simp] theorem State.put64_latch (h l : Fld) (v : Nat) : (s.put64 h l v).latch = s.latch := rfl
@[simp] theorem State.put64_comb (h l : Fld) (v : Nat) : (s.put64 h l v).comb = s.comb := rfl
@[simp] theorem State.put64_ecc (h l : Fld) (v : Nat) : (s.put64 h l v).ecc = s.ecc := rfl
@[simp] theorem State.put64_sky (h l : Fld) (v : Nat) : (s.put64 h l v).sky = s.sky := rfl
@[simp] theorem State.put64_sched (h l : Fld) (v : Nat) : (s.put64 h l v).sched = s.sched := rfl
@[simp] theorem State.put64_schedBusy (h l : Fld) (v : Nat) : (s.put64 h l v).schedBusy = s.schedBusy := rfl
@[simp] theorem State.put64_cic (h l : Fld) (v : Nat) : (s.put64 h l v).cic = s.cic := rfl
@[simp] theorem State.put64_tio (h l : Fld) (v : Nat) : (s.put64 h l v).tio = s.tio := rfl
@[simp] theorem State.put64_tn (h l : Fld) (v : Nat) : (s.put64 h l v).tn = s.tn := rfl
@[simp] theorem State.put64_rf (h l : Fld) (v : Nat) : (s.put64 h l v).rf = s.rf := rfl
@[simp] theorem State.put64_sieve (h l : Fld) (v : Nat) : (s.put64 h l v).sieve = s.sieve := rfl
@[simp] theorem State.put64_hive (h l : Fld) (v : Nat) : (s.put64 h l v).hive = s.hive := rfl
@[simp] theorem State.put64_dfly (h l : Fld) (v : Nat) : (s.put64 h l v).dfly = s.dfly := rfl
@[simp] theorem State.put64_scarab (h l : Fld) (v : Nat) : (s.put64 h l v).scarab = s.scarab := rfl
@[simp] theorem State.put64_meas (h l : Fld) (v : Nat) : (s.put64 h l v).meas = s.meas := rfl
@[simp] theorem State.put64_wv (h l : Fld) (v : Nat) : (s.put64 h l v).wv = s.wv := rfl
@[simp] theorem State.put64_pwr (h l : Fld) (v : Nat) : (s.put64 h l v).pwr = s.pwr := rfl
@[simp] theorem State.put64_aon (h l : Fld) (v : Nat) : (s.put64 h l v).aon = s.aon := rfl
@[simp] theorem State.put64_fuses (h l : Fld) (v : Nat) : (s.put64 h l v).fuses = s.fuses := rfl
@[simp] theorem State.put64_boot (h l : Fld) (v : Nat) : (s.put64 h l v).boot = s.boot := rfl
@[simp] theorem State.put64_pcie (h l : Fld) (v : Nat) : (s.put64 h l v).pcie = s.pcie := rfl
@[simp] theorem State.put64_usb (h l : Fld) (v : Nat) : (s.put64 h l v).usb = s.usb := rfl
@[simp] theorem State.put64_spi (h l : Fld) (v : Nat) : (s.put64 h l v).spi = s.spi := rfl
@[simp] theorem State.put64_xspi (h l : Fld) (v : Nat) : (s.put64 h l v).xspi = s.xspi := rfl
@[simp] theorem State.put64_ar (h l : Fld) (v : Nat) : (s.put64 h l v).ar = s.ar := rfl
@[simp] theorem State.put64_pen (h l : Fld) (v : Nat) : (s.put64 h l v).pen = s.pen := rfl
@[simp] theorem State.put64_uarts (h l : Fld) (v : Nat) : (s.put64 h l v).uarts = s.uarts := rfl
@[simp] theorem State.put64_mon (h l : Fld) (v : Nat) : (s.put64 h l v).mon = s.mon := rfl
@[simp] theorem State.put64_cp (h l : Fld) (v : Nat) : (s.put64 h l v).cp = s.cp := rfl
@[simp] theorem State.put64_upd (h l : Fld) (v : Nat) : (s.put64 h l v).upd = s.upd := rfl

-- put96
@[simp] theorem State.put96_pending (f : Nat → Fld) (v : Nat) : (s.put96 f v).pending = s.pending := rfl
@[simp] theorem State.put96_cycle (f : Nat → Fld) (v : Nat) : (s.put96 f v).cycle = s.cycle := rfl
@[simp] theorem State.put96_adcN (f : Nat → Fld) (v : Nat) : (s.put96 f v).adcN = s.adcN := rfl
@[simp] theorem State.put96_fresh (f : Nat → Fld) (v : Nat) : (s.put96 f v).fresh = s.fresh := rfl
@[simp] theorem State.put96_out (f : Nat → Fld) (v : Nat) : (s.put96 f v).out = s.out := rfl
@[simp] theorem State.put96_snap (f : Nat → Fld) (v : Nat) : (s.put96 f v).snap = s.snap := rfl
@[simp] theorem State.put96_latch (f : Nat → Fld) (v : Nat) : (s.put96 f v).latch = s.latch := rfl
@[simp] theorem State.put96_comb (f : Nat → Fld) (v : Nat) : (s.put96 f v).comb = s.comb := rfl
@[simp] theorem State.put96_ecc (f : Nat → Fld) (v : Nat) : (s.put96 f v).ecc = s.ecc := rfl
@[simp] theorem State.put96_sky (f : Nat → Fld) (v : Nat) : (s.put96 f v).sky = s.sky := rfl
@[simp] theorem State.put96_sched (f : Nat → Fld) (v : Nat) : (s.put96 f v).sched = s.sched := rfl
@[simp] theorem State.put96_schedBusy (f : Nat → Fld) (v : Nat) : (s.put96 f v).schedBusy = s.schedBusy := rfl
@[simp] theorem State.put96_cic (f : Nat → Fld) (v : Nat) : (s.put96 f v).cic = s.cic := rfl
@[simp] theorem State.put96_tio (f : Nat → Fld) (v : Nat) : (s.put96 f v).tio = s.tio := rfl
@[simp] theorem State.put96_tn (f : Nat → Fld) (v : Nat) : (s.put96 f v).tn = s.tn := rfl
@[simp] theorem State.put96_rf (f : Nat → Fld) (v : Nat) : (s.put96 f v).rf = s.rf := rfl
@[simp] theorem State.put96_sieve (f : Nat → Fld) (v : Nat) : (s.put96 f v).sieve = s.sieve := rfl
@[simp] theorem State.put96_hive (f : Nat → Fld) (v : Nat) : (s.put96 f v).hive = s.hive := rfl
@[simp] theorem State.put96_dfly (f : Nat → Fld) (v : Nat) : (s.put96 f v).dfly = s.dfly := rfl
@[simp] theorem State.put96_scarab (f : Nat → Fld) (v : Nat) : (s.put96 f v).scarab = s.scarab := rfl
@[simp] theorem State.put96_meas (f : Nat → Fld) (v : Nat) : (s.put96 f v).meas = s.meas := rfl
@[simp] theorem State.put96_wv (f : Nat → Fld) (v : Nat) : (s.put96 f v).wv = s.wv := rfl
@[simp] theorem State.put96_pwr (f : Nat → Fld) (v : Nat) : (s.put96 f v).pwr = s.pwr := rfl
@[simp] theorem State.put96_aon (f : Nat → Fld) (v : Nat) : (s.put96 f v).aon = s.aon := rfl
@[simp] theorem State.put96_fuses (f : Nat → Fld) (v : Nat) : (s.put96 f v).fuses = s.fuses := rfl
@[simp] theorem State.put96_boot (f : Nat → Fld) (v : Nat) : (s.put96 f v).boot = s.boot := rfl
@[simp] theorem State.put96_pcie (f : Nat → Fld) (v : Nat) : (s.put96 f v).pcie = s.pcie := rfl
@[simp] theorem State.put96_usb (f : Nat → Fld) (v : Nat) : (s.put96 f v).usb = s.usb := rfl
@[simp] theorem State.put96_spi (f : Nat → Fld) (v : Nat) : (s.put96 f v).spi = s.spi := rfl
@[simp] theorem State.put96_xspi (f : Nat → Fld) (v : Nat) : (s.put96 f v).xspi = s.xspi := rfl
@[simp] theorem State.put96_ar (f : Nat → Fld) (v : Nat) : (s.put96 f v).ar = s.ar := rfl
@[simp] theorem State.put96_pen (f : Nat → Fld) (v : Nat) : (s.put96 f v).pen = s.pen := rfl
@[simp] theorem State.put96_uarts (f : Nat → Fld) (v : Nat) : (s.put96 f v).uarts = s.uarts := rfl
@[simp] theorem State.put96_mon (f : Nat → Fld) (v : Nat) : (s.put96 f v).mon = s.mon := rfl
@[simp] theorem State.put96_cp (f : Nat → Fld) (v : Nat) : (s.put96 f v).cp = s.cp := rfl
@[simp] theorem State.put96_upd (f : Nat → Fld) (v : Nat) : (s.put96 f v).upd = s.upd := rfl

-- setMapBit
@[simp] theorem State.setMapBit_pending (f : Nat → Fld) (i : Nat) (b : Bool) : (s.setMapBit f i b).pending = s.pending := rfl
@[simp] theorem State.setMapBit_cycle (f : Nat → Fld) (i : Nat) (b : Bool) : (s.setMapBit f i b).cycle = s.cycle := rfl
@[simp] theorem State.setMapBit_adcN (f : Nat → Fld) (i : Nat) (b : Bool) : (s.setMapBit f i b).adcN = s.adcN := rfl
@[simp] theorem State.setMapBit_fresh (f : Nat → Fld) (i : Nat) (b : Bool) : (s.setMapBit f i b).fresh = s.fresh := rfl
@[simp] theorem State.setMapBit_out (f : Nat → Fld) (i : Nat) (b : Bool) : (s.setMapBit f i b).out = s.out := rfl
@[simp] theorem State.setMapBit_snap (f : Nat → Fld) (i : Nat) (b : Bool) : (s.setMapBit f i b).snap = s.snap := rfl
@[simp] theorem State.setMapBit_latch (f : Nat → Fld) (i : Nat) (b : Bool) : (s.setMapBit f i b).latch = s.latch := rfl
@[simp] theorem State.setMapBit_comb (f : Nat → Fld) (i : Nat) (b : Bool) : (s.setMapBit f i b).comb = s.comb := rfl
@[simp] theorem State.setMapBit_ecc (f : Nat → Fld) (i : Nat) (b : Bool) : (s.setMapBit f i b).ecc = s.ecc := rfl
@[simp] theorem State.setMapBit_sky (f : Nat → Fld) (i : Nat) (b : Bool) : (s.setMapBit f i b).sky = s.sky := rfl
@[simp] theorem State.setMapBit_sched (f : Nat → Fld) (i : Nat) (b : Bool) : (s.setMapBit f i b).sched = s.sched := rfl
@[simp] theorem State.setMapBit_schedBusy (f : Nat → Fld) (i : Nat) (b : Bool) : (s.setMapBit f i b).schedBusy = s.schedBusy := rfl
@[simp] theorem State.setMapBit_cic (f : Nat → Fld) (i : Nat) (b : Bool) : (s.setMapBit f i b).cic = s.cic := rfl
@[simp] theorem State.setMapBit_tio (f : Nat → Fld) (i : Nat) (b : Bool) : (s.setMapBit f i b).tio = s.tio := rfl
@[simp] theorem State.setMapBit_tn (f : Nat → Fld) (i : Nat) (b : Bool) : (s.setMapBit f i b).tn = s.tn := rfl
@[simp] theorem State.setMapBit_rf (f : Nat → Fld) (i : Nat) (b : Bool) : (s.setMapBit f i b).rf = s.rf := rfl
@[simp] theorem State.setMapBit_sieve (f : Nat → Fld) (i : Nat) (b : Bool) : (s.setMapBit f i b).sieve = s.sieve := rfl
@[simp] theorem State.setMapBit_hive (f : Nat → Fld) (i : Nat) (b : Bool) : (s.setMapBit f i b).hive = s.hive := rfl
@[simp] theorem State.setMapBit_dfly (f : Nat → Fld) (i : Nat) (b : Bool) : (s.setMapBit f i b).dfly = s.dfly := rfl
@[simp] theorem State.setMapBit_scarab (f : Nat → Fld) (i : Nat) (b : Bool) : (s.setMapBit f i b).scarab = s.scarab := rfl
@[simp] theorem State.setMapBit_meas (f : Nat → Fld) (i : Nat) (b : Bool) : (s.setMapBit f i b).meas = s.meas := rfl
@[simp] theorem State.setMapBit_wv (f : Nat → Fld) (i : Nat) (b : Bool) : (s.setMapBit f i b).wv = s.wv := rfl
@[simp] theorem State.setMapBit_pwr (f : Nat → Fld) (i : Nat) (b : Bool) : (s.setMapBit f i b).pwr = s.pwr := rfl
@[simp] theorem State.setMapBit_aon (f : Nat → Fld) (i : Nat) (b : Bool) : (s.setMapBit f i b).aon = s.aon := rfl
@[simp] theorem State.setMapBit_fuses (f : Nat → Fld) (i : Nat) (b : Bool) : (s.setMapBit f i b).fuses = s.fuses := rfl
@[simp] theorem State.setMapBit_boot (f : Nat → Fld) (i : Nat) (b : Bool) : (s.setMapBit f i b).boot = s.boot := rfl
@[simp] theorem State.setMapBit_pcie (f : Nat → Fld) (i : Nat) (b : Bool) : (s.setMapBit f i b).pcie = s.pcie := rfl
@[simp] theorem State.setMapBit_usb (f : Nat → Fld) (i : Nat) (b : Bool) : (s.setMapBit f i b).usb = s.usb := rfl
@[simp] theorem State.setMapBit_spi (f : Nat → Fld) (i : Nat) (b : Bool) : (s.setMapBit f i b).spi = s.spi := rfl
@[simp] theorem State.setMapBit_xspi (f : Nat → Fld) (i : Nat) (b : Bool) : (s.setMapBit f i b).xspi = s.xspi := rfl
@[simp] theorem State.setMapBit_ar (f : Nat → Fld) (i : Nat) (b : Bool) : (s.setMapBit f i b).ar = s.ar := rfl
@[simp] theorem State.setMapBit_pen (f : Nat → Fld) (i : Nat) (b : Bool) : (s.setMapBit f i b).pen = s.pen := rfl
@[simp] theorem State.setMapBit_uarts (f : Nat → Fld) (i : Nat) (b : Bool) : (s.setMapBit f i b).uarts = s.uarts := rfl
@[simp] theorem State.setMapBit_mon (f : Nat → Fld) (i : Nat) (b : Bool) : (s.setMapBit f i b).mon = s.mon := rfl
@[simp] theorem State.setMapBit_cp (f : Nat → Fld) (i : Nat) (b : Bool) : (s.setMapBit f i b).cp = s.cp := rfl
@[simp] theorem State.setMapBit_upd (f : Nat → Fld) (i : Nat) (b : Bool) : (s.setMapBit f i b).upd = s.upd := rfl

-- fault
@[simp] theorem State.fault_pending (p b : Nat) : (s.fault p b).pending = s.pending := rfl
@[simp] theorem State.fault_cycle (p b : Nat) : (s.fault p b).cycle = s.cycle := rfl
@[simp] theorem State.fault_adcN (p b : Nat) : (s.fault p b).adcN = s.adcN := rfl
@[simp] theorem State.fault_fresh (p b : Nat) : (s.fault p b).fresh = s.fresh := rfl
@[simp] theorem State.fault_out (p b : Nat) : (s.fault p b).out = s.out := rfl
@[simp] theorem State.fault_snap (p b : Nat) : (s.fault p b).snap = s.snap := rfl
@[simp] theorem State.fault_latch (p b : Nat) : (s.fault p b).latch = s.latch := rfl
@[simp] theorem State.fault_comb (p b : Nat) : (s.fault p b).comb = s.comb := rfl
@[simp] theorem State.fault_ecc (p b : Nat) : (s.fault p b).ecc = s.ecc := rfl
@[simp] theorem State.fault_sky (p b : Nat) : (s.fault p b).sky = s.sky := rfl
@[simp] theorem State.fault_sched (p b : Nat) : (s.fault p b).sched = s.sched := rfl
@[simp] theorem State.fault_schedBusy (p b : Nat) : (s.fault p b).schedBusy = s.schedBusy := rfl
@[simp] theorem State.fault_cic (p b : Nat) : (s.fault p b).cic = s.cic := rfl
@[simp] theorem State.fault_tio (p b : Nat) : (s.fault p b).tio = s.tio := rfl
@[simp] theorem State.fault_tn (p b : Nat) : (s.fault p b).tn = s.tn := rfl
@[simp] theorem State.fault_rf (p b : Nat) : (s.fault p b).rf = s.rf := rfl
@[simp] theorem State.fault_sieve (p b : Nat) : (s.fault p b).sieve = s.sieve := rfl
@[simp] theorem State.fault_hive (p b : Nat) : (s.fault p b).hive = s.hive := rfl
@[simp] theorem State.fault_dfly (p b : Nat) : (s.fault p b).dfly = s.dfly := rfl
@[simp] theorem State.fault_scarab (p b : Nat) : (s.fault p b).scarab = s.scarab := rfl
@[simp] theorem State.fault_meas (p b : Nat) : (s.fault p b).meas = s.meas := rfl
@[simp] theorem State.fault_wv (p b : Nat) : (s.fault p b).wv = s.wv := rfl
@[simp] theorem State.fault_pwr (p b : Nat) : (s.fault p b).pwr = s.pwr := rfl
@[simp] theorem State.fault_aon (p b : Nat) : (s.fault p b).aon = s.aon := rfl
@[simp] theorem State.fault_fuses (p b : Nat) : (s.fault p b).fuses = s.fuses := rfl
@[simp] theorem State.fault_boot (p b : Nat) : (s.fault p b).boot = s.boot := rfl
@[simp] theorem State.fault_pcie (p b : Nat) : (s.fault p b).pcie = s.pcie := rfl
@[simp] theorem State.fault_usb (p b : Nat) : (s.fault p b).usb = s.usb := rfl
@[simp] theorem State.fault_spi (p b : Nat) : (s.fault p b).spi = s.spi := rfl
@[simp] theorem State.fault_xspi (p b : Nat) : (s.fault p b).xspi = s.xspi := rfl
@[simp] theorem State.fault_ar (p b : Nat) : (s.fault p b).ar = s.ar := rfl
@[simp] theorem State.fault_pen (p b : Nat) : (s.fault p b).pen = s.pen := rfl
@[simp] theorem State.fault_uarts (p b : Nat) : (s.fault p b).uarts = s.uarts := rfl
@[simp] theorem State.fault_mon (p b : Nat) : (s.fault p b).mon = s.mon := rfl
@[simp] theorem State.fault_cp (p b : Nat) : (s.fault p b).cp = s.cp := rfl
@[simp] theorem State.fault_upd (p b : Nat) : (s.fault p b).upd = s.upd := rfl

-- raise
@[simp] theorem State.raise_pending (src p i : Nat) (d : Option Word) : (s.raise src p i d).pending = s.pending := rfl
@[simp] theorem State.raise_cycle (src p i : Nat) (d : Option Word) : (s.raise src p i d).cycle = s.cycle := rfl
@[simp] theorem State.raise_adcN (src p i : Nat) (d : Option Word) : (s.raise src p i d).adcN = s.adcN := rfl
@[simp] theorem State.raise_fresh (src p i : Nat) (d : Option Word) : (s.raise src p i d).fresh = s.fresh := rfl
@[simp] theorem State.raise_out (src p i : Nat) (d : Option Word) : (s.raise src p i d).out = s.out := rfl
@[simp] theorem State.raise_regs (src p i : Nat) (d : Option Word) : (s.raise src p i d).regs = s.regs := rfl
@[simp] theorem State.raise_snap (src p i : Nat) (d : Option Word) : (s.raise src p i d).snap = s.snap := rfl
@[simp] theorem State.raise_latch (src p i : Nat) (d : Option Word) : (s.raise src p i d).latch = s.latch := rfl
@[simp] theorem State.raise_comb (src p i : Nat) (d : Option Word) : (s.raise src p i d).comb = s.comb := rfl
@[simp] theorem State.raise_ecc (src p i : Nat) (d : Option Word) : (s.raise src p i d).ecc = s.ecc := rfl
@[simp] theorem State.raise_sky (src p i : Nat) (d : Option Word) : (s.raise src p i d).sky = s.sky := rfl
@[simp] theorem State.raise_sched (src p i : Nat) (d : Option Word) : (s.raise src p i d).sched = s.sched := rfl
@[simp] theorem State.raise_schedBusy (src p i : Nat) (d : Option Word) : (s.raise src p i d).schedBusy = s.schedBusy := rfl
@[simp] theorem State.raise_tio (src p i : Nat) (d : Option Word) : (s.raise src p i d).tio = s.tio := rfl
@[simp] theorem State.raise_tn (src p i : Nat) (d : Option Word) : (s.raise src p i d).tn = s.tn := rfl
@[simp] theorem State.raise_rf (src p i : Nat) (d : Option Word) : (s.raise src p i d).rf = s.rf := rfl
@[simp] theorem State.raise_sieve (src p i : Nat) (d : Option Word) : (s.raise src p i d).sieve = s.sieve := rfl
@[simp] theorem State.raise_hive (src p i : Nat) (d : Option Word) : (s.raise src p i d).hive = s.hive := rfl
@[simp] theorem State.raise_dfly (src p i : Nat) (d : Option Word) : (s.raise src p i d).dfly = s.dfly := rfl
@[simp] theorem State.raise_scarab (src p i : Nat) (d : Option Word) : (s.raise src p i d).scarab = s.scarab := rfl
@[simp] theorem State.raise_meas (src p i : Nat) (d : Option Word) : (s.raise src p i d).meas = s.meas := rfl
@[simp] theorem State.raise_wv (src p i : Nat) (d : Option Word) : (s.raise src p i d).wv = s.wv := rfl
@[simp] theorem State.raise_pwr (src p i : Nat) (d : Option Word) : (s.raise src p i d).pwr = s.pwr := rfl
@[simp] theorem State.raise_aon (src p i : Nat) (d : Option Word) : (s.raise src p i d).aon = s.aon := rfl
@[simp] theorem State.raise_fuses (src p i : Nat) (d : Option Word) : (s.raise src p i d).fuses = s.fuses := rfl
@[simp] theorem State.raise_boot (src p i : Nat) (d : Option Word) : (s.raise src p i d).boot = s.boot := rfl
@[simp] theorem State.raise_pcie (src p i : Nat) (d : Option Word) : (s.raise src p i d).pcie = s.pcie := rfl
@[simp] theorem State.raise_usb (src p i : Nat) (d : Option Word) : (s.raise src p i d).usb = s.usb := rfl
@[simp] theorem State.raise_spi (src p i : Nat) (d : Option Word) : (s.raise src p i d).spi = s.spi := rfl
@[simp] theorem State.raise_xspi (src p i : Nat) (d : Option Word) : (s.raise src p i d).xspi = s.xspi := rfl
@[simp] theorem State.raise_ar (src p i : Nat) (d : Option Word) : (s.raise src p i d).ar = s.ar := rfl
@[simp] theorem State.raise_pen (src p i : Nat) (d : Option Word) : (s.raise src p i d).pen = s.pen := rfl
@[simp] theorem State.raise_uarts (src p i : Nat) (d : Option Word) : (s.raise src p i d).uarts = s.uarts := rfl
@[simp] theorem State.raise_mon (src p i : Nat) (d : Option Word) : (s.raise src p i d).mon = s.mon := rfl
@[simp] theorem State.raise_cp (src p i : Nat) (d : Option Word) : (s.raise src p i d).cp = s.cp := rfl
@[simp] theorem State.raise_upd (src p i : Nat) (d : Option Word) : (s.raise src p i d).upd = s.upd := rfl

-- evRiseD
@[simp] theorem State.evRiseD_pending (p b : Nat) (d : Option Word) : (s.evRiseD p b d).pending = s.pending := by unfold State.evRiseD; split <;> rfl
@[simp] theorem State.evRiseD_cycle (p b : Nat) (d : Option Word) : (s.evRiseD p b d).cycle = s.cycle := by unfold State.evRiseD; split <;> rfl
@[simp] theorem State.evRiseD_adcN (p b : Nat) (d : Option Word) : (s.evRiseD p b d).adcN = s.adcN := by unfold State.evRiseD; split <;> rfl
@[simp] theorem State.evRiseD_fresh (p b : Nat) (d : Option Word) : (s.evRiseD p b d).fresh = s.fresh := by unfold State.evRiseD; split <;> rfl
@[simp] theorem State.evRiseD_out (p b : Nat) (d : Option Word) : (s.evRiseD p b d).out = s.out := by unfold State.evRiseD; split <;> rfl
@[simp] theorem State.evRiseD_snap (p b : Nat) (d : Option Word) : (s.evRiseD p b d).snap = s.snap := by unfold State.evRiseD; split <;> rfl
@[simp] theorem State.evRiseD_latch (p b : Nat) (d : Option Word) : (s.evRiseD p b d).latch = s.latch := by unfold State.evRiseD; split <;> rfl
@[simp] theorem State.evRiseD_comb (p b : Nat) (d : Option Word) : (s.evRiseD p b d).comb = s.comb := by unfold State.evRiseD; split <;> rfl
@[simp] theorem State.evRiseD_ecc (p b : Nat) (d : Option Word) : (s.evRiseD p b d).ecc = s.ecc := by unfold State.evRiseD; split <;> rfl
@[simp] theorem State.evRiseD_sky (p b : Nat) (d : Option Word) : (s.evRiseD p b d).sky = s.sky := by unfold State.evRiseD; split <;> rfl
@[simp] theorem State.evRiseD_sched (p b : Nat) (d : Option Word) : (s.evRiseD p b d).sched = s.sched := by unfold State.evRiseD; split <;> rfl
@[simp] theorem State.evRiseD_schedBusy (p b : Nat) (d : Option Word) : (s.evRiseD p b d).schedBusy = s.schedBusy := by unfold State.evRiseD; split <;> rfl
@[simp] theorem State.evRiseD_tio (p b : Nat) (d : Option Word) : (s.evRiseD p b d).tio = s.tio := by unfold State.evRiseD; split <;> rfl
@[simp] theorem State.evRiseD_tn (p b : Nat) (d : Option Word) : (s.evRiseD p b d).tn = s.tn := by unfold State.evRiseD; split <;> rfl
@[simp] theorem State.evRiseD_rf (p b : Nat) (d : Option Word) : (s.evRiseD p b d).rf = s.rf := by unfold State.evRiseD; split <;> rfl
@[simp] theorem State.evRiseD_sieve (p b : Nat) (d : Option Word) : (s.evRiseD p b d).sieve = s.sieve := by unfold State.evRiseD; split <;> rfl
@[simp] theorem State.evRiseD_hive (p b : Nat) (d : Option Word) : (s.evRiseD p b d).hive = s.hive := by unfold State.evRiseD; split <;> rfl
@[simp] theorem State.evRiseD_dfly (p b : Nat) (d : Option Word) : (s.evRiseD p b d).dfly = s.dfly := by unfold State.evRiseD; split <;> rfl
@[simp] theorem State.evRiseD_scarab (p b : Nat) (d : Option Word) : (s.evRiseD p b d).scarab = s.scarab := by unfold State.evRiseD; split <;> rfl
@[simp] theorem State.evRiseD_meas (p b : Nat) (d : Option Word) : (s.evRiseD p b d).meas = s.meas := by unfold State.evRiseD; split <;> rfl
@[simp] theorem State.evRiseD_wv (p b : Nat) (d : Option Word) : (s.evRiseD p b d).wv = s.wv := by unfold State.evRiseD; split <;> rfl
@[simp] theorem State.evRiseD_pwr (p b : Nat) (d : Option Word) : (s.evRiseD p b d).pwr = s.pwr := by unfold State.evRiseD; split <;> rfl
@[simp] theorem State.evRiseD_aon (p b : Nat) (d : Option Word) : (s.evRiseD p b d).aon = s.aon := by unfold State.evRiseD; split <;> rfl
@[simp] theorem State.evRiseD_fuses (p b : Nat) (d : Option Word) : (s.evRiseD p b d).fuses = s.fuses := by unfold State.evRiseD; split <;> rfl
@[simp] theorem State.evRiseD_boot (p b : Nat) (d : Option Word) : (s.evRiseD p b d).boot = s.boot := by unfold State.evRiseD; split <;> rfl
@[simp] theorem State.evRiseD_pcie (p b : Nat) (d : Option Word) : (s.evRiseD p b d).pcie = s.pcie := by unfold State.evRiseD; split <;> rfl
@[simp] theorem State.evRiseD_usb (p b : Nat) (d : Option Word) : (s.evRiseD p b d).usb = s.usb := by unfold State.evRiseD; split <;> rfl
@[simp] theorem State.evRiseD_spi (p b : Nat) (d : Option Word) : (s.evRiseD p b d).spi = s.spi := by unfold State.evRiseD; split <;> rfl
@[simp] theorem State.evRiseD_xspi (p b : Nat) (d : Option Word) : (s.evRiseD p b d).xspi = s.xspi := by unfold State.evRiseD; split <;> rfl
@[simp] theorem State.evRiseD_ar (p b : Nat) (d : Option Word) : (s.evRiseD p b d).ar = s.ar := by unfold State.evRiseD; split <;> rfl
@[simp] theorem State.evRiseD_pen (p b : Nat) (d : Option Word) : (s.evRiseD p b d).pen = s.pen := by unfold State.evRiseD; split <;> rfl
@[simp] theorem State.evRiseD_uarts (p b : Nat) (d : Option Word) : (s.evRiseD p b d).uarts = s.uarts := by unfold State.evRiseD; split <;> rfl
@[simp] theorem State.evRiseD_mon (p b : Nat) (d : Option Word) : (s.evRiseD p b d).mon = s.mon := by unfold State.evRiseD; split <;> rfl
@[simp] theorem State.evRiseD_cp (p b : Nat) (d : Option Word) : (s.evRiseD p b d).cp = s.cp := by unfold State.evRiseD; split <;> rfl
@[simp] theorem State.evRiseD_upd (p b : Nat) (d : Option Word) : (s.evRiseD p b d).upd = s.upd := by unfold State.evRiseD; split <;> rfl

-- evRise
@[simp] theorem State.evRise_pending (p b : Nat) : (s.evRise p b).pending = s.pending := by unfold State.evRise State.evRiseD; split <;> rfl
@[simp] theorem State.evRise_cycle (p b : Nat) : (s.evRise p b).cycle = s.cycle := by unfold State.evRise State.evRiseD; split <;> rfl
@[simp] theorem State.evRise_adcN (p b : Nat) : (s.evRise p b).adcN = s.adcN := by unfold State.evRise State.evRiseD; split <;> rfl
@[simp] theorem State.evRise_fresh (p b : Nat) : (s.evRise p b).fresh = s.fresh := by unfold State.evRise State.evRiseD; split <;> rfl
@[simp] theorem State.evRise_out (p b : Nat) : (s.evRise p b).out = s.out := by unfold State.evRise State.evRiseD; split <;> rfl
@[simp] theorem State.evRise_snap (p b : Nat) : (s.evRise p b).snap = s.snap := by unfold State.evRise State.evRiseD; split <;> rfl
@[simp] theorem State.evRise_latch (p b : Nat) : (s.evRise p b).latch = s.latch := by unfold State.evRise State.evRiseD; split <;> rfl
@[simp] theorem State.evRise_comb (p b : Nat) : (s.evRise p b).comb = s.comb := by unfold State.evRise State.evRiseD; split <;> rfl
@[simp] theorem State.evRise_ecc (p b : Nat) : (s.evRise p b).ecc = s.ecc := by unfold State.evRise State.evRiseD; split <;> rfl
@[simp] theorem State.evRise_sky (p b : Nat) : (s.evRise p b).sky = s.sky := by unfold State.evRise State.evRiseD; split <;> rfl
@[simp] theorem State.evRise_sched (p b : Nat) : (s.evRise p b).sched = s.sched := by unfold State.evRise State.evRiseD; split <;> rfl
@[simp] theorem State.evRise_schedBusy (p b : Nat) : (s.evRise p b).schedBusy = s.schedBusy := by unfold State.evRise State.evRiseD; split <;> rfl
@[simp] theorem State.evRise_tio (p b : Nat) : (s.evRise p b).tio = s.tio := by unfold State.evRise State.evRiseD; split <;> rfl
@[simp] theorem State.evRise_tn (p b : Nat) : (s.evRise p b).tn = s.tn := by unfold State.evRise State.evRiseD; split <;> rfl
@[simp] theorem State.evRise_rf (p b : Nat) : (s.evRise p b).rf = s.rf := by unfold State.evRise State.evRiseD; split <;> rfl
@[simp] theorem State.evRise_sieve (p b : Nat) : (s.evRise p b).sieve = s.sieve := by unfold State.evRise State.evRiseD; split <;> rfl
@[simp] theorem State.evRise_hive (p b : Nat) : (s.evRise p b).hive = s.hive := by unfold State.evRise State.evRiseD; split <;> rfl
@[simp] theorem State.evRise_dfly (p b : Nat) : (s.evRise p b).dfly = s.dfly := by unfold State.evRise State.evRiseD; split <;> rfl
@[simp] theorem State.evRise_scarab (p b : Nat) : (s.evRise p b).scarab = s.scarab := by unfold State.evRise State.evRiseD; split <;> rfl
@[simp] theorem State.evRise_meas (p b : Nat) : (s.evRise p b).meas = s.meas := by unfold State.evRise State.evRiseD; split <;> rfl
@[simp] theorem State.evRise_wv (p b : Nat) : (s.evRise p b).wv = s.wv := by unfold State.evRise State.evRiseD; split <;> rfl
@[simp] theorem State.evRise_pwr (p b : Nat) : (s.evRise p b).pwr = s.pwr := by unfold State.evRise State.evRiseD; split <;> rfl
@[simp] theorem State.evRise_aon (p b : Nat) : (s.evRise p b).aon = s.aon := by unfold State.evRise State.evRiseD; split <;> rfl
@[simp] theorem State.evRise_fuses (p b : Nat) : (s.evRise p b).fuses = s.fuses := by unfold State.evRise State.evRiseD; split <;> rfl
@[simp] theorem State.evRise_boot (p b : Nat) : (s.evRise p b).boot = s.boot := by unfold State.evRise State.evRiseD; split <;> rfl
@[simp] theorem State.evRise_pcie (p b : Nat) : (s.evRise p b).pcie = s.pcie := by unfold State.evRise State.evRiseD; split <;> rfl
@[simp] theorem State.evRise_usb (p b : Nat) : (s.evRise p b).usb = s.usb := by unfold State.evRise State.evRiseD; split <;> rfl
@[simp] theorem State.evRise_spi (p b : Nat) : (s.evRise p b).spi = s.spi := by unfold State.evRise State.evRiseD; split <;> rfl
@[simp] theorem State.evRise_xspi (p b : Nat) : (s.evRise p b).xspi = s.xspi := by unfold State.evRise State.evRiseD; split <;> rfl
@[simp] theorem State.evRise_ar (p b : Nat) : (s.evRise p b).ar = s.ar := by unfold State.evRise State.evRiseD; split <;> rfl
@[simp] theorem State.evRise_pen (p b : Nat) : (s.evRise p b).pen = s.pen := by unfold State.evRise State.evRiseD; split <;> rfl
@[simp] theorem State.evRise_uarts (p b : Nat) : (s.evRise p b).uarts = s.uarts := by unfold State.evRise State.evRiseD; split <;> rfl
@[simp] theorem State.evRise_mon (p b : Nat) : (s.evRise p b).mon = s.mon := by unfold State.evRise State.evRiseD; split <;> rfl
@[simp] theorem State.evRise_cp (p b : Nat) : (s.evRise p b).cp = s.cp := by unfold State.evRise State.evRiseD; split <;> rfl
@[simp] theorem State.evRise_upd (p b : Nat) : (s.evRise p b).upd = s.upd := by unfold State.evRise State.evRiseD; split <;> rfl

-- setCore
@[simp] theorem State.setCore_pending (i : Nat) (c : CoreSt) : (s.setCore i c).pending = s.pending := rfl
@[simp] theorem State.setCore_cycle (i : Nat) (c : CoreSt) : (s.setCore i c).cycle = s.cycle := rfl
@[simp] theorem State.setCore_adcN (i : Nat) (c : CoreSt) : (s.setCore i c).adcN = s.adcN := rfl
@[simp] theorem State.setCore_fresh (i : Nat) (c : CoreSt) : (s.setCore i c).fresh = s.fresh := rfl
@[simp] theorem State.setCore_out (i : Nat) (c : CoreSt) : (s.setCore i c).out = s.out := rfl
@[simp] theorem State.setCore_regs (i : Nat) (c : CoreSt) : (s.setCore i c).regs = s.regs := rfl
@[simp] theorem State.setCore_snap (i : Nat) (c : CoreSt) : (s.setCore i c).snap = s.snap := rfl
@[simp] theorem State.setCore_latch (i : Nat) (c : CoreSt) : (s.setCore i c).latch = s.latch := rfl
@[simp] theorem State.setCore_comb (i : Nat) (c : CoreSt) : (s.setCore i c).comb = s.comb := rfl
@[simp] theorem State.setCore_ecc (i : Nat) (c : CoreSt) : (s.setCore i c).ecc = s.ecc := rfl
@[simp] theorem State.setCore_sky (i : Nat) (c : CoreSt) : (s.setCore i c).sky = s.sky := rfl
@[simp] theorem State.setCore_sched (i : Nat) (c : CoreSt) : (s.setCore i c).sched = s.sched := rfl
@[simp] theorem State.setCore_schedBusy (i : Nat) (c : CoreSt) : (s.setCore i c).schedBusy = s.schedBusy := rfl
@[simp] theorem State.setCore_cic (i : Nat) (c : CoreSt) : (s.setCore i c).cic = s.cic := rfl
@[simp] theorem State.setCore_tio (i : Nat) (c : CoreSt) : (s.setCore i c).tio = s.tio := rfl
@[simp] theorem State.setCore_tn (i : Nat) (c : CoreSt) : (s.setCore i c).tn = s.tn := rfl
@[simp] theorem State.setCore_rf (i : Nat) (c : CoreSt) : (s.setCore i c).rf = s.rf := rfl
@[simp] theorem State.setCore_sieve (i : Nat) (c : CoreSt) : (s.setCore i c).sieve = s.sieve := rfl
@[simp] theorem State.setCore_hive (i : Nat) (c : CoreSt) : (s.setCore i c).hive = s.hive := rfl
@[simp] theorem State.setCore_dfly (i : Nat) (c : CoreSt) : (s.setCore i c).dfly = s.dfly := rfl
@[simp] theorem State.setCore_scarab (i : Nat) (c : CoreSt) : (s.setCore i c).scarab = s.scarab := rfl
@[simp] theorem State.setCore_meas (i : Nat) (c : CoreSt) : (s.setCore i c).meas = s.meas := rfl
@[simp] theorem State.setCore_pwr (i : Nat) (c : CoreSt) : (s.setCore i c).pwr = s.pwr := rfl
@[simp] theorem State.setCore_aon (i : Nat) (c : CoreSt) : (s.setCore i c).aon = s.aon := rfl
@[simp] theorem State.setCore_fuses (i : Nat) (c : CoreSt) : (s.setCore i c).fuses = s.fuses := rfl
@[simp] theorem State.setCore_boot (i : Nat) (c : CoreSt) : (s.setCore i c).boot = s.boot := rfl
@[simp] theorem State.setCore_pcie (i : Nat) (c : CoreSt) : (s.setCore i c).pcie = s.pcie := rfl
@[simp] theorem State.setCore_usb (i : Nat) (c : CoreSt) : (s.setCore i c).usb = s.usb := rfl
@[simp] theorem State.setCore_spi (i : Nat) (c : CoreSt) : (s.setCore i c).spi = s.spi := rfl
@[simp] theorem State.setCore_xspi (i : Nat) (c : CoreSt) : (s.setCore i c).xspi = s.xspi := rfl
@[simp] theorem State.setCore_ar (i : Nat) (c : CoreSt) : (s.setCore i c).ar = s.ar := rfl
@[simp] theorem State.setCore_pen (i : Nat) (c : CoreSt) : (s.setCore i c).pen = s.pen := rfl
@[simp] theorem State.setCore_uarts (i : Nat) (c : CoreSt) : (s.setCore i c).uarts = s.uarts := rfl
@[simp] theorem State.setCore_mon (i : Nat) (c : CoreSt) : (s.setCore i c).mon = s.mon := rfl
@[simp] theorem State.setCore_cp (i : Nat) (c : CoreSt) : (s.setCore i c).cp = s.cp := rfl
@[simp] theorem State.setCore_upd (i : Nat) (c : CoreSt) : (s.setCore i c).upd = s.upd := rfl

-- coreLine
@[simp] theorem State.coreLine_pending (i n : Nat) : (s.coreLine i n).pending = s.pending := rfl
@[simp] theorem State.coreLine_cycle (i n : Nat) : (s.coreLine i n).cycle = s.cycle := rfl
@[simp] theorem State.coreLine_adcN (i n : Nat) : (s.coreLine i n).adcN = s.adcN := rfl
@[simp] theorem State.coreLine_fresh (i n : Nat) : (s.coreLine i n).fresh = s.fresh := rfl
@[simp] theorem State.coreLine_out (i n : Nat) : (s.coreLine i n).out = s.out := rfl
@[simp] theorem State.coreLine_regs (i n : Nat) : (s.coreLine i n).regs = s.regs := rfl
@[simp] theorem State.coreLine_snap (i n : Nat) : (s.coreLine i n).snap = s.snap := rfl
@[simp] theorem State.coreLine_latch (i n : Nat) : (s.coreLine i n).latch = s.latch := rfl
@[simp] theorem State.coreLine_comb (i n : Nat) : (s.coreLine i n).comb = s.comb := rfl
@[simp] theorem State.coreLine_ecc (i n : Nat) : (s.coreLine i n).ecc = s.ecc := rfl
@[simp] theorem State.coreLine_sky (i n : Nat) : (s.coreLine i n).sky = s.sky := rfl
@[simp] theorem State.coreLine_sched (i n : Nat) : (s.coreLine i n).sched = s.sched := rfl
@[simp] theorem State.coreLine_schedBusy (i n : Nat) : (s.coreLine i n).schedBusy = s.schedBusy := rfl
@[simp] theorem State.coreLine_cic (i n : Nat) : (s.coreLine i n).cic = s.cic := rfl
@[simp] theorem State.coreLine_tio (i n : Nat) : (s.coreLine i n).tio = s.tio := rfl
@[simp] theorem State.coreLine_tn (i n : Nat) : (s.coreLine i n).tn = s.tn := rfl
@[simp] theorem State.coreLine_rf (i n : Nat) : (s.coreLine i n).rf = s.rf := rfl
@[simp] theorem State.coreLine_sieve (i n : Nat) : (s.coreLine i n).sieve = s.sieve := rfl
@[simp] theorem State.coreLine_hive (i n : Nat) : (s.coreLine i n).hive = s.hive := rfl
@[simp] theorem State.coreLine_dfly (i n : Nat) : (s.coreLine i n).dfly = s.dfly := rfl
@[simp] theorem State.coreLine_scarab (i n : Nat) : (s.coreLine i n).scarab = s.scarab := rfl
@[simp] theorem State.coreLine_meas (i n : Nat) : (s.coreLine i n).meas = s.meas := rfl
@[simp] theorem State.coreLine_pwr (i n : Nat) : (s.coreLine i n).pwr = s.pwr := rfl
@[simp] theorem State.coreLine_aon (i n : Nat) : (s.coreLine i n).aon = s.aon := rfl
@[simp] theorem State.coreLine_fuses (i n : Nat) : (s.coreLine i n).fuses = s.fuses := rfl
@[simp] theorem State.coreLine_boot (i n : Nat) : (s.coreLine i n).boot = s.boot := rfl
@[simp] theorem State.coreLine_pcie (i n : Nat) : (s.coreLine i n).pcie = s.pcie := rfl
@[simp] theorem State.coreLine_usb (i n : Nat) : (s.coreLine i n).usb = s.usb := rfl
@[simp] theorem State.coreLine_spi (i n : Nat) : (s.coreLine i n).spi = s.spi := rfl
@[simp] theorem State.coreLine_xspi (i n : Nat) : (s.coreLine i n).xspi = s.xspi := rfl
@[simp] theorem State.coreLine_ar (i n : Nat) : (s.coreLine i n).ar = s.ar := rfl
@[simp] theorem State.coreLine_pen (i n : Nat) : (s.coreLine i n).pen = s.pen := rfl
@[simp] theorem State.coreLine_uarts (i n : Nat) : (s.coreLine i n).uarts = s.uarts := rfl
@[simp] theorem State.coreLine_mon (i n : Nat) : (s.coreLine i n).mon = s.mon := rfl
@[simp] theorem State.coreLine_cp (i n : Nat) : (s.coreLine i n).cp = s.cp := rfl
@[simp] theorem State.coreLine_upd (i n : Nat) : (s.coreLine i n).upd = s.upd := rfl

-- setLatch
@[simp] theorem State.setLatch_pending (r a : Nat) (w : Word) : (s.setLatch r a w).pending = s.pending := rfl
@[simp] theorem State.setLatch_cycle (r a : Nat) (w : Word) : (s.setLatch r a w).cycle = s.cycle := rfl
@[simp] theorem State.setLatch_adcN (r a : Nat) (w : Word) : (s.setLatch r a w).adcN = s.adcN := rfl
@[simp] theorem State.setLatch_fresh (r a : Nat) (w : Word) : (s.setLatch r a w).fresh = s.fresh := rfl
@[simp] theorem State.setLatch_out (r a : Nat) (w : Word) : (s.setLatch r a w).out = s.out := rfl
@[simp] theorem State.setLatch_regs (r a : Nat) (w : Word) : (s.setLatch r a w).regs = s.regs := rfl
@[simp] theorem State.setLatch_snap (r a : Nat) (w : Word) : (s.setLatch r a w).snap = s.snap := rfl
@[simp] theorem State.setLatch_comb (r a : Nat) (w : Word) : (s.setLatch r a w).comb = s.comb := rfl
@[simp] theorem State.setLatch_ecc (r a : Nat) (w : Word) : (s.setLatch r a w).ecc = s.ecc := rfl
@[simp] theorem State.setLatch_sky (r a : Nat) (w : Word) : (s.setLatch r a w).sky = s.sky := rfl
@[simp] theorem State.setLatch_sched (r a : Nat) (w : Word) : (s.setLatch r a w).sched = s.sched := rfl
@[simp] theorem State.setLatch_schedBusy (r a : Nat) (w : Word) : (s.setLatch r a w).schedBusy = s.schedBusy := rfl
@[simp] theorem State.setLatch_cic (r a : Nat) (w : Word) : (s.setLatch r a w).cic = s.cic := rfl
@[simp] theorem State.setLatch_tio (r a : Nat) (w : Word) : (s.setLatch r a w).tio = s.tio := rfl
@[simp] theorem State.setLatch_tn (r a : Nat) (w : Word) : (s.setLatch r a w).tn = s.tn := rfl
@[simp] theorem State.setLatch_rf (r a : Nat) (w : Word) : (s.setLatch r a w).rf = s.rf := rfl
@[simp] theorem State.setLatch_sieve (r a : Nat) (w : Word) : (s.setLatch r a w).sieve = s.sieve := rfl
@[simp] theorem State.setLatch_hive (r a : Nat) (w : Word) : (s.setLatch r a w).hive = s.hive := rfl
@[simp] theorem State.setLatch_dfly (r a : Nat) (w : Word) : (s.setLatch r a w).dfly = s.dfly := rfl
@[simp] theorem State.setLatch_scarab (r a : Nat) (w : Word) : (s.setLatch r a w).scarab = s.scarab := rfl
@[simp] theorem State.setLatch_meas (r a : Nat) (w : Word) : (s.setLatch r a w).meas = s.meas := rfl
@[simp] theorem State.setLatch_wv (r a : Nat) (w : Word) : (s.setLatch r a w).wv = s.wv := rfl
@[simp] theorem State.setLatch_pwr (r a : Nat) (w : Word) : (s.setLatch r a w).pwr = s.pwr := rfl
@[simp] theorem State.setLatch_aon (r a : Nat) (w : Word) : (s.setLatch r a w).aon = s.aon := rfl
@[simp] theorem State.setLatch_fuses (r a : Nat) (w : Word) : (s.setLatch r a w).fuses = s.fuses := rfl
@[simp] theorem State.setLatch_boot (r a : Nat) (w : Word) : (s.setLatch r a w).boot = s.boot := rfl
@[simp] theorem State.setLatch_pcie (r a : Nat) (w : Word) : (s.setLatch r a w).pcie = s.pcie := rfl
@[simp] theorem State.setLatch_usb (r a : Nat) (w : Word) : (s.setLatch r a w).usb = s.usb := rfl
@[simp] theorem State.setLatch_spi (r a : Nat) (w : Word) : (s.setLatch r a w).spi = s.spi := rfl
@[simp] theorem State.setLatch_xspi (r a : Nat) (w : Word) : (s.setLatch r a w).xspi = s.xspi := rfl
@[simp] theorem State.setLatch_ar (r a : Nat) (w : Word) : (s.setLatch r a w).ar = s.ar := rfl
@[simp] theorem State.setLatch_pen (r a : Nat) (w : Word) : (s.setLatch r a w).pen = s.pen := rfl
@[simp] theorem State.setLatch_uarts (r a : Nat) (w : Word) : (s.setLatch r a w).uarts = s.uarts := rfl
@[simp] theorem State.setLatch_mon (r a : Nat) (w : Word) : (s.setLatch r a w).mon = s.mon := rfl
@[simp] theorem State.setLatch_cp (r a : Nat) (w : Word) : (s.setLatch r a w).cp = s.cp := rfl
@[simp] theorem State.setLatch_upd (r a : Nat) (w : Word) : (s.setLatch r a w).upd = s.upd := rfl

-- setEntry
@[simp] theorem State.setEntry_pending (i : Nat) (e : Entry) : (s.setEntry i e).pending = s.pending := rfl
@[simp] theorem State.setEntry_cycle (i : Nat) (e : Entry) : (s.setEntry i e).cycle = s.cycle := rfl
@[simp] theorem State.setEntry_adcN (i : Nat) (e : Entry) : (s.setEntry i e).adcN = s.adcN := rfl
@[simp] theorem State.setEntry_fresh (i : Nat) (e : Entry) : (s.setEntry i e).fresh = s.fresh := rfl
@[simp] theorem State.setEntry_out (i : Nat) (e : Entry) : (s.setEntry i e).out = s.out := rfl
@[simp] theorem State.setEntry_regs (i : Nat) (e : Entry) : (s.setEntry i e).regs = s.regs := rfl
@[simp] theorem State.setEntry_snap (i : Nat) (e : Entry) : (s.setEntry i e).snap = s.snap := rfl
@[simp] theorem State.setEntry_latch (i : Nat) (e : Entry) : (s.setEntry i e).latch = s.latch := rfl
@[simp] theorem State.setEntry_comb (i : Nat) (e : Entry) : (s.setEntry i e).comb = s.comb := rfl
@[simp] theorem State.setEntry_ecc (i : Nat) (e : Entry) : (s.setEntry i e).ecc = s.ecc := rfl
@[simp] theorem State.setEntry_sky (i : Nat) (e : Entry) : (s.setEntry i e).sky = s.sky := rfl
@[simp] theorem State.setEntry_schedBusy (i : Nat) (e : Entry) : (s.setEntry i e).schedBusy = s.schedBusy := rfl
@[simp] theorem State.setEntry_cic (i : Nat) (e : Entry) : (s.setEntry i e).cic = s.cic := rfl
@[simp] theorem State.setEntry_tio (i : Nat) (e : Entry) : (s.setEntry i e).tio = s.tio := rfl
@[simp] theorem State.setEntry_tn (i : Nat) (e : Entry) : (s.setEntry i e).tn = s.tn := rfl
@[simp] theorem State.setEntry_rf (i : Nat) (e : Entry) : (s.setEntry i e).rf = s.rf := rfl
@[simp] theorem State.setEntry_sieve (i : Nat) (e : Entry) : (s.setEntry i e).sieve = s.sieve := rfl
@[simp] theorem State.setEntry_hive (i : Nat) (e : Entry) : (s.setEntry i e).hive = s.hive := rfl
@[simp] theorem State.setEntry_dfly (i : Nat) (e : Entry) : (s.setEntry i e).dfly = s.dfly := rfl
@[simp] theorem State.setEntry_scarab (i : Nat) (e : Entry) : (s.setEntry i e).scarab = s.scarab := rfl
@[simp] theorem State.setEntry_meas (i : Nat) (e : Entry) : (s.setEntry i e).meas = s.meas := rfl
@[simp] theorem State.setEntry_wv (i : Nat) (e : Entry) : (s.setEntry i e).wv = s.wv := rfl
@[simp] theorem State.setEntry_pwr (i : Nat) (e : Entry) : (s.setEntry i e).pwr = s.pwr := rfl
@[simp] theorem State.setEntry_aon (i : Nat) (e : Entry) : (s.setEntry i e).aon = s.aon := rfl
@[simp] theorem State.setEntry_fuses (i : Nat) (e : Entry) : (s.setEntry i e).fuses = s.fuses := rfl
@[simp] theorem State.setEntry_boot (i : Nat) (e : Entry) : (s.setEntry i e).boot = s.boot := rfl
@[simp] theorem State.setEntry_pcie (i : Nat) (e : Entry) : (s.setEntry i e).pcie = s.pcie := rfl
@[simp] theorem State.setEntry_usb (i : Nat) (e : Entry) : (s.setEntry i e).usb = s.usb := rfl
@[simp] theorem State.setEntry_spi (i : Nat) (e : Entry) : (s.setEntry i e).spi = s.spi := rfl
@[simp] theorem State.setEntry_xspi (i : Nat) (e : Entry) : (s.setEntry i e).xspi = s.xspi := rfl
@[simp] theorem State.setEntry_ar (i : Nat) (e : Entry) : (s.setEntry i e).ar = s.ar := rfl
@[simp] theorem State.setEntry_pen (i : Nat) (e : Entry) : (s.setEntry i e).pen = s.pen := rfl
@[simp] theorem State.setEntry_uarts (i : Nat) (e : Entry) : (s.setEntry i e).uarts = s.uarts := rfl
@[simp] theorem State.setEntry_mon (i : Nat) (e : Entry) : (s.setEntry i e).mon = s.mon := rfl
@[simp] theorem State.setEntry_cp (i : Nat) (e : Entry) : (s.setEntry i e).cp = s.cp := rfl
@[simp] theorem State.setEntry_upd (i : Nat) (e : Entry) : (s.setEntry i e).upd = s.upd := rfl

-- setVote
@[simp] theorem State.setVote_pending (d c : Nat) (b : Bool) : (s.setVote d c b).pending = s.pending := rfl
@[simp] theorem State.setVote_cycle (d c : Nat) (b : Bool) : (s.setVote d c b).cycle = s.cycle := rfl
@[simp] theorem State.setVote_adcN (d c : Nat) (b : Bool) : (s.setVote d c b).adcN = s.adcN := rfl
@[simp] theorem State.setVote_fresh (d c : Nat) (b : Bool) : (s.setVote d c b).fresh = s.fresh := rfl
@[simp] theorem State.setVote_out (d c : Nat) (b : Bool) : (s.setVote d c b).out = s.out := rfl
@[simp] theorem State.setVote_regs (d c : Nat) (b : Bool) : (s.setVote d c b).regs = s.regs := rfl
@[simp] theorem State.setVote_snap (d c : Nat) (b : Bool) : (s.setVote d c b).snap = s.snap := rfl
@[simp] theorem State.setVote_latch (d c : Nat) (b : Bool) : (s.setVote d c b).latch = s.latch := rfl
@[simp] theorem State.setVote_comb (d c : Nat) (b : Bool) : (s.setVote d c b).comb = s.comb := rfl
@[simp] theorem State.setVote_ecc (d c : Nat) (b : Bool) : (s.setVote d c b).ecc = s.ecc := rfl
@[simp] theorem State.setVote_sky (d c : Nat) (b : Bool) : (s.setVote d c b).sky = s.sky := rfl
@[simp] theorem State.setVote_sched (d c : Nat) (b : Bool) : (s.setVote d c b).sched = s.sched := rfl
@[simp] theorem State.setVote_schedBusy (d c : Nat) (b : Bool) : (s.setVote d c b).schedBusy = s.schedBusy := rfl
@[simp] theorem State.setVote_cic (d c : Nat) (b : Bool) : (s.setVote d c b).cic = s.cic := rfl
@[simp] theorem State.setVote_tio (d c : Nat) (b : Bool) : (s.setVote d c b).tio = s.tio := rfl
@[simp] theorem State.setVote_tn (d c : Nat) (b : Bool) : (s.setVote d c b).tn = s.tn := rfl
@[simp] theorem State.setVote_rf (d c : Nat) (b : Bool) : (s.setVote d c b).rf = s.rf := rfl
@[simp] theorem State.setVote_sieve (d c : Nat) (b : Bool) : (s.setVote d c b).sieve = s.sieve := rfl
@[simp] theorem State.setVote_hive (d c : Nat) (b : Bool) : (s.setVote d c b).hive = s.hive := rfl
@[simp] theorem State.setVote_dfly (d c : Nat) (b : Bool) : (s.setVote d c b).dfly = s.dfly := rfl
@[simp] theorem State.setVote_scarab (d c : Nat) (b : Bool) : (s.setVote d c b).scarab = s.scarab := rfl
@[simp] theorem State.setVote_meas (d c : Nat) (b : Bool) : (s.setVote d c b).meas = s.meas := rfl
@[simp] theorem State.setVote_wv (d c : Nat) (b : Bool) : (s.setVote d c b).wv = s.wv := rfl
@[simp] theorem State.setVote_aon (d c : Nat) (b : Bool) : (s.setVote d c b).aon = s.aon := rfl
@[simp] theorem State.setVote_fuses (d c : Nat) (b : Bool) : (s.setVote d c b).fuses = s.fuses := rfl
@[simp] theorem State.setVote_boot (d c : Nat) (b : Bool) : (s.setVote d c b).boot = s.boot := rfl
@[simp] theorem State.setVote_pcie (d c : Nat) (b : Bool) : (s.setVote d c b).pcie = s.pcie := rfl
@[simp] theorem State.setVote_usb (d c : Nat) (b : Bool) : (s.setVote d c b).usb = s.usb := rfl
@[simp] theorem State.setVote_spi (d c : Nat) (b : Bool) : (s.setVote d c b).spi = s.spi := rfl
@[simp] theorem State.setVote_xspi (d c : Nat) (b : Bool) : (s.setVote d c b).xspi = s.xspi := rfl
@[simp] theorem State.setVote_ar (d c : Nat) (b : Bool) : (s.setVote d c b).ar = s.ar := rfl
@[simp] theorem State.setVote_pen (d c : Nat) (b : Bool) : (s.setVote d c b).pen = s.pen := rfl
@[simp] theorem State.setVote_uarts (d c : Nat) (b : Bool) : (s.setVote d c b).uarts = s.uarts := rfl
@[simp] theorem State.setVote_mon (d c : Nat) (b : Bool) : (s.setVote d c b).mon = s.mon := rfl
@[simp] theorem State.setVote_cp (d c : Nat) (b : Bool) : (s.setVote d c b).cp = s.cp := rfl
@[simp] theorem State.setVote_upd (d c : Nat) (b : Bool) : (s.setVote d c b).upd = s.upd := rfl

-- setTenant
@[simp] theorem State.setTenant_pending (n : Nat) (x : Tenant) : (s.setTenant n x).pending = s.pending := rfl
@[simp] theorem State.setTenant_cycle (n : Nat) (x : Tenant) : (s.setTenant n x).cycle = s.cycle := rfl
@[simp] theorem State.setTenant_adcN (n : Nat) (x : Tenant) : (s.setTenant n x).adcN = s.adcN := rfl
@[simp] theorem State.setTenant_fresh (n : Nat) (x : Tenant) : (s.setTenant n x).fresh = s.fresh := rfl
@[simp] theorem State.setTenant_out (n : Nat) (x : Tenant) : (s.setTenant n x).out = s.out := rfl
@[simp] theorem State.setTenant_regs (n : Nat) (x : Tenant) : (s.setTenant n x).regs = s.regs := rfl
@[simp] theorem State.setTenant_snap (n : Nat) (x : Tenant) : (s.setTenant n x).snap = s.snap := rfl
@[simp] theorem State.setTenant_latch (n : Nat) (x : Tenant) : (s.setTenant n x).latch = s.latch := rfl
@[simp] theorem State.setTenant_comb (n : Nat) (x : Tenant) : (s.setTenant n x).comb = s.comb := rfl
@[simp] theorem State.setTenant_ecc (n : Nat) (x : Tenant) : (s.setTenant n x).ecc = s.ecc := rfl
@[simp] theorem State.setTenant_sky (n : Nat) (x : Tenant) : (s.setTenant n x).sky = s.sky := rfl
@[simp] theorem State.setTenant_sched (n : Nat) (x : Tenant) : (s.setTenant n x).sched = s.sched := rfl
@[simp] theorem State.setTenant_schedBusy (n : Nat) (x : Tenant) : (s.setTenant n x).schedBusy = s.schedBusy := rfl
@[simp] theorem State.setTenant_cic (n : Nat) (x : Tenant) : (s.setTenant n x).cic = s.cic := rfl
@[simp] theorem State.setTenant_tio (n : Nat) (x : Tenant) : (s.setTenant n x).tio = s.tio := rfl
@[simp] theorem State.setTenant_rf (n : Nat) (x : Tenant) : (s.setTenant n x).rf = s.rf := rfl
@[simp] theorem State.setTenant_sieve (n : Nat) (x : Tenant) : (s.setTenant n x).sieve = s.sieve := rfl
@[simp] theorem State.setTenant_hive (n : Nat) (x : Tenant) : (s.setTenant n x).hive = s.hive := rfl
@[simp] theorem State.setTenant_dfly (n : Nat) (x : Tenant) : (s.setTenant n x).dfly = s.dfly := rfl
@[simp] theorem State.setTenant_scarab (n : Nat) (x : Tenant) : (s.setTenant n x).scarab = s.scarab := rfl
@[simp] theorem State.setTenant_meas (n : Nat) (x : Tenant) : (s.setTenant n x).meas = s.meas := rfl
@[simp] theorem State.setTenant_wv (n : Nat) (x : Tenant) : (s.setTenant n x).wv = s.wv := rfl
@[simp] theorem State.setTenant_pwr (n : Nat) (x : Tenant) : (s.setTenant n x).pwr = s.pwr := rfl
@[simp] theorem State.setTenant_aon (n : Nat) (x : Tenant) : (s.setTenant n x).aon = s.aon := rfl
@[simp] theorem State.setTenant_fuses (n : Nat) (x : Tenant) : (s.setTenant n x).fuses = s.fuses := rfl
@[simp] theorem State.setTenant_boot (n : Nat) (x : Tenant) : (s.setTenant n x).boot = s.boot := rfl
@[simp] theorem State.setTenant_pcie (n : Nat) (x : Tenant) : (s.setTenant n x).pcie = s.pcie := rfl
@[simp] theorem State.setTenant_usb (n : Nat) (x : Tenant) : (s.setTenant n x).usb = s.usb := rfl
@[simp] theorem State.setTenant_spi (n : Nat) (x : Tenant) : (s.setTenant n x).spi = s.spi := rfl
@[simp] theorem State.setTenant_xspi (n : Nat) (x : Tenant) : (s.setTenant n x).xspi = s.xspi := rfl
@[simp] theorem State.setTenant_ar (n : Nat) (x : Tenant) : (s.setTenant n x).ar = s.ar := rfl
@[simp] theorem State.setTenant_pen (n : Nat) (x : Tenant) : (s.setTenant n x).pen = s.pen := rfl
@[simp] theorem State.setTenant_uarts (n : Nat) (x : Tenant) : (s.setTenant n x).uarts = s.uarts := rfl
@[simp] theorem State.setTenant_mon (n : Nat) (x : Tenant) : (s.setTenant n x).mon = s.mon := rfl
@[simp] theorem State.setTenant_cp (n : Nat) (x : Tenant) : (s.setTenant n x).cp = s.cp := rfl
@[simp] theorem State.setTenant_upd (n : Nat) (x : Tenant) : (s.setTenant n x).upd = s.upd := rfl

-- putQueue
@[simp] theorem State.putQueue_pending (n : Nat) (q : Queue) : (s.putQueue n q).pending = s.pending := rfl
@[simp] theorem State.putQueue_cycle (n : Nat) (q : Queue) : (s.putQueue n q).cycle = s.cycle := rfl
@[simp] theorem State.putQueue_adcN (n : Nat) (q : Queue) : (s.putQueue n q).adcN = s.adcN := rfl
@[simp] theorem State.putQueue_fresh (n : Nat) (q : Queue) : (s.putQueue n q).fresh = s.fresh := rfl
@[simp] theorem State.putQueue_out (n : Nat) (q : Queue) : (s.putQueue n q).out = s.out := rfl
@[simp] theorem State.putQueue_regs (n : Nat) (q : Queue) : (s.putQueue n q).regs = s.regs := rfl
@[simp] theorem State.putQueue_snap (n : Nat) (q : Queue) : (s.putQueue n q).snap = s.snap := rfl
@[simp] theorem State.putQueue_latch (n : Nat) (q : Queue) : (s.putQueue n q).latch = s.latch := rfl
@[simp] theorem State.putQueue_comb (n : Nat) (q : Queue) : (s.putQueue n q).comb = s.comb := rfl
@[simp] theorem State.putQueue_ecc (n : Nat) (q : Queue) : (s.putQueue n q).ecc = s.ecc := rfl
@[simp] theorem State.putQueue_sky (n : Nat) (q : Queue) : (s.putQueue n q).sky = s.sky := rfl
@[simp] theorem State.putQueue_sched (n : Nat) (q : Queue) : (s.putQueue n q).sched = s.sched := rfl
@[simp] theorem State.putQueue_schedBusy (n : Nat) (q : Queue) : (s.putQueue n q).schedBusy = s.schedBusy := rfl
@[simp] theorem State.putQueue_cic (n : Nat) (q : Queue) : (s.putQueue n q).cic = s.cic := rfl
@[simp] theorem State.putQueue_tio (n : Nat) (q : Queue) : (s.putQueue n q).tio = s.tio := rfl
@[simp] theorem State.putQueue_rf (n : Nat) (q : Queue) : (s.putQueue n q).rf = s.rf := rfl
@[simp] theorem State.putQueue_sieve (n : Nat) (q : Queue) : (s.putQueue n q).sieve = s.sieve := rfl
@[simp] theorem State.putQueue_hive (n : Nat) (q : Queue) : (s.putQueue n q).hive = s.hive := rfl
@[simp] theorem State.putQueue_dfly (n : Nat) (q : Queue) : (s.putQueue n q).dfly = s.dfly := rfl
@[simp] theorem State.putQueue_scarab (n : Nat) (q : Queue) : (s.putQueue n q).scarab = s.scarab := rfl
@[simp] theorem State.putQueue_meas (n : Nat) (q : Queue) : (s.putQueue n q).meas = s.meas := rfl
@[simp] theorem State.putQueue_wv (n : Nat) (q : Queue) : (s.putQueue n q).wv = s.wv := rfl
@[simp] theorem State.putQueue_pwr (n : Nat) (q : Queue) : (s.putQueue n q).pwr = s.pwr := rfl
@[simp] theorem State.putQueue_aon (n : Nat) (q : Queue) : (s.putQueue n q).aon = s.aon := rfl
@[simp] theorem State.putQueue_fuses (n : Nat) (q : Queue) : (s.putQueue n q).fuses = s.fuses := rfl
@[simp] theorem State.putQueue_boot (n : Nat) (q : Queue) : (s.putQueue n q).boot = s.boot := rfl
@[simp] theorem State.putQueue_pcie (n : Nat) (q : Queue) : (s.putQueue n q).pcie = s.pcie := rfl
@[simp] theorem State.putQueue_usb (n : Nat) (q : Queue) : (s.putQueue n q).usb = s.usb := rfl
@[simp] theorem State.putQueue_spi (n : Nat) (q : Queue) : (s.putQueue n q).spi = s.spi := rfl
@[simp] theorem State.putQueue_xspi (n : Nat) (q : Queue) : (s.putQueue n q).xspi = s.xspi := rfl
@[simp] theorem State.putQueue_ar (n : Nat) (q : Queue) : (s.putQueue n q).ar = s.ar := rfl
@[simp] theorem State.putQueue_pen (n : Nat) (q : Queue) : (s.putQueue n q).pen = s.pen := rfl
@[simp] theorem State.putQueue_uarts (n : Nat) (q : Queue) : (s.putQueue n q).uarts = s.uarts := rfl
@[simp] theorem State.putQueue_mon (n : Nat) (q : Queue) : (s.putQueue n q).mon = s.mon := rfl
@[simp] theorem State.putQueue_cp (n : Nat) (q : Queue) : (s.putQueue n q).cp = s.cp := rfl
@[simp] theorem State.putQueue_upd (n : Nat) (q : Queue) : (s.putQueue n q).upd = s.upd := rfl

-- setChan
@[simp] theorem State.setChan_pending (ch : Nat) (c : ChanSt) : (s.setChan ch c).pending = s.pending := rfl
@[simp] theorem State.setChan_cycle (ch : Nat) (c : ChanSt) : (s.setChan ch c).cycle = s.cycle := rfl
@[simp] theorem State.setChan_adcN (ch : Nat) (c : ChanSt) : (s.setChan ch c).adcN = s.adcN := rfl
@[simp] theorem State.setChan_fresh (ch : Nat) (c : ChanSt) : (s.setChan ch c).fresh = s.fresh := rfl
@[simp] theorem State.setChan_out (ch : Nat) (c : ChanSt) : (s.setChan ch c).out = s.out := rfl
@[simp] theorem State.setChan_regs (ch : Nat) (c : ChanSt) : (s.setChan ch c).regs = s.regs := rfl
@[simp] theorem State.setChan_snap (ch : Nat) (c : ChanSt) : (s.setChan ch c).snap = s.snap := rfl
@[simp] theorem State.setChan_latch (ch : Nat) (c : ChanSt) : (s.setChan ch c).latch = s.latch := rfl
@[simp] theorem State.setChan_comb (ch : Nat) (c : ChanSt) : (s.setChan ch c).comb = s.comb := rfl
@[simp] theorem State.setChan_ecc (ch : Nat) (c : ChanSt) : (s.setChan ch c).ecc = s.ecc := rfl
@[simp] theorem State.setChan_sky (ch : Nat) (c : ChanSt) : (s.setChan ch c).sky = s.sky := rfl
@[simp] theorem State.setChan_sched (ch : Nat) (c : ChanSt) : (s.setChan ch c).sched = s.sched := rfl
@[simp] theorem State.setChan_schedBusy (ch : Nat) (c : ChanSt) : (s.setChan ch c).schedBusy = s.schedBusy := rfl
@[simp] theorem State.setChan_cic (ch : Nat) (c : ChanSt) : (s.setChan ch c).cic = s.cic := rfl
@[simp] theorem State.setChan_tio (ch : Nat) (c : ChanSt) : (s.setChan ch c).tio = s.tio := rfl
@[simp] theorem State.setChan_tn (ch : Nat) (c : ChanSt) : (s.setChan ch c).tn = s.tn := rfl
@[simp] theorem State.setChan_rf (ch : Nat) (c : ChanSt) : (s.setChan ch c).rf = s.rf := rfl
@[simp] theorem State.setChan_sieve (ch : Nat) (c : ChanSt) : (s.setChan ch c).sieve = s.sieve := rfl
@[simp] theorem State.setChan_dfly (ch : Nat) (c : ChanSt) : (s.setChan ch c).dfly = s.dfly := rfl
@[simp] theorem State.setChan_scarab (ch : Nat) (c : ChanSt) : (s.setChan ch c).scarab = s.scarab := rfl
@[simp] theorem State.setChan_meas (ch : Nat) (c : ChanSt) : (s.setChan ch c).meas = s.meas := rfl
@[simp] theorem State.setChan_wv (ch : Nat) (c : ChanSt) : (s.setChan ch c).wv = s.wv := rfl
@[simp] theorem State.setChan_pwr (ch : Nat) (c : ChanSt) : (s.setChan ch c).pwr = s.pwr := rfl
@[simp] theorem State.setChan_aon (ch : Nat) (c : ChanSt) : (s.setChan ch c).aon = s.aon := rfl
@[simp] theorem State.setChan_fuses (ch : Nat) (c : ChanSt) : (s.setChan ch c).fuses = s.fuses := rfl
@[simp] theorem State.setChan_boot (ch : Nat) (c : ChanSt) : (s.setChan ch c).boot = s.boot := rfl
@[simp] theorem State.setChan_pcie (ch : Nat) (c : ChanSt) : (s.setChan ch c).pcie = s.pcie := rfl
@[simp] theorem State.setChan_usb (ch : Nat) (c : ChanSt) : (s.setChan ch c).usb = s.usb := rfl
@[simp] theorem State.setChan_spi (ch : Nat) (c : ChanSt) : (s.setChan ch c).spi = s.spi := rfl
@[simp] theorem State.setChan_xspi (ch : Nat) (c : ChanSt) : (s.setChan ch c).xspi = s.xspi := rfl
@[simp] theorem State.setChan_ar (ch : Nat) (c : ChanSt) : (s.setChan ch c).ar = s.ar := rfl
@[simp] theorem State.setChan_pen (ch : Nat) (c : ChanSt) : (s.setChan ch c).pen = s.pen := rfl
@[simp] theorem State.setChan_uarts (ch : Nat) (c : ChanSt) : (s.setChan ch c).uarts = s.uarts := rfl
@[simp] theorem State.setChan_mon (ch : Nat) (c : ChanSt) : (s.setChan ch c).mon = s.mon := rfl
@[simp] theorem State.setChan_cp (ch : Nat) (c : ChanSt) : (s.setChan ch c).cp = s.cp := rfl
@[simp] theorem State.setChan_upd (ch : Nat) (c : ChanSt) : (s.setChan ch c).upd = s.upd := rfl

-- setStr
@[simp] theorem State.setStr_pending (m : Nat) (x : StrSt) : (s.setStr m x).pending = s.pending := rfl
@[simp] theorem State.setStr_cycle (m : Nat) (x : StrSt) : (s.setStr m x).cycle = s.cycle := rfl
@[simp] theorem State.setStr_adcN (m : Nat) (x : StrSt) : (s.setStr m x).adcN = s.adcN := rfl
@[simp] theorem State.setStr_fresh (m : Nat) (x : StrSt) : (s.setStr m x).fresh = s.fresh := rfl
@[simp] theorem State.setStr_out (m : Nat) (x : StrSt) : (s.setStr m x).out = s.out := rfl
@[simp] theorem State.setStr_regs (m : Nat) (x : StrSt) : (s.setStr m x).regs = s.regs := rfl
@[simp] theorem State.setStr_snap (m : Nat) (x : StrSt) : (s.setStr m x).snap = s.snap := rfl
@[simp] theorem State.setStr_latch (m : Nat) (x : StrSt) : (s.setStr m x).latch = s.latch := rfl
@[simp] theorem State.setStr_comb (m : Nat) (x : StrSt) : (s.setStr m x).comb = s.comb := rfl
@[simp] theorem State.setStr_ecc (m : Nat) (x : StrSt) : (s.setStr m x).ecc = s.ecc := rfl
@[simp] theorem State.setStr_sky (m : Nat) (x : StrSt) : (s.setStr m x).sky = s.sky := rfl
@[simp] theorem State.setStr_sched (m : Nat) (x : StrSt) : (s.setStr m x).sched = s.sched := rfl
@[simp] theorem State.setStr_schedBusy (m : Nat) (x : StrSt) : (s.setStr m x).schedBusy = s.schedBusy := rfl
@[simp] theorem State.setStr_cic (m : Nat) (x : StrSt) : (s.setStr m x).cic = s.cic := rfl
@[simp] theorem State.setStr_tio (m : Nat) (x : StrSt) : (s.setStr m x).tio = s.tio := rfl
@[simp] theorem State.setStr_tn (m : Nat) (x : StrSt) : (s.setStr m x).tn = s.tn := rfl
@[simp] theorem State.setStr_rf (m : Nat) (x : StrSt) : (s.setStr m x).rf = s.rf := rfl
@[simp] theorem State.setStr_hive (m : Nat) (x : StrSt) : (s.setStr m x).hive = s.hive := rfl
@[simp] theorem State.setStr_dfly (m : Nat) (x : StrSt) : (s.setStr m x).dfly = s.dfly := rfl
@[simp] theorem State.setStr_scarab (m : Nat) (x : StrSt) : (s.setStr m x).scarab = s.scarab := rfl
@[simp] theorem State.setStr_meas (m : Nat) (x : StrSt) : (s.setStr m x).meas = s.meas := rfl
@[simp] theorem State.setStr_wv (m : Nat) (x : StrSt) : (s.setStr m x).wv = s.wv := rfl
@[simp] theorem State.setStr_pwr (m : Nat) (x : StrSt) : (s.setStr m x).pwr = s.pwr := rfl
@[simp] theorem State.setStr_aon (m : Nat) (x : StrSt) : (s.setStr m x).aon = s.aon := rfl
@[simp] theorem State.setStr_fuses (m : Nat) (x : StrSt) : (s.setStr m x).fuses = s.fuses := rfl
@[simp] theorem State.setStr_boot (m : Nat) (x : StrSt) : (s.setStr m x).boot = s.boot := rfl
@[simp] theorem State.setStr_pcie (m : Nat) (x : StrSt) : (s.setStr m x).pcie = s.pcie := rfl
@[simp] theorem State.setStr_usb (m : Nat) (x : StrSt) : (s.setStr m x).usb = s.usb := rfl
@[simp] theorem State.setStr_spi (m : Nat) (x : StrSt) : (s.setStr m x).spi = s.spi := rfl
@[simp] theorem State.setStr_xspi (m : Nat) (x : StrSt) : (s.setStr m x).xspi = s.xspi := rfl
@[simp] theorem State.setStr_ar (m : Nat) (x : StrSt) : (s.setStr m x).ar = s.ar := rfl
@[simp] theorem State.setStr_pen (m : Nat) (x : StrSt) : (s.setStr m x).pen = s.pen := rfl
@[simp] theorem State.setStr_uarts (m : Nat) (x : StrSt) : (s.setStr m x).uarts = s.uarts := rfl
@[simp] theorem State.setStr_mon (m : Nat) (x : StrSt) : (s.setStr m x).mon = s.mon := rfl
@[simp] theorem State.setStr_cp (m : Nat) (x : StrSt) : (s.setStr m x).cp = s.cp := rfl
@[simp] theorem State.setStr_upd (m : Nat) (x : StrSt) : (s.setStr m x).upd = s.upd := rfl

-- setLane
@[simp] theorem State.setLane_pending (p : Nat) (x : LaneSt) : (s.setLane p x).pending = s.pending := rfl
@[simp] theorem State.setLane_cycle (p : Nat) (x : LaneSt) : (s.setLane p x).cycle = s.cycle := rfl
@[simp] theorem State.setLane_adcN (p : Nat) (x : LaneSt) : (s.setLane p x).adcN = s.adcN := rfl
@[simp] theorem State.setLane_fresh (p : Nat) (x : LaneSt) : (s.setLane p x).fresh = s.fresh := rfl
@[simp] theorem State.setLane_out (p : Nat) (x : LaneSt) : (s.setLane p x).out = s.out := rfl
@[simp] theorem State.setLane_regs (p : Nat) (x : LaneSt) : (s.setLane p x).regs = s.regs := rfl
@[simp] theorem State.setLane_snap (p : Nat) (x : LaneSt) : (s.setLane p x).snap = s.snap := rfl
@[simp] theorem State.setLane_latch (p : Nat) (x : LaneSt) : (s.setLane p x).latch = s.latch := rfl
@[simp] theorem State.setLane_comb (p : Nat) (x : LaneSt) : (s.setLane p x).comb = s.comb := rfl
@[simp] theorem State.setLane_ecc (p : Nat) (x : LaneSt) : (s.setLane p x).ecc = s.ecc := rfl
@[simp] theorem State.setLane_sky (p : Nat) (x : LaneSt) : (s.setLane p x).sky = s.sky := rfl
@[simp] theorem State.setLane_sched (p : Nat) (x : LaneSt) : (s.setLane p x).sched = s.sched := rfl
@[simp] theorem State.setLane_schedBusy (p : Nat) (x : LaneSt) : (s.setLane p x).schedBusy = s.schedBusy := rfl
@[simp] theorem State.setLane_cic (p : Nat) (x : LaneSt) : (s.setLane p x).cic = s.cic := rfl
@[simp] theorem State.setLane_tio (p : Nat) (x : LaneSt) : (s.setLane p x).tio = s.tio := rfl
@[simp] theorem State.setLane_tn (p : Nat) (x : LaneSt) : (s.setLane p x).tn = s.tn := rfl
@[simp] theorem State.setLane_rf (p : Nat) (x : LaneSt) : (s.setLane p x).rf = s.rf := rfl
@[simp] theorem State.setLane_hive (p : Nat) (x : LaneSt) : (s.setLane p x).hive = s.hive := rfl
@[simp] theorem State.setLane_dfly (p : Nat) (x : LaneSt) : (s.setLane p x).dfly = s.dfly := rfl
@[simp] theorem State.setLane_scarab (p : Nat) (x : LaneSt) : (s.setLane p x).scarab = s.scarab := rfl
@[simp] theorem State.setLane_meas (p : Nat) (x : LaneSt) : (s.setLane p x).meas = s.meas := rfl
@[simp] theorem State.setLane_wv (p : Nat) (x : LaneSt) : (s.setLane p x).wv = s.wv := rfl
@[simp] theorem State.setLane_pwr (p : Nat) (x : LaneSt) : (s.setLane p x).pwr = s.pwr := rfl
@[simp] theorem State.setLane_aon (p : Nat) (x : LaneSt) : (s.setLane p x).aon = s.aon := rfl
@[simp] theorem State.setLane_fuses (p : Nat) (x : LaneSt) : (s.setLane p x).fuses = s.fuses := rfl
@[simp] theorem State.setLane_boot (p : Nat) (x : LaneSt) : (s.setLane p x).boot = s.boot := rfl
@[simp] theorem State.setLane_pcie (p : Nat) (x : LaneSt) : (s.setLane p x).pcie = s.pcie := rfl
@[simp] theorem State.setLane_usb (p : Nat) (x : LaneSt) : (s.setLane p x).usb = s.usb := rfl
@[simp] theorem State.setLane_spi (p : Nat) (x : LaneSt) : (s.setLane p x).spi = s.spi := rfl
@[simp] theorem State.setLane_xspi (p : Nat) (x : LaneSt) : (s.setLane p x).xspi = s.xspi := rfl
@[simp] theorem State.setLane_ar (p : Nat) (x : LaneSt) : (s.setLane p x).ar = s.ar := rfl
@[simp] theorem State.setLane_pen (p : Nat) (x : LaneSt) : (s.setLane p x).pen = s.pen := rfl
@[simp] theorem State.setLane_uarts (p : Nat) (x : LaneSt) : (s.setLane p x).uarts = s.uarts := rfl
@[simp] theorem State.setLane_mon (p : Nat) (x : LaneSt) : (s.setLane p x).mon = s.mon := rfl
@[simp] theorem State.setLane_cp (p : Nat) (x : LaneSt) : (s.setLane p x).cp = s.cp := rfl
@[simp] theorem State.setLane_upd (p : Nat) (x : LaneSt) : (s.setLane p x).upd = s.upd := rfl

-- setPenPort
@[simp] theorem State.setPenPort_pending (w : Nat) (x : PenPort) : (s.setPenPort w x).pending = s.pending := rfl
@[simp] theorem State.setPenPort_cycle (w : Nat) (x : PenPort) : (s.setPenPort w x).cycle = s.cycle := rfl
@[simp] theorem State.setPenPort_adcN (w : Nat) (x : PenPort) : (s.setPenPort w x).adcN = s.adcN := rfl
@[simp] theorem State.setPenPort_fresh (w : Nat) (x : PenPort) : (s.setPenPort w x).fresh = s.fresh := rfl
@[simp] theorem State.setPenPort_out (w : Nat) (x : PenPort) : (s.setPenPort w x).out = s.out := rfl
@[simp] theorem State.setPenPort_regs (w : Nat) (x : PenPort) : (s.setPenPort w x).regs = s.regs := rfl
@[simp] theorem State.setPenPort_snap (w : Nat) (x : PenPort) : (s.setPenPort w x).snap = s.snap := rfl
@[simp] theorem State.setPenPort_latch (w : Nat) (x : PenPort) : (s.setPenPort w x).latch = s.latch := rfl
@[simp] theorem State.setPenPort_comb (w : Nat) (x : PenPort) : (s.setPenPort w x).comb = s.comb := rfl
@[simp] theorem State.setPenPort_ecc (w : Nat) (x : PenPort) : (s.setPenPort w x).ecc = s.ecc := rfl
@[simp] theorem State.setPenPort_sky (w : Nat) (x : PenPort) : (s.setPenPort w x).sky = s.sky := rfl
@[simp] theorem State.setPenPort_sched (w : Nat) (x : PenPort) : (s.setPenPort w x).sched = s.sched := rfl
@[simp] theorem State.setPenPort_schedBusy (w : Nat) (x : PenPort) : (s.setPenPort w x).schedBusy = s.schedBusy := rfl
@[simp] theorem State.setPenPort_cic (w : Nat) (x : PenPort) : (s.setPenPort w x).cic = s.cic := rfl
@[simp] theorem State.setPenPort_tio (w : Nat) (x : PenPort) : (s.setPenPort w x).tio = s.tio := rfl
@[simp] theorem State.setPenPort_tn (w : Nat) (x : PenPort) : (s.setPenPort w x).tn = s.tn := rfl
@[simp] theorem State.setPenPort_rf (w : Nat) (x : PenPort) : (s.setPenPort w x).rf = s.rf := rfl
@[simp] theorem State.setPenPort_sieve (w : Nat) (x : PenPort) : (s.setPenPort w x).sieve = s.sieve := rfl
@[simp] theorem State.setPenPort_hive (w : Nat) (x : PenPort) : (s.setPenPort w x).hive = s.hive := rfl
@[simp] theorem State.setPenPort_dfly (w : Nat) (x : PenPort) : (s.setPenPort w x).dfly = s.dfly := rfl
@[simp] theorem State.setPenPort_scarab (w : Nat) (x : PenPort) : (s.setPenPort w x).scarab = s.scarab := rfl
@[simp] theorem State.setPenPort_meas (w : Nat) (x : PenPort) : (s.setPenPort w x).meas = s.meas := rfl
@[simp] theorem State.setPenPort_wv (w : Nat) (x : PenPort) : (s.setPenPort w x).wv = s.wv := rfl
@[simp] theorem State.setPenPort_pwr (w : Nat) (x : PenPort) : (s.setPenPort w x).pwr = s.pwr := rfl
@[simp] theorem State.setPenPort_aon (w : Nat) (x : PenPort) : (s.setPenPort w x).aon = s.aon := rfl
@[simp] theorem State.setPenPort_fuses (w : Nat) (x : PenPort) : (s.setPenPort w x).fuses = s.fuses := rfl
@[simp] theorem State.setPenPort_boot (w : Nat) (x : PenPort) : (s.setPenPort w x).boot = s.boot := rfl
@[simp] theorem State.setPenPort_pcie (w : Nat) (x : PenPort) : (s.setPenPort w x).pcie = s.pcie := rfl
@[simp] theorem State.setPenPort_usb (w : Nat) (x : PenPort) : (s.setPenPort w x).usb = s.usb := rfl
@[simp] theorem State.setPenPort_spi (w : Nat) (x : PenPort) : (s.setPenPort w x).spi = s.spi := rfl
@[simp] theorem State.setPenPort_xspi (w : Nat) (x : PenPort) : (s.setPenPort w x).xspi = s.xspi := rfl
@[simp] theorem State.setPenPort_ar (w : Nat) (x : PenPort) : (s.setPenPort w x).ar = s.ar := rfl
@[simp] theorem State.setPenPort_uarts (w : Nat) (x : PenPort) : (s.setPenPort w x).uarts = s.uarts := rfl
@[simp] theorem State.setPenPort_mon (w : Nat) (x : PenPort) : (s.setPenPort w x).mon = s.mon := rfl
@[simp] theorem State.setPenPort_cp (w : Nat) (x : PenPort) : (s.setPenPort w x).cp = s.cp := rfl
@[simp] theorem State.setPenPort_upd (w : Nat) (x : PenPort) : (s.setPenPort w x).upd = s.upd := rfl

-- setUart
@[simp] theorem State.setUart_pending (u : Nat) (x : UartSt) : (s.setUart u x).pending = s.pending := rfl
@[simp] theorem State.setUart_cycle (u : Nat) (x : UartSt) : (s.setUart u x).cycle = s.cycle := rfl
@[simp] theorem State.setUart_adcN (u : Nat) (x : UartSt) : (s.setUart u x).adcN = s.adcN := rfl
@[simp] theorem State.setUart_fresh (u : Nat) (x : UartSt) : (s.setUart u x).fresh = s.fresh := rfl
@[simp] theorem State.setUart_out (u : Nat) (x : UartSt) : (s.setUart u x).out = s.out := rfl
@[simp] theorem State.setUart_regs (u : Nat) (x : UartSt) : (s.setUart u x).regs = s.regs := rfl
@[simp] theorem State.setUart_snap (u : Nat) (x : UartSt) : (s.setUart u x).snap = s.snap := rfl
@[simp] theorem State.setUart_latch (u : Nat) (x : UartSt) : (s.setUart u x).latch = s.latch := rfl
@[simp] theorem State.setUart_comb (u : Nat) (x : UartSt) : (s.setUart u x).comb = s.comb := rfl
@[simp] theorem State.setUart_ecc (u : Nat) (x : UartSt) : (s.setUart u x).ecc = s.ecc := rfl
@[simp] theorem State.setUart_sky (u : Nat) (x : UartSt) : (s.setUart u x).sky = s.sky := rfl
@[simp] theorem State.setUart_sched (u : Nat) (x : UartSt) : (s.setUart u x).sched = s.sched := rfl
@[simp] theorem State.setUart_schedBusy (u : Nat) (x : UartSt) : (s.setUart u x).schedBusy = s.schedBusy := rfl
@[simp] theorem State.setUart_cic (u : Nat) (x : UartSt) : (s.setUart u x).cic = s.cic := rfl
@[simp] theorem State.setUart_tio (u : Nat) (x : UartSt) : (s.setUart u x).tio = s.tio := rfl
@[simp] theorem State.setUart_tn (u : Nat) (x : UartSt) : (s.setUart u x).tn = s.tn := rfl
@[simp] theorem State.setUart_rf (u : Nat) (x : UartSt) : (s.setUart u x).rf = s.rf := rfl
@[simp] theorem State.setUart_sieve (u : Nat) (x : UartSt) : (s.setUart u x).sieve = s.sieve := rfl
@[simp] theorem State.setUart_hive (u : Nat) (x : UartSt) : (s.setUart u x).hive = s.hive := rfl
@[simp] theorem State.setUart_dfly (u : Nat) (x : UartSt) : (s.setUart u x).dfly = s.dfly := rfl
@[simp] theorem State.setUart_scarab (u : Nat) (x : UartSt) : (s.setUart u x).scarab = s.scarab := rfl
@[simp] theorem State.setUart_meas (u : Nat) (x : UartSt) : (s.setUart u x).meas = s.meas := rfl
@[simp] theorem State.setUart_wv (u : Nat) (x : UartSt) : (s.setUart u x).wv = s.wv := rfl
@[simp] theorem State.setUart_pwr (u : Nat) (x : UartSt) : (s.setUart u x).pwr = s.pwr := rfl
@[simp] theorem State.setUart_aon (u : Nat) (x : UartSt) : (s.setUart u x).aon = s.aon := rfl
@[simp] theorem State.setUart_fuses (u : Nat) (x : UartSt) : (s.setUart u x).fuses = s.fuses := rfl
@[simp] theorem State.setUart_boot (u : Nat) (x : UartSt) : (s.setUart u x).boot = s.boot := rfl
@[simp] theorem State.setUart_pcie (u : Nat) (x : UartSt) : (s.setUart u x).pcie = s.pcie := rfl
@[simp] theorem State.setUart_usb (u : Nat) (x : UartSt) : (s.setUart u x).usb = s.usb := rfl
@[simp] theorem State.setUart_spi (u : Nat) (x : UartSt) : (s.setUart u x).spi = s.spi := rfl
@[simp] theorem State.setUart_xspi (u : Nat) (x : UartSt) : (s.setUart u x).xspi = s.xspi := rfl
@[simp] theorem State.setUart_ar (u : Nat) (x : UartSt) : (s.setUart u x).ar = s.ar := rfl
@[simp] theorem State.setUart_pen (u : Nat) (x : UartSt) : (s.setUart u x).pen = s.pen := rfl
@[simp] theorem State.setUart_mon (u : Nat) (x : UartSt) : (s.setUart u x).mon = s.mon := rfl
@[simp] theorem State.setUart_cp (u : Nat) (x : UartSt) : (s.setUart u x).cp = s.cp := rfl
@[simp] theorem State.setUart_upd (u : Nat) (x : UartSt) : (s.setUart u x).upd = s.upd := rfl

-- setCoreWait
@[simp] theorem State.setCoreWait_pending (c : Core) (t : Option Nat) : (s.setCoreWait c t).pending = s.pending := rfl
@[simp] theorem State.setCoreWait_cycle (c : Core) (t : Option Nat) : (s.setCoreWait c t).cycle = s.cycle := rfl
@[simp] theorem State.setCoreWait_adcN (c : Core) (t : Option Nat) : (s.setCoreWait c t).adcN = s.adcN := rfl
@[simp] theorem State.setCoreWait_fresh (c : Core) (t : Option Nat) : (s.setCoreWait c t).fresh = s.fresh := rfl
@[simp] theorem State.setCoreWait_out (c : Core) (t : Option Nat) : (s.setCoreWait c t).out = s.out := rfl
@[simp] theorem State.setCoreWait_regs (c : Core) (t : Option Nat) : (s.setCoreWait c t).regs = s.regs := rfl
@[simp] theorem State.setCoreWait_snap (c : Core) (t : Option Nat) : (s.setCoreWait c t).snap = s.snap := rfl
@[simp] theorem State.setCoreWait_latch (c : Core) (t : Option Nat) : (s.setCoreWait c t).latch = s.latch := rfl
@[simp] theorem State.setCoreWait_comb (c : Core) (t : Option Nat) : (s.setCoreWait c t).comb = s.comb := rfl
@[simp] theorem State.setCoreWait_ecc (c : Core) (t : Option Nat) : (s.setCoreWait c t).ecc = s.ecc := rfl
@[simp] theorem State.setCoreWait_sky (c : Core) (t : Option Nat) : (s.setCoreWait c t).sky = s.sky := rfl
@[simp] theorem State.setCoreWait_sched (c : Core) (t : Option Nat) : (s.setCoreWait c t).sched = s.sched := rfl
@[simp] theorem State.setCoreWait_schedBusy (c : Core) (t : Option Nat) : (s.setCoreWait c t).schedBusy = s.schedBusy := rfl
@[simp] theorem State.setCoreWait_cic (c : Core) (t : Option Nat) : (s.setCoreWait c t).cic = s.cic := rfl
@[simp] theorem State.setCoreWait_tio (c : Core) (t : Option Nat) : (s.setCoreWait c t).tio = s.tio := rfl
@[simp] theorem State.setCoreWait_rf (c : Core) (t : Option Nat) : (s.setCoreWait c t).rf = s.rf := rfl
@[simp] theorem State.setCoreWait_sieve (c : Core) (t : Option Nat) : (s.setCoreWait c t).sieve = s.sieve := rfl
@[simp] theorem State.setCoreWait_hive (c : Core) (t : Option Nat) : (s.setCoreWait c t).hive = s.hive := rfl
@[simp] theorem State.setCoreWait_dfly (c : Core) (t : Option Nat) : (s.setCoreWait c t).dfly = s.dfly := rfl
@[simp] theorem State.setCoreWait_scarab (c : Core) (t : Option Nat) : (s.setCoreWait c t).scarab = s.scarab := rfl
@[simp] theorem State.setCoreWait_meas (c : Core) (t : Option Nat) : (s.setCoreWait c t).meas = s.meas := rfl
@[simp] theorem State.setCoreWait_wv (c : Core) (t : Option Nat) : (s.setCoreWait c t).wv = s.wv := rfl
@[simp] theorem State.setCoreWait_pwr (c : Core) (t : Option Nat) : (s.setCoreWait c t).pwr = s.pwr := rfl
@[simp] theorem State.setCoreWait_aon (c : Core) (t : Option Nat) : (s.setCoreWait c t).aon = s.aon := rfl
@[simp] theorem State.setCoreWait_fuses (c : Core) (t : Option Nat) : (s.setCoreWait c t).fuses = s.fuses := rfl
@[simp] theorem State.setCoreWait_boot (c : Core) (t : Option Nat) : (s.setCoreWait c t).boot = s.boot := rfl
@[simp] theorem State.setCoreWait_pcie (c : Core) (t : Option Nat) : (s.setCoreWait c t).pcie = s.pcie := rfl
@[simp] theorem State.setCoreWait_usb (c : Core) (t : Option Nat) : (s.setCoreWait c t).usb = s.usb := rfl
@[simp] theorem State.setCoreWait_spi (c : Core) (t : Option Nat) : (s.setCoreWait c t).spi = s.spi := rfl
@[simp] theorem State.setCoreWait_xspi (c : Core) (t : Option Nat) : (s.setCoreWait c t).xspi = s.xspi := rfl
@[simp] theorem State.setCoreWait_ar (c : Core) (t : Option Nat) : (s.setCoreWait c t).ar = s.ar := rfl
@[simp] theorem State.setCoreWait_pen (c : Core) (t : Option Nat) : (s.setCoreWait c t).pen = s.pen := rfl
@[simp] theorem State.setCoreWait_uarts (c : Core) (t : Option Nat) : (s.setCoreWait c t).uarts = s.uarts := rfl
@[simp] theorem State.setCoreWait_mon (c : Core) (t : Option Nat) : (s.setCoreWait c t).mon = s.mon := rfl
@[simp] theorem State.setCoreWait_cp (c : Core) (t : Option Nat) : (s.setCoreWait c t).cp = s.cp := rfl
@[simp] theorem State.setCoreWait_upd (c : Core) (t : Option Nat) : (s.setCoreWait c t).upd = s.upd := rfl

-- rest
@[simp] theorem State.rest_adcN (q : List Instr) : (s.rest q).adcN = s.adcN := rfl
@[simp] theorem State.rest_fresh (q : List Instr) : (s.rest q).fresh = s.fresh := rfl
@[simp] theorem State.rest_out (q : List Instr) : (s.rest q).out = s.out := rfl
@[simp] theorem State.rest_regs (q : List Instr) : (s.rest q).regs = s.regs := rfl
@[simp] theorem State.rest_snap (q : List Instr) : (s.rest q).snap = s.snap := rfl
@[simp] theorem State.rest_latch (q : List Instr) : (s.rest q).latch = s.latch := rfl
@[simp] theorem State.rest_comb (q : List Instr) : (s.rest q).comb = s.comb := rfl
@[simp] theorem State.rest_ecc (q : List Instr) : (s.rest q).ecc = s.ecc := rfl
@[simp] theorem State.rest_sky (q : List Instr) : (s.rest q).sky = s.sky := rfl
@[simp] theorem State.rest_sched (q : List Instr) : (s.rest q).sched = s.sched := rfl
@[simp] theorem State.rest_schedBusy (q : List Instr) : (s.rest q).schedBusy = s.schedBusy := rfl
@[simp] theorem State.rest_cic (q : List Instr) : (s.rest q).cic = s.cic := rfl
@[simp] theorem State.rest_tio (q : List Instr) : (s.rest q).tio = s.tio := rfl
@[simp] theorem State.rest_tn (q : List Instr) : (s.rest q).tn = s.tn := rfl
@[simp] theorem State.rest_rf (q : List Instr) : (s.rest q).rf = s.rf := rfl
@[simp] theorem State.rest_sieve (q : List Instr) : (s.rest q).sieve = s.sieve := rfl
@[simp] theorem State.rest_hive (q : List Instr) : (s.rest q).hive = s.hive := rfl
@[simp] theorem State.rest_dfly (q : List Instr) : (s.rest q).dfly = s.dfly := rfl
@[simp] theorem State.rest_scarab (q : List Instr) : (s.rest q).scarab = s.scarab := rfl
@[simp] theorem State.rest_meas (q : List Instr) : (s.rest q).meas = s.meas := rfl
@[simp] theorem State.rest_wv (q : List Instr) : (s.rest q).wv = s.wv := rfl
@[simp] theorem State.rest_pwr (q : List Instr) : (s.rest q).pwr = s.pwr := rfl
@[simp] theorem State.rest_aon (q : List Instr) : (s.rest q).aon = s.aon := rfl
@[simp] theorem State.rest_fuses (q : List Instr) : (s.rest q).fuses = s.fuses := rfl
@[simp] theorem State.rest_boot (q : List Instr) : (s.rest q).boot = s.boot := rfl
@[simp] theorem State.rest_pcie (q : List Instr) : (s.rest q).pcie = s.pcie := rfl
@[simp] theorem State.rest_usb (q : List Instr) : (s.rest q).usb = s.usb := rfl
@[simp] theorem State.rest_spi (q : List Instr) : (s.rest q).spi = s.spi := rfl
@[simp] theorem State.rest_xspi (q : List Instr) : (s.rest q).xspi = s.xspi := rfl
@[simp] theorem State.rest_ar (q : List Instr) : (s.rest q).ar = s.ar := rfl
@[simp] theorem State.rest_pen (q : List Instr) : (s.rest q).pen = s.pen := rfl
@[simp] theorem State.rest_uarts (q : List Instr) : (s.rest q).uarts = s.uarts := rfl
@[simp] theorem State.rest_mon (q : List Instr) : (s.rest q).mon = s.mon := rfl
@[simp] theorem State.rest_cp (q : List Instr) : (s.rest q).cp = s.cp := rfl
@[simp] theorem State.rest_upd (q : List Instr) : (s.rest q).upd = s.upd := rfl

end Sys2Proof.Machine
end

