-- ==== Sys2Proof/Laws/Events.lean ====
section
/-! SUPPORT. What a rise of an event line does (R31, R374, R375), and the frames of register writes. -/

namespace Sys2Proof.Machine

theorem addRaise_has (r : Raise) (l : List Raise) : ∃ x ∈ addRaise r l, x.src = r.src := by
  induction l with
  | nil => exact ⟨r, by simp [addRaise], rfl⟩
  | cons y ys ih =>
    simp only [addRaise]
    split
    · next h => exact ⟨_, List.mem_cons_self .., h⟩
    · split
      · exact ⟨r, List.mem_cons_self .., rfl⟩
      · obtain ⟨x, hx, hs⟩ := ih
        exact ⟨x, List.mem_cons_of_mem _ hx, hs⟩

/-- A raise keeps the sources that stand raised. -/
theorem addRaise_keeps (r : Raise) (l : List Raise) {n : Nat} (h : ∃ x ∈ l, x.src = n) :
    ∃ x ∈ addRaise r l, x.src = n := by
  induction l with
  | nil => simp at h
  | cons y ys ih =>
    obtain ⟨x, hx, hs⟩ := h
    simp only [addRaise]
    split
    · rcases List.mem_cons.mp hx with hx | hx
      · subst hx; exact ⟨_, List.mem_cons_self .., hs⟩
      · exact ⟨x, List.mem_cons_of_mem _ hx, hs⟩
    · split
      · exact ⟨x, List.mem_cons_of_mem _ hx, hs⟩
      · rcases List.mem_cons.mp hx with hx | hx
        · subst hx; exact ⟨_, List.mem_cons_self .., hs⟩
        · obtain ⟨z, hz, hn⟩ := ih ⟨x, hx, hs⟩
          exact ⟨z, List.mem_cons_of_mem _ hz, hn⟩

theorem State.reg_evRiseD_other (s : State) (p b : Nat) (d : Option Word) {a : Nat} (h : a ≠ p * 4096 + 0x01C) :
    (s.evRiseD p b d).reg a = s.reg a := by
  unfold State.evRiseD
  split
  · exact State.reg_setReg_other _ h _
  · rfl

theorem State.reg_evRise_other (s : State) (p b : Nat) {a : Nat} (h : a ≠ p * 4096 + 0x01C) :
    (s.evRise p b).reg a = s.reg a := State.reg_evRiseD_other s p b none h

/-- A rise leaves every field that is not in PG_EVPEND of its page. -/
theorem State.fget_evRise_other (s : State) (p b : Nat) (f : Fld) (h : f.addr ≠ p * 4096 + 0x01C) :
    (s.evRise p b).fget f = s.fget f := by
  unfold State.fget
  rw [State.reg_evRise_other _ _ _ h]

theorem State.flag_evRise_other (s : State) (p b : Nat) (f : Fld) (h : f.addr ≠ p * 4096 + 0x01C) :
    (s.evRise p b).flag f = s.flag f := by
  unfold State.flag
  rw [State.fget_evRise_other _ _ _ _ h]

theorem State.rises_evRiseD (s : State) (p b : Nat) (d : Option Word) (hb : b < 32) : Rises s (s.evRiseD p b d) p b := by
  intro h
  unfold State.evRiseD
  rw [if_pos h]
  refine ⟨?_, addRaise_has _ _⟩
  exact State.flag_fputB_same s (PG_EVPEND p b) true (by simp only [PG_EVPEND]; omega) (by simp [PG_EVPEND])

theorem State.rises_evRise (s : State) (p b : Nat) (hb : b < 32) : Rises s (s.evRise p b) p b :=
  State.rises_evRiseD s p b none hb

theorem State.fget_fault_other (s : State) (p b : Nat) (f : Fld) (h : f.addr ≠ p * 4096 + 0x020) :
    (s.fault p b).fget f = s.fget f :=
  State.fget_fput_other _ _ _ _ (by simp [PG_FAULT]) (.inl h)

theorem OnlyRegs.refl (s : State) (as : List Nat) : OnlyRegs s s as := ⟨rfl, fun _ _ => rfl⟩

theorem OnlyRegs.setReg {s t : State} {as : List Nat} (h : OnlyRegs s t as) (a : Nat) (w : Word) (ha : a ∈ as) :
    OnlyRegs s (t.setReg a w) as :=
  ⟨h.1, fun b hb => (State.reg_setReg_other _ (fun (e : b = a) => hb (e ▸ ha)) _).trans (h.2 b hb)⟩

theorem OnlyRegs.fput {s t : State} {as : List Nat} (h : OnlyRegs s t as) (f : Fld) (v : Nat) (hf : f.addr ∈ as) :
    OnlyRegs s (t.fput f v) as := h.setReg _ _ hf

theorem OnlyRegs.fputB {s t : State} {as : List Nat} (h : OnlyRegs s t as) (f : Fld) (b : Bool) (hf : f.addr ∈ as) :
    OnlyRegs s (t.fputB f b) as := h.fput f _ hf

theorem OnlyRegs.events {s t : State} {as ps : List Nat} (h : OnlyRegs s t as) : OnlyRegsEvents s t as ps := by
  refine ⟨?_, fun a ha _ => h.2 a ha⟩
  have h1 := h.1
  have h2 : t.cic = s.cic := by rw [← h1]
  rw [← h2]
  exact h1

theorem OnlyRegsEvents.setReg {s t : State} {as ps : List Nat} (h : OnlyRegsEvents s t as ps) (a : Nat) (w : Word) (ha : a ∈ as) :
    OnlyRegsEvents s (t.setReg a w) as ps :=
  ⟨h.1, fun b hb hp => (State.reg_setReg_other _ (fun (e : b = a) => hb (e ▸ ha)) _).trans (h.2 b hb hp)⟩

theorem OnlyRegsEvents.fput {s t : State} {as ps : List Nat} (h : OnlyRegsEvents s t as ps) (f : Fld) (v : Nat) (hf : f.addr ∈ as) :
    OnlyRegsEvents s (t.fput f v) as ps := h.setReg _ _ hf

theorem OnlyRegsEvents.evRiseD {s t : State} {as ps : List Nat} (h : OnlyRegsEvents s t as ps) (p b : Nat) (d : Option Word)
    (hp : p ∈ ps) : OnlyRegsEvents s (t.evRiseD p b d) as ps := by
  unfold State.evRiseD
  split
  · refine ⟨h.1, fun a ha hps => ?_⟩
    have hne : a ≠ (PG_EVPEND p b).addr := fun e => hps (by rw [e]; exact List.mem_map.mpr ⟨p, hp, rfl⟩)
    exact (State.reg_setReg_other _ hne _).trans (h.2 a ha hps)
  · exact h

theorem OnlyRegsEvents.evRise {s t : State} {as ps : List Nat} (h : OnlyRegsEvents s t as ps) (p b : Nat) (hp : p ∈ ps) :
    OnlyRegsEvents s (t.evRise p b) as ps := h.evRiseD p b none hp

end Sys2Proof.Machine
end

