-- ==== Sys2Proof/Laws/Memory.lean ====
section
/-! SUPPORT. Comb and the flash: every operation keeps the canonical form, and a byte reads back as it was written. -/

namespace Sys2Proof.Machine

theorem State.combCount_comb (s : State) (m : Nat) : (s.combCount m).comb = s.comb := rfl
theorem State.combOff_comb (s : State) (m a : Nat) : (s.combOff m a).comb = s.comb := by
  unfold State.combOff
  simp

theorem State.combPut_wf {s : State} (h : s.combWf = true) (a : Nat) (bs : List Byte) : (s.combPut a bs).combWf = true := by
  induction bs generalizing s a with
  | nil => exact h
  | cons b r ih => exact ih (s := { s with comb := Tab.set combDefault s.comb (a % 2 ^ 24) b }) (Tab.wf_set h _ _) (a + 1)

theorem State.combWrite_wf {s : State} (h : s.combWf = true) (m a : Nat) (bs : List Byte) : (s.combWrite m a bs).combWf = true := by
  unfold State.combWrite
  generalize accesses a bs.length = l
  induction l generalizing bs s with
  | nil => exact h
  | cons x l ih =>
    rw [List.foldl_cons]
    refine ih ?_ _
    dsimp only
    split
    · exact State.combPut_wf (s := s.combCount m) h x.1 (bs.take x.2)
    · have := State.combOff_comb s m x.1
      unfold State.combWf at h ⊢
      rw [this]; exact h

theorem State.flashProgram_wf {s : State} (h : s.flashWf = true) (a : Nat) (bs : List Byte) : (s.flashProgram a bs).flashWf = true := by
  induction bs generalizing s a with
  | nil => exact h
  | cons b r ih =>
    refine ih (s := { s with xspi.flash := _ }) ?_ (a + 1)
    exact Tab.wf_set h _ _

theorem State.flashErase_wf {s : State} (h : s.flashWf = true) (a n : Nat) : (s.flashErase a n).flashWf = true := by
  have := Tab.wf_clear (p := fun k => decide (a ≤ k ∧ k < a + n)) h
  exact this

theorem State.combLost_wf {s : State} (h : s.combWf = true) (q : Nat) : (s.combLost q).combWf = true := by
  have := Tab.wf_clear (p := fun a => decide (a / 2 ^ 22 = q)) h
  exact this

/-- A write leaves every other byte. -/
theorem State.combByte_combPut_other {s : State} (a b : Nat) (bs : List Byte)
    (h : ∀ i, i < bs.length → b % 2 ^ 24 ≠ (a + i) % 2 ^ 24) : (s.combPut a bs).combByte b = s.combByte b := by
  induction bs generalizing s a with
  | nil => rfl
  | cons x r ih =>
    have h0 := h 0 (by simp)
    rw [State.combPut, ih (a + 1) fun i hi => by have := h (i + 1) (by simpa using hi); rwa [Nat.add_assoc, Nat.add_comm 1]]
    exact Tab.get_set_other _ _ h0 _

/-- The first byte of a write of at most the whole memory reads back. -/
theorem State.combByte_combPut_head {s : State} (a : Nat) (x : Byte) (r : List Byte) (h : r.length < 2 ^ 24) :
    (s.combPut a (x :: r)).combByte a = x := by
  rw [State.combPut, State.combByte_combPut_other (a + 1) a r fun i hi => by omega]
  exact Tab.get_set_same _ _ _ _

end Sys2Proof.Machine
end

