-- ==== Sys2Proof/Tests/Slice0.lean ====
section
/-! SUPPORT. Tests of the model: for each statement, states and operands that meet the hypotheses of its clauses; ill-formed
commands that the check refuses; and single commands against values worked out from the spec. -/

namespace Sys2Proof.Tests

open Sys2Proof Sys2Proof.Machine

set_option Elab.async false

abbrev R : State := State.reset

/-- `s` with register fields as given. -/
def put (s : State) (l : List (Fld × Nat)) : State :=
  { s with regs := l.foldl (fun t x => Tab.insert x.1.addr (x.1.put (Tab.get regReset t x.1.addr) x.2) t) s.regs }

/-- Reset with the domains `ds` on, and fields as given. -/
def on (ds : List Nat) (l : List (Fld × Nat)) : State := put R (ds.map (fun d => (F.PW_D_STATE d, 2)) ++ l)

/-- Entry 511 armed and due. -/
def due : State :=
  { on [37] [(⟨(F.ARMED 15).addr, 31, 1⟩, 1)] with
    sched := [(511, { c0 := 5, c1 := 5, c2 := 5, anchor := 5, act := 0x200004, inCmp := true, handed := true })],
    sky.time := 9 * 2 ^ 32 }

def path (m : RfMove) : State := (on [10] []).setRfp 7 { move := m }
def relocking (n : Nat) : State := (on [10] [(F.CLK_STAT_REFOK, 1)]).setRfp 7 { relock := true, attempts := n }
def calReady : State := on [3] [(F.RF_STAT_STATE 0, 3), (F.COEX_REQCAL, 1), (F.COEX_GNTWAIT, 1)]
def locked : State := on [] [(F.SKY_STATE_SRC, 0), (F.CLK_STAT_LOCK, 1), (F.CLK_STAT_REFOK, 1), (F.CLK_STAT_BYP, 0)]
def autoNotch : State := put locked [(F.PW_D_STATE 11, 2), (F.NOTCH_MODE 7 7, ntAUTO), ((F.NOTCH_MODE 7 7).act, ntAUTO)]

/-- Channel `ch` in a state. -/
def tracking (ch st : Nat) (c : ChanSt) : State :=
  (put (on [13 + ch / 64] []) [(F.CLK_STAT_LOCK, 1), (F.CLK_STAT_BYP, 0), (F.CH_STAT_STATE ch, st)]).setChan ch c
/-- GPS L1C, component 0, PRN 1: five units from unit 0 on. -/
def busySig : Word := 0x00010002
def busyCode : Word := 0

/-- Dragonfly slot `n` in a state. -/
def job (n st : Nat) : State :=
  { put (on [12] []) [(F.CLK_STAT_BYP, 0), (F.JS_STATE n, st)] with dfly.jobs := [(n, some { desc := [], order := 0 })] }
def binDesc : List Word := [0, 0, 0, 0, 1]
def startable : State :=
  on [13] [(chReg 0 0, 0x20000), (chReg 0 4, 0x00010001), ((F.STR_EN 0).act, 1), ((F.STR_DEST 0).act, 1)]
def frame0 : GFrame := { seq := 0, t := 0, stepped := false, todo := [15], dumps := [] }

/-- Scarab with VEC, active, and channel 1023 in VECTOR. -/
def vec : State :=
  { put (on [29, 28] []) [(F.CLK_STAT_BYP, 0), (F.GA_CTL_EN, 1), (F.VC_STAT_VSTATE, vsACTIVE), (F.CH_STAT_STATE 1023, chVECTOR), (F.CH_CN0_V 1023, 400), (F.CH_FLAGS_PLOCK 1023, 1)] with
    scarab.model := some (0x00840001 :: 0x00000001 :: modelDefault.drop 2) }
def unused : VecChan := { ch := 1023, rate := 0, offRate := 0, satDrift := 0, codeErr := 0, sigC := 0, sigF := 0, doa := 0 }
def takeable : State :=
  { (put vec [(F.PW_D_STATE 13, 2), (F.CH_STAT_STATE 0, chTRACK), (F.CH_CN0_V 0, 400), (F.CH_CTL_VECOK 0, 1), (F.CH_FLAGS_PLOCK 0, 1)]).setChan 0 { passT := some 0 } with
    sky.time := 2 ^ 100 }
def releasing : State := put vec [(F.CH_CN0_V 1023, 100)]

/-- Entry 511 is a PULSE for TP1, to be handed off. -/
def pulse : State :=
  { put (on [37] [(⟨(F.ARMED 15).addr, 31, 1⟩, 1), (F.CLK_STAT_BYP, 0)]) [(F.TP_CTL_EN 1, 1), (F.TP_CTL_QUAL 1, 0xF), (F.TP_CTL_UNCMAX 1, 0)] with
    sched := [(511, { c0 := 2 ^ 50, c1 := 2 ^ 50, c2 := 2 ^ 50, anchor := 2 ^ 50, act := 0x200000, arg := 1, inCmp := true })],
    sky.time := (2 ^ 50 - us 10) * 2 ^ 32 }
def firing (late : Bool) : State :=
  { (on [37] []).setTp 1 { fir := [⟨2 ^ 50, 0, 1000, false, late, late⟩], polWait := some 1 } with sky.time := 2 ^ 82 }
def tio : State := on [37] [(F.CLK_STAT_BYP, 0)]

/-- Frames: a CREDIT command of tenant 5, and an OPEN. -/
def cmdFrame : List Byte := frameBytes 0 5 0 [0x08, 0x00, 0x00, 0x00]
def openFrame : List Byte := frameBytes 0 5 0 [0x01, 0x00, 0x00, 0x00]
def cmdItems : List Item := frameItems 1 cmdFrame
def openItems : List Item := frameItems 1 openFrame

/-- Tenant `t` open and bound, its inbound queue `q`. -/
def link (t : Nat) (q : Queue) : State :=
  { put (on [2, 30, 31, 32, 33] []) [(F.PCIE_LINK_UP, 1), (F.USB_STAT_VBUS, 1)] with
    tn.tenants := [(t, { state := .opened, port := .pcie, icmax := 240 })], tn.queues := [(2 * t, q)] }
def open5 (p : Port) (client : Nat) : State :=
  { link 5 {} with
    tn.tenants := [(5, { state := .opened, port := p, client := client })],
    tn.queues := [(10, { cred := 240 }), (11, { cred := 240 })] }
def inState (st : TnState) (t : Nat) : State := { link t {} with tn.tenants := [(t, { state := st, port := .pcie })] }
def faulted (t : Nat) : State := inState .fault t
def closing (t : Nat) : State := inState .closing t
def entering (d : Nat) : State := put R [(F.PW_D_STATE d, dENTRY)]
def usb : State := on [2] [(F.USB_STAT_VBUS, 1)]
def sending : State :=
  { open5 .usb 0 with tn.queues := [(10, { cred := 240 }), (11, { cred := 240, ready := [[mkItem 1 true [0]]] })] }
/-- The queue selected by a reader. -/
def selecting (r q : Nat) : State := { open5 .pcie 0 with latch := [(r * 2 ^ 24 + F.Q_SEL_Q.addr, BitVec.ofNat 32 q)] }
def tenantSel : State := { selecting 19 11 with pcie.wtenant := 5 }
def seqd (l : Nat) : Tenant := { state := .opened, lastSeq := some l, cache := [⟨65535, 4, 0, [], false⟩] }
def owner0 : State :=
  { open5 .pcie 0 with tn.tenants := [(0, { state := .opened }), (5, { state := .opened })] }
def subbed : List Sub := [⟨1, 1, 0, 9, 0, false, none⟩]
/-- 255 ms of E1, coherent over as much: more blocks than the snapshot store has. -/
def bigSearch : List Word := [1, 0, 0, 0, 0, 0, 0xFF0000FF, 0, 0, 0]
def full : State := on [] ((List.range 16).map fun k => (⟨(F.ARMED k).addr, 0, 32⟩, 2 ^ 32 - 1))
def asleep : State := put R [(F.PW_D_STATE 1, dOFF), (F.AON_WAKEEN_EN, 0xFF), (F.AON_CTL_CEN, 0xF)]
def cut : State := put R [(F.LG_STAT_CUT, 1), (F.AON_CTL_CEN, 0xF)]
def later : State := { R with sky.time := 61 * sec * 2 ^ 32 }
def midnight : State := { R with sky.time := 86400 * sec * 2 ^ 32 + R.fget F.LEAP_CUR * sec * 2 ^ 32 }
def goodModel : List Word := modelDefault.take 32 ++ [BitVec.ofNat 32 (crc32c (wordBytes (modelDefault.take 32)))]
def tariffs : State := put R [((F.TAR_V 7).act, 1)]

/-- An update in state `st`, its image `b` staged whole. -/
def updating (st : Nat) (b : List Byte) : State :=
  { put owner0 [(F.UP_STAT_STATE, st), (F.UP_LEN_N, b.length), (F.UP_RCVD_N, b.length), (F.UP_CRC, crc32c b)] with
    comb := (List.range b.length).map fun i => (0xE00000 + i, b.getD i 0) }
def magic : List Byte := [0x4B, 0x54, 0x49, 0x4D]
/-- A header whose BANKCRC is not that of its empty body. -/
def wrongBank : List Byte := magic ++ List.replicate 44 0 ++ [1, 0, 0, 0]
def armedUpdate (b : List Byte) : State :=
  { updating 4 b with upd.entry := some 511, upd.image := some (parseImage []) }
def running (st : Nat) (b : List Byte) : State := { updating st b with upd.image := some (parseImage b) }

def fullSlots : State := on [34] ((List.range 4).map fun i => (F.CP_SLOT_STATE i, cpDONE))
/-- Carapace at work on a job of `op` and class `cls` in slot 3. -/
def working (op cls : Nat) : State :=
  { on [30, 31, 32, 33, 34] [(F.CP_SLOT_STATE 3, cpRUN)] with cp.jobs := [(3, some ⟨op, cls, 0, 64, 4, 0, 0, 0, none, none⟩)] }
def queued : State :=
  { put (working 1 0) [(F.CP_SLOT_STATE 2, cpQUEUED)] with
    cp.jobs := [(2, some ⟨2, 0, 0, 64, 4, 0, 0, 1, none, none⟩), (3, some ⟨1, 0, 0, 64, 4, 0, 0, 0, none, none⟩)] }
def ownJob : State :=
  { put (open5 .pcie 0) [(F.PW_D_STATE 34, 2), (F.CP_SLOT_STATE 0, cpRUN)] with
    cp.jobs := [(0, some ⟨6, 0, 5, 0, 0, 0, 0, 0, some ([], []), none⟩)],
    tn.tenants := [(5, { state := .opened, running := [(0x58, 9)], lastSeq := some 9 })] }

/-- UART3 enabled, MODE RAW, with fields as given. -/
def uart (l : List (Fld × Nat)) : State := put (on [2] [(F.U_CTL_EN 3, 1), (F.U_CTL_MODE 3, umRAW)]) l
def sendingUart (x : UartSt) : State := { uart [] with uarts := [(3, x)] }

/-- The Archive records measurements. -/
def archive : State := on [30, 31, 32, 33, 35] [(F.AR_CTL_EN, 1), (F.AR_CTL_MEAS, 1), (F.AR_STAT_RUNNING, 1)]

/-- Penholt enabled, both ports in a state. -/
def pen (st : Nat) (x : PenPort) : State :=
  (on [36] [(F.PH_CTL_EN, 1), (F.PP_STAT_STATE 0, st), (F.PP_STAT_STATE 1, st)]).setPenPort 1 x
/-- Device 3 has sent tenant 5's frame but its last word. -/
def penPeer : State :=
  { pen ptUP {} with
    tn.tenants := [(5, { state := .opened, port := .penEast, client := 3 })], tn.queues := [(10, { cred := 240 })],
    pen.rx := [(3, cmdFrame)] }
def penClient : State := { pen ptUP {} with tn.tenants := [(5, { state := .opened, port := .penWest, client := 3 })] }
def master : State := put (pen ptUP {}) [(F.PH_STAT_ROLE, rlMASTER)]
def claiming : State := { put (pen ptUP {}) [(F.PH_CTL_MASTEREN, 1)] with sky.time := 3 * sec * 2 ^ 32 }
/-- The master, device 2, is one hop west. -/
def follower : State := put (pen ptUP { hops := [(2, 0)] }) [(F.PH_STAT_ROLE, rlFOLLOWER), (F.PH_STAT_MASTER, 2)]

/-- Hive 15's Weevil runs, its state `k`. -/
def hive (k : CoreSt) : State :=
  { on [28, 30, 31, 32, 33] [(F.WV_CTL_RUN 15, 1)] with wv.cores := [(15, k)] }
def glow : State := put R [(F.AON_CTL_GWRUN, 1)]
def bankAt (b : Byte) : State := hive { b := b }
def due3 : State := hive { f := 0x20, ien := 8, ipend := 8 }
/-- Its decode table names step 1,023 for user instruction 15, and nothing for 14. -/
def ucode : State := hive { table := [(15, 0x800103FF)] }
def microField (w : BitVec 64) (lo n : Nat) : Nat := w.toNat / 2 ^ lo % 2 ^ n
def addStep : BitVec 64 := 0x1010078400000000 ||| 0x4000000000
def yieldStep : BitVec 64 := 0x0100000080000000
def loopStep : BitVec 64 := 0x0000001003FF0000
def faultStep : BitVec 64 := 0x0000005000000007
def storeStep : BitVec 64 := 0x000D804000000000
def moveStep : BitVec 64 := 0x0600004000000000

/-- The monitor listens. -/
def monitor : State := on [2, 30, 31, 32, 33] []
def service : State := put monitor [(F.SYS_BOOT_MODE, bmSERVICE)]
def unlocked : State := { monitor with mon.unlocked := true }
def lastChar : State :=
  { monitor with uarts := [(0, { shift := some 0x41 })], mon.out := [0x42], mon.rate := some 3000000, mon.toFrame := true }
def loading (line got : List Byte) : State := { monitor with mon.load := some (4, crc32c magic, got), mon.line := line }

/-- The last source has risen. -/
def raised (l : List (Fld × Nat)) : State := { put R l with cic.raises := [⟨1151, 0x170, 1, none, 0, 0⟩] }
def windowOpen (n : Nat) : State :=
  { raised [] with cic.wins := [(1151, some ⟨0, ms 10, 2, n, 0, 1, 0x170, 0, 0, some 8191⟩)] }

def booting : State := { on [2, 30] [] with boot.sampled := true }
def hostLoad (n crc : Nat) : State := on [30] [(F.SYS_BOOT_STATE, bsHOSTWAIT), (F.BL_LEN_N, n), (F.BL_CRC, crc)]

/-- The state a command answers. -/
def after (c : Instr) (s : State) : State := match exec c s with | .next t => t | _ => s
def warden (k : CoreSt) : State := { R with wv.cores := [(16, k)] }


-- states for the clauses of the revised statements

/-- The carriers of an average of 16 frames: one strong bin, code -32720. -/
def detected (p : Nat) (s : State) : State := s.setLaneOut p { detN := 16, det := [1, 1, 1, 1000], miss := List.replicate 8 25 }
/-- Path 7's notch 7 in mode `m`, locked where that carrier is. -/
def notched (m : Nat) : State :=
  detected 7 (put locked [(F.PW_D_STATE 11, 2), ((F.NOTCH_MODE 7 7).act, m), (F.NSTAT_ON 7 7, 1), (F.NSTAT_LOCKED 7 7, 1),
    (F.NSTAT_FREQ 7 7, 65536 - 32720)])
/-- Moments of an I/Q block of path 7. -/
def iqMoments (on : Nat) : State :=
  (put locked [(F.SV_CTL_IQEN 7, on)]).setLane 7 { mII := 4, mQQ := 9, mIQ := 0 }
/-- Path 7 in Receive, one AGC block of samples done. -/
def agc (x : RfSt) (l : List (Fld × Nat)) : State :=
  (on [10] ([(F.RF_STAT_STATE 7, 3), (F.RF_CTL_AGCEN 7, 1)] ++ l)).setRfp 7 x

/-- A search for GPS L1 C/A, PRN 1, over one bin and 1 ms on stream 0. -/
def goodJob : List Word := [0x00010001, 0, 0, 0, 500 * 65536, 0, 0x01010001, 0, 0, 0, 0, 0, 0, 0, 7, 0]
def submitting : State :=
  on [12] (((F.STR_EN 0).act, 1) :: ((F.STR_DEST 0).act, 2) :: (goodJob.zipIdx.map fun x => (⟨(F.JD x.2).addr, 0, 32⟩, x.1.toNat)))
/-- Slot `n`, which has worked off all but `left` bins of `goodJob`. -/
def jobAt (n st bins : Nat) : State :=
  { job n st with dfly.jobs := [(n, some { desc := goodJob, order := 0, ticks := 10 ^ 7, bins := bins, inv := if bins = 0 then 0 else 300 })] }
/-- A channel whose last ten dumps had prompt `p`. -/
def prompts (ch st : Nat) (p : Int × Int) (c : ChanSt) : State :=
  tracking ch st { c with loop := { recent := List.replicate 10 (p, (1, 0), false) } }
/-- A dump of Hive 15 waits for Gather, in code-synchronous mode with a ring of four. -/
def csDump : State :=
  { put (on [28, 30, 31, 32, 33] [(F.CLK_STAT_BYP, 0), (F.HV_CTL_DMODE 15, 1), (F.HV_CSLEN_V 15, 4)]) [] with
    hive.csOut := [(7, { ch := 1023, status := 0x80, taps := [] })] }

/-- The filter's fixed state, and an update whose subset solutions are `l`. -/
def fixing : State := put locked [(F.PW_D_STATE 29, 2), (F.SC_STAT_FSTATE, fsFIX)]
def update (l : List SubsetIn) : FullIn :=
  { geo := [], clk := ⟨0, 0, 0⟩, offs := [], wet := 0, posSdM := 99, residOk := true, subs := l, ambSets := [], ambOff := [], headSd := 0,
    att := [], sol := [], latencyUs := 0 }
/-- A follower at work, and what it gets for an update. -/
def following : State := put follower [(F.PW_D_STATE 29, 2), (F.CLK_STAT_BYP, 0)]
def fromMaster : FullIn := { update [] with master := List.replicate 32 0 }
/-- The subset without GPS satellite 1, apart from the full solution. -/
def apart (passes : Bool) : SubsetIn := ⟨0, 1, (1, 1, 1), (0, 0, 0), (0, 0, 0), passes⟩
/-- Channel 1023 coasts. -/
def coasting : State := put (tracking 1023 chCOAST {load := 1}) [(F.PW_D_STATE 29, 2)]
def coastPred : CoastSet := { ch := 1023, cpi := 0, cpf := 0, carP := 0, rate := 0, offRate := 0, satDrift := 0 }
def beaming : State :=
  { (tracking 1023 chTRACK { strm := 2 }) with
    regs := (put (tracking 1023 chTRACK {}) [(F.PW_D_STATE 29, 2), (F.IN_STAT_ATTV, 1)]).regs,
    scarab.model := some (0x00840001 :: 0x00000023 :: modelDefault.drop 2) }
def caponReady : State :=
  { on [29] [((F.CMB_CTL_MODE 1).act, 2), (F.ARRAY_AG1EN.act, 1), (F.ARRAY_AG1MASK.act, 1)] with
    sieve.covLast := [(16, (4, 0))] }
/-- A firing under way on TP1. -/
def pulsing (x : TpSt) : State := { (on [37] []).setTp 1 x with sky.time := 2 ^ 90 }
def steering : State := put tio [(F.ST_CTL_MODE, 3), (F.SKY_STATE_STATE, skSTEERED)]

/-- An RTCM 3 message of `body`. -/
def rtcm (body : List Byte) : List Byte :=
  let m := [0xD3, 0, BitVec.ofNat 8 body.length] ++ body
  m ++ (leBytes 3 (crc24q m)).reverse
def based : State := { R with tn.base := some 5 }

/-- A line sampled from a start edge on: `bits` at 16 samples each, and at 32.768 kHz for the sleep receiver at 1,200 Bd. -/
def wire (bits : List Bool) : List Bool := bits.flatMap (List.replicate 16)
def slowWire (bits : List Bool) : List Bool := (List.range 320).map fun i => bits.getD (i * 1200 / 32768) true
/-- The bits of the address character `c`, start bit first. -/
def charLine (c : Nat) : List Bool := false :: ((List.range 9).map c.testBit) ++ [true]
/-- The ports sleep, their retention good, U_ADDR of UART3 as 0x15 with a mask of 0xF0; VBAT up, mode `m`. -/
def sleeping (m : Nat) : State :=
  { put R [(F.U_SLEEP_SLMODE 3, m)] with pwr.retOk := [(2, true)], pwr.ret := [((F.U_ADDR_ADDR 3).addr, 0xF015)] }
/-- A cut of VMAIN 200 µs ago. -/
def cutting : State :=
  { put R [(F.AON_CTL_CEN, 0xF), (F.RSV_CFG_P.act, 7)] with aon.vmainF := some (0, 5), sky.time := us 200 * 2 ^ 32 }
/-- VMAIN has been back for ten minutes. -/
def returning : State := { cut with aon.vmainT := some 0, sky.time := 600 * sec * 2 ^ 32 }
def planning (l : List (Fld × Nat)) : State := put R ([(F.LG_CTL_EN, 1), (F.LG_CTL_TAREN, 0)] ++ l)
def rec24 : RecSt := { t := 0, tick := 5, nsamp := 1 }
/-- The measurement source has closed a record, and lost samples at the ticks `l`. -/
def closed (l : List Nat) : State :=
  { archive with ar.closed := [(24, rec24)], ar.gaps := [(24, l.map fun t => ⟨0, t, 3⟩)] }
def opened : State := { archive with ar.recs := [(3, some rec24)] }
def extent (a : Nat) : State := { put archive [(F.AR_AADDR_LO, a)] with ar.ext := some (0, 0, 4096) }
def awaiting (n : Nat) : State := { R with tn.waiting := [(3, 0)], tn.waitT := [(3, n)] }
def pressed : State := { put R [] with boot.sampled := true, boot.svcPress := true }
def userStep (w : BitVec 64) : State := hive { table := [(15, 0x800103FF)], micro := [(1023, w)] }

/-- A log without a free slot: one record of class 0, whose reserve is 0, and `k` of class 1. -/
def fullLog (k : Nat) (l : List (Fld × Nat)) : State :=
  { raised l with cic.slots := (1, some (0, 0)) :: (List.range' 2 k).map fun n => (n, some (1, n)) }
theorem test_reset_queue_empty : State.reset.pending = [] := rfl

/-- StepRunsFrontCommand. -/
theorem test_step_runs_front :
    ({ R with pending := [.wakeAlarm] } : State).pending = .wakeAlarm :: [] := by
  decide +kernel

/-- SampleTickAddsIncrement: with either source, before and after the first sample tick. -/
theorem test_tick_hypotheses :
    R.pending = [] ∧ R.domPowered 1 = true ∧ (on [] [(F.SKY_STATE_SRC, 0)]).srcAON = false ∧ R.sky.started = false ∧
    ({ R with sky.started := true } : State).sky.started = true ∧ (on [] [(F.SKY_STATE_SRC, 1)]).srcAON = true := by
  and_intros <;> decide +kernel

/-- RegisterPagesTakeWritesAndCommands: every judgement a block register's write can get. -/
theorem test_write_judgements :
    (regKind 0x152 0x040).isSome = true ∧ (on [2] [(PG_LOCK 0x152, 1)]).judge (.behalf 5) 0x152 0x040 true = .locked ∧
    R.judge .warden 0x152 0x040 true = .unpowered ∧ (on [2] []).judge .warden 0x152 0x040 false = .access ∧
    ({ R with boot.dead := true } : State).judge .warden 0x152 0x040 true = .nothing ∧ R.judge .warden 0x002 0x048 true = .ok ∧
    R.judge .warden 0x110 0x00C true = .ok ∧ R.domState 1 = dON ∧ R.judge .warden 0x020 0x00C true = .ok ∧
    ((findPage 0x020).map fun x => x.1.shadow) = some true ∧ R.domState (pageDom 0x020) ≠ dON ∧
    (on [37] []).judge .warden 0x116 0x00C true = .ok ∧ R.boot.dead = false ∧ R.flag (PG_FREEZE 0x110) = false := by
  and_intros <;> decide +kernel

/-- SkyClockEventsAct. -/
theorem test_sky_events :
    R.judge .warden 0x110 0x044 true = .ok ∧ (on [] [(F.SKY_STATE_STATE, skFOLLOW)]).skyState = skFOLLOW ∧ R.skyState ≠ skFOLLOW ∧
    sgn 64 ((on [] [(F.STEP_F, 1)]).get64 F.STEP_S F.STEP_F) * 2 ^ 16 ≠ 0 ∧ (on [] [(F.LEAP_PEND, 1)]).flag F.LEAP_PEND = true ∧
    (on [] [(F.LEAP_PEND, 1)]).get96 F.LEAP_T ≤ R.now ∧ (on [] [(F.SKY_STATE_STATE, skSTEERED)]).skyState = skSTEERED ∧
    (put locked [(F.SKY_STATE_STATE, skSTEERED)]).srcAON = false ∧
    (on [] [(F.SKY_STATE_SRC, 1), (F.CLK_STAT_BYP, 0)]).srcAON = true ∧
    (on [] [(F.CLK_STAT_BYP, 0)]).flag F.CLK_STAT_BYP = false ∧
    ({ R with sky.gridPend := some 7 } : State).sky.gridPend = some 7 ∧ R.scOn = false := by
  and_intros <;> decide +kernel

/-- ScheduleCommandsAct. -/
theorem test_schedule :
    R.judge .warden 0x111 0x044 true = .ok ∧ R.fget F.SCHED_IDX_IDX = 0 ∧ R.armed 0 = false ∧
    (on [] [(F.E_ACT_ACTION, 6)]).fget F.E_ACT_ACTION = 6 ∧ argOk 6 0 = true ∧ R.flag F.E_ACT_MAINSREL = false ∧
    (on [] [(⟨(F.ARMED 0).addr, 0, 1⟩, 1)]).armed 0 = true ∧ ({ R with schedBusy := some 3 } : State).schedBusy = some 3 ∧
    due.entryDue 511 = true ∧ copiesOut (due.entry 511) = 0 ∧ (due.entry 511).errs = 0 ∧ (due.entry 511).overdue = false ∧
    (due.entry 511).tardy = false ∧ actionOf (due.entry 511) = 2 ∧ (due.entry 511).handed = true ∧ (due.entry 511).count = 0 := by
  and_intros <;> decide +kernel

/-- PathStatesFollowTheirRequests, at the last path. -/
theorem test_rf_paths :
    (on [10] []).judge .warden (rfPage 7) 0x040 true = .ok ∧ (on [10] []).rfState 7 = rfSLEEP ∧ (R.rfp 7).move = .idle ∧
    (on [10] [(F.RF_STAT_STATE 7, 3)]).rfState 7 = rfRECEIVE ∧ ((path .toLock).rfp 7).move = .toLock ∧
    ((path .toReceive).rfp 7).move = .toReceive ∧ ((path .toSleep).rfp 7).move = .toSleep ∧
    (on [10] [(F.RF_CTL_REQ 7, 3)]).fget (F.RF_CTL_REQ 7) = 3 ∧ R.fget (F.RF_CTL_REQ 7) = 0 ∧
    rfSYNTH ≤ (on [10] [(F.RF_STAT_STATE 7, 2), (F.RF_STAT_LOCK 7, 1)]).rfState 7 ∧
    (on [10] [(F.RF_STAT_LOCK 7, 1)]).flag (F.RF_STAT_LOCK 7) = true ∧ ((relocking 2).rfp 7).relock = true ∧
    ((relocking 2).rfp 7).attempts < 3 ∧ (relocking 2).flag F.CLK_STAT_REFOK = true ∧ 3 ≤ ((relocking 3).rfp 7).attempts ∧
    (relocking 3).rf.cal = .idle ∧ (on [10] [(F.RF_CTL_AGCEN 7, 0)]).flag (F.RF_CTL_AGCEN 7) = false ∧
    (on [10] [(F.RF_CTL_AGCEN 7, 1)]).flag (F.RF_CTL_AGCEN 7) = true ∧ (1000 : Int).natAbs ≤ 1000 ∧ (R.rfp 7).agcBlocks < 10 ∧
    (on [10] [(F.RF_GAIN_GAIN 7, 63)]).fget (F.RF_GAIN_GAIN 7) = 63 ∧ 10 ≤ ((R.setRfp 7 { agcBlocks := 10 }).rfp 7).agcBlocks ∧
    (R.rfp 7).agcSat = false := by
  and_intros <;> decide +kernel

/-- CalibrationRunsItsSteps. -/
theorem test_calibration :
    (on [3] []).judge .warden 0x028 0x044 true = .ok ∧ R.flag F.CAL_STAT_BUSY = false ∧ 0 ∈ maskPaths 1 ∧
    R.rfState 0 ≠ rfRECEIVE ∧ maskPaths 1 = [0] ∧ calReady.rfState 0 = rfRECEIVE ∧ (calReady.rfp 0).move = .idle ∧
    calReady.badInj 0 = false ∧ calReady.flag F.COEX_REQCAL = true ∧ calReady.fget F.COEX_GNTWAIT ≠ 0 ∧
    ({ R with rf.cal := .waitGnt, rf.calMask := 1 } : State).rf.cal = .waitGnt ∧ R.rfState 0 ≠ rfTRANSMIT ∧
    ({ R with rf.cal := .blocks, rf.calOk := 9, rf.calBad := 2 } : State).rf.calOk < 10 ∧
    10 ≤ ({ R with rf.cal := .blocks, rf.calOk := 10 } : State).rf.calOk ∧
    ({ calReady with rf.auto := [1] } : State).rf.auto.contains 1 = true ∧ calReady.rf.cal = .idle ∧
    calReady.flag F.CAL_STAT_BUSY = false ∧ maskPaths (calReady.groupMask 1) = [] := by
  and_intros <;> decide +kernel

/-- BiasAndCoexistenceAct. -/
theorem test_bias :
    R.judge .warden 0x028 (0x058 + 12) true = .ok ∧ R.flag (F.ANTB_CTL_EN 3) = false ∧
    (on [] [(F.ANTB_CTL_EN 3, 1)]).flag (F.ANTB_CTL_EN 3) = true ∧
    (on [] [(antb F.ANTB_STAT_BLANK 3, 1)]).flag (antb F.ANTB_STAT_BLANK 3) = true ∧ R.flag (antb F.ANTB_STAT_BLANK 3) = false ∧
    R.flag (antb F.ANTB_STAT_TRIP 3) = false ∧ R.rf.txact = false ∧ ({ R with rf.txact := true } : State).rf.txact = true ∧
    (on [] [(antb F.ANTB_STAT_OPEN 3, 1)]).flag (antb F.ANTB_STAT_OPEN 3) = true := by
  and_intros <;> decide +kernel

/-- LossOfLockAndReference and ClockOutputsAndAuxPll. -/
theorem test_clocks :
    locked.flag F.CLK_STAT_LOCK = true ∧ locked.byp = false ∧ locked.dfly.jobs = [] ∧ locked.hive.chans = [] ∧
    locked.flag F.CLK_STAT_REFOK = true ∧ R.judge .warden 0x010 0x044 true = .ok ∧
    (on [] [(F.CLK_STAT_REFOK, 0)]).flag F.CLK_STAT_REFOK = false ∧
    ({ locked with boot.sampled := true } : State).boot.sampled = true ∧
    (on [] [(F.CLK_STAT_BYP, 1), (F.CLK_STAT_LOCK, 1), (F.CLK_STAT_REFOK, 1)]).byp = true ∧
    (on [] [(F.CLK_STAT_BYP, 1), (F.CLK_STAT_LOCK, 1)]).flag F.CLK_CTL_FORCEBYP = false ∧ locked.srcAON = false ∧
    locked.sieve.flagging = true ∧ (on [] [(PG_EN 0x011, 1)]).flag (PG_EN 0x011) = true ∧
    (on [] [(F.AUX_STAT_LOCK, 1)]).flag F.AUX_STAT_LOCK = true ∧ locked.flag F.AUX_STAT_LOCK = false ∧
    (on [10] [(F.RF_STAT_STATE 7, 3), (F.RF_STAT_LOCK 7, 1)]).flag (F.RF_STAT_LOCK 7) = true ∧
    (on [] [(F.SKY_STATE_STATE, skFOLLOW)]).skyState = skFOLLOW := by
  and_intros <;> decide +kernel

/-- SieveAndSignalCommandsAct. -/
theorem test_sieve :
    autoNotch.byp = false ∧ ((List.range 8).all fun j => decide (autoNotch.notchMode 7 j ≠ ntTRACK)) = true ∧
    ((List.range 8).any fun j => autoNotch.notchOn 7 j) = false ∧
    ((List.range 8).find? fun j => decide (autoNotch.notchMode 7 j = ntAUTO) && !autoNotch.notchOn 7 j) = some 7 ∧
    (on [11] [(F.CLK_STAT_BYP, 1)]).byp = true ∧ (put autoNotch [(F.NSTAT_LOCKED 7 7, 1)]).flag (F.NSTAT_LOCKED 7 7) = true ∧
    autoNotch.notchMode 7 7 = ntAUTO ∧ (on [11] [((F.NOTCH_MODE 7 7).act, ntTRACK)]).notchMode 7 7 = ntTRACK ∧
    (on [11] []).judge .warden 0x039 0x040 true = .ok ∧ R.flag F.SM_STAT_BUSY = false ∧
    (on [] [(F.SM_STAT_BUSY, 1)]).flag F.SM_STAT_BUSY = true ∧ R.runner 0x0029 = none ∧
    R.combOn (combQuarter (R.fget F.SM_ADDR_ADDR * 64)) = true ∧ (on [28] []).judge .warden (tapsPage 15) 0x144 true = .ok ∧
    R.flag (F.CS_STAT_BUSY 15) = false ∧ R.unitsBusy 15 0 1 = false ∧
    ({ R with hive.copies := [(15, some ⟨0x1000, 1023, 1⟩)] } : State).hive.copies = [(15, some ⟨0x1000, 1023, 1⟩)] ∧
    R.combOn (combQuarter 0x1000) = true ∧ (tracking 1023 chTRACK {}).live 1023 = true ∧ R.fget (F.CH_STAT_EVC 1023) = 0 ∧
    R.openTenants = [] := by
  and_intros <;> decide +kernel

/-- SieveAndSignalCommandsAct: a running channel that names the units of a copy. -/
theorem test_units_busy :
    (tracking 1023 chTRACK { sig := busySig, code := busyCode }).unitsBusy 15 0 1 = true := by
  decide +kernel

/-- DragonflyJobsMoveThroughTheirStates. -/
theorem test_dragonfly :
    (on [12] []).judge .warden 0x041 0x080 true = .ok ∧ R.jobCheck R.stagedJob ≠ 0 ∧ R.jsState 63 = jsFREE ∧
    (on [12] []).judge .warden 0x040 0x040 true = .ok ∧ (job 63 jsREADY).jsState 63 = jsREADY ∧
    ((job 63 jsREADY).job 63).map (·.search) = some none ∧ (job 63 jsREADY).byp = false ∧
    ((List.range 64).all fun k => decide ((job 63 jsREADY).jsState k ≠ jsRUN)) = true ∧ (job 63 jsARMED).jsState 63 = jsARMED ∧
    (job 63 jsARMED).fget F.DF_STAT_CAPS ≠ 8 ∧
    (0 : Nat) * (job 63 jsARMED).gridRate / sec + 1 ≤ ({ job 63 jsARMED with sky.time := 2 ^ 81 } : State).gridIndex ∧
    (put (job 63 jsCAPTURE) [(F.DF_CTL_HOLD, 1)]).flag F.DF_CTL_HOLD = true ∧ (job 63 jsCAPTURE).jsState 63 = jsCAPTURE ∧
    (job 63 jsRUN).running = some 63 ∧ (job 63 jsRUN).combOn (combQuarter (jdBits [] 10 6 18 * 64)) = true ∧
    (on [12] []).judge .warden 0x042 (0x140 + 4) true = .ok ∧ (job 63 jsDONE).jsState 63 = jsDONE ∧
    (job 63 jsDONE).dfly.waiting = [] ∧ 0 + 1 < jdBins binDesc := by
  and_intros <;> decide +kernel

/-- ChannelsStartTrackAndStop, at the last channel. -/
theorem test_channels :
    (on [28] []).judge .warden (chPage 1023) (chOff 1023) true = .ok ∧ (on [28] []).startFault 1023 = some 0 ∧
    R.chState 1023 = chIDLE ∧ (tracking 1023 chPULLIN {}).chState 1023 ≠ chIDLE ∧ (tracking 1023 chPULLIN {}).live 1023 = true ∧
    (tracking 1023 chPULLIN {}).flag (F.CH_FLAGS_PLOCK 1023) = false ∧ startable.startFault 0 = none ∧
    (on [13] []).judge .warden (hvPage 0) 0x050 true = .ok ∧ (0 : Nat) % 64 < 32 ∧
    (on [28] []).judge .warden (hvPage 15) 0x040 true = .ok ∧ (on [28] []).flag (F.HV_CTL_DMODE 15) = false ∧
    (on [28] [(F.HV_LOAD_NCH 15, 64)]).fget (F.HV_LOAD_NCH 15) ≠ 0 ∧ R.fget (F.HV_LOAD_NCH 15) = 0 ∧
    (on [28] []).judge (.hive 15) (chPage 1023) (chOff 1023 + 0x1C) true = .ok ∧
    (tracking 1023 chVECTOR {}).chState 1023 = chVECTOR ∧
    ((R.fget (F.CH_LOCK_PLLTHR 1023) : Int) * (1 + 0 : Nat) ≤ 256 * ((1 : Int) - 0)) ∧
    1 ≤ ((tracking 1023 chPULLIN { okM := 1 }).chan 1023).okM ∧
    256 * ((0 : Int) - 1) < ((R.fget (F.CH_LOCK_PLLTHR 1023) : Int) - 64) * (0 + 1 : Nat) ∧
    (put (tracking 1023 chTRACK {}) [(F.CH_FLAGS_PLOCK 1023, 1)]).flag (F.CH_FLAGS_PLOCK 1023) = true ∧
    R.fget (F.CH_CN0_V 1023) < 16 * (on [28] [(F.CH_LOCK_LOSSCN0 1023, 30)]).fget (F.CH_LOCK_LOSSCN0 1023) ∧
    (tracking 1023 chTRACK {}).chState 1023 = chTRACK ∧
    R.fget (F.CH_LOCK_LOSST 1023) ≤ ((tracking 1023 chTRACK { low := 255 }).chan 1023).low := by
  and_intros <;> decide +kernel

/-- GatherAndHiveWeevilsAct. -/
theorem test_gather :
    (on [28] [(F.HV_CTL_DMODE 15, 1)]).grid 15 = false ∧ (tracking 1023 chTRACK {}).live 1023 = true ∧ locked.byp = false ∧
    (on [28] []).domPowered (13 + 15) = true ∧ R.fget (F.HV_CSLEN_V 15) = 0 ∧ (0 + 1) % 4 ≠ R.fget (F.HV_CSRP_V 15) % 4 ∧
    (on [28] [(F.HV_CSLEN_V 15, 4)]).fget (F.HV_CSLEN_V 15) = 4 ∧ R.combOn (combQuarter (R.fget (F.HV_CSBASE_V 15) * 64)) = true ∧
    frame0.todo.contains 15 = true ∧ (frame0.block 15).length = 3904 ∧
    R.combOn (combQuarter (R.frameBase 0 + 0x40 + 0xF40 * 15)) = true ∧ frame0.todo ≠ [] ∧ { frame0 with todo := [] }.todo = [] ∧
    R.judge .warden 0x100 0x040 true = .ok ∧ (on [28] []).judge .warden (wvPage 15) 0x050 true = .ok ∧
    R.flag (F.WV_CTL_RUN 15) = false ∧ (on [28] [(F.WV_CTL_RUN 15, 1)]).flag (F.WV_CTL_RUN 15) = true ∧
    R.combOn (combQuarter (64 * R.fget (F.WV_LDSRC_V 15))) = true ∧ (on [28] []).judge .warden (wvPage 15) 0x040 true = .ok := by
  and_intros <;> decide +kernel

/-- FullFilterAndModelTables. -/
theorem test_full_filter :
    (on [29] []).scOn = true ∧ (put locked [(F.PW_D_STATE 29, 2)]).byp = false ∧ R.follower = false ∧ R.openTenants = [] ∧
    R.meas.held = [] ∧ R.combOn (combQuarter (R.fget F.SC_SOLB_ADDR * 64)) = true ∧ R.scarab.pending = none ∧ R.fstate = fsNOFIX ∧
    (on [29] [(F.SC_STAT_FSTATE, fsFIX)]).fstate = fsFIX ∧ (99 : Nat) < 100 ∧ (on [29] []).judge .warden 0x101 0x040 true = .ok ∧
    (on [29] []).judge .warden 0x101 0x04C true = .ok ∧ R.flag F.SC_MRES_PENDING = false ∧ R.flag F.SC_MRES_BUSY = false ∧
    R.combOn (combQuarter (R.fget F.SC_MTAB_ADDR * 64)) = true ∧
    (on [29] [(F.SC_MRES_PENDING, 1)]).flag F.SC_MRES_PENDING = true ∧
    ({ R with scarab.check := some [0] } : State).scarab.check = some [0] ∧ R.runner 0x0038 = none ∧
    (on [29] [(F.PH_STAT_ROLE, 2)]).follower = true ∧ modelCode goodModel = 0 ∧ modelCode [0] ≠ 0 := by
  and_intros <;> decide +kernel

/-- VectorCoreFallsAndReturns. -/
theorem test_vector :
    vec.scOn = true ∧ mVEC vec = true ∧ vec.flag F.GRID_DUMP.act = false ∧ vec.flag F.GA_CTL_EN = true ∧ vec.vstate = vsACTIVE ∧
    vec.scarab.g4 = none ∧ vec.globalCause [] true ≠ 0 ∧ vec.dumpUsable unused = false ∧ vec.chState 1023 = chVECTOR ∧
    (vec.chan 1023).vlow = 0 ∧ vec.vecCause unused = 0 ∧ (put vec [(F.CH_STAT_STATE 1023, chCOAST)]).chState 1023 = chCOAST ∧
    1 ≤ R.mf 0x2C 16 8 ∧ ({ vec with scarab.holdT := some 0, sky.time := 2 ^ 100 } : State).scarab.holdT = some 0 ∧
    (put vec [(F.VC_STAT_VSTATE, vsHOLD), (F.SC_STAT_FSTATE, fsFIX)]).fixed = true ∧
    0 + R.mf 0x2C 24 8 * sec ≤ ({ R with sky.time := 2 ^ 100 } : State).now ∧ (on [29] []).judge .warden 0x101 0x040 true = .ok ∧
    R.vstate ≠ vsACTIVE ∧ 0 + 5 * sec ≤ ({ R with sky.time := 5 * sec * 2 ^ 32 } : State).now ∧ R.now < 0 + 5 * sec ∧
    mBEAM { vec with scarab.model := some (0x00840001 :: 0x00000023 :: modelDefault.drop 2) } = true ∧
    (put vec [(F.IN_STAT_ATTV, 1)]).flag F.IN_STAT_ATTV = true ∧ 2 ≤ elems 4 ∧
    (on [29] [((F.CMB_CTL_MODE 1).act, 2)]).fget (F.CMB_CTL_MODE 1).act = 2 := by
  and_intros <;> decide +kernel

/-- VectorCoreFallsAndReturns: a channel that can be taken, and one that must be released. -/
theorem test_takes :
    takeable.canTake { unused with ch := 0 } = true ∧ takeable.dumpUsable { unused with ch := 0 } = false ∧
    1 ≤ takeable.mf 0x2C 16 8 ∧ takeable.vstate = vsACTIVE ∧ releasing.vecCause unused ≠ 0 ∧ releasing.dumpUsable unused = false ∧
    (releasing.chan 1023).vlow = 0 ∧ releasing.vstate = vsACTIVE := by
  and_intros <;> decide +kernel

/-- TimePulsesAreHandedOffAndChecked. -/
theorem test_pulses :
    pulse.armed 511 = true ∧ (pulse.entry 511).inCmp = true ∧ actionOf (pulse.entry 511) = 2 ∧ (pulse.entry 511).handed = false ∧
    (pulse.entry 511).cmp ≠ allOnes ∧ pulse.now + us 10 ≤ (pulse.entry 511).cmp ∧
    (pulse.entry 511).cmp < pulse.now + us 10 + pulse.tickMax ∧ R.now + us 10 + R.tickMax ≤ (pulse.entry 511).cmp ∧
    pulse.tioOn = true ∧ pulse.flag (F.TP_CTL_EN 1) = true ∧ (pulse.fget (F.TP_CTL_QUAL 1)).testBit pulse.skyState = true ∧
    pulse.fget (F.TP_CTL_UNCMAX 1) = 0 ∧ pulse.byp = false ∧ R.flag (F.TP_CTL_EN 1) = false ∧ R.armed 511 = false ∧
    ((firing false).tp 1).fir.length = 1 ∧ (firing false).tioOn = true ∧ tooClose ((firing false).tp 1).last 0 = false ∧
    (firing false).flag (F.TP_STAT_ACT 1) = false ∧ (firing false).flag (F.TP_STAT_FAULTB 1) = false ∧
    ((firing true).tp 1).fir.all (·.late) = true ∧ (((firing true).tp 1).polWait) = some 1 ∧
    (firing false).judge .warden 0x113 0x060 true = .ok ∧ (firing false).judge .warden 0x113 0x068 true = .ok ∧
    5000000 < (sgn 32 5000001).natAbs ∧ (sgn 32 5000000).natAbs ≤ 5000000 ∧ (R.tp 1).fir = [] ∧ (R.tp 1).pulse = false := by
  and_intros <;> decide +kernel

/-- StampsMainsAndSteering. -/
theorem test_stamps :
    tio.tioOn = true ∧ (put tio [(F.EV_CFG_EN 7, 1), (F.EV_CFG_EDGE 7, 2)]).flag (F.EV_CFG_EN 7) = true ∧
    (put tio [(F.EV_CFG_EDGE 7, 2)]).fget (F.EV_CFG_EDGE 7) = 2 ∧ tio.flag (F.EV_CFG_EN 7) = false ∧
    (put tio [(F.EV_CFG_GLITCH 7, 3)]).fget (F.EV_CFG_GLITCH 7) = 3 ∧ tio.tio.fifo.length < 256 ∧
    tio.domState (pageDom 0x114) = dON ∧ R.boot.dead = false ∧
    ({ tio with tio.fifo := [⟨7, true, 65535, 0, false, 3, 0⟩] } : State).tio.fifo = [⟨7, true, 65535, 0, false, 3, 0⟩] ∧
    256 ≤ ({ tio with tio.fifo := List.replicate 256 ⟨7, true, 0, 0, false, 3, 0⟩ } : State).tio.fifo.length ∧
    ((on [] [(F.AON_CTL_CEN, 4)]).fget F.AON_CTL_CEN).testBit 2 = true ∧ R.tioOn = false ∧ R.aon.mnCyc + 1 < 2 ^ 32 ∧
    ({ tio with tio.cross := [(1, 0)] } : State).tio.cross ≠ [] ∧ tio.tio.gapSeen = false ∧
    tio.judge .warden 0x115 0x040 true = .ok ∧
    (put tio [(F.ST_CTL_MODE, 3), (F.SKY_STATE_STATE, skFOLLOW)]).fget F.ST_CTL_MODE = 3 ∧
    (put tio [(F.SKY_STATE_STATE, skHOLDOVER)]).skyState = skHOLDOVER ∧ tio.fget F.ST_CTL_MODE ≠ 3 ∧ locked.byp = false := by
  and_intros <;> decide +kernel

/-- FramesAndBaseDataAreTaken. -/
theorem test_frames :
    (on [2] []).domPowered 2 = true ∧ R.domPowered 2 = false ∧ frameOk [] = false ∧ R.boundTo 5 .spi 7 = false ∧
    R.tn.base ≠ some 5 ∧ ({ R with tn.base := some 5 } : State).tn.base = some 5 ∧ R.scarab.baseOpen = none ∧
    0 + ms 200 ≤ ({ R with sky.time := ms 200 * 2 ^ 32 } : State).now ∧ R.now < 0 + ms 200 ∧ R.hive.chans = [] := by
  and_intros <;> decide +kernel

/-- FramesAndBaseDataAreTaken: frames with good CRC, and base messages. -/
theorem test_frame_whole :
    frameOk cmdFrame = true ∧ frameCls cmdFrame < 11 ∧ frameOp cmdFrame ≠ some 1 ∧ frameTenant cmdFrame = 5 ∧
    (open5 .spi 7).boundTo 5 .spi 7 = true ∧ ((open5 .spi 7).tenant 5).state = .opened ∧ frameOk openFrame = true ∧
    frameOp openFrame = some 1 ∧ (frameItems 1 cmdFrame).length ≤ ((open5 .spi 7).queue 10).cred ∧
    ((open5 .spi 7).queue 10).part = [] ∧ ((open5 .spi 7).queue 10).batch = none := by
  and_intros <;> decide +kernel

/-- TenantWindowsMoveItems, at the last tenant. -/
theorem test_windows :
    R.pcieUp = false ∧ (link 4095 {}).pcieUp = true ∧ (link 4095 {}).windowOk 4095 = true ∧ (link 4095 {}).windowOk 4094 = false ∧
    ((link 4095 { cred := 1 }).queue 8190).cred ≠ 0 ∧ ((link 4095 { cred := 1 }).queue 8190).batch = none ∧
    (link 4095 {}).tn.waiting = [] ∧ itemEnd 0 = false ∧ itemEnd (mkItem 1 true []) = true ∧
    frameOk (msgBytes [mkItem 1 true []]) = false ∧ ((link 4095 {}).queue 8190).cred = 0 ∧
    ((link 4095 {}).tenant 4095).state = .opened ∧ (({ ready := [[7]] } : Queue).pop).isSome = true ∧
    ((link 4095 {}).queue 8191).readable = false ∧ ((faulted 4095).tenant 4095).state = .fault ∧
    (faulted 4095).windowOk 4095 = true := by
  and_intros <;> decide +kernel

/-- TenantWindowsMoveItems: the last item of a good frame, one kept in FAULT and one not. -/
theorem test_windows_frame :
    cmdItems.all (fun x => decide (itemNB x ≤ 7)) = true ∧
    frameOk (msgBytes (cmdItems.take (cmdItems.length - 1) ++ [cmdItems.getLastD 0])) = true ∧
    itemEnd (cmdItems.getLastD 0) = true ∧ (frameOp (msgBytes cmdItems)).any keptInFault = false := by
  and_intros <;> decide +kernel

/-- MailboxDmaAndLink. -/
theorem test_mailbox :
    ({ link 5 {} with pcie.busy := true } : State).pcie.busy = true ∧ (link 5 {}).pcie.busy = false ∧
    (link 5 {}).pcie.reply = [] ∧ itemEnd 0 = false ∧ (link 5 {}).judge .warden 0x150 (0x08C + 48) true = .ok ∧
    3 ∉ (link 5 {}).pcie.dma ∧ 3 ∈ ({ link 5 {} with pcie.dma := [3] } : State).pcie.dma ∧
    (link 5 {}).combOn (combQuarter (R.fget (F.DMA_CB_CADDR 3))) = true ∧ (on [2] []).portsOn = true ∧
    (on [2] []).flag F.PCIE_LINK_UP = false ∧ (link 5 {}).tn.tenants.map Prod.fst = [5] ∧ ((link 5 {}).tenant 5).live = true ∧
    (∀ e ∈ R.tn.tenants, e.2.live = true → e.2.port ≠ .pcie) ∧ frameOk (msgBytes ([] ++ [mkItem 2 true []])) = false ∧
    frameOk (msgBytes (openItems.take (openItems.length - 1) ++ [openItems.getLastD 0])) = true ∧
    frameOp (msgBytes openItems) = some 1 := by
  and_intros <;> decide +kernel

/-- SpiMovesWordsAndFrames. -/
theorem test_spi :
    (on [2] []).portsOn = true ∧ (2 ^ 22 - 1 : Nat) < 2 ^ 22 ∧ (on [2] []).judge .spi 0x152 0x040 true = .ok ∧
    (on [2] []).domState 2 = dON ∧ (entering 2).domState 2 = dENTRY ∧ (entering 2).portsOn = true ∧ frameCls cmdFrame = 0 ∧
    (open5 .spi 0).spi.rx = [] ∧ (open5 .spi 0).boundTo 5 .spi 0 = true ∧ (open5 .spi 0).portsOn = true ∧
    (on [2] []).spiWaiting = 0 ∧ ({ on [2] [] with spi.tx := [1] } : State).spi.tx = [1] ∧
    (on [2] []).judge .warden 0x152 0x044 true = .ok ∧ ((open5 .spi 0).tenant 5).state ≠ .free := by
  and_intros <;> decide +kernel

/-- FlashCommandsRunToTheirEnd, in the last byte the flash has. -/
theorem test_flash :
    (on [2] []).judge .warden 0x15C 0x040 true = .ok ∧ R.flag F.XS_STAT_BUSY = false ∧
    (on [2] [(F.XS_STAT_BUSY, 1)]).flag F.XS_STAT_BUSY = true ∧ R.combOn (combQuarter 0) = true ∧
    255 + 1 ≤ (on [2] [(F.XS_STAT_MIB, 16)]).fget F.XS_STAT_MIB * 2 ^ 20 ∧
    (2 ^ 24 - 1) / 4096 * 4096 < (on [2] [(F.XS_STAT_MIB, 16)]).fget F.XS_STAT_MIB * 2 ^ 20 ∧ R.fget F.XS_STAT_MIB * 2 ^ 20 ≤ 0 ∧
    ({ R with xspi.cmd := some (1, 255, 0, 1) } : State).xspi.cmd = some (1, 255, 0, 1) ∧ 0 + 256 ≤ 2 ^ 24 := by
  and_intros <;> decide +kernel

/-- UsbControlRequestsCommitOrDiscard and UsbBusEventsAndBulkMessages. -/
theorem test_usb :
    R.usbUp = false ∧ usb.usbUp = true ∧ ({ usb with usb.held := some (1, 4, 0, [0]) } : State).usb.held = some (1, 4, 0, [0]) ∧
    usb.usb.held = none ∧ (1 : Half).toNat < 8 ∧ ((open5 .usb 0).tenant 5).state ≠ .free ∧ usb.domState 2 = dON ∧
    (entering 2).domState 2 = dENTRY ∧ usb.domPowered 1 = true ∧ usb.portsOn = true ∧ ((open5 .usb 0).tenant 5).live = true ∧
    (open5 .usb 0).boundTo 5 .usb 0 = true ∧ (∀ e ∈ R.tn.tenants, e.2.live = true → e.2.port ≠ .usb) ∧ usb.usb.ep1 = none ∧
    ({ usb with usb.ep1 := some 5 } : State).usb.ep1 = some 5 ∧ usb.turn 0 (fun x => decide (x.port = .usb)) = none ∧
    usb.tn.waiting = [] ∧ sending.turn 0 (fun x => decide (x.port = .usb)) = some 5 := by
  and_intros <;> decide +kernel

/-- QueuePageActsOnTheSelectedQueue. -/
theorem test_queue_page :
    R.judge .warden 0x141 0x054 true = .ok ∧ R.judge .warden 0x141 0x044 true = .ok ∧ R.qSel 19 = 0 ∧
    (selecting 19 11).qSel 19 = 11 ∧ (selecting 19 11).muted 5 = false ∧ R.muted 5 = true ∧ (R.queue 0).cred = 0 ∧
    ((open5 .pcie 0).queue 10).cred ≠ 0 ∧ R.tn.waiting = [] ∧ ({} : Queue).isReply 0 = false ∧
    ({} : Queue).isReply 0x10000000 = true ∧ tenantSel.writer .pcie 0x141 = .tenant 5 ∧ (tenantSel.tenant 5).state = .opened ∧
    tenantSel.judge .pcie 0x141 0x054 true = .ok ∧ tenantSel.judge .pcie 0x141 0x044 true = .ok ∧
    tenantSel.qSel (viaReader .pcie) ≠ 10 ∧ (((selecting 19 0).queue 0).readable = false) ∧ R.boot.dead = false ∧
    ({ R with tn.waiting := [(3, 0)] } : State).tn.waiting = [(3, 0)] ∧ R.flag (PG_FREEZE 0x141) = false ∧
    (sending.queue 11).readable = true ∧
    ((({ sending with tn.queues := [(10, { ready := [[7]] })] } : State).queue 10).readable = true) ∧ R.tn.tenants = [] := by
  and_intros <;> decide +kernel

/-- CommandsAreSequencedAndAnswered. -/
theorem test_sequence :
    (R.tenant 5).live = false ∧ ((open5 .pcie 0).tenant 5).live = true ∧ ((open5 .pcie 0).tenant 5).classify 65535 = .accept ∧
    ((faulted 5).tenant 5).classify 0 = .accept ∧ ((faulted 5).tenant 5).state = .fault ∧ (seqd 65535).classify 0 = .accept ∧
    (seqd 65535).classify 1 = .gap ∧ (seqd 65535).lastSeq = some 65535 ∧
    (seqd 65535).classify 65535 = .again ⟨65535, 4, 0, [], false⟩ ∧
    ({ seqd 0 with running := [(0x29, 0)], cache := [] } : Tenant).classify 0 = .running ∧ (open5 .pcie 0).accepts 5 0 ∧
    (5 : Nat) ≠ 0 ∧ (4 : Half).getLsbD 2 = true ∧ (0 : Half).getLsbD 2 = false := by
  and_intros <;> decide +kernel

/-- TenantsOpenAndAreFreed. -/
theorem test_opens :
    ((0 : Half).getLsbD 0 = false) ∧ (R.tenant 4095).state = .free ∧ ((open5 .pcie 0).tenant 5).state ≠ .free ∧
    (1 : Half).getLsbD 0 = true ∧ (1 : Half).getLsbD 1 = false ∧ (2 : Half).getLsbD 1 = true ∧
    ((closing 5).tenant 5).state = .closing ∧ (R.tenant 0).state = .free ∧
    ((List.range 1).all fun j => decide (j ≠ 0 → (R.tenant j).state ≠ .free)) = true ∧
    ({ R with cp.barred := some 1 } : State).sessionBarred = true ∧ (List.replicate 16 (0 : Word)).length = 16 := by
  and_intros <;> decide +kernel

/-- TenantsResetCloseAndQuench. -/
theorem test_closes :
    ((open5 .pcie 0).tenant 5).live = true ∧ ((open5 .pcie 0).tenant 5).classify 7 = .accept ∧ (owner0.tenant 0).live = true ∧
    (owner0.tenant 5).live = true ∧ (owner0.tenant 4095).live = false ∧ R.judge .warden 0x140 0x044 true = .ok ∧
    R.tnIdx .warden = 0 ∧ (owner0.tenant 0).state ≠ .free ∧ R.judge .warden 0x140 0x05C true = .ok ∧ (R.tenant 0).live = false := by
  and_intros <;> decide +kernel

/-- SubscriptionsPinsBaseAndVotes. -/
theorem test_subscriptions :
    (open5 .pcie 0).accepts 5 9 ∧ owner0.accepts 0 9 ∧ sigRow 63 = none ∧ (sigRow 1).isSome = true ∧
    ((open5 .pcie 0).tenant 5).subs.find? (fun b => b.kind = 1 ∧ b.div = 1 ∧ b.sel = 0) = none ∧
    subbed.find? (fun b => b.kind = 1 ∧ b.div = 1 ∧ b.sel = 0) = some ⟨1, 1, 0, 9, 0, false, none⟩ ∧ subbed.length < 64 ∧
    64 ≤ (List.replicate 64 (⟨2, 1, 0, 9, 0, false, none⟩ : Sub)).length ∧ (∃ b ∈ subbed, b.handle = 9) ∧
    (∀ b ∈ subbed, b.handle ≠ 8) ∧ sigOk 0x41 = false ∧ sigOk 0x00010001 = true ∧ R.chState 1023 = chIDLE ∧
    (on [28] []).powered (chPage 1023) = true ∧ ({ R with tn.pins := [(3, some (0, 0))] } : State).tn.pins = [(3, some (0, 0))] ∧
    votable 0 = false ∧ votable 37 = true ∧ owner0.voted 37 0 = false ∧ owner0.holders 37 + 1 < 2 ^ 13 ∧
    owner0.domState 37 = dOFF ∧ (0x100 : Half).getLsbD 8 = true := by
  and_intros <;> decide +kernel

/-- RegisterCommandsOfTenants. -/
theorem test_register_commands :
    R.domPowered 1 = true ∧ R.boot.dead = false ∧ implemented 0x1A0 = true ∧ (on [2] []).domState 2 = dON ∧
    (entering 2).domState 2 = dENTRY ∧ (open5 .pcie 0).judge (.behalf 5) 0x152 0x040 true = .ok ∧
    (put (on [2] []) [(PG_LOCK 0x152, 1)]).judge .warden 0x152 0x040 true = .ok ∧ notForOwner 0x190 = true ∧
    (on [] [(PG_LOCK 0x190, 1)]).flag (PG_LOCK 0x190) = true ∧ (regKind 0x002 0x048).isSome = true ∧
    (0x002048 : Word).toNat % 4 = 0 ∧ (put (open5 .pcie 0) [(PG_LOCK 0x152, 1)]).flag (PG_LOCK 0x152) = true := by
  and_intros <;> decide +kernel

/-- TenantsOrderSearchesSpectraAndSchedules. -/
theorem test_orders :
    (∀ d ∈ searchJobs 5 1 1 (List.replicate 10 0), jdBlocks d ≤ 128) ∧ R.domState 12 ≠ dON ∧ R.domState 11 ≠ dON ∧
    (on [11] []).domState 11 = dON ∧ R.flag F.SM_STAT_BUSY = false ∧ (open5 .pcie 0).schedRight 5 6 0 = false ∧
    (open5 .pcie 0).schedRight 5 1 0 = false ∧ (open5 .pcie 0).schedRight 5 3 0 = true ∧ owner0.schedRight 0 2 0 = true ∧
    owner0.armed 0 = false ∧ argOk 2 0 = true ∧ (due.armed 511 = true) ∧ ownerOf (due.entry 511) ≠ 5 ∧ R.armed 511 = false ∧
    (on [29] []).domState 29 = dON ∧ (on [31] []).combOn 1 = true ∧ R.flag F.UC_STAT_BUSY = false ∧
    R.flag ⟨F.UC_SEAL_V.addr, 16, 1⟩ = false ∧ (on [] [(⟨F.UC_SEAL_V.addr, 16, 1⟩, 1)]).flag ⟨F.UC_SEAL_V.addr, 16, 1⟩ = true ∧
    entryBad 0 = false ∧ entryBad (2 ^ 31) = true := by
  and_intros <;> decide +kernel

/-- TenantsOrderSearchesSpectraAndSchedules: a search no snapshot can hold, and a full table. -/
theorem test_too_big :
    ((searchJobs 5 1 1 bigSearch).any fun d => decide (128 < jdBlocks d)) = true ∧ ((List.range 512).all full.armed) = true := by
  and_intros <;> decide +kernel

/-- PowerVotesMoveDomains. -/
theorem test_power :
    R.judge .warden 0x004 0x040 true = .ok ∧ votable 30 = false ∧ votable 37 = true ∧ R.domState 37 = dOFF ∧
    R.voted 37 4098 = false ∧ R.holders 37 = 0 ∧ (put R [(F.PW_D_STATE 35, dWAKING)]).domState 35 = dWAKING ∧
    (entering 37).domState 37 = dENTRY ∧ (put (entering 37) [(F.PW_D_HOLDERS 37, 1)]).holders 37 ≠ 0 ∧
    (entering 36).holders 36 = 0 ∧ R.pwr.held = [] ∧ (put (entering 36) [(F.PW_D_AP 36, 3)]).fget (F.PW_D_AP 36) = 3 ∧
    ({ R with pwr.sleeping := true } : State).pwr.sleeping = true ∧ R.voted 1 WARDEN = true ∧ R.holders 1 = 1 ∧
    R.pwr.sleeping = false ∧ R.domState 36 ≠ dWAKING ∧ R.regsWf = true ∧
    ({ R with pwr.votes := [(8192 * 37 + 4098, true)] } : State).voted 37 4098 = true ∧ (on [37] []).domState 37 = dON := by
  and_intros <;> decide +kernel

/-- ThermalFlagsFollowTheSensors. -/
theorem test_thermal :
    (put R [(F.PW_D_STATE 1, dOFF)]).domPowered 1 = false ∧ R.domPowered 1 = true ∧ R.flag (thDwell 2) = false ∧
    (on [] [(thDwell 2, 1)]).flag (thDwell 2) = true := by
  and_intros <;> decide +kernel

/-- AlwaysOnDomainWatchesAndWakes. -/
theorem test_always_on :
    (on [] [(F.AON_ALMEN_EN, 1)]).flag F.AON_ALMEN_EN = true ∧ R.get96 F.AON_ALM_T ≤ R.sky.aon ∧ R.flag F.AON_ALMEN_EN = false ∧
    asleep.domPowered 1 = false ∧ (asleep.fget F.AON_WAKEEN_EN).testBit 3 = true ∧ (asleep.fget F.AON_CTL_CEN).testBit 3 = true ∧
    asleep.flag (aonLvl 3) = false ∧ (asleep.fget F.AON_CTL_CEN).testBit 0 = true ∧
    (put asleep [(aonLvl 0, 1)]).flag (aonLvl 0) = true ∧ (asleep.fget F.AON_CTL_CEN).testBit 2 = true ∧
    R.judge .warden 0x1A0 0x040 true = .ok ∧ R.judge .warden 0x1A0 0x06C true = .ok ∧ R.flag F.AON_GWLD_GO = false ∧
    (on [] [(F.AON_GWLD_GO, 1)]).flag F.AON_GWLD_GO = true ∧
    ({ R with wv.loads := [(17, some ⟨17, false, 0, 0, 2048, []⟩)] } : State).wv.loads = [(17, some ⟨17, false, 0, 0, 2048, []⟩)] ∧
    R.combOn (combQuarter 0) = true ∧ R.domPowered 2 = false ∧ (on [] [(F.U_SLEEP_SLMODE 3, 2)]).fget (F.U_SLEEP_SLMODE 3) = 2 ∧
    R.fget (F.U_SLEEP_SLMODE 3) = 0 := by
  and_intros <;> decide +kernel

/-- LedgerMetersPlansAndCuts. -/
theorem test_ledger :
    R.domPowered 1 = true ∧ R.flag F.LG_STAT_CUT = false ∧ cut.flag F.LG_STAT_CUT = true ∧ cut.vmainOn = true ∧
    R.flag F.LG_STAT_THSHED = false ∧
    (on [] [(F.LG_CTL_EN, 1), (F.LG_CTL_TAREN, 0), (F.LG_CTL_DEMEN, 1)]).flag F.LG_CTL_EN = true ∧
    midnight.utcSod (midnight.now / sec) % midnight.dmdLen = 0 ∧
    (put cut [(F.RSV_CFG_END.act, 1)]).flag F.RSV_CFG_END.act = true ∧
    cut.fget F.RSV_E.act ≤ (put cut [(F.RSV_USED, 0xFFFFFFFF)]).fget F.RSV_USED ∧ cut.flag F.RSV_CFG_END.act = false ∧
    ({ R with pwr.grants := [(15, some ⟨5, 0⟩)] } : State).pwr.grants = [(15, some ⟨5, 0⟩)] ∧ owner0.accepts 0 1 ∧
    (owner0.tenant 5).live = true ∧ (open5 .pcie 0).accepts 5 1 := by
  and_intros <;> decide +kernel

/-- LedgerMetersPlansAndCuts: inside a demand interval, and with a tariff period. -/
theorem test_ledger_tariff :
    later.utcSod (later.now / sec) % later.dmdLen ≠ 0 ∧ (on [] [(F.DMD_CAP.act, 1)]).fget F.DMD_CAP.act ≠ 0 ∧
    (put cut [(F.LG_STAT_TARPEND, 1)]).flag F.LG_STAT_TARPEND = true ∧
    (tariffs.tarValid.map fun i => tariffs.tarStart i % 86400).contains 0 = true ∧ tariffs.tarAt 0 = some 7 := by
  and_intros <;> decide +kernel

/-- UpdateIsReceivedWrittenAndStaged. -/
theorem test_update :
    (open5 .pcie 0).accepts 5 9 ∧ owner0.accepts 0 9 ∧ owner0.fget F.UP_STAT_STATE = 0 ∧ (0x100000 : Word).toNat ≤ 0x100000 ∧
    0x100000 < (0x100001 : Word).toNat ∧ (updating 1 [1, 2]).accepts 0 9 ∧ (updating 1 [1, 2]).fget F.UP_STAT_STATE = 1 ∧
    (2 : Word).toNat = (updating 1 [1, 2]).fget F.UP_RCVD_N ∧ 2 + ([] : List Byte).length ≤ (updating 1 [1, 2]).fget F.UP_LEN_N ∧
    (1 : Word).toNat ≠ (updating 1 [1, 2]).fget F.UP_RCVD_N ∧
    (put (updating 1 [1, 2]) [(F.UP_RCVD_N, 1)]).fget F.UP_RCVD_N ≠ (put (updating 1 [1, 2]) [(F.UP_RCVD_N, 1)]).fget F.UP_LEN_N ∧
    crc32c ((put (updating 1 [1, 2]) [(F.UP_CRC, 0)]).combBytes 0xE00000 2) ≠ (put (updating 1 [1, 2]) [(F.UP_CRC, 0)]).fget F.UP_CRC ∧
    crc32c ((updating 1 [1, 2]).combBytes 0xE00000 2) = (updating 1 [1, 2]).fget F.UP_CRC ∧
    ofLe (((updating 1 [1, 2]).combBytes 0xE00000 2).take 4) ≠ 0x4D49544B ∧
    crc32c ((updating 1 magic).combBytes 0xE00000 4) = (updating 1 magic).fget F.UP_CRC ∧
    ofLe (((updating 1 magic).combBytes 0xE00000 4).take 4) = 0x4D49544B ∧ (updating 3 magic).fget F.UP_STAT_STATE = 3 ∧
    (updating 4 magic).fget F.UP_STAT_STATE = 4 ∧ (armedUpdate magic).upd.entry = some 511 ∧
    (updating 2 magic).fget F.UP_STAT_STATE = 2 ∧ (put (updating 2 magic) [(F.PW_D_STATE 2, 2)]).domPowered 2 = true ∧
    (updating 2 magic).upd.again = false ∧ ({ updating 2 magic with upd.again := true } : State).upd.again = true ∧
    (put (updating 2 magic) [(F.XS_CRC, crc32c magic)]).fget F.XS_CRC = (updating 2 magic).fget F.UP_CRC ∧
    (updating 2 magic).fget F.XS_CRC ≠ (updating 2 magic).fget F.UP_CRC := by
  and_intros <;> decide +kernel

/-- ImagesHandOverAndAreConfirmed. -/
theorem test_handover :
    (updating 3 magic).epochAt (ms 1000) = true ∧ (updating 3 magic).now + 28147497671066 ≤ ms 1000 ∧
    (updating 3 magic).epochAt 5 = false ∧ ms 10 < (updating 3 magic).now + 28147497671066 ∧
    (updating 1 magic).fget F.UP_STAT_STATE ≠ 3 ∧
    (updating 3 magic).upd.image.map Image.hover ≠ some (parseImage ((updating 3 magic).combBytes 0xE00000 4)).hover ∧
    (updating 3 magic).armed 0 = false ∧
    (running 3 magic).upd.image.map Image.hover = some (parseImage ((running 3 magic).combBytes 0xE00000 4)).hover ∧
    (running 3 magic).fget F.UP_STAT_STATE = 3 ∧ (running 3 magic).accepts 0 7 ∧
    (put (armedUpdate magic) [(⟨(F.FIRED 15).addr, 31, 1⟩, 1)]).mapBit F.FIRED 511 = true ∧
    (armedUpdate magic).armed 511 = false ∧ (armedUpdate magic).fget F.UP_STAT_STATE = 4 ∧ R.upd.entry = none ∧
    crc32c (bankBytes (parseImage ((armedUpdate magic).combBytes 0xE00000 4))) = (parseImage ((armedUpdate magic).combBytes 0xE00000 4)).bankcrc ∧
    crc32c (bankBytes (parseImage ((armedUpdate wrongBank).combBytes 0xE00000 52))) ≠ (parseImage ((armedUpdate wrongBank).combBytes 0xE00000 52)).bankcrc ∧
    (armedUpdate wrongBank).upd.image = some (parseImage []) ∧ owner0.accepts 0 3 ∧
    (running 0 magic).upd.image = some (parseImage magic) ∧ (parseImage magic).secver ≤ 64 ∧ (running 0 magic).accepts 0 3 := by
  and_intros <;> decide +kernel

/-- CarapaceTakesAndRunsJobs. -/
theorem test_carapace :
    (on [34] [(F.CP_CMD_CLASS, 3)]).judge .warden 0x160 0x040 true = .ok ∧
    (on [34] [(F.CP_CMD_CLASS, 3)]).fget F.CP_CMD_CLASS = 3 ∧ (on [34] [(F.CP_CMD_CLASS, 2)]).fget F.CP_CMD_CLASS ≤ 2 ∧
    ((List.range 4).all fun i => decide (fullSlots.cpState i ≠ cpFREE)) = true ∧
    (put fullSlots [(F.CP_SLOT_STATE 3, 0)]).cpState 3 = cpFREE ∧
    ((List.range 4).all fun i => decide (R.cpState i = cpFREE ∨ R.cpState i = cpDONE)) = true ∧ (working 1 1).cpRunning = some 3 ∧
    (working 1 1).cpJob 3 = some ⟨1, 1, 0, 64, 4, 0, 0, 0, none, none⟩ ∧
    ((List.range 4).all fun i => decide (i ≠ 3 → (working 1 1).cpState i ≠ cpRUN ∧ (working 1 1).cpJob i = none)) = true ∧
    (working 1 0).cpRunning = some 3 ∧ (working 6 0).cpRunning = some 3 ∧ ((working 1 0).ecc = []) ∧
    ((List.range 4).all fun q => (working 1 0).combOn q) = true ∧ R.cpRunning = none ∧ queued.cpState 2 = cpQUEUED ∧
    (queued.cpJob 2).isSome = true ∧ ((List.range 4).all fun i => decide (queued.cpState i = cpRUN → i = 3)) = true ∧
    queued.cpJob 0 = none ∧ queued.cpJob 1 = none ∧ (on [34] [(F.CP_SLOT_STATE 3, 4)]).judge .warden 0x160 0x070 true = .ok ∧
    (on [34] [(F.CP_SLOT_STATE 3, 4)]).cpState 3 = cpDONE ∧ R.cpState 3 ≠ cpDONE := by
  and_intros <;> decide +kernel

/-- SecurityCommandsOfTenants. -/
theorem test_security :
    (open5 .pcie 0).accepts 5 0xFFFF ∧ (0 : Half).toNat % 16 = 0 ∧ 7 < (8 : Half).toNat % 16 ∧ 1 ≤ (7 : Half).toNat % 16 ∧
    (put (open5 .pcie 0) [(F.PW_D_STATE 34, 2)]).domPowered 34 = true ∧ ([] : List Byte).length ≤ 65000 ∧
    (1024 : Half).toNat ≤ 1024 ∧ 1024 < (1025 : Half).toNat ∧ owner0.accepts 0 1 ∧ (List.replicate 32 (0 : Byte)).length = 32 ∧
    ownJob.cpRunning = some 0 ∧ ownJob.cpJob 0 = some ⟨6, 0, 5, 0, 0, 0, 0, 0, some ([], []), none⟩ ∧
    (ownJob.tenant 5).running = [(0x58, 9)] ∧ (ownJob.tenant 5).state = .opened ∧
    (put (working 2 2) [(F.SKY_STATE_STATE, skFOLLOW)]).skyState ≠ skUNSTEERED ∧ (working 2 2).cpRunning = some 3 ∧
    (working 2 2).cpJob 3 = some ⟨2, 2, 0, 64, 4, 0, 0, 0, none, none⟩ ∧ (working 2 2).ecc = [] ∧
    Tab.get (fun _ => 0) ({ R with meas.auth := [(255, authPENDING)] } : State).meas.auth 255 = authPENDING ∧
    Tab.get (fun _ => 0) ({ R with meas.auth := [(255, authOK)] } : State).meas.auth 255 = authOK := by
  and_intros <;> decide +kernel

/-- SerialPortsReceiveAndSend, UART3: reception. -/
theorem test_uart_receive :
    R.uOn 3 = false ∧ (uart [(F.U_CTL_RXOFFDE 3, 1), (F.U_STAT_DE 3, 1)]).flag (F.U_CTL_RXOFFDE 3) = true ∧
    (uart []).uOn 3 = true ∧ (uart []).flag (F.U_CTL_RXOFFDE 3) = false ∧
    (uart [(F.U_STAT_MUTE 3, 1), (F.U_ADDR_MUTEEN 3, 1)]).flag (F.U_STAT_MUTE 3) = true ∧
    (uart [(F.U_ADDR_MUTEEN 3, 1)]).flag (F.U_ADDR_MUTEEN 3) = true ∧ (uart []).uMode 3 = umRAW ∧
    (uart []).flag (F.U_STAT_MUTE 3) = false ∧ (uart [(F.U_ADDR_MUTEEN 3, 0)]).flag (F.U_ADDR_MUTEEN 3) = false ∧
    (uart []).flag (F.U_CTL_CAPT 3) = false ∧ (uart [(F.U_CTL_CAPT 3, 1)]).flag (F.U_CTL_CAPT 3) = true ∧
    (uart []).flag (F.U_FLOW_XREC 3) = false ∧ (uart [(F.U_STAT_RXF 3, 1)]).flag (F.U_STAT_RXF 3) = true ∧
    (uart []).flag (F.U_STAT_RXF 3) = false ∧ (uart [(F.U_FLOW_XREC 3, 1)]).flag (F.U_FLOW_XREC 3) = true ∧
    (uart [(F.U_FMT_ADDR9 3, 1)]).flag (F.U_FMT_ADDR9 3) = true ∧ (0x1FF : BitVec 9).getLsbD 8 = true ∧
    (0x13 : BitVec 9).getLsbD 8 = false ∧
    (0x112 : BitVec 9).toNat % 256 &&& (uart [(F.U_ADDR_MASK 3, 0xF0), (F.U_ADDR_ADDR 3, 0x15)]).fget (F.U_ADDR_MASK 3) = (uart [(F.U_ADDR_MASK 3, 0xF0), (F.U_ADDR_ADDR 3, 0x15)]).fget (F.U_ADDR_ADDR 3) &&& (uart [(F.U_ADDR_MASK 3, 0xF0)]).fget (F.U_ADDR_MASK 3) ∧
    (uart [(F.U_ADDR_BCAST 3, 1)]).flag (F.U_ADDR_BCAST 3) = true ∧ (0x108 : BitVec 9).getLsbD 3 = true ∧
    ((uart [(F.U_CTL_MODE 3, umBUS)]).uMode 3 = umBUS) ∧
    (uart [(F.U_ADDR_MASK 3, 0xFF), (F.U_ADDR_BCAST 3, 0)]).flag (F.U_ADDR_BCAST 3) = false ∧
    (0x101 : BitVec 9).toNat % 256 &&& 0xFF ≠ 0 := by
  and_intros <;> decide +kernel

/-- SerialPortsReceiveAndSend, UART3: transmission. -/
theorem test_uart_send :
    (uart []).judge .warden 0x15B 0x05C true = .ok ∧ ((sendingUart {}).uart 3).hold = none ∧
    ((sendingUart {}).uart 3).shift = none ∧ (uart []).flag (F.U_STAT_XOFFRX 3) = false ∧
    (uart [(F.U_FLOW_DEEN 3, 1)]).flag (F.U_FLOW_DEEN 3) = true ∧ ((sendingUart { hold := some 511 }).uart 3).hold ≠ none ∧
    ((sendingUart { shift := some 511 }).uart 3).shift = some 511 ∧ R.domPowered 1 = true ∧ R.boot.dead = false ∧
    (uart []).domPowered 2 = true ∧ (uart []).domState 2 ≠ dENTRY ∧
    (put (sendingUart { shift := some 1, tries := 6 }) [(F.U_CTL_MODE 3, umBUS), (F.U_CTL_HALF 3, 1)]).flag (F.U_CTL_HALF 3) = true ∧
    ((sendingUart { shift := some 1, tries := 6 }).uart 3).tries < 7 ∧
    7 ≤ ((sendingUart { shift := some 1, tries := 7 }).uart 3).tries ∧ ((sendingUart { shift := some 1 }).uart 3).shift ≠ none ∧
    ((sendingUart { retry := true, whole := [5] }).uart 3).retry = true ∧
    ((sendingUart { retry := true, whole := [5] }).uart 3).whole = 5 :: [] ∧
    ((sendingUart { retry := true }).uart 3).shift = none ∧ (R.uart 3).retry = false := by
  and_intros <;> decide +kernel

/-- ArchiveRecordsExtentsAndReplay, the measurement source. -/
theorem test_archive :
    R.arOn = false ∧ archive.arOn = true ∧ archive.flag F.AR_STAT_FULL = false ∧ archive.recorded 24 = true ∧
    (put archive [(F.AR_STAT_FULL, 1)]).flag F.AR_STAT_FULL = true ∧ archive.ar.inRing < 256 ∧
    Tab.get (fun _ => []) archive.ar.gaps 24 = [] ∧ archive.ar.stepped = [] ∧
    archive.combOn (combQuarter (archive.fget F.AR_BUF_ADDR * 64 + 4096 * (archive.ar.placed % 256))) = true ∧
    Tab.get (fun _ => []) ({ archive with ar.gaps := [(24, [⟨0, 0, 3⟩])], ar.inRing := 254 } : State).ar.gaps 24 = [⟨0, 0, 3⟩] ∧
    256 ≤ ({ archive with ar.inRing := 256 } : State).ar.inRing - 0 ∧ archive.ar.ext = none ∧ archive.arRun = true ∧
    ({ archive with ar.ext := some (0, 0, 4096) } : State).ar.ext = some (0, 0, 4096) ∧ archive.aaddr < 4096 ∧
    4096 ≤ (put archive [(F.AR_AADDR_LO, 4096)]).aaddr ∧ (put archive [(F.AR_STAT_EXT, 65535)]).fget F.AR_STAT_EXT = 65535 ∧
    archive.fget F.AR_STAT_EXT < 65535 ∧ archive.flag F.AR_CTL_MODE = false ∧
    (put archive [(F.AR_CTL_MODE, 1)]).flag F.AR_CTL_MODE = true ∧ archive.judge .warden 0x170 0x040 true = .ok ∧
    archive.judge .warden 0x170 (0x080 + 16 * 7) true = .ok := by
  and_intros <;> decide +kernel

/-- PenholtPortsCarryWords, the west port. -/
theorem test_penholt :
    R.penOn = false ∧ (pen ptUP {}).penOn = true ∧ (pen ptUP {}).penState 1 = ptUP ∧ (pen ptTRAIN {}).penState 1 = ptTRAIN ∧
    (pen ptDOWN {}).penState 1 = ptDOWN ∧ 16 ≤ ((pen ptUP { fails := 15 }).penPort 1).fails + 1 ∧
    ((pen ptUP { fails := 14 }).penPort 1).fails + 1 < 16 ∧ (5 : BitVec 4).toNat ≠ 6 ∧ (5 : BitVec 4).toNat ≠ 7 ∧
    (7 : Fin 8).val ≠ devAddr R ∧ (0 : Fin 8).val = devAddr R ∧ (pen ptUP {}).penState 0 = ptUP ∧
    (put (pen ptUP {}) [(F.PP_STAT_STATE 0, ptTRAIN)]).penState 0 ≠ ptUP ∧ ((pen ptUP {}).penPort 0).queue.length < 256 ∧
    256 ≤ (List.replicate 256 (7, 1, 0, ([] : List Byte))).length ∧ penPeer.penOn = true ∧ penPeer.penState 1 = ptUP ∧
    Tab.get (fun _ => []) penPeer.pen.rx 3 ++ ([] : List Byte).take 7 = cmdFrame ∧ frameOk cmdFrame = true ∧
    frameCls cmdFrame = 0 ∧ frameOp cmdFrame ≠ some 1 ∧ penPeer.boundTo (frameTenant cmdFrame) .penEast 3 = true ∧
    (penPeer.tenant (frameTenant cmdFrame)).state = .opened ∧ (frameItems 1 cmdFrame).length ≤ (penPeer.queue 10).cred ∧
    (penPeer.queue 10).part = [] ∧ (penPeer.queue 10).batch = none ∧ penPeer.tn.waiting = [] ∧
    penClient.boundTo 5 (penPortOf 1) 3 = true ∧ (penClient.tenant 5).state ≠ .free ∧
    (pen ptUP {}).boundTo 0 (penPortOf 1) 7 = false ∧ (pen ptUP {}).boundTo 5 (penPortOf 1) 7 = false ∧
    (pen ptUP {}).judge .warden 0x182 0x040 true = .ok ∧ (pen ptUP {}).flag F.PH_CTL_EN = true ∧
    (put (pen ptUP {}) [(F.PH_CTL_EN, 0)]).flag F.PH_CTL_EN = false := by
  and_intros <;> decide +kernel

/-- PenholtSharesTimeAndTopology, the west port. -/
theorem test_penholt_time :
    (0 : Fin 8).val = devAddr R ∧ (7 : Fin 8).val ≠ devAddr R ∧ (pen ptUP {}).penRole ≠ rlMASTER ∧ master.penRole = rlMASTER ∧
    (0 : Nat) < devAddr (put R [(F.SYS_STRAP_DEVADDR, 7)]) ∧ (pen ptUP {}).penOn = true ∧ (penClient.tenant 5).live = true ∧
    (penClient.tenant 5).port = .penWest ∧ (penClient.tenant 5).client = 3 ∧ claiming.penOn = true ∧
    claiming.flag F.PH_CTL_MASTEREN = true ∧ claiming.penRole ≠ rlMASTER ∧
    claiming.pen.syncT.getD 0 + ms (2000 + 100 * devAddr claiming) ≤ claiming.now ∧ (pen ptUP {}).now < 0 + ms 2000 ∧
    (put (pen ptUP {}) [(F.PH_CTL_MASTEREN, 0)]).flag F.PH_CTL_MASTEREN = false ∧ R.skyState ≠ skFOLLOW ∧
    (on [] [(F.SKY_STATE_STATE, skFOLLOW)]).skyState = skFOLLOW ∧ follower.timePort 1 = true ∧
    ((pen ptUP {}).setPenPort 0 { timeT := some 0 }).timePort 1 = false ∧ follower.penRole ≠ rlMASTER ∧
    follower.penRoute (follower.fget F.PH_STAT_MASTER) = 1 ∧ follower.skyState ≠ skHOLDOVER ∧
    (put follower [(F.SKY_STATE_STATE, skHOLDOVER)]).skyState = skHOLDOVER ∧
    follower.stepThr < ((follower.now : Int) - (((2 ^ 95 : Nat) : Int) + ofPs (follower.fget (F.PP_DELAY_PS 1)))).natAbs ∧
    follower.flag F.SKY_CTL_AUTOSTEP = false ∧ ((pen ptUP { dwait := true, dseq := 65535 }).penPort 1).dwait = true ∧
    ((pen ptUP { dwait := true, dseq := 65535 }).penPort 1).dseq = (65535 : Half).toNat ∧ ((pen ptUP {}).penPort 1).dwait = false := by
  and_intros <;> decide +kernel

/-- WeevilOperandsFollowTheModes and the instruction statements: cores that issue, and the modes at their bounds. -/
theorem test_weevil_issue :
    Issuing R .warden (.short 0) ∧ Issuing R .warden (.long 0 0) ∧ Issuing glow .glow (.long 0 0) ∧
    Issuing (hive {}) (.hive 15) (.short 0x3F) ∧ R.issues (.hive 15) = false ∧ (hive {}).issues (.hive 15) = true ∧
    ((hive { p := 0xFFFF }).core 15).inCode (.hive 15) (.short 0) = false ∧ glow.issues .glow = true ∧
    (glow.core 17).inCode .glow (.short 0) = true ∧ ((R.core 16).x.toNat + (191 - 128)) % 65536 < dataWords .warden ∧
    (R.core 16).b = 0 ∧ (0x3FFF : Half).toNat < dataWords (.hive 15) ∧ dataWords (.hive 15) ≤ (0x4000 : Half).toNat ∧
    (0x4000 : Half).toNat < 0xFF00 ∧ (0x40 : Byte).toNat < 0xC0 ∧ (bankAt 0xBF).issues (.hive 15) = true ∧
    (bankAt 0xBF).combOn (combQuarter ((0xBF - 0x40) * 2 ^ 17 + 2 * 0xFFFF)) = true ∧ (bankAt 0xBF).ecc = [] ∧
    ((bankAt 0x20).core 15).b.toNat = 0x20 + 0 / 32 ∧ implemented 0 = true ∧
    (bankAt 0x20).unreachable (coreVia (.hive 15)) 0 = false ∧ (0 : Half).toNat = 0 % 32 * 2048 ∧
    (1 : Half).toNat = 0 % 32 * 2048 + 1 ∧ ((bankAt 0x1F).core 15).b.toNat < 0x20 ∧ 0xC0 ≤ ((bankAt 0xFF).core 15).b.toNat ∧
    (0x1F : Byte).toNat % 32 ≠ 0 ∧ 200 ≤ (0xC8 : Byte).toNat ∧ 8 ≤ (8 : Half).toNat := by
  and_intros <;> decide +kernel

/-- The instruction statements: operand values supplied in every mode. -/
theorem test_weevil_operands :
    ((R.core 16).operand (.short 0x3F) 0).isSome = true ∧ ((R.core 16).operand (.long 0 7) 0) = some (.imm 7) ∧
    ((R.core 16).operand (.short 0xC7) 0) = some (.reg 7) ∧ ((R.core 16).operand (.long 0xE0 7) 0) = some (.reg 7) ∧
    (match (R.core 16).operand (.short 0x7F) 0 with | some (.mem b w i) => decide (place .warden b w = .data 63 ∧ i = none) | _ => false) = true ∧
    (match (R.core 16).operand (.long 0xC0 3) 0 with | some (.mem b w i) => decide (place .warden b w = .data 0 ∧ i = some (true, 3)) | _ => false) = true ∧
    ((R.core 16).operand (.long 0x0F 5) 4).isSome = true ∧ ((R.core 16).operand (.short 5) 4).isSome = true := by
  and_intros <;> decide +kernel

/-- WeevilLoadsStoresAndMoves. -/
theorem test_weevil_moves :
    ((hive { load := some (3, 7) }).core 15).load = some (3, 7) ∧ ((hive { load := some (0, 7) }).core 15).load = some (0, 7) ∧
    Issuing (hive { load := some (0, 7) }) (.hive 15) (.long 0 9) ∧ place (.hive 15) 0 0x3FFF = .data 0x3FFF ∧
    place (.hive 15) 0xBF 0xFFFF = .comb 0xFFFFFE ∧ place (.hive 15) 0x20 1 = .regs 0 0 true ∧
    place (.hive 15) 0x20 0 = .regs 0 0 false ∧ place .warden 0 0xFF00 = .control 0xFF00 ∧
    place .warden 0 0xFF01 = .control 0xFF01 ∧ place .warden 0 0xFF02 = .control 0xFF02 ∧
    place .warden 0 0xFF0A = .control 0xFF0A ∧ ((R.core 16).operand (.long 0x20 0xFF0A) 0 = some (.mem 0 0xFF0A none)) ∧
    48 ≤ (48 : Byte).toNat ∧ (.short 1 : Enc) ≠ .short 0 ∧ (.short 1 : Enc) ≠ .long 0 0 := by
  and_intros <;> decide +kernel

/-- WeevilBranchesCallsAndInterrupts. -/
theorem test_weevil_flow :
    ((hive { stack := List.replicate 8 ⟨0, 0, 0, 0⟩ }).core 15).stack.length = 8 ∧
    ((hive { stack := List.replicate 7 ⟨0, 0, 0, 0⟩ }).core 15).stack.length < 8 ∧ ((hive {}).core 15).stack = [] ∧
    ((hive { stack := [⟨9, 0, 1, 2⟩] }).core 15).stack = ⟨9, 0, 1, 2⟩ :: [] ∧ due3.coreRuns (.hive 15) = true ∧
    (due3.core 15).f.getLsbD fIE = true ∧ (due3.core 15).load = none ∧
    ((due3.core 15).ien &&& (due3.core 15).ipend).getLsbD 3 = true ∧
    ((List.range 3).all fun j => !((due3.core 15).ien &&& (due3.core 15).ipend).getLsbD j) = true ∧
    ((hive { treload := 5 }).core 15).treload ≠ 0 ∧ ((hive {}).core 15).treload = 0 ∧
    ((hive { waiting := true }).core 15).waiting = true ∧ ((hive {}).core 15).f.getLsbD fIE = false := by
  and_intros <;> decide +kernel

/-- MicrocodeIsLoadedSealedAndRun: a valid user instruction of one step, for each routine the statement names. -/
theorem test_microcode :
    ucode.issues (.hive 15) = true ∧ (ucode.core 15).inCode (.hive 15) (.long 0 0) = true ∧ R.flag F.UC_STAT_BUSY = false ∧
    (ucode.core 15).user = none ∧ (ucode.core 15).load = none ∧ 2 ^ 31 ≤ (Tab.get (fun _ => 0) (ucode.core 15).table 15).toNat ∧
    1 ≤ (Tab.get (fun _ => 0) (ucode.core 15).table 15).toNat / 2 ^ 16 % 512 ∧
    (Tab.get (fun _ => 0) (ucode.core 15).table 14).toNat < 2 ^ 31 ∧ microField addStep 60 4 = 1 ∧ microField addStep 56 4 = 0 ∧
    microField addStep 52 4 = 1 ∧ microField addStep 48 4 = 0 ∧ microField addStep 46 2 = 0 ∧ microField addStep 39 5 = 15 ∧
    microField addStep 36 3 = 4 ∧ microField yieldStep 60 4 = 0 ∧ microField yieldStep 56 4 = 1 ∧ microField yieldStep 36 3 = 0 ∧
    microField yieldStep 31 1 = 1 ∧ microField loopStep 36 3 = 1 ∧ microField loopStep 16 10 = 1023 ∧
    microField loopStep 31 1 = 0 ∧ microField faultStep 36 3 = 5 ∧ microField storeStep 60 4 = 0 ∧
    microField storeStep 48 4 = 13 ∧ microField storeStep 46 2 = 2 ∧ microField storeStep 36 3 = 4 ∧
    microField moveStep 56 4 = 6 ∧ microField moveStep 36 3 = 4 ∧ R.coreRuns .warden = true ∧
    ({ R with boot.dead := true } : State).coreRuns .warden = false ∧ R.judge .warden 0x190 0x100 true = .ok ∧
    (on [30] []).combOn (combQuarter (64 * R.fget F.UC_SRC_V)) = true ∧ 17 ≤ (put R [(F.UC_CTL_CORE, 17)]).fget F.UC_CTL_CORE ∧
    R.fget F.UC_CTL_CORE ≤ 16 ∧
    ({ R with wv.uc := some ⟨16, true, 0, 0, 1, [0]⟩ } : State).wv.uc = some ⟨16, true, 0, 0, 1, [0]⟩ ∧
    R.judge .warden 0x120 0x040 true = .ok := by
  and_intros <;> decide +kernel

/-- LenlisRunsItsCommands. -/
theorem test_monitor :
    R.monOn = false ∧ monitor.monOn = true ∧ service.monOn = true ∧ service.fget F.SYS_BOOT_MODE = bmSERVICE ∧
    monitor.fget F.SYS_BOOT_MODE ≠ bmSERVICE ∧ monitor.mon.unlocked = false ∧ unlocked.mon.unlocked = true ∧
    ({ put (entering 2) [(F.U_CTL_EN 0, 1)] with mon := {} } : State).readHeld (.behalf 0) 0x152 0x040 1 = true ∧
    monitor.readHeld (.behalf 0) 0x152 0x040 1 = false ∧ 64 < 65 ∧ (0x041 : BitVec 12).toNat % 4 ≠ 0 ∧
    4096 < (0xFFC : BitVec 12).toNat + 4 * 2 ∧ monitor.domState 1 = dON ∧ implemented 0x1A0 = true ∧
    monitor.flag (PG_FREEZE 0x110) = false ∧ hexLine (List.replicate 64 0x41) ≠ none ∧ hexLine (List.replicate 64 0x58) = none ∧
    (List.replicate 64 (0x41 : Byte)).length = 64 ∧ monitor.mon.half = none ∧
    ({ monitor with mon.half := some [1] } : State).mon.half = some [1] ∧ unlocked.upBusy = false ∧
    (put unlocked [(F.UP_STAT_STATE, 1)]).upBusy = true ∧ 300 ≤ 3000000 ∧ Tab.wf voteReset monitor.pwr.votes = true ∧
    (put unlocked [(PG_LOCK 0x190, 1)]).flag (PG_LOCK 0x190) = true ∧ notForOwner 0x190 = true ∧
    unlocked.judge (.behalf 0) 0x152 0x040 true = .ok ∧
    ({ unlocked with upd.image := some (parseImage []) } : State).upd.image = some (parseImage []) ∧ lastChar.uOn 0 = true ∧
    lastChar.uMode 0 = umMONITOR ∧ lastChar.flag (F.U_STAT_XOFFRX 0) = false ∧ (lastChar.uart 0).shift = some 0x41 ∧
    lastChar.mon.out = [0x42] ∧ lastChar.mon.rate = some 3000000 ∧ lastChar.mon.toFrame = true ∧
    (loading [0x41, 0x42] []).mon.load = some (4, crc32c magic, []) ∧ (loading [0x41, 0x42] []).uOn 0 = true ∧
    (loading [] []).uMode 0 = umMONITOR ∧ (loading [] []).mon.long = false ∧ hexLine [0x41, 0x42] = some [0xAB] ∧
    hexLine [0x41] = none ∧ (loading [] []).flag (F.U_FMT_ADDR9 0) = false ∧
    (loading [] magic).mon.load = some (4, crc32c magic, magic) ∧ crc32c (magic.take 4) < 2 ^ 32 ∧
    imgField (magic.take 4) 0 4 = 0x4D49544B ∧ crc32c ([1, 2, 3, 4] : List Byte) ≠ crc32c magic ∧
    imgField [1, 2, 3, 4] 0 4 ≠ 0x4D49544B ∧ R.mon.load = none := by
  and_intros <;> decide +kernel

/-- CicadaTakesRoutesAndLogsRaises, the last source. -/
theorem test_cicada :
    R.cic.raises = [] ∧ (raised []).cic.raises = [⟨1151, 0x170, 1, none, 0, 0⟩] ∧ (1151 : Nat) < 1152 ∧
    Tab.get (fun _ => none) (raised []).cic.wins 1151 = none ∧
    (raised [(F.SRC_CFG_WARDEN 1151, 1)]).flag (F.SRC_CFG_WARDEN 1151) = true ∧
    (put R [(F.SRC_CFG_CW 1151, 0)]).fget (F.SRC_CFG_CW 1151) = 0 ∧ R.fget (F.SRC_CFG_CW 1151) ≠ 0 ∧
    (put (raised []) [(F.SRC_CFG_LOG 1151, 0)]).flag (F.SRC_CFG_LOG 1151) = false ∧
    (put R [(F.SRC_CFG_PCIE 1151, 1)]).flag (F.SRC_CFG_PCIE 1151) = true ∧ (link 5 {}).irqActive 1 = false ∧
    (put R [(irqEnFld 1, 15)]).fget (irqEnFld 1) &&& 2 ^ R.fget (F.SRC_CFG_CLASS 1151) ≠ 0 ∧
    (link 5 {}).flag F.PCIE_LINK_UP = true ∧ (Tab.get (fun _ => 0) R.pcie.msix 3).getLsbD 0 = false ∧
    R.flag (F.SRC_CFG_LOG 1151) = true ∧ logGap 1 R.cic.slots = some 1 ∧ (on [30] []).combOn 0 = true ∧
    (windowOpen 1).cic.raises = ⟨1151, 0x170, 1, none, 0, 0⟩ :: [] ∧
    Tab.get (fun _ => none) (windowOpen 1).cic.wins 1151 = some ⟨0, ms 10, 2, 1, 0, 1, 0x170, 0, 0, some 8191⟩ ∧
    (windowOpen 1).now < 0 + ms 10 ∧ (Tab.get (fun _ => none) R.cic.wins 1151 : Option Win) = none ∧
    (put R [(F.SRC_CFG_TEN 1151, 1)]).flag (F.SRC_CFG_TEN 1151) = true ∧ R.flag (F.SRC_CFG_TEN 1151) = false ∧
    (owner0.tenant 0).state = .opened ∧ owner0.muted 0 = false ∧ owner0.tenTargets 0x170 = [0] ∧ (owner0.queue 1).batch = none ∧
    owner0.tn.waiting = [] ∧
    (frameItems 3 (frameBytes 5 0 0 (List.replicate 32 0))).length ≤ (({ owner0 with tn.queues := [(1, { cred := 9 })] } : State).queue 1).cred ∧
    R.judge .warden 0x130 0x040 true = .ok := by
  and_intros <;> decide +kernel

/-- ResetsClearAndKeepWhatTheyName. -/
theorem test_resets :
    R.judge .warden 0x002 0x040 true = .ok ∧ R.judge .warden 0x002 0x04C true = .ok ∧ R.flag F.SKY_STATE_AONVALID = false ∧
    (put R [(F.SKY_STATE_AONVALID, 1)]).flag F.SKY_STATE_AONVALID = true ∧ R.domPowered 1 = true ∧ R.boot.dead = false ∧
    asleep.domPowered 1 = false ∧ ({ R with boot.dead := true } : State).boot.dead = true ∧ R.fget F.RST_WDOG_PERIOD ≠ 0 ∧
    (put R [(F.RST_WDOG_PERIOD, 0)]).fget F.RST_WDOG_PERIOD = 0 ∧
    ({ R with boot.restartT := some 0 } : State).boot.restartT = some 0 ∧ R.now < 0 + 10 * sec ∧ R.boot.restartT = none ∧
    R.upd.image = none ∧ (running 0 magic).upd.image = some (parseImage magic) ∧
    ({ R with boot.sampled := true } : State).svcOn = true ∧ R.svcOn = false ∧ R.flag F.RST_SVC_STUCK = false ∧
    (put R [(F.RST_SVC_STUCK, 1)]).flag F.RST_SVC_STUCK = true ∧ (on [2] []).domPowered 2 = true ∧
    (ownJob.tenant 5).running = [(0x58, 9)] ∧ (17 : Nat) ≠ 16 := by
  and_intros <;> decide +kernel

/-- StartUpTakesStrapsAndAnImage. -/
theorem test_start_up :
    R.domPowered 1 = true ∧ R.boot.sampled = false ∧ ({ R with boot.sampled := true } : State).boot.sampled = true ∧
    asleep.domPowered 1 = false ∧ booting.boot.sampled = true ∧ booting.boot.checked = false ∧ booting.boot.dead = false ∧
    booting.fget F.SYS_BOOT_MODE = 0 ∧ booting.fget F.SYS_BOOT_STATE = 0 ∧ booting.domPowered 2 = true ∧ booting.combOn 0 = true ∧
    imageOk booting.fuses (booting.flashBytes 0 0x200) = false ∧ (on [30] []).judge .warden 0x002 0x05C true = .ok ∧
    (on [30] []).combOn (combQuarter (4 * R.fget F.BL_ADDR_A)) = true ∧ R.judge .warden 0x002 0x068 true = .ok ∧
    R.fget F.SYS_BOOT_STATE ≠ bsHOSTWAIT ∧ (hostLoad 4 0).fget F.SYS_BOOT_STATE = bsHOSTWAIT ∧
    0x100000 < (hostLoad 0x100001 0).fget F.BL_LEN_N ∧ (hostLoad 4 0).fget F.BL_LEN_N ≤ 0x100000 ∧
    crc32c ((hostLoad 4 0).combBytes 0 4) ≠ (hostLoad 4 0).fget F.BL_CRC ∧
    crc32c ((hostLoad 4 (crc32c [0, 0, 0, 0])).combBytes 0 4) = (hostLoad 4 (crc32c [0, 0, 0, 0])).fget F.BL_CRC ∧
    imageOk R.fuses [0, 0, 0, 0] = false ∧ R.boot.checked = false ∧
    ({ R with boot.checked := true } : State).boot.checked = true ∧ R.fget F.SYS_BOOT_STATE ≠ bsIMAGE ∧
    (put R [(F.SYS_BOOT_STATE, bsIMAGE)]).fget F.SYS_BOOT_STATE = bsIMAGE := by
  and_intros <;> decide +kernel

/-- OnlyConfirmChangesAFuse and EveryStepKeepsTheCanonicalForms. -/
theorem test_invariants :
    R.regsWf = true ∧ R.combWf = true ∧ R.flashWf = true ∧ R.queueWf = true := by
  and_intros <;> decide +kernel

/-- WellFormed refuses offsets that name no whole register, and BAR2 offsets past its end. -/
theorem test_ill_formed_offsets :
    Instr.wf (.registerWrite .warden 0x152 0x041 (some 0) 0xF) = false ∧
    Instr.wf (.registerWrite .warden 0x152 0x040 (some 0) 0xF) = true ∧
    Instr.wf (.registerWrite .bar2 0x080 0x400 (some 0) 0xF) = false ∧
    Instr.wf (.registerWrite .bar2 0x080 0x3FC (some 0) 0xF) = true ∧ Instr.wf (.ncoWordWrite .warden 0 0x1D 0) = false ∧
    Instr.wf (.tpCtlWrite .warden 0 2 0) = false ∧ Instr.wf (.poke 0x152 0x042 0) = false := by
  and_intros <;> decide +kernel

/-- WellFormed refuses counts and lengths out of range. -/
theorem test_ill_formed_counts :
    Instr.wf (.votes 38) = false ∧ Instr.wf (.pwCast .warden 38 0) = false ∧ Instr.wf (.pwWithdraw .warden 38 0) = false ∧
    Instr.wf (.calDone (List.replicate 9 (0, 0, 0))) = false ∧ Instr.wf (.thermSample [0, 0, 0]) = false ∧
    Instr.wf (.meterTick [0]) = false ∧ Instr.wf (.osnmaroot 0 0 0 []) = false ∧
    Instr.wf (.usbOpen (List.replicate 129 0)) = false ∧ Instr.wf (.fullUpdate { update [] with offs := [] }) = false := by
  and_intros <;> decide +kernel

/-- WellFormed refuses a list that names a channel or rail twice, and a command longer than a frame. -/
theorem test_ill_formed_lists :
    Instr.wf (.vectorTick [unused, unused] false 0) = false ∧ Instr.wf (.vectorTick [unused] false 0) = true ∧
    Instr.wf (.beamWeights [(3, 1, 1, 1), (3, 1, 1, 1)]) = false ∧ Instr.wf (.epochBoundary [(7, []), (7, [])]) = false ∧
    Instr.wf (.coastRefresh [coastPred, coastPred]) = false ∧ Instr.wf (.regrd 0 0 0 (List.replicate 16383 0)) = false ∧
    Instr.wf (.regrd 0 0 0 (List.replicate 16382 0)) = true ∧ Instr.wf (.upddata 0 0 0 0 (List.replicate 65528 0)) = false := by
  and_intros <;> decide +kernel

/-- The check values of the CRCs over 123456789 (R224, R266) and of one byte. -/
theorem test_crc_check_values :
    crc32c [0x31, 0x32, 0x33, 0x34, 0x35, 0x36, 0x37, 0x38, 0x39] = 0xE3069283 := by
  decide +kernel

/-- ADD: 0xFFFF + 1 is 0 with Z and C (R264), P past two words. -/
theorem test_add_wraps :
    ((after (.add .warden (.long 0 1)) (warden { a := 0xFFFF })).core 16).a = 0 ∧
    ((after (.add .warden (.long 0 1)) (warden { a := 0xFFFF })).core 16).f = 0x05 ∧
    ((after (.add .warden (.long 0 1)) (warden { a := 0xFFFF })).core 16).p = 10 := by
  and_intros <;> decide +kernel

/-- SUB: 0x8000 - 1 is 0x7FFF with C (no borrow) and V (R264). -/
theorem test_sub_overflows :
    ((after (.sub .warden (.short 1)) (warden { a := 0x8000 })).core 16).a = 0x7FFF ∧
    ((after (.sub .warden (.short 1)) (warden { a := 0x8000 })).core 16).f = 0x0C := by
  and_intros <;> decide +kernel

/-- DIV: -7 / 2 is -3 with remainder -1; a divisor of 0 gives 0x8000 for a negative dividend, E = 0 and V (R265). -/
theorem test_division :
    ((after (.div .warden (.short 2)) (warden { a := 0xFFF9, e := 0xFFFF })).core 16).a = 0xFFFD ∧
    ((after (.div .warden (.short 2)) (warden { a := 0xFFF9, e := 0xFFFF })).core 16).e = 0xFFFF ∧
    ((after (.div .warden (.short 0)) (warden { a := 0xFFF9, e := 0xFFFF })).core 16).a = 0x8000 ∧
    ((after (.div .warden (.short 0)) (warden { a := 0xFFF9, e := 0xFFFF })).core 16).e = 0 ∧
    ((after (.div .warden (.short 0)) (warden { a := 0xFFF9, e := 0xFFFF })).core 16).f = 0x0A := by
  and_intros <;> decide +kernel

/-- MUL and MULU of 0xFFFF by 2 (R264): -2 and 0x1FFFE. -/
theorem test_products :
    ((after (.mul .warden (.short 2)) (warden { a := 0xFFFF })).core 16).e = 0xFFFF ∧
    ((after (.mul .warden (.short 2)) (warden { a := 0xFFFF })).core 16).a = 0xFFFE ∧
    ((after (.mulu .warden (.short 2)) (warden { a := 0xFFFF })).core 16).e = 1 := by
  and_intros <;> decide +kernel

/-- SHL by 16 moves bit 0 into C; SAR keeps the sign; BREV of 4 bits (R264, R267). -/
theorem test_shifts :
    ((after (.shl .warden (.short 16)) (warden { a := 1 })).core 16).f = 0x05 ∧
    ((after (.sar .warden (.short 15)) (warden { a := 0x8000 })).core 16).a = 0xFFFF ∧
    ((after (.brev .warden (.short 4)) (warden { a := 1 })).core 16).a = 8 := by
  and_intros <;> decide +kernel

/-- CRCC over the character 1 from 0xFFFF, and CRCW from all ones (R266). -/
theorem test_crc_steps :
    ((after (.crcc .warden (.long 0x07 0x31)) (warden { a := 0xFFFF })).core 16).a = 0xC782 ∧
    ((after (.crcw .warden (.long 0x07 0x31)) (warden { a := 0xFFFF, e := 0xFFFF })).core 16).a = 0x661C ∧
    ((after (.crcw .warden (.long 0x07 0x31)) (warden { a := 0xFFFF, e := 0xFFFF })).core 16).e = 0x6F0A := by
  and_intros <;> decide +kernel

/-- A loaded value lands at the end of the next instruction (R260). -/
theorem test_load_delay :
    ((after (.lda .warden (.short 0x45)) (warden { data := [(5, 77)] })).core 16).a = 0 ∧
    ((after (.nop .warden (.short 0)) (after (.lda .warden (.short 0x45)) (warden { data := [(5, 77)] }))).core 16).a = 77 := by
  and_intros <;> decide +kernel

/-- JSR pushes the next address and RTS returns to it (R268). -/
theorem test_call_and_return :
    ((after (.jsr .warden (.long 0 0x100)) R).core 16).p = 0x100 ∧
    ((after (.rts .warden (.short 0)) (after (.jsr .warden (.long 0 0x100)) R)).core 16).p = 10 := by
  and_intros <;> decide +kernel

/-- BRA goes to the next address plus its offset; DBNZ stops at 0 (R264). -/
theorem test_branches :
    ((after (.bra .warden (.short 0xFE)) R).core 16).p = 7 ∧
    ((after (.dbnz .warden (.short 5)) (warden { x := 1 })).core 16).p = 9 ∧
    ((after (.dbnz .warden (.short 5)) (warden { x := 0 })).core 16).p = 14 := by
  and_intros <;> decide +kernel

/-- A whole register write, and a PCIe write with one byte enable: no effect but PG_FAULT.ACCESS (R26). -/
theorem test_register_write :
    (after (.registerWrite .warden 0x152 0x040 (some 0xABC) 0xF) (on [2] [])).fget F.SPI_WT_T = 0xABC ∧
    (after (.registerWrite .pcie 0x152 0x040 (some 0xABC) 0x1) (link 5 {})).fget F.SPI_WT_T = 0 ∧
    (after (.registerWrite .pcie 0x152 0x040 (some 0xABC) 0x1) (link 5 {})).flag (PG_FAULT 0x152 29) = true := by
  and_intros <;> decide +kernel

/-- The first item of a message takes a credit; the same item as a whole message is no good frame and is counted (R306, R308). -/
theorem test_pushed_items_take_credit :
    ((after (.windowPush 5 (mkItem 1 false [1, 2, 3, 4, 5, 6, 7])) (link 5 { cred := 1 })).queue 10).cred = 0 ∧
    ((after (.windowPush 5 (mkItem 1 true [7])) (link 5 { cred := 1 })).tenant 5).ferr = 1 ∧
    ((after (.windowPush 5 (mkItem 1 true [7])) (link 5 { cred := 1 })).queue 10).ready = [] := by
  and_intros <;> decide +kernel

/-- RegisterPagesTakeWritesAndCommands: the read of an unpowered register, of a powered one, of one held by FREEZE, and the header's registers. -/
theorem test_page_reads :
    R.unreachable .warden 0x152 = false ∧ R.domState (pageDom 0x152) ≠ dENTRY ∧ isSleepReg 0x152040 = false ∧
    R.powered 0x152 = false ∧ (on [2] []).unreachable .warden 0x152 = false ∧ (on [2] []).domState (pageDom 0x152) ≠ dENTRY ∧
    (on [2] []).powered 0x152 = true ∧ popping 0x152040 = false ∧ drawnReg 0x152040 = false ∧ 0x152040 ≠ F.Q_NEXTIN_T.addr ∧
    (on [2] []).flag (PG_FREEZE 0x152) = false ∧ R.judge .warden 0x110 0x018 true = .ok ∧ R.judge .warden 0x110 0x01C true = .ok ∧
    R.judge .warden 0x110 0x020 true = .ok ∧ implemented 0x110 = true ∧ R.unreachable .warden 0x110 = false ∧
    (link 5 {}).pcieUp = true ∧ R.judge .warden 0x002 0x048 true = .ok ∧ R.domPowered 1 = true ∧
    (put R [(PG_FREEZE 0x110, 1)]).boot.dead = false ∧ (put R [(PG_FREEZE 0x110, 1)]).flag (PG_FREEZE 0x110) = true := by
  and_intros <;> decide +kernel

/-- RegisterPagesTakeWritesAndCommands: commits of RF with N and BW in and out of range, CLKOUT, Ledger, ARRAY, SIEVE, and of a page whose domain is off. -/
theorem test_commits :
    (on [10] [(F.RF_LO_N 7, 1584), (F.RF_BB_BW 7, 5)]).judge .warden (rfPage 7) 0x00C true = .ok ∧
    (on [10] []).domState (pageDom (rfPage 7)) = dON ∧ (on [10] [(F.RF_LO_N 7, 1584)]).fget (F.RF_LO_N 7) = 1584 ∧
    (on [10] [(F.RF_LO_N 7, 1585), (F.RF_BB_BW 7, 6)]).fget (F.RF_LO_N 7) = 1585 ∧
    (on [10] [(F.RF_BB_BW 7, 6)]).fget (F.RF_BB_BW 7) = 6 ∧ R.judge .warden 0x012 0x00C true = .ok ∧ R.domState 1 = dON ∧
    (put R [(F.CLKOUT_CFG_FMT 3, 5)]).clkBad 3 = true ∧ (put R [(F.CLKOUT_CFG_FMT 3, 5)]).clkBad 0 = false ∧
    R.judge .warden 0x008 0x00C true = .ok ∧ (put R [(F.TAR_V 0, 1), (F.TAR_V 7, 1)]).tarBad = true ∧ R.tarBad = false ∧
    R.judge .warden 0x028 0x00C true = .ok ∧ (put R [(F.ARRAY_AG1EN, 1), (F.ARRAY_AG1MASK, 1)]).flag F.ARRAY_AG1EN = true ∧
    popcount 4 ((put R [(F.ARRAY_AG1EN, 1), (F.ARRAY_AG1MASK, 1)]).fget F.ARRAY_AG1MASK) < 2 ∧ R.flag F.ARRAY_AG0EN = false ∧
    R.flag F.ARRAY_AG1EN = false ∧ (on [11] []).judge .warden (svPage 7) 0x00C true = .ok ∧
    (on [11] []).domState (pageDom (svPage 7)) = dON ∧ R.judge .warden (svPage 7) 0x00C true = .ok ∧
    R.domState (pageDom (svPage 7)) ≠ dON ∧ implemented (svPage 7) = true := by
  and_intros <;> decide +kernel

/-- RegisterPagesTakeWritesAndCommands: SRST of a named page and of SKY, and FREEZE rising, held and falling. -/
theorem test_resets_of_pages :
    R.judge .warden 0x007 0x00C true = .ok ∧ R.powered 0x007 = true ∧ R.regsWf = true ∧ R.judge .warden 0x110 0x00C true = .ok ∧
    R.powered 0x110 = true ∧ R.flag (PG_FREEZE 0x110) = false ∧ (put R [(PG_FREEZE 0x110, 1)]).flag (PG_FREEZE 0x110) = true ∧
    ((findPage 0x110).bind fun x => (findReg x.1.regs 0x050).map fun d => decide (d.1.bits .RO ≠ 0)) = some true ∧
    popping 0x110050 = false ∧ drawnReg 0x110050 = false ∧ 0x110050 ≠ F.Q_NEXTIN_T.addr := by
  and_intros <;> decide +kernel

/-- SkyClockEventsAct: a waiting step, a leap not due, grids due and not, and the sample source back. -/
theorem test_sky_clauses :
    ({ on [] [(F.SKY_STATE_SRC, 1)] with sky.stepReq := [-5] } : State).srcAON = true ∧
    ({ on [] [(F.SKY_STATE_SRC, 1)] with sky.stepReq := [-5] } : State).sky.stepReq = [-5] ∧
    (put R [(F.LEAP_T 2, 5)]).now < (put R [(F.LEAP_T 2, 5)]).get96 F.LEAP_T ∧
    (on [] [(F.SKY_STATE_SRC, 1), (F.CLK_STAT_BYP, 0)]).srcAON = true ∧
    (on [] [(F.SKY_STATE_SRC, 1), (F.CLK_STAT_BYP, 0)]).flag F.CLK_STAT_BYP = false ∧
    (put locked [(F.SKY_STATE_STATE, skSTEERED)]).srcAON = false ∧
    (put locked [(F.SKY_STATE_STATE, skSTEERED)]).skyState = skSTEERED ∧
    ({ R with sky.gridPend := some (7, 5) } : State).sky.gridPend = some (7, 5) ∧ R.now < 5 ∧
    ({ on [] [(F.SKY_STATE_SRC, 1)] with sky.gridPend := some (7, 0) } : State).sky.gridPend = some (7, 0) ∧ 0 ≤ R.now ∧
    R.sky.stepClose = false ∧ (on [] [(F.SKY_STATE_SRC, 1)]).gridDue = false ∧ (on [] [(F.SKY_STATE_SRC, 1)]).epochDue = false ∧
    (on [] [(F.SKY_STATE_SRC, 1)]).scOn = false ∧ ({ locked with sky.time := 10 * sec * 2 ^ 32 } : State).gridDue = true ∧
    ({ locked with sky.time := 10 * sec * 2 ^ 32 } : State).epochDue = true ∧ (on [] [(F.SKY_STATE_SRC, 1)]).srcAON = true ∧
    R.meas.open_ = none := by
  and_intros <;> decide +kernel

/-- ScheduleCommandsAct: a refused WRITE, and one entry due alone, undisturbed and on time. -/
theorem test_schedule_clauses :
    R.fget F.E_ACT_ACTION = 0 ∧ (on [] [(F.E_ACT_ACTION, 7)]).fget F.E_ACT_ACTION = 7 ∧
    (on [] [(⟨(F.ARMED 0).addr, 0, 1⟩, 1)]).judge .warden 0x111 0x044 true = .ok ∧ argOk 6 0 = true ∧
    (on [] [(F.E_ACT_ACTION, 6)]).armed 0 = false ∧ due.domPowered 1 = true ∧ due.entryDue 511 = true ∧
    due.sky.stepClose = false ∧ due.gridDue = false ∧ due.epochDue = false ∧ due.dueList = [511] ∧ copiesOut (due.entry 511) = 0 ∧
    (due.entry 511).errs = 0 ∧ due.late (due.entry 511) = false ∧ actionOf (due.entry 511) = 2 ∧ (due.entry 511).handed = true := by
  and_intros <;> decide +kernel

/-- PathStatesFollowTheirRequests, at the last path: transitions as the request, the lock and the master leave them. -/
theorem test_path_clauses :
    (on [10] [(F.RF_CTL_REQ 7, 2), (F.CLK_STAT_REFOK, 1)]).flag F.CLK_STAT_REFOK = true ∧
    ((path .toStandby).rfp 7).move = .toStandby ∧ ((path .downStandby).rfp 7).move = .downStandby ∧
    ((path .toStandby).rfp 7).failed = false ∧ ((path .toStandby).rfp 7).retunePend = false ∧
    (put (path .toLock) [(F.CLK_STAT_REFOK, 0)]).flag F.CLK_STAT_REFOK = false ∧
    (put (path .toLock) [(F.CLK_STAT_REFOK, 1)]).flag F.CLK_STAT_REFOK = true ∧ (path .toLock).loMaster 7 = 7 ∧
    ((put (path .toLock) [(F.CLK_STAT_REFOK, 1), (F.ARRAY_AG1EN.act, 1), (F.ARRAY_AG1MASK.act, 0xF), (F.RF_STAT_LOCK 4, 1), (F.PW_D_STATE 7, 2)]).loMaster 7) = 4 ∧
    (put (path .toLock) [(F.ARRAY_AG1EN.act, 1), (F.ARRAY_AG1MASK.act, 0xF), (F.RF_STAT_LOCK 4, 1)]).flag (F.RF_STAT_LOCK 4) = true ∧
    (put (path .toReceive) [(F.RF_CTL_REQ 7, 3), (F.RF_STAT_LOCK 7, 1)]).fget (F.RF_CTL_REQ 7) = 3 ∧
    (put (path .toReceive) [(F.RF_CTL_REQ 7, 3), (F.RF_STAT_LOCK 7, 1)]).flag (F.RF_STAT_LOCK 7) = true ∧
    (put (path .toReceive) [(F.RF_CTL_REQ 7, 3), (F.RF_STAT_STATE 7, 2)]).flag (F.RF_STAT_LOCK 7) = false ∧
    ((path .toTransmit).rfp 7).move = .toTransmit ∧ ((path .fromTransmit).rfp 7).move = .fromTransmit ∧
    ((path .downSynth).rfp 7).move = .downSynth ∧ (path .toSleep).fget (F.RF_CTL_REQ 7) = 0 ∧ (relocking 2).loMaster 7 = 7 ∧
    (relocking 3).driven 7 = [7] ∧ ((put (relocking 3) [(F.RF_STAT_STATE 7, 2)]).rfState 7) = rfSYNTH ∧
    ((relocking 3).rfp 7).move = .idle ∧ ((relocking 3).rfp 7).retunePend = false ∧
    7 ∈ (on [10] [(F.RF_STAT_STATE 7, 2), (F.RF_STAT_LOCK 7, 1)]).driven 7 ∧
    (agc { powN := 1 } [(F.RF_CTL_AGCEN 7, 0)]).rfState 7 = rfRECEIVE ∧
    ((agc { powN := 1 } [(F.RF_CTL_AGCEN 7, 0)]).rfp 7).powN ≠ 0 ∧
    (agc { powN := 1 } [(F.RF_CTL_AGCEN 7, 0)]).flag (F.RF_CTL_AGCEN 7) = false ∧
    (agc { powN := 1, blk := true } []).flag (F.RF_CTL_AGCEN 7) = true ∧ ((agc { powN := 1, blk := true } []).rfp 7).blk = true ∧
    ((agc { powN := 1, pow := 200 } [(F.RF_AGC_TARGET 7, 10)]).rfp 7).within ((agc { powN := 1, pow := 200 } [(F.RF_AGC_TARGET 7, 10)]).fget (F.RF_AGC_TARGET 7)) = true ∧
    ((agc { powN := 1, pow := 400 } [(F.RF_AGC_TARGET 7, 10)]).rfp 7).within 10 = false ∧
    ((agc { powN := 1, pow := 400 } []).rfp 7).above 10 = true ∧ ((agc { powN := 1, pow := 100 } []).rfp 7).within 10 = false ∧
    ((agc { powN := 1, pow := 100 } []).rfp 7).above 10 = false := by
  and_intros <;> decide +kernel

/-- CalibrationRunsItsSteps: with the grant there, with a carrier that does not fit, a blanked block, ten blocks done, and a retuned group. -/
theorem test_calibration_clauses :
    calReady.coexGnt = false ∧ ({ calReady with rf.gntWire := true } : State).coexGnt = true ∧
    (∀ p ∈ maskPaths 1, calReady.rfState p = rfRECEIVE ∧ (calReady.rfp p).move = .idle ∧ calReady.badInj p = false) ∧
    (put calReady [(F.INJ_INJN, calReady.loN 0)]).badInj 0 = true ∧
    (∀ p ∈ maskPaths 1, (put calReady [(F.INJ_INJN, calReady.loN 0)]).rfState p = rfRECEIVE ∧ ((put calReady [(F.INJ_INJN, calReady.loN 0)]).rfp p).move = .idle) ∧
    ({ calReady with rf.cal := .waitGnt, rf.calMask := 1 } : State).rf.cal = .waitGnt ∧ maskPaths 1 ≠ [] ∧
    (true ^^ calReady.flag F.COEX_GNTPOL) = true ∧ (false ^^ calReady.flag F.COEX_GNTPOL) = false ∧
    ({ R with rf.cal := .blocks, rf.calBlank := true, rf.calBad := 2, rf.calMask := 128 } : State).rf.calBlank = true ∧
    ({ R with rf.cal := .blocks, rf.calBlank := true, rf.calBad := 2 } : State).rf.calBad = 2 ∧
    (put R [(F.RF_STAT_STATE 7, 4)]).rfState 7 = rfTRANSMIT ∧ (R.rfp 7).move = .idle ∧
    ({ put calReady [(F.ARRAY_AG0EN.act, 1), (F.ARRAY_AG0MASK.act, 1), (F.ARRAY_AUTOCAL.act, 1)] with rf.auto := [0] } : State).rf.auto.contains 0 = true ∧
    (put calReady [(F.ARRAY_AG0EN.act, 1), (F.ARRAY_AG0MASK.act, 1), (F.ARRAY_AUTOCAL.act, 1)]).flag F.ARRAY_AUTOCAL.act = true ∧
    (put calReady [(F.ARRAY_AG0EN.act, 1), (F.ARRAY_AG0MASK.act, 1)]).groupMask 0 = 1 ∧ calReady.coexGnt = false := by
  and_intros <;> decide +kernel

/-- BiasAndCoexistenceAct: EN written from 0 to 1, V50 changed on a running output, and a current over the limit. -/
theorem test_bias_clauses :
    R.flag (F.ANTB_CTL_EN 3) = false ∧ (1 : Word).getLsbD 0 = true ∧
    (3 : Word).getLsbD 1 ≠ (on [] [(F.ANTB_CTL_EN 3, 1)]).flag (F.ANTB_CTL_V50 3) ∧ (3 : Word).getLsbD 0 = true ∧
    (0 : Word).getLsbD 0 = false ∧ ((on [] [(F.ANTB_CTL_EN 3, 1)]).fget (F.ANTB_CTL_ILIM 3) + 1) * 25000 < 10 ^ 9 ∧
    (on [] [(F.ANTB_CTL_EN 3, 1)]).flag (antb F.ANTB_STAT_TRIP 3) = false ∧ R.powered (rfPage 7) = false ∧
    (on [10] []).powered (rfPage 7) = true := by
  and_intros <;> decide +kernel

/-- LossOfLockAndReference and ClockOutputsAndAuxPll: the AUX PLL enabled, lock with and without the reference, the drive of LOCK_AN. -/
theorem test_clock_clauses :
    (put { locked with boot.sampled := true } [(PG_EN 0x011, 1)]).flag (PG_EN 0x011) = true ∧
    ({ locked with boot.sampled := true } : State).boot.sampled = true ∧ locked.flag F.CLK_STAT_REFOK = true ∧
    locked.flag F.AUX_STAT_LOCK = false ∧ locked.domPowered 1 = true ∧ locked.boot.dead = false ∧ locked.sieve.cmpIn = false ∧
    asleep.domPowered 1 = false ∧ (put locked [(F.CLK_STAT_REFOK, 0)]).flag F.CLK_STAT_REFOK = false ∧
    (put locked [(F.CLK_STAT_BYP, 1)]).byp = true := by
  and_intros <;> decide +kernel

/-- SieveAndSignalCommandsAct: an average with and without a carrier, a carrier lost, an I/Q block, a readout whose frames are in. -/
theorem test_sieve_clauses :
    carriers ((detected 7 autoNotch).fget (F.NDET_DETTHR 7)) ((detected 7 autoNotch).laneOut 7).det = [-32720] ∧
    16 ≤ ((detected 7 autoNotch).laneOut 7).detN ∧ (detected 7 autoNotch).byp = false ∧
    ((List.range 8).all fun j => !(detected 7 autoNotch).notchOn 7 j) = true ∧
    ((List.range 8).find? fun j => decide ((detected 7 autoNotch).notchMode 7 j = ntAUTO)) = some 7 ∧
    carriers 0 [1, 1, 1, 1] = [] ∧ (autoNotch.laneOut 7).detN < 16 ∧ (notched ntTRACK).notchMode 7 7 = ntTRACK ∧
    (notched ntTRACK).notchOn 7 7 = true ∧ ((List.range 7).all fun j => !(notched ntTRACK).notchOn 7 j) = true ∧
    (notched ntTRACK).within 7 7 4 (-32720) ((notched ntTRACK).notchFreq 7 7) = true ∧
    carriers ((notched ntTRACK).fget (F.NDET_DETTHR 7)) ((notched ntTRACK).laneOut 7).det = [-32720] ∧
    (notched ntAUTO).notchMode 7 7 = ntAUTO ∧ 25 ≤ ((notched ntAUTO).laneOut 7).miss.getD 7 0 ∧
    (notched ntAUTO).notchOn 7 7 = true ∧ (notched ntAUTO).byp = false ∧ (iqMoments 1).byp = false ∧
    (iqMoments 1).flag (F.SV_CTL_IQEN 7) = true ∧ (iqMoments 0).flag (F.SV_CTL_IQEN 7) = false ∧
    isqrt (((iqMoments 1).lane 7).mII * ((iqMoments 1).lane 7).mQQ - ((iqMoments 1).lane 7).mIQ.natAbs ^ 2) ≠ 0 ∧
    ({ on [30, 31, 32, 33] [(F.SM_STAT_BUSY, 1)] with sieve.readout := some ⟨7, 2, 1, 0, 1, [9], 0⟩ } : State).sieve.readout = some ⟨7, 2, 1, 0, 1, [9], 0⟩ ∧
    (on [] [(F.SM_STAT_BUSY, 1)]).flag F.SM_STAT_BUSY = true ∧ R.runner 0x0029 = none ∧
    (∀ q < 4, (on [30, 31, 32, 33] []).combOn q = true) ∧
    ({ tracking 1023 chTRACK { sig := busySig, code := busyCode } with hive.copies := [(15, some ⟨0x1000, 0, 1⟩)] } : State).unitsBusy 15 0 1 = true ∧
    Tab.get (fun _ => none) ({ R with hive.copies := [(15, some ⟨0x1000, 0, 1⟩)] } : State).hive.copies 15 = some ⟨0x1000, 0, 1⟩ ∧
    R.unitsBusy 15 0 1 = false ∧
    navOk (sgSIG ((tracking 1023 chTRACK { sig := 2 }).chan 1023).sig) (false, false) (List.replicate 24 false) = false ∧
    navOk (sgSIG ((tracking 1023 chTRACK { sig := 2 }).chan 1023).sig) (false, false) [] = true ∧
    (tracking 1023 chTRACK { sig := 2 }).live 1023 = true ∧ (tracking 1023 chTRACK { sig := 2 }).openTenants = [] ∧
    R.live 1023 = false := by
  and_intros <;> decide +kernel

/-- DragonflyJobsMoveThroughTheirStates: a good descriptor with blocks free and not, a start, a capture short and whole, a bin and the last. -/
theorem test_jobs :
    submitting.judge .warden 0x041 0x080 true = .ok ∧ submitting.jobCheck submitting.stagedJob = 0 ∧
    ((List.range 64).find? fun k => decide (submitting.jsState k = jsFREE)) = some 0 ∧
    jdBlocks submitting.stagedJob ≤ submitting.freeBlocks.length ∧
    ((put submitting ((List.range 4).map fun k => (⟨(F.SNAP_MAP k).addr, 0, 32⟩, 0xFFFFFFFF))).freeBlocks).length < jdBlocks submitting.stagedJob ∧
    (job 63 jsREADY).jsState 63 ≠ jsFREE ∧ (job 63 jsREADY).jsState 63 ≠ jsDONE ∧
    ((job 63 jsREADY).job 63).map (fun j => j.search) = some none ∧ (job 63 jsREADY).judge .warden 0x041 0x080 true = .ok ∧
    (job 63 jsREADY).judge .warden 0x040 0x040 true = .ok ∧ (jobAt 63 jsARMED 0).jsState 63 = jsARMED ∧
    (jobAt 63 jsARMED 0).byp = false ∧ (jobAt 63 jsARMED 0).fget F.DF_STAT_CAPS ≠ 8 ∧ jdStart goodJob = 0 ∧
    0 * ({ jobAt 63 jsARMED 0 with sky.time := 2 ^ 90 } : State).gridRate / sec + 1 ≤ ({ jobAt 63 jsARMED 0 with sky.time := 2 ^ 90 } : State).gridIndex ∧
    (jobAt 63 jsCAPTURE 0).jsState 63 = jsCAPTURE ∧ jdSegs goodJob * (segRow (sgSIG (jdSig goodJob))).1 * 163680 ≤ 10 ^ 7 ∧
    0 < jdSegs goodJob * (segRow (sgSIG (jdSig goodJob))).1 * 163680 ∧
    (put (jobAt 63 jsCAPTURE 0) [(F.DF_CTL_HOLD, 1)]).flag F.DF_CTL_HOLD = true ∧ (job 63 jsRUN).running = some 63 ∧
    (job 63 jsRUN).byp = false ∧ 0 + 1 < jdBins binDesc ∧ (job 63 jsRUN).flag F.DF_CTL_HOLD = false ∧
    (put (job 63 jsRUN) [(F.DF_CTL_HOLD, 1)]).flag F.DF_CTL_HOLD = true ∧
    ((List.range 64).all fun k => decide ((job 63 jsRUN).jsState k ≠ jsREADY)) = true ∧ (jobAt 63 jsRUN 0).running = some 63 ∧
    jdBins goodJob ≤ 0 + 1 ∧ ¬ (jdPoints goodJob < 8 * 0) ∧ jdPoints goodJob < 8 * 300 ∧ (jobAt 63 jsRUN 1).running = some 63 ∧
    (∀ q < 4, (on [30, 31, 32, 33] []).combOn q = true) := by
  and_intros <;> decide +kernel

/-- ChannelsStartTrackAndStop, at the last channel: starts in both halves of HV_START, words, a lock lost, C/N0 with and without the noise tap. -/
theorem test_channel_clauses :
    (on [28] []).judge .warden (hvPage 15) 0x054 true = .ok ∧ startable.startFault 0 = none ∧
    startable.judge .warden (chPage 0) (chOff 0) true = .ok ∧ startable.judge .warden (hvPage 0) 0x050 true = .ok ∧
    (3 : BitVec 64).toNat < 2 ^ 32 ∧ (tracking 1023 chVECTOR {}).judge (.hive 15) (chPage 1023) (chOff 1023 + 0x1C) true = .ok ∧
    (tracking 1023 chVECTOR {}).live 1023 = true ∧ (tracking 1023 chVECTOR {}).chState 1023 = chVECTOR ∧
    (tracking 1023 chCOAST {}).chState 1023 = chCOAST ∧
    (tracking 1023 chCOAST {}).judge .warden (chPage 1023) (chOff 1023 + 0x1C) true = .ok ∧
    ({ tracking 1023 chPULLIN {} with dfly.tries := [(1023, none)] } : State).chState 1023 = chPULLIN ∧
    (prompts 1023 chPULLIN (5, 0) { okM := 1 }).live 1023 = true ∧
    ((prompts 1023 chPULLIN (5, 0) { okM := 1 }).recent 1023 10000000).length = 10 ∧
    ((put (prompts 1023 chPULLIN (5, 0) { okM := 1 }) [(F.CH_LOCK_PLLTHR 1023, 200)]).fget (F.CH_LOCK_PLLTHR 1023) : Int) * 250 ≤ 256 * (250 : Int) ∧
    1 ≤ ((prompts 1023 chPULLIN (5, 0) { okM := 1 }).chan 1023).okM ∧
    (prompts 1023 chPULLIN (5, 0) { okM := 1 }).flag (F.CH_FLAGS_PLOCK 1023) = false ∧
    256 * (-250 : Int) < (((prompts 1023 chTRACK (0, 5) {}).fget (F.CH_LOCK_PLLTHR 1023) : Int) - 64) * 250 ∧
    (put (prompts 1023 chTRACK (0, 5) {}) [(F.CH_FLAGS_PLOCK 1023, 1)]).flag (F.CH_FLAGS_PLOCK 1023) = true ∧
    (prompts 1023 chTRACK (5, 0) {}).recent 1023 20000000 ≠ [] ∧
    cn0Ratio true ((prompts 1023 chTRACK (5, 0) {}).recent 1023 20000000) 1000000 ≠ none ∧
    cn0Ratio false ((prompts 1023 chTRACK (5, 0) {}).recent 1023 20000000) 1000000 = none ∧
    cn0Ratio false [((5, 0), (1, 0), false), ((4, 1), (1, 0), false)] 1000000 ≠ none := by
  and_intros <;> decide +kernel

/-- GatherAndHiveWeevilsAct: a waiting dump of a code-synchronous Hive, with its ring full and not. -/
theorem test_gather_clauses :
    csDump.hive.csOut.find? (fun d => decide (d.2.ch = 1023)) = some (7, { ch := 1023, status := 0x80, taps := [] }) ∧
    csDump.grid 15 = false ∧ csDump.byp = false ∧ csDump.domPowered (13 + 15) = true ∧ csDump.fget (F.HV_CSLEN_V 15) ≠ 0 ∧
    (csDump.fget (F.HV_CSWP_V 15) + 1) % 4 ≠ csDump.fget (F.HV_CSRP_V 15) % 4 ∧
    csDump.combOn (combQuarter (csDump.fget (F.HV_CSBASE_V 15) * 64 + 64 * csDump.fget (F.HV_CSWP_V 15))) = true ∧
    (0 + 1) % 4 = (put csDump [(F.HV_CSRP_V 15, 1)]).fget (F.HV_CSRP_V 15) % 4 ∧
    ({ on [30] [] with hive.frame := some { frame0 with todo := [] } } : State).combOn (combQuarter (R.frameBase 0)) = true ∧
    ({ on [30, 31, 32, 33] [] with hive.frame := some frame0 } : State).combOn (combQuarter (R.frameBase 0 + 0x40 + 0xF40 * 15)) = true := by
  and_intros <;> decide +kernel

/-- FullFilterAndModelTables: updates from NOFIX and FIX, a fault with no culprit, too few satellites for 2 s. -/
theorem test_full_clauses :
    fixing.scOn = true ∧ fixing.epochIndex % fixing.fullD = 0 ∧ fixing.byp = false ∧ fixing.follower = false ∧
    fixing.openTenants = [] ∧ fixing.meas.held = [] ∧ fixing.fstate = fsFIX ∧ fixing.scarab.pending = none ∧
    fixing.faultFound (update []) = false ∧ decide ((fixing.modelActivate.levels (update [])).1 < fixing.mf 0x34 16 16) = true ∧
    decide ((fixing.modelActivate.levels (update [])).2.1 < fixing.mf 0x34 0 16) = true ∧
    decide ((fixing.modelActivate.levels (update [])).2.2 < fixing.mf 0x38 16 16) = true ∧
    fixing.faultFound (update [apart true]) = true ∧ fixing.culprit (update [apart true]) = some (0, 1) ∧
    fixing.faultFound (update [apart false]) = true ∧ fixing.culprit (update [apart false]) = none ∧
    (put fixing [(F.SC_STAT_FSTATE, fsNOFIX)]).fstate = fsNOFIX ∧ (update []).posSdM < 100 ∧ (update []).residOk = true ∧
    ({ fixing with scarab.model := some (modelDefault.set 13 0) } : State).mf 0x34 16 16 = 0 ∧
    ({ fixing with scarab.fewT := some 0, sky.time := 2 ^ 90 } : State).scarab.fewT = some 0 ∧
    0 + 2 * sec ≤ ({ fixing with sky.time := 2 ^ 90 } : State).now ∧ (∀ q < 4, (on [29, 30, 31, 32, 33] []).combOn q = true) ∧
    R.judge .warden 0x101 0x04C true ≠ .ok ∧ (on [29] []).judge .warden 0x101 0x04C true = .ok ∧ (on [29] []).scOn = true ∧
    (on [29] []).byp = true ∧ (on [29] []).epochIndex % (on [29] []).fullD = 0 ∧ R.scOn = false ∧ following.scOn = true ∧
    following.epochIndex % following.fullD = 0 ∧ following.byp = false ∧ following.follower = true ∧ following.openTenants = [] ∧
    following.meas.held = [] ∧ following.scarab.pending = none ∧ (fromMaster.master).length = 32 ∧ fixing.scarab.pending = none ∧
    ({ fixing with scarab.pending := some goodModel } : State).scarab.pending = some goodModel := by
  and_intros <;> decide +kernel

/-- VectorCoreFallsAndReturns: a singular tick, a tick that passes, coasting, beam and combiner weights. -/
theorem test_vector_clauses :
    (([unused].foldr insertVec []).foldl State.noteTick vec).globalCause [unused] true ≠ 0 ∧
    (([unused].foldr insertVec []).foldl State.noteTick vec).globalCause [unused] false = 0 ∧ (vec.chan 1023).vlow = 0 ∧
    vec.chState unused.ch.val = chVECTOR ∧ coasting.scOn = true ∧ 1023 ∈ coasting.hive.chans.map Prod.fst ∧
    coasting.chState 1023 = chCOAST ∧ coastPred.ch.val = 1023 ∧
    ({ coasting with sky.time := 2 ^ 90 } : State).scarab.bypT + 5 * sec ≤ ({ coasting with sky.time := 2 ^ 90 } : State).now ∧
    coasting.now < coasting.scarab.bypT + 5 * sec ∧ beaming.scOn = true ∧ mBEAM beaming = true ∧
    beaming.flag F.IN_STAT_ATTV = true ∧ beaming.live 1023 = true ∧ 2 ≤ elems (beaming.chan 1023).strm ∧ caponReady.scOn = true ∧
    caponReady.fget (F.CMB_CTL_MODE 1).act = 2 ∧ (capon (caponReady.groupCov 1) (caponReady.vertical 1)).isSome = true ∧
    ({ put vec [(F.VC_STAT_VSTATE, vsHOLD), (F.SC_STAT_FSTATE, fsFIX)] with scarab.holdT := some 0, sky.time := 2 ^ 100 } : State).vstate = vsHOLD ∧
    vec.judge .warden 0x101 0x040 true = .ok := by
  and_intros <;> decide +kernel

/-- TimePulsesAreHandedOffAndChecked: edges in a switch and far from it, a late firing, the fault output held and released, POL with a pulse to come. -/
theorem test_pulse_clauses :
    (firing true).tioOn = true ∧ ((firing true).tp 1).fir.length = 1 ∧
    ({ firing false with tio.swT := some (2 ^ 50) } : State).inSwitch (⟨2 ^ 50, 0, 1000, false, false, false⟩ : TpFiring).place = true ∧
    (firing false).inSwitch (⟨2 ^ 50, 0, 1000, false, false, false⟩ : TpFiring).place = false ∧
    (pulsing { polWait := some 1, pulse := true }).tp 1 = { polWait := some 1, pulse := true } ∧
    ((pulsing { polWait := some 2, pulse := true }).tp 1).polWait = some 2 ∧ ((pulsing { fltT := some 0 }).tp 1).fltT = some 0 ∧
    0 + ms (max 1 ((pulsing {}).fget (F.TP_CTL_FLTW 1))) ≤ (pulsing {}).now ∧ R.now < 0 + ms (max 1 (R.fget (F.TP_CTL_FLTW 1))) ∧
    (firing false).tickOf (⟨2 ^ 50, 0, 1000, false, false, false⟩ : TpFiring).place = true ∧ R.tickOf (2 ^ 50) = false ∧
    (pulsing { polWait := some 1, pulse := true }).tickOf ((pulsing { polWait := some 1, pulse := true }).tp 1).trail = true ∧
    (firing false).judge .warden 0x113 (0x040 + 0x20) true = .ok ∧
    (firing false).judge .warden 0x113 (0x040 + 0x20 + 8) true = .ok ∧
    (firing false).judge .warden 0x113 (0x040 + 0x20 + 4) true = .ok ∧ (2 : Word).getLsbD 2 = false ∧
    ((firing false).tp 1).fir ≠ [] ∧ ((on [37] []).tp 1).fir = [] := by
  and_intros <;> decide +kernel

/-- StampsMainsAndSteering: an edge too short and one taken, a crossing with TIMEIO on and off, steering due and not. -/
theorem test_stamp_clauses :
    tio.mnAccepts 0 = false ∧ tio.mnAccepts (10 ^ 9) = true ∧ (put tio [(F.AON_CTL_CEN, 4)]).tioOn = true ∧
    (put R [(F.AON_CTL_CEN, 4)]).tioOn = false ∧ (put R [(F.AON_CTL_CEN, 4)]).mnAccepts (10 ^ 9) = true ∧
    ((put R [(F.AON_CTL_CEN, 4)]).fget F.AON_CTL_CEN).testBit 2 = true ∧ steering.tioOn = true ∧ steering.fget F.ST_CTL_MODE = 3 ∧
    steering.steerDue = true ∧ steering.skyState = skSTEERED ∧ steering.byp = false ∧
    (put steering [(F.SKY_STATE_STATE, skHOLDOVER)]).skyState = skHOLDOVER ∧
    ({ steering with tio.stSec := some 0 } : State).steerDue = false ∧
    (0 : Nat) < (put tio [(F.EV_CFG_EN 7, 1), (F.EV_CFG_GLITCH 7, 3)]).fget (F.EV_CFG_GLITCH 7) ∧
    (put tio [(F.EV_CFG_EN 7, 1), (F.EV_CFG_EDGE 7, 2)]).fget (F.EV_CFG_GLITCH 7) ≤ 0 ∧ R.domPowered 1 = true ∧
    tio.domState (pageDom 0x114) = dON := by
  and_intros <;> decide +kernel

/-- FramesAndBaseDataAreTaken: base messages accepted, whole and not, an epoch closed and open. -/
theorem test_base_clauses :
    rtcmWhole [] = false ∧ R.tn.base ≠ some 5 ∧
    ({ R with scarab.baseOpen := some [(0, false)], scarab.baseAt := some 0, sky.time := 2 ^ 90 } : State).scarab.baseAt = some 0 ∧
    0 + ms 200 ≤ ({ R with sky.time := 2 ^ 90 } : State).now ∧ R.domPowered (portDom (.uart 3)) = false ∧ based.tn.base = some 5 ∧
    rtcmWhole (rtcm [0x3E, 0xD0]) = true ∧ rtcmNumber (rtcm [0x3E, 0xD0]) = 1005 ∧ based.scarab.baseOpen = none ∧
    rtcmWhole (rtcm [0x43, 0x50, 0, 0, 0, 0, 2]) = true ∧ msmAccepted (rtcmNumber (rtcm [0x43, 0x50, 0, 0, 0, 0, 2])) = some 107 ∧
    rtcmMore (rtcm [0x43, 0x50, 0, 0, 0, 0, 2]) = true ∧ rtcmMore (rtcm [0x43, 0x50, 0, 0, 0, 0, 0]) = false := by
  and_intros <;> decide +kernel

/-- TenantWindowsMoveItems and MailboxDmaAndLink: no credit, quench, the mailbox with an OPEN and its reply, the link down and up. -/
theorem test_window_states :
    ((link 4095 {}).queue 8190).cred = 0 ∧ (link 4095 {}).windowOk 4095 = true ∧ ((link 4095 { cred := 1 }).queue 8190).cred ≠ 0 ∧
    (link 5 {}).pcieUp = true ∧ ({ link 5 {} with pcie.reply := [7] } : State).pcie.reply = 7 :: [] ∧
    ({ link 5 {} with pcie.mbox := openItems.take (openItems.length - 1) } : State).pcie.mbox ++ [openItems.getLastD 0] = openItems ∧
    frameOk (msgBytes openItems) = true ∧ itemEnd (openItems.getLastD 0) = true ∧
    ({ link 5 {} with pcie.dma := [3] } : State).pcieUp = true ∧ (∀ q < 4, (link 5 {}).combOn q = true) ∧
    (put (link 5 {}) [(F.DMA_CTL_DIR 3, 1)]).flag (F.DMA_CTL_DIR 3) = true := by
  and_intros <;> decide +kernel

/-- UsbControlRequestsCommitOrDiscard: fields out of range, reads held and not, a read of any register. -/
theorem test_usb_reads :
    usb.readHeld (.usb 0) 0x152 0x040 1 = false ∧ (put (entering 2) [(F.USB_STAT_VBUS, 1)]).usbUp = true ∧ (64 : Nat) < 65 ∧
    usb.domPowered 1 = true ∧ usb.boot.dead = false ∧ usb.domState (pageDom 0x152) = dON ∧ usb.flag (PG_FREEZE 0x152) = false ∧
    absentReg 0x152 0x040 = false ∧ popping 0x152040 = false ∧ drawnReg 0x152040 = false ∧
    ((findPage 0x152).bind fun x => findReg x.1.regs 0x040).isSome = true ∧
    ({ usb with usb.held := some (0x002, 0x048, 0, [9]) } : State).judge (.usb 0) 0x002 0x048 true = .ok ∧
    (4 : Half).getLsbD 2 = true ∧ (1 : Half).getLsbD 2 = false ∧ (8 : Half).toNat = 8 ∧ frameOp openFrame = some 1 ∧
    openFrame.length ≤ 128 := by
  and_intros <;> decide +kernel

/-- UsbBusEventsAndBulkMessages: configured, with a message for tenant 5, an acknowledgement with the next tenant and with none. -/
theorem test_usb_messages :
    (put (open5 .usb 0) [(F.USB_STAT_CONF, 1)]).flag F.USB_STAT_CONF = true ∧
    (put (open5 .usb 0) [(F.USB_STAT_CONF, 1)]).usbUp = true ∧ (open5 .usb 0).boundTo 5 .usb 0 = true ∧
    ((cmdItems.head?.getD 0).toNat / 65536) % 4096 = 5 ∧ frameOk (msgBytes cmdItems) = true ∧
    cmdItems.length ≤ ((open5 .usb 0).queue 10).cred ∧ ((cmdItems.take (cmdItems.length - 1)).all fun y => !itemEnd y) = true ∧
    itemEnd (cmdItems.getLastD 0) = true ∧
    ({ sending with usb.ep1 := some 6 } : State).turn 0 (fun x => decide (x.port = .usb)) = some 5 ∧ (5 : Nat) ≠ 6 := by
  and_intros <;> decide +kernel

/-- QueuePageActsOnTheSelectedQueue: a pop whose wait is over and one whose wait goes on, a ready tenant. -/
theorem test_queue_waits :
    (awaiting 0).tn.waiting = (3, 0) :: [] ∧ (awaiting 0).waited 3 = true ∧ (awaiting 1).waited 3 = false ∧
    (sending.tenant 5).live = true ∧
    (({ sending with latch := [(19 * 2 ^ 24 + F.Q_SEL_Q.addr, 11)] } : State).queue (({ sending with latch := [(19 * 2 ^ 24 + F.Q_SEL_Q.addr, 11)] } : State).qSel 19)).pop.isSome = true := by
  and_intros <;> decide +kernel

/-- CommandsAreSequencedAndAnswered: the number after the last, one of the last 32, and one out of sequence. -/
theorem test_sequence_rule :
    ((open5 .pcie 0).tenant 5).live = true ∧ ((open5 .pcie 0).tenant 5).state = .opened ∧ (0 : Nat) = (65535 + 1) % 65536 ∧
    (65535 + 65536 - 65535) % 65536 ≤ 31 ∧ (65535 : Nat) ≠ (65535 + 1) % 65536 ∧ ((open5 .pcie 0).queue 11).batch = none ∧
    (open5 .pcie 0).tn.waiting = [] := by
  and_intros <;> decide +kernel

/-- SubscriptionsPinsBaseAndVotes: a SUB of one signal while a channel tracks it, and pins. -/
theorem test_subscribing :
    ({ (tracking 1023 chTRACK { sig := busySig }) with tn.tenants := [(0, { state := .opened })] } : State).carrier 258 = some 1023 ∧
    ({ (tracking 1023 chTRACK { sig := busySig }) with tn.tenants := [(0, { state := .opened })] } : State).accepts 0 9 ∧
    (⟨1, 1, 258, 1, 0, false, none⟩ : Sub).oneSignal = true ∧ (1023 : Half).toNat < 1024 ∧ sigOk busySig = true ∧
    ({ owner0 with tn.pins := [(1023, some (busySig, 0))] } : State).accepts 0 9 ∧
    Tab.get (fun _ => none) ({ owner0 with tn.pins := [(1023, some (busySig, 0))] } : State).tn.pins 1023 = some (busySig, 0) ∧
    1024 ≤ (1024 : Half).toNat := by
  and_intros <;> decide +kernel

/-- RegisterCommandsOfTenants and TenantsOrderSearchesSpectraAndSchedules: any register read and written, MODEL with Comb on, UCLOAD to a sealed and an open core. -/
theorem test_tenant_reads :
    (put (open5 .pcie 0) [(F.PW_D_STATE 2, 2)]).accepts 5 9 ∧ (open5 .pcie 0).judge (.behalf 5) 0x114 0x040 true ≠ .locked ∧
    (put (open5 .pcie 0) [(F.PW_D_STATE 37, 2)]).judge (.behalf 5) 0x114 0x040 true = .ok ∧
    (open5 .pcie 0).flag (PG_FREEZE 0x152) = false ∧ (on [29, 31] []).combOn 1 = true ∧
    (on [29] []).flag F.SC_MRES_PENDING = false ∧ (16 : Nat) % 32 ≤ 16 ∧ R.flag (F.WV_CTL_RUN 15) = false ∧
    (15 : Word).toNat + 1 ≤ 16 := by
  and_intros <;> decide +kernel

/-- PowerVotesMoveDomains: a domain that wakes with votes and without, its retained registers kept, entry at its points, and balls of a domain without power. -/
theorem test_waking :
    (put R [(F.PW_D_STATE 35, dWAKING)]).holders 35 = 0 ∧
    (put R [(F.PW_D_STATE 35, dWAKING), (F.PW_D_HOLDERS 35, 1)]).holders 35 = 1 ∧
    Tab.get (fun _ => false) ({ put R [(F.PW_D_STATE 35, dWAKING)] with pwr.retOk := [(35, true)] } : State).pwr.retOk 35 = true ∧
    Tab.wf regReset ({ R with pwr.ret := [(0x170040, 7)] } : State).pwr.ret = true ∧
    (put (entering 36) [(F.PW_D_AP 36, 1)]).fget (F.PW_D_AP 36) = 1 ∧
    (put (entering 36) [(F.PW_D_AP 36, 3)]).domState 36 = dENTRY ∧ (entering 36).holders 36 = 0 ∧
    (4099 : BitVec 13).toNat = 4099 ∧ (28 : BitVec 6).toNat = 28 ∧ R.domPowered (Ball.trsw 7).dom = false ∧
    R.domPowered (Ball.penTx true 3 true).dom = false ∧ asleep.domPowered Ball.lockAn.dom = false := by
  and_intros <;> decide +kernel

/-- AlwaysOnDomainWatchesAndWakes: comparators that change, and characters the sleep receivers hear and do not. -/
theorem test_watching :
    (put R [(F.AON_CTL_CEN, 0xF), (F.SKY_STATE_STATE, skSTEERED)]).skyState = skSTEERED ∧
    (put R [(F.AON_CTL_CEN, 0xF)]).flag (aonLvl 0) = false ∧ (put R [(F.AON_CTL_CEN, 0xF)]).flag (aonLvl 1) ≠ true ∧
    (put R [(F.AON_CTL_CEN, 0xF), (aonLvl 2, 1)]).flag (aonLvl 2) ≠ false ∧ (sleeping 2).domPowered 2 = false ∧
    (sleeping 2).fget (F.U_SLEEP_SLMODE 3) = 2 ∧ (sleeping 1).fget (F.U_SLEEP_SLMODE 3) = 1 ∧
    sleepChar ((sleeping 1).flag (F.U_SLEEP_SLRATE 3)) (slowWire (charLine 0x112)) = some 0x112 ∧ (0x112 : Nat).testBit 8 = true ∧
    addrMatch 0x15 0xF0 false 0x12 = true ∧ Tab.get (fun _ => false) (sleeping 1).pwr.retOk 2 = true ∧
    Tab.get regReset (sleeping 1).pwr.ret (F.U_ADDR_ADDR 3).addr = 0xF015 ∧
    sleepChar false (slowWire (charLine 0x012)) = some 0x012 ∧ (0x012 : Nat).testBit 8 = false ∧ sleepChar false [] = none := by
  and_intros <;> decide +kernel

/-- LedgerMetersPlansAndCuts: metered ticks after a cut, the cut itself, the return due and not, allowances. -/
theorem test_metering :
    ({ cut with pwr.cutMs := some (3, true) } : State).pwr.cutMs = some (3, true) ∧
    ({ cut with pwr.cutMs := some (3, false) } : State).flag F.LG_STAT_CUT = true ∧ cut.domPowered 1 = true ∧
    cut.pwr.cutMs = none ∧ cutting.aon.vmainF = some (0, 5) ∧ 0 + us 100 ≤ cutting.now ∧ cutting.domPowered 1 = true ∧
    cutting.vmainOn = true ∧ cutting.flag (aonLvl 1) = false ∧ cutting.flag F.LG_STAT_CUT = false ∧
    ({ cutting with sky.time := 0 } : State).now < 0 + us 100 ∧ returning.vmainOn = true ∧ returning.domPowered 1 = true ∧
    returning.aon.vmainT = some 0 ∧ 0 + max 1 (returning.fget F.LG_CTL_RESTT) * sec ≤ returning.now ∧
    returning.flag F.LG_STAT_CUT = true ∧
    ({ returning with sky.time := 0 } : State).now < 0 + max 1 (returning.fget F.LG_CTL_RESTT) * sec ∧
    (put asleep [(aonLvl 1, 1)]).vmainOn = true ∧ (put asleep [(aonLvl 1, 1)]).domPowered 1 = false ∧
    (put asleep [(aonLvl 1, 1)]).flag (aonLvl 1) = true ∧ (asleep.fget F.AON_WAKEEN_EN).testBit 2 = true ∧
    (planning [(F.LG_CTL_DEMEN, 0), (F.LG_STAT_CUT, 1)]).flag F.LG_CTL_EN = true ∧ (planning []).flag F.LG_CTL_TAREN = false ∧
    (planning []).flag F.LG_STAT_THSHED = false ∧
    (planning [(F.LG_CTL_DEMEN, 0), (F.LG_STAT_CUT, 1)]).flag F.LG_CTL_DEMEN = false ∧
    (planning [(F.LG_CTL_DEMEN, 1), (F.DMD_CAP.act, 9)]).fget F.DMD_CAP.act ≠ 0 ∧
    (put cut [(F.RSV_E.act, 9)]).fget F.RSV_USED < (put cut [(F.RSV_E.act, 9)]).fget F.RSV_E.act ∧
    Tab.get (fun _ => none) ({ R with pwr.grants := [(15, some ⟨5, 3⟩)] } : State).pwr.grants 15 = some (⟨5, 3⟩ : Grant) ∧
    (7 : Half).toNat < 8 := by
  and_intros <;> decide +kernel

/-- SecurityCommandsOfTenants: an OSNMA verification at work. -/
theorem test_osnma_job :
    ({ working 2 2 with cp.jobs := [(3, some ⟨2, 2, 0, 0, 0, 0, 0, 0, none, some 11⟩)] } : State).cpRunning = some 3 ∧
    (put (working 2 2) [(F.SKY_STATE_STATE, skFOLLOW)]).skyState ≠ skUNSTEERED ∧ (some 11 : Option Nat).isSome = true := by
  and_intros <;> decide +kernel

/-- SerialPortsReceiveAndSend, UART3: a good character, a false start, no stop bit, wrong parity, break lengths, a framed character, DE. -/
theorem test_uart_lines :
    ((uart []).uTake 3 (wire ((uart []).charBits 3 0x41))) = ⟨0x41, false, false, false, false⟩ ∧
    ((uart []).uTake 3 []).falseStart = true ∧ ((uart []).uTake 3 (wire (List.replicate 12 false))).fe = true ∧
    ((uart [(F.U_FMT_PAR 3, 2)]).uTake 3 (wire ((uart [(F.U_FMT_PAR 3, 1)]).charBits 3 0x41))).pe = true ∧
    ((uart [(F.U_FLOW_XREC 3, 1)]).uTake 3 (wire ((uart []).charBits 3 0x13))).data = 0x13 ∧
    (uart [(F.U_FMT_DBITS 3, 9), (F.U_FMT_ADDR9 3, 1)]).uDbits 3 = 9 ∧
    ((uart [(F.U_FMT_DBITS 3, 9)]).uTake 3 (wire (charLine 0x112))).data = 0x112 ∧ (uart []).uM 3 = 9 ∧
    2 * ((uart []).uM 3 + 1) ≤ 20 ∧ 19 < 2 * ((uart []).uM 3 + 1) ∧
    collided (((sendingUart { shift := some 1, bits := (uart []).charBits 3 1 }).uart 3).bits) (List.replicate 12 false) = true ∧
    ((sendingUart { frame := [5, 6] }).uart 3).frame = 5 :: [6] ∧ ((sendingUart {}).uart 3).gen = none ∧
    (put (sendingUart { frame := [5, 6] }) [(F.U_CTL_MODE 3, umFRAME)]).uMode 3 = umFRAME ∧
    (uart []).flag (F.U_CTL_HALF 3) = false ∧ 12 + 2 * (uart []).fget F.SYS_STRAP_DEVADDR ≤ 12 ∧
    (put (sendingUart { retry := true, whole := [5] }) [(F.U_CTL_MODE 3, umBUS)]).uMode 3 = umBUS ∧ (uart []).uOn 3 = true ∧
    (uart [(F.U_FLOW_TAIL 3, 4)]).fget (F.U_FLOW_TAIL 3) ≤ 4 ∧ (3 : Nat) < (uart [(F.U_FLOW_TAIL 3, 4)]).fget (F.U_FLOW_TAIL 3) := by
  and_intros <;> decide +kernel

/-- ArchiveRecordsExtentsAndReplay: a closed record with and without a gap before it, the ring full, an open record, extents. -/
theorem test_archive_records :
    archive.ar.closed = [] ∧ archive.openRec 24 = none ∧ opened.openRec 3 = some rec24 ∧ opened.recorded 3 = false ∧
    opened.ar.stepped.contains 3 = false ∧ opened.gapsBefore 3 5 = [] ∧ (∀ q < 4, archive.combOn q = true) ∧
    (closed []).ar.closed.find? (fun x => x.1 = 24) = some (24, rec24) ∧ (closed []).gapsBefore 24 5 = [] ∧
    (closed []).arOn = true ∧ (closed [4, 6]).gapsBefore 24 5 = [⟨0, 4, 3⟩] ∧ (closed []).ar.inRing - 0 < 256 ∧
    256 < 256 + 1 + ((closed [4]).gapsBefore 24 5).length ∧ (extent 4095).ar.ext = some (0, 0, 4096) ∧
    (extent 4095).aaddr < 4096 ∧ 4096 ≤ (extent 4096).aaddr ∧ (extent 0).fget F.AR_STAT_EXT < 65535 ∧ archive.ar.ext = none ∧
    archive.arRun = true := by
  and_intros <;> decide +kernel

/-- PenholtPortsCarryWords, the west port: frames with good and bad CRC, the own group word, a right to quench. -/
theorem test_link_frames :
    linkByte (List.replicate 256 0) 246 % 16 ≠ 6 ∧ linkByte (List.replicate 256 0) 246 % 16 ≠ 7 ∧ linkOk [] = false ∧
    ((pen ptUP { tx := List.replicate 32 [] }).penPort 1).tx.length = 32 ∧ (65 : Nat) % 33 = 32 ∧
    (put (pen ptUP {}) [(F.CLK_STAT_BYP, 0)]).byp = false ∧ (pen ptTRAIN {}).penOn = true ∧
    (put (pen ptTRAIN {}) [(F.CLK_STAT_BYP, 0)]).byp = false ∧ (pen ptUP {}).byp = true ∧ (pen ptUP {}).penState 1 ≠ ptDOWN := by
  and_intros <;> decide +kernel

/-- PenholtSharesTimeAndTopology: a HELLO from a lower master and from another, a silent master, TIME in STEERED, FOLLOW and HOLDOVER. -/
theorem test_link_time :
    (pen ptUP {}).penRole = rlNONE ∧ rlMASTER < 3 ∧
    (put (pen ptUP {}) [(F.SYS_STRAP_DEVADDR, 7), (F.PH_STAT_ROLE, rlMASTER)]).penRole = rlMASTER ∧
    6 < devAddr (put (pen ptUP {}) [(F.SYS_STRAP_DEVADDR, 7)]) ∧ ({ follower with pen.elect := true } : State).pen.elect = true ∧
    (put (on [] []) [(F.SKY_STATE_STATE, skFOLLOW)]).penOn = false ∧ (∀ p < 2, ((pen ptUP {}).penPort p).timeT = none) ∧
    (put (pen ptUP { timeT := some 0 }) [(F.SKY_STATE_STATE, skFOLLOW)]).skyState = skFOLLOW ∧ (pen ptUP {}).now < 0 + ms 10 ∧
    (put follower [(F.SKY_STATE_STATE, skSTEERED)]).skyState = skSTEERED ∧ follower.penRole ≠ rlMASTER ∧
    follower.penRoute (follower.fget F.PH_STAT_MASTER) = 1 ∧ follower.skyState ≠ skSTEERED ∧ follower.penOn = true := by
  and_intros <;> decide +kernel

/-- MicrocodeIsLoadedSealedAndRun: the routines with their words in the store. -/
theorem test_user_steps :
    Tab.get (Config.microInit 15) ((userStep addStep).core 15).micro 1023 = addStep ∧
    ((userStep addStep).core 15).mr.msb = false ∧
    (Tab.get (fun _ => 0) ((userStep addStep).core 15).table 15).toNat % 1024 = 1023 ∧
    (userStep yieldStep).issues (.hive 15) = true ∧ ((userStep yieldStep).core 15).f.getLsbD fIE = false ∧
    Tab.get (Config.microInit 15) ((userStep storeStep).core 15).micro 1023 = storeStep ∧
    Tab.get (Config.microInit 15) ((userStep moveStep).core 15).micro 1023 = moveStep ∧
    (∀ q < 4, (on [30, 31, 32, 33] []).combOn q = true) ∧ R.ecc = [] := by
  and_intros <;> decide +kernel

/-- LenlisRunsItsCommands: the monitor's port idle, ends of lines of an image, CONFIRM and LOAD. -/
theorem test_monitor_lines :
    (monitor.uart 0).gen = none ∧ unlocked.monOn = true ∧ unlocked.upBusy = false ∧
    ((loading [0x41, 0x42] []).uTake 0 (wire ((loading [] []).charBits 0 0x0D))) = ⟨0x0D, false, false, false, false⟩ ∧
    (loading [] []).flag (F.U_CTL_RXOFFDE 0) = false ∧ (loading [] []).flag (F.U_STAT_MUTE 0) = false ∧
    (lastChar.uart 0).gen = none ∧ (loading [] magic).uMode 0 = umMONITOR ∧ (4 : Nat) ≤ 0x100000 ∧ ([] : List Byte).length < 4 ∧
    monitor.sessionBarred = false ∧ monitor.ownerKey = none ∧ monitor.unreachable (.behalf 0) 0x152 = false ∧
    monitor.domState 1 = dON ∧ implemented 0x152 = true ∧ (38 : Nat) ≤ 38 := by
  and_intros <;> decide +kernel

/-- CicadaTakesRoutesAndLogsRaises: a repeat inside its window, and a window over with occurrences to tell. -/
theorem test_windows_of_raises :
    (windowOpen 1).now < 0 + ms 10 ∧ ({ windowOpen 1 with sky.time := ms 10 * 2 ^ 32 } : State).now = 0 + ms 10 ∧
    (put (windowOpen 1) [(F.SRC_CFG_TEN 1151, 1)]).flag (F.SRC_CFG_TEN 1151) = true ∧
    (windowOpen 1).flag (F.SRC_CFG_TEN 1151) = false ∧ owner0.tenTargets 0x170 = [0] ∧ R.flag (F.SRC_CFG_LOG 1151) = true ∧
    (1151 : Nat) ≠ 1117 ∧ (raised []).irqActive 1 = false ∧ (∀ q < 4, (on [30, 31, 32, 33] []).combOn q = true) := by
  and_intros <;> decide +kernel

/-- ResetsClearAndKeepWhatTheyName: the watchdog due, a press, a stuck input and its release. -/
theorem test_watchdog_and_service :
    (put R [(F.SYS_BOOT_STATE, 1)]).fget F.SYS_BOOT_STATE = 1 ∧ R.fget F.RST_WDOG_PERIOD ≠ 0 ∧
    ({ put R [(F.SYS_BOOT_STATE, 1)] with sky.time := sec * 2 ^ 32 } : State).boot.wdT + ms (R.fget F.RST_WDOG_PERIOD) ≤ ({ R with sky.time := sec * 2 ^ 32 } : State).now ∧
    R.fget F.SYS_BOOT_STATE ≠ 1 ∧ pressed.svcOn = true ∧ pressed.flag F.RST_SVC_STUCK = false ∧ pressed.boot.svcPress = true ∧
    (put pressed [(F.PW_D_STATE 2, 2)]).domPowered 2 = true ∧
    ({ put pressed [(F.RST_SVC_LEVEL, 1)] with sky.time := 61 * sec * 2 ^ 32 } : State).flag F.RST_SVC_LEVEL = true ∧
    ({ put pressed [(F.RST_SVC_LEVEL, 1)] with sky.time := 61 * sec * 2 ^ 32 } : State).boot.svcT + 60 * sec < ({ R with sky.time := 61 * sec * 2 ^ 32 } : State).now ∧
    (put pressed [(F.RST_SVC_STUCK, 1), (F.RST_SVC_LEVEL, 0)]).flag F.RST_SVC_STUCK = true ∧
    ({ R with sky.time := 61 * sec * 2 ^ 32 } : State).boot.svcT + ms 100 ≤ 61 * sec := by
  and_intros <;> decide +kernel

/-- StartUpTakesStrapsAndAnImage: an image that awaits entry, with the code table's quarter on and off. -/
theorem test_image_entered :
    ({ on [32] [] with boot.checked := true } : State).boot.checked = true ∧
    ({ on [32] [] with boot.checked := true } : State).boot.dead = false ∧ (on [32] []).fget F.SYS_BOOT_STATE ≠ bsIMAGE ∧
    (on [32] []).domPowered 32 = true ∧ R.domPowered 32 = false := by
  and_intros <;> decide +kernel

/-- FramesAndBaseDataAreTaken: a satellite last tracked 300 s ago and less, none tracked now. -/
theorem test_auth_time :
    Tab.get (fun _ => none) ({ R with meas.trackT := [(5, some 0)] } : State).meas.trackT (5 : Byte).toNat = some 0 ∧
    R.hive.chans = [] ∧ R.now < 0 + 300 * sec ∧ 0 + 300 * sec ≤ ({ R with sky.time := 300 * sec * 2 ^ 32 } : State).now := by
  and_intros <;> decide +kernel

/-- CicadaTakesRoutesAndLogsRaises and LenlisRunsItsCommands: reserves within and above 8,190, ten minutes without input. -/
theorem test_reserves_and_unlock :
    R.judge (.behalf 0) 0x130 0x04C true = .ok ∧
    (0 : Word).toNat % 2 ^ 13 + (0 : Word).toNat / 2 ^ 16 % 2 ^ 13 + R.fget F.CL_RES23_RES2 + R.fget F.CL_RES23_RES3 ≤ 8190 ∧
    8190 < (0xFFFFFFFF : Word).toNat % 2 ^ 13 + (0xFFFFFFFF : Word).toNat / 2 ^ 16 % 2 ^ 13 + R.fget F.CL_RES23_RES2 + R.fget F.CL_RES23_RES3 ∧
    R.mon.inT + 600 * sec ≤ ({ R with sky.time := 600 * sec * 2 ^ 32 } : State).now := by
  and_intros <;> decide +kernel

/-- The hypothesis of WeevilArithmeticLogicAndShifts, DivisionTruncatesOrSaturates, BitReversalReversesTheLowBits,
WeevilTestsAndCrcSteps and WeevilLoadsStoresAndMoves: an immediate, and a local word with its post-increment. -/
theorem test_supplies :
    Supplies R .warden (.short 1) 0 1 none 0 (R.issued .warden (.short 1)) ∧
    ∃ t, Supplies (warden { data := [(0, 77)] }) .warden (.long 0xA0 2) 0 77 (some (false, 2)) 0 t := by
  refine ⟨⟨by decide +kernel, ?_⟩, ((warden { data := [(0, 77)] }).issued .warden (.long 0xA0 2)), by decide +kernel, ?_⟩
  · rw [show (R.core (coreIdx .warden)).operand (.short 1) 0 = some (.imm 1) by decide +kernel]
    exact ⟨rfl, rfl, rfl, rfl⟩
  · rw [show ((warden { data := [(0, 77)] }).core (coreIdx .warden)).operand (.long 0xA0 2) 0 = some (.mem 0 0 (some (false, 2)))
      by decide +kernel]
    exact ⟨by decide +kernel, rfl, _, rfl, rfl⟩

/-- OnlyConfirmChangesAFuse and EveryStepKeepsTheCanonicalForms: a step that answers a next state. -/
theorem test_step_answers : ∃ t, step { R with pending := [.uartBreakEnd 3] } = .next t := ⟨_, rfl⟩

/-- PenholtPortsCarryWords: a frame of zeros carries its CRC. -/
theorem test_good_frame : linkOk (List.replicate 256 0) = true := by
  have h : ∀ n, crc8 (List.replicate n 0) = 0 := by
    intro n
    induction n with
    | zero => rfl
    | succ n ih =>
      unfold crc8 at ih ⊢
      rw [List.replicate_succ, List.foldl_cons]
      exact (congrArg (fun z => List.foldl _ z _) (by decide +kernel)).trans ih
  unfold linkOk
  rw [List.take_replicate, h, List.getD_eq_getElem?_getD, List.getElem?_replicate, if_pos (by omega), List.length_replicate]
  rfl


theorem logGap_run (k : Nat) : ∀ n, n + k = 8192 → logGap n ((List.range' n k).map fun j => (j, some (1, j))) = none := by
  induction k with
  | zero => intro n h; simp [logGap]; omega
  | succ k ih =>
    intro n h
    rw [List.range'_succ, List.map_cons]
    simp only [logGap, Nat.lt_irrefl, if_false]
    exact ih (n + 1) (by omega)

theorem foldl_stays {α : Type} (f : α → Nat × Option (Nat × Nat) → α) (h : ∀ m n, f m (n, some (1, n)) = m) (l : List Nat) :
    ∀ m, (l.map fun n => (n, some (1, n))).foldl f m = m := by
  induction l with
  | nil => intro m; rfl
  | cons x l ih => intro m; rw [List.map_cons, List.foldl_cons, h]; exact ih m

theorem fullLog_gap (k : Nat) (l : List (Fld × Nat)) (h : 2 + k = 8192) : logGap 1 (fullLog k l).cic.slots = none := by
  simp only [fullLog, logGap, Nat.lt_irrefl, if_false]
  exact logGap_run k 2 h

theorem fullLog_oldest (k : Nat) (l : List (Fld × Nat)) : (fullLog k l).oldest 0 = some 1 := by
  simp only [State.oldest, fullLog, List.foldl_cons]
  rw [foldl_stays _ (by intro m n; rfl)]
  rfl

/-- CicadaTakesRoutesAndLogsRaises: no slot free, a record to replace, and none. -/
theorem test_full_log :
    logGap 1 (fullLog 8190 []).cic.slots = none ∧ (fullLog 8190 [(F.CL_HELD01_N0, 1), (F.CL_RES01_RES0, 0)]).oldest 0 = some 1 ∧
    (∀ k l, (fullLog k l).regs = (raised l).regs) ∧
    (let s := raised [(F.CL_HELD01_N0, 1), (F.CL_RES01_RES0, 0)]
     s.fget (resFld 0) < s.fget (heldFld 0) ∧ s.fget (heldFld 2) < s.fget (resFld 2)) ∧
    ∀ k < 4, (raised []).fget (heldFld k) ≤ (raised []).fget (resFld k) :=
  ⟨fullLog_gap 8190 [] rfl, fullLog_oldest 8190 _, fun _ _ => rfl, by decide +kernel, by decide +kernel⟩
end Sys2Proof.Tests
end

section
/-! SUPPORT. Register pages (02: R24 to R35): the page table, the judgement, and REGISTER_WRITE in both its forms. -/

namespace Sys2Proof.Machine

-- the page table

theorem findPage_spec {p : Nat} {r : PageRow} {i j : Nat} (h : findPage p = some (r, i, j)) :
    r ∈ pageTable ∧ r.locate p = some (i, j) := by
  unfold findPage at h
  obtain ⟨x, hx, hl⟩ := List.exists_of_findSome?_eq_some h
  obtain ⟨ij, hij, he⟩ := Option.map_eq_some_iff.mp hl
  cases he
  exact ⟨hx, hij⟩

theorem findReg_spec {rs : List RegDef} {o : Nat} {d : RegDef} {k : Nat} (h : findReg rs o = some (d, k)) :
    d ∈ rs ∧ k < d.count ∧ o = d.off + k * d.stride := by
  unfold findReg at h
  obtain ⟨x, hx, hl⟩ := List.exists_of_findSome?_eq_some h
  split at hl
  · cases hl
  · next ho =>
    split at hl
    · next hc =>
      cases hl
      have := Nat.div_mul_cancel (Nat.dvd_of_mod_eq_zero hc.1)
      exact ⟨hx, hc.2, by omega⟩
    · cases hl

/-- The registers of a page: each with its offset, an array's one by one. -/
def PageRow.cells (r : PageRow) : List (RegDef × Nat) :=
  r.regs.flatMap fun d => (List.range d.count).map fun k => (d, d.off + k * d.stride)

theorem PageRow.mem_cells {r : PageRow} {o : Nat} {d : RegDef} {k : Nat} (h : findReg r.regs o = some (d, k)) :
    (d, o) ∈ r.cells := by
  obtain ⟨hd, hk, ho⟩ := findReg_spec h
  exact List.mem_flatMap.mpr ⟨d, hd, List.mem_map.mpr ⟨k, List.mem_range.mpr hk, by rw [ho]⟩⟩

theorem PageRow.cell_in_page : ∀ r ∈ pageTable, ∀ x ∈ r.cells, 0x040 ≤ x.2 ∧ x.2 < 4096 := by
  decide +kernel

/-- The registers of a page that have an active value (R33). -/
def PageRow.shadows (r : PageRow) : List (RegDef × Nat) := r.cells.filter (·.1.shadowed)

theorem PageRow.shadows_distinct : ∀ r ∈ pageTable, (r.shadows.map Prod.snd).Nodup ∧ ∀ x ∈ r.shadows, x.2 < 0x800 := by
  decide +kernel

theorem regAt_cell {p o : Nat} {d : RegDef} (h : RegAt p o d) :
    ∃ r i j, findPage p = some (r, i, j) ∧ (d, o) ∈ r.cells := by
  obtain ⟨r, i, j, k, hp, hr⟩ := h
  exact ⟨r, i, j, hp, PageRow.mem_cells hr⟩

theorem pageDom_le (p : Nat) : pageDom p ≤ 40 := by
  have hdom : ∀ r ∈ pageTable, r.dom + r.domStep * r.count ≤ 40 := by decide
  unfold pageDom
  split
  · next r i j h =>
    obtain ⟨hr, hl⟩ := findPage_spec h
    have hi : i ≤ r.count := by
      simp only [PageRow.locate] at hl
      split at hl
      · cases hl
      · split at hl
        · split at hl
          · cases hl; omega
          · cases hl
        · split at hl
          · cases hl; omega
          · cases hl
    have := hdom r hr
    have := Nat.mul_le_mul_left r.domStep hi
    omega
  · omega

/-- A block register is no header register, and its page's table holds it. -/
theorem regKind_block {p o : Nat} {d : RegDef} (h : regKind p o = some (.block d)) :
    0x030 ≤ o ∧ ∃ r i j k, findPage p = some (r, i, j) ∧ findReg r.regs o = some (d, k) := by
  unfold regKind at h
  split at h
  · cases h
  · next r i j hp =>
    simp only [Option.some.injEq] at h
    split at h
    · cases h
    · split at h
      · cases h
      · next ho =>
        split at h
        · next d' k hr => cases h; exact ⟨by omega, r, i, j, k, hp, hr⟩
        · split at h
          · split at h
            · split at h <;> cases h
            · cases h
          · cases h

theorem regKind_header {p o : Nat} (hp : implemented p = true) (ho : o < 0x030) : regKind p o = some .header := by
  obtain ⟨x, hx⟩ := Option.isSome_iff_exists.mp hp
  have ha : absentReg p o = false := by simp only [absentReg, decide_eq_false_iff_not]; omega
  simp [regKind, hx, ha, ho]

-- judgement

theorem judge_ok_implemented {s : State} {via : Via} {p o : Nat} {whole : Bool} (h : s.judge via p o whole = .ok) :
    implemented p = true := by
  unfold State.judge at h
  cases hp : findPage p with
  | none => simp [regKind, hp] at h
  | some x => simp [implemented, hp]

theorem State.guarded_ok {s : State} {via : Via} {p o : Nat} (h : s.judge via p o true = .ok) (f : State → State) :
    s.guarded via p o f = f s := by
  simp [State.guarded, h]

-- faults and power

theorem State.flag_fault (s : State) (p : Nat) {b : Nat} (hb : b < 32) : (s.fault p b).flag (PG_FAULT p b) = true :=
  State.flag_fputB_same s _ true (by simp only [PG_FAULT]; omega) (by simp [PG_FAULT])

theorem State.onlyRegs_fault (s : State) (p b : Nat) : OnlyRegs s (s.fault p b) [p * 4096 + 0x020] :=
  (OnlyRegs.refl s _).fputB _ true (by simp [PG_FAULT])

/-- A write of a header register moves no domain. -/
theorem State.domState_setReg_header (s : State) {a : Nat} (ha : a % 4096 < 0x040) (w : Word) (p : Nat) :
    (s.setReg a w).domState (pageDom p) = s.domState (pageDom p) := by
  have hd := pageDom_le p
  unfold State.domState State.fget
  rw [State.reg_setReg_other]
  simp only [F.PW_D_STATE]
  omega

theorem State.powered_setReg_header (s : State) {a : Nat} (ha : a % 4096 < 0x040) (w : Word) (p : Nat) :
    (s.setReg a w).powered p = s.powered p := by
  simp only [State.powered, State.domPowered, State.domState_setReg_header s ha]

-- REGISTER_WRITE (R24, R26, R32, R35)

section
variable {s : State} {via : Via} {p o : Nat} {d : RegDef} (v : Word) {whole : Bool}

/-- What a write of a block register does under each judgement. -/
def State.judgedWrite (s : State) (via : Via) (p o : Nat) (v : Word) : Judge → State
  | .nothing => s
  | .access => s.fault p faultACCESS
  | .locked => s.fault p faultLOCKED
  | .unpowered => s.fault p faultUNPWR
  | .held => { s with pwr.held := s.pwr.held ++
      [(pageDom p, .registerWrite via ⟨p % 1024, Nat.mod_lt _ (by decide)⟩ (BitVec.ofNat 12 o) (some v) 15)] }
  | .ok => s.writeBlock via p o v

theorem State.busWrite_block (hv : via ≠ .bar2) (hk : regKind p (o / 4 * 4) = some (.block d)) :
    s.busWrite via p o v whole = s.judgedWrite via p (o / 4 * 4) v (s.judge via p (o / 4 * 4) whole) := by
  obtain ⟨ho, -⟩ := regKind_block hk
  have h24 : o / 4 * 4 ≠ 0x024 := by omega
  have h30 : ¬ o / 4 * 4 < 0x030 := by omega
  simp only [State.busWrite, if_neg hv, if_neg h24, h30, false_and, if_false, hk]
  cases s.judge via p (o / 4 * 4) whole <;> rfl

theorem State.busWrite_header (hv : via ≠ .bar2) (ho : o / 4 * 4 < 0x024) (hj : s.judge via p (o / 4 * 4) whole = .ok) :
    s.busWrite via p o v whole = s.writeHeader p (o / 4 * 4) v := by
  have h24 : o / 4 * 4 ≠ 0x024 := by omega
  have h30 : o / 4 * 4 < 0x030 := by omega
  simp only [State.busWrite, if_neg hv, if_neg h24, if_pos h30, hj]

theorem State.store_block {r : PageRow} {i j k : Nat} (s : State) (hp : findPage p = some (r, i, j))
    (hr : findReg r.regs o = some (d, k)) :
    s.store p o v = s.setReg (p * 4096 + o) (d.write (s.reg (p * 4096 + o)) v) := by
  simp [State.store, hp, hr]

/-- The pages whose block registers a write only stores. -/
def storePages : List Nat := [0x005, 0x006, 0x007, 0x008, 0x012, 0x114, 0x131, 0x132, 0x139, 0x151, 0x161]

theorem State.writeBlock_store (s : State) (via : Via) (hp : p ∈ storePages) : s.writeBlock via p o v = s.store p o v := by
  simp only [storePages, List.mem_cons, List.not_mem_nil, or_false] at hp
  rcases hp with rfl | rfl | rfl | rfl | rfl | rfl | rfl | rfl | rfl | rfl | rfl <;> rfl

theorem Completes.of_exec {c : Instr} {s t : State} {P : State → Prop} (h : exec c s = .next t) (ht : P t) : Completes c s P :=
  ⟨t, h, ht⟩

theorem exec_write (s : State) (via : Via) (page : Fin 1024) (off : BitVec 12) (v : Word) (be : BitVec 4) :
    exec (.registerWrite via page off (some v) be) s = .next (s.busWrite via page.val off.toNat v (be = 15)) := rfl

theorem exec_read {s : State} {via : Via} {page : Fin 1024} {off : BitVec 12} {be : BitVec 4} (hv : via ≠ .bar2)
    (hh : s.readHeld via page.val off.toNat 1 = false) :
    exec (.registerWrite via page off none be) s =
      .next { (s.busRead via page.val off.toNat).2 with out := [(s.busRead via page.val off.toNat).1] } := by
  show execRegisterWrite via page off none be s = _
  simp [execRegisterWrite, hv, hh]

theorem State.readHeld_of_not_entry (n : Nat) (h : s.domState (pageDom p) ≠ dENTRY) : s.readHeld via p o n = false := by
  simp [State.readHeld, h]

theorem State.readHeld_header (hp : implemented p = true) (ho : o / 4 * 4 < 0x030) : s.readHeld via p o 1 = false := by
  simp [State.readHeld, regKind_header hp ho]

theorem State.busRead_unpowered (hu : s.unreachable via p = false) (hk : regKind p (o / 4 * 4) = some (.block d))
    (hs : isSleepReg (p * 4096 + o / 4 * 4) = false) (hp : s.powered p = false) :
    s.busRead via p o = (0, s.fault p faultUNPWR) := by
  simp [State.busRead, hu, hk, hs, hp]

theorem State.busRead_live (hu : s.unreachable via p = false) (hk : regKind p (o / 4 * 4) = some (.block d))
    (hp : s.powered p = true) (hpop : popping (p * 4096 + o / 4 * 4) = false) (hd : drawnReg (p * 4096 + o / 4 * 4) = false)
    (hq : p * 4096 + o / 4 * 4 ≠ F.Q_NEXTIN_T.addr) (hf : s.flag (PG_FREEZE ((p * 4096 + o / 4 * 4) / 4096)) = false) :
    s.busRead via p o = (s.view (viaReader via) (p * 4096 + o / 4 * 4), s.readLatch (viaReader via) (p * 4096 + o / 4 * 4)) := by
  simp [State.busRead, State.readReg, State.readLive, hu, hk, hp, hpop, hd, hq, hf]

theorem State.busRead_header (hu : s.unreachable via p = false) (hp : implemented p = true) (ho : o / 4 * 4 < 0x030) :
    s.busRead via p o = (s.header p (o / 4 * 4), s) := by
  simp [State.busRead, hu, regKind_header hp ho]

end

section
variable {s : State} {via : Via} {page : Fin 1024} {off : BitVec 12} (v : Word) (be : BitVec 4) {d : RegDef} (hv : via ≠ .bar2)
  (hk : regKind page.val (off.toNat / 4 * 4) = some (.block d))
include hv hk

theorem blockWrite_exec : exec (.registerWrite via page off (some v) be) s =
    .next (s.judgedWrite via page.val (off.toNat / 4 * 4) v (s.judge via page.val (off.toNat / 4 * 4) (be = 15))) := by
  rw [exec_write, State.busWrite_block v hv hk]

/-- A write that is not carried out sets its fault, and nothing else of the state differs. -/
theorem blockWrite_faults {j : Judge} {b : Nat} (hj : s.judge via page.val (off.toNat / 4 * 4) (be = 15) = j)
    (hw : s.judgedWrite via page.val (off.toNat / 4 * 4) v j = s.fault page.val b) (hb : b < 32) :
    Completes (.registerWrite via page off (some v) be) s fun t =>
      t.flag (PG_FAULT page.val b) = true ∧ OnlyRegs s t [page.val * 4096 + 0x020] :=
  .of_exec (by rw [blockWrite_exec v be hv hk, hj, hw]) ⟨s.flag_fault _ hb, s.onlyRegs_fault _ _⟩

/-- On a page whose writes only store, the register holds what its access codes make of the old and the new word. -/
theorem blockWrite_stores (hj : s.judge via page.val (off.toNat / 4 * 4) (be = 15) = .ok) (hp : page.val ∈ storePages) :
    Completes (.registerWrite via page off (some v) be) s fun t =>
      t.reg (page.val * 4096 + off.toNat / 4 * 4) = d.write (s.reg (page.val * 4096 + off.toNat / 4 * 4)) v ∧
      OnlyRegs s t [page.val * 4096 + off.toNat / 4 * 4] := by
  obtain ⟨-, r, i, k, n, hr, hd⟩ := regKind_block hk
  have hx := blockWrite_exec (s := s) v be hv hk
  rw [hj, State.judgedWrite, State.writeBlock_store v s via hp, State.store_block v s hr hd] at hx
  exact .of_exec hx ⟨s.reg_setReg_same _ _, (OnlyRegs.refl s _).setReg _ _ (by simp)⟩

variable (hu : s.unreachable via page.val = false) (he : s.domState (pageDom page.val) ≠ dENTRY)
include hu he

theorem blockRead_unpowered (hs : isSleepReg (page.val * 4096 + off.toNat / 4 * 4) = false) (hp : s.powered page.val = false) :
    Completes (.registerWrite via page off none be) s fun t => t.out = [0] ∧ t.flag (PG_FAULT page.val faultUNPWR) = true ∧
      OnlyRegs s { t with out := s.out } [page.val * 4096 + 0x020] := by
  have hx := exec_read (be := be) hv (State.readHeld_of_not_entry (via := via) (o := off.toNat) 1 he)
  rw [State.busRead_unpowered hu hk hs hp] at hx
  exact .of_exec hx ⟨rfl, s.flag_fault _ (by decide), s.onlyRegs_fault _ _⟩

theorem blockRead_live {a : Nat} (ha : page.val * 4096 + off.toNat / 4 * 4 = a) (hp : s.powered page.val = true) (hpop : popping a = false)
    (hd : drawnReg a = false) (hq : a ≠ F.Q_NEXTIN_T.addr) (hf : s.flag (PG_FREEZE page.val) = false) :
    exec (.registerWrite via page off none be) s =
      .next { s.readLatch (viaReader via) a with out := [s.view (viaReader via) a] } := by
  subst ha
  have hpage : (page.val * 4096 + off.toNat / 4 * 4) / 4096 = page.val := by omega
  rw [exec_read hv (State.readHeld_of_not_entry 1 he), State.busRead_live hu hk hp hpop hd hq (by rw [hpage]; exact hf)]

end

section
variable {s : State} {via : Via} {page : Fin 1024} (v : Word)

/-- A header register whose write stores `w` holds it, and nothing else of the state differs. -/
theorem headerWrite_stores (hv : via ≠ .bar2) {off : BitVec 12} (ho : off.toNat / 4 * 4 = off.toNat) (hlt : off.toNat < 0x024) {w : Word}
    (hw : s.writeHeader page.val off.toNat v = s.setReg (page.val * 4096 + off.toNat) w)
    (hj : s.judge via page.val off.toNat true = .ok) :
    Completes (.registerWrite via page off (some v) 15) s fun t =>
      t.reg (page.val * 4096 + off.toNat) = w ∧ OnlyRegs s t [page.val * 4096 + off.toNat] := by
  have hb := State.busWrite_header v (o := off.toNat) hv (by omega) (by rw [ho]; exact hj)
  rw [ho, hw] at hb
  exact .of_exec (by rw [exec_write]; exact congrArg _ hb) ⟨s.reg_setReg_same _ _, (OnlyRegs.refl s _).setReg _ _ (by simp)⟩

theorem pgStat_read (hv : via ≠ .bar2) (hi : implemented page.val = true) (hu : s.unreachable via page.val = false) :
    Completes (.registerWrite via page 0x010 none 15) s fun t =>
      t.out = [s.header page.val 0x010] ∧ { t with out := s.out } = s := by
  have ho : (0x010 : BitVec 12).toNat / 4 * 4 < 0x030 := by decide
  have hx := exec_read (off := 0x010) (be := 15) hv (State.readHeld_header (s := s) (via := via) hi ho)
  rw [State.busRead_header hu hi ho] at hx
  exact .of_exec hx ⟨rfl, rfl⟩

/-- PG_EVPEND and PG_FAULT lose the bits written 1. -/
theorem w1cHeader_written (hv : via ≠ .bar2) {off : BitVec 12} (ho : off ∈ [(0x01C : BitVec 12), 0x020])
    (hj : s.judge via page.val off.toNat true = .ok) :
    Completes (.registerWrite via page off (some v) 15) s fun t =>
      t.reg (page.val * 4096 + off.toNat) = s.reg (page.val * 4096 + off.toNat) &&& ~~~v ∧
      OnlyRegs s t [page.val * 4096 + off.toNat] := by
  rcases List.mem_pair.mp ho with rfl | rfl <;> exact headerWrite_stores v hv rfl (by decide) rfl hj

theorem wtenant_written (hu : s.pcieUp = true) : Completes (.registerWrite .bar2 0x040 0x020 (some v) 15) s fun t =>
    t.pcie.wtenant = v.toNat % 4096 ∧ { t with pcie.wtenant := s.pcie.wtenant } = s := by
  have hb : s.bar2Write 0x40020 v = { s with pcie.wtenant := v.toNat % 4096 } := by simp [State.bar2Write, hu]
  exact .of_exec (t := s.bar2Write 0x40020 v) rfl (by rw [hb]; exact ⟨rfl, rfl⟩)

theorem wtenant_read (hu : s.pcieUp = true) : Completes (.registerWrite .bar2 0x040 0x020 none 15) s fun t =>
    t.out = [BitVec.ofNat 32 s.pcie.wtenant] ∧ { t with out := s.out } = s := by
  have hb : s.bar2Read 0x40020 = { s with out := [BitVec.ofNat 32 s.pcie.wtenant] } := by simp [State.bar2Read, hu]
  exact .of_exec (t := s.bar2Read 0x40020) rfl (by rw [hb]; exact ⟨rfl, rfl⟩)

end

/-- A bit that is RW takes the bit written (R7). -/
theorem RegDef.write_rw_bit {d : RegDef} {i : Nat} (hrw : (d.bits .RW).getLsbD i = true) (hc : (d.bits .W1C).getLsbD i = false)
    (hs : (d.bits .W1S).getLsbD i = false) (old v : Word) : (d.write old v).getLsbD i = v.getLsbD i := by
  have hi : i < 32 := BitVec.lt_of_getLsbD hrw
  simp only [RegDef.write, BitVec.getLsbD_or, BitVec.getLsbD_and, BitVec.getLsbD_not, hrw, hc, hs, hi]
  simp

/-- RST_WDOG. -/
def wdogReg : RegDef := ⟨0x048, 1, 4, [⟨0, 16, .RW, 0x3e8⟩]⟩

theorem wdogReg_write_period (old v : Word) : (wdogReg.write old v).toNat / 2 ^ 0 % 2 ^ 16 = v.toNat % 2 ^ 16 := by
  have hrw : ∀ i < 16, (wdogReg.bits .RW).getLsbD i = true := by decide
  have hc : wdogReg.bits .W1C = 0 := by decide
  have hs : wdogReg.bits .W1S = 0 := by decide
  apply Nat.eq_of_testBit_eq
  intro i
  rw [Fld.get_bit, Nat.testBit_mod_two_pow, BitVec.testBit_toNat]
  by_cases hi : i < 16
  · rw [Nat.add_zero, RegDef.write_rw_bit (hrw i hi) (by simp [hc]) (by simp [hs])]
  · simp [hi]

theorem wdogPeriod_written {s : State} {via : Via} (v : Word) (hv : via ≠ .bar2) (hj : s.judge via 0x002 0x048 true = .ok) :
    Completes (.registerWrite via 0x002 0x048 v 15) s fun t =>
      t.fget F.RST_WDOG_PERIOD = v.toNat % 2 ^ 16 ∧ OnlyRegs s t [0x002048] := by
  have hk : regKind 0x002 0x048 = some (.block wdogReg) := by decide
  obtain ⟨-, r, i, j, n, hr, hd⟩ := regKind_block hk
  have hx := blockWrite_exec (s := s) (page := 0x002) (off := 0x048) v 15 hv hk
  have hj' : s.judge via (0x002 : Fin 1024).val ((0x048 : BitVec 12).toNat / 4 * 4) ((15 : BitVec 4) = 15) = .ok := hj
  have hst : s.writeBlock via 0x002 0x048 v = s.setReg 0x002048 (wdogReg.write (s.reg 0x002048) v) := State.store_block v s hr hd
  rw [hj'] at hx
  refine .of_exec (hx.trans (congrArg _ hst)) ⟨?_, (OnlyRegs.refl s _).setReg _ _ (by simp)⟩
  unfold State.fget
  exact (congrArg (fun w : Word => w.toNat / 2 ^ 0 % 2 ^ 16) (s.reg_setReg_same 0x002048 _)).trans (wdogReg_write_period _ _)

end Sys2Proof.Machine
end

section
/-! SUPPORT. COMMIT (02: R33): the copy of the shadows, and what the blocks keep of it. -/

namespace Sys2Proof.Machine

-- COMMIT (R33): the copy of the shadows

section
variable {p : Nat}

/-- Copying registers of distinct offsets commits each, and leaves every other register. -/
theorem State.foldl_copyReg (l : List (RegDef × Nat)) (hl : (l.map Prod.snd).Nodup) (hlt : ∀ x ∈ l, x.2 < 0x800) (s : State) :
    (∀ x ∈ l, Committed s (l.foldl (fun s x => s.copyReg x.1 p x.2) s) x.1 (p * 4096 + x.2)) ∧
      ∀ a, (∀ x ∈ l, a ≠ p * 4096 + x.2 + 0x800) → (l.foldl (fun s x => s.copyReg x.1 p x.2) s).reg a = s.reg a := by
  induction l generalizing s with
  | nil => exact ⟨by simp, fun _ _ => rfl⟩
  | cons y l ih =>
    rw [List.map_cons, List.nodup_cons] at hl
    have hy := hlt y (List.mem_cons_self ..)
    have hlt' : ∀ x ∈ l, x.2 < 0x800 := fun x hx => hlt x (List.mem_cons_of_mem _ hx)
    have hne : ∀ x ∈ l, x.2 ≠ y.2 := fun x hx e => hl.1 (List.mem_map.mpr ⟨x, hx, e⟩)
    obtain ⟨hc, ho⟩ := ih hl.2 hlt' (s.copyReg y.1 p y.2)
    refine ⟨List.forall_mem_cons.mpr ⟨?_, fun x hx => ?_⟩, fun a ha => ?_⟩
    · have hkeep := ho (p * 4096 + y.2 + 0x800) fun x hx => by have := hne x hx; omega
      exact hkeep.trans (State.reg_setReg_same _ _ _)
    · have h1 : (s.copyReg y.1 p y.2).reg (p * 4096 + x.2 + 0x800) = s.reg (p * 4096 + x.2 + 0x800) :=
        State.reg_setReg_other _ (by have := hne x hx; omega) _
      have h2 : (s.copyReg y.1 p y.2).reg (p * 4096 + x.2) = s.reg (p * 4096 + x.2) :=
        State.reg_setReg_other _ (by have := hlt' x hx; omega) _
      have := hc x hx
      unfold Committed at this ⊢
      rw [List.foldl_cons, this, h1, h2]
    · have h := List.forall_mem_cons.mp ha
      exact (ho a h.2).trans (State.reg_setReg_other _ h.1 _)

theorem State.copyPage_eq {r : PageRow} {i j : Nat} (s : State) (keep : Nat → Bool) (hp : findPage p = some (r, i, j)) :
    s.copyPage p keep = (r.shadows.filter fun x => !keep x.2).foldl (fun s x => s.copyReg x.1 p x.2) s := by
  simp only [State.copyPage, hp, PageRow.shadows, PageRow.cells, List.foldl_filter, List.foldl_flatMap, List.foldl_map]
  congr 1
  funext s d
  cases d.shadowed
  · simp
  · refine congrArg (fun f => List.foldl f s (List.range d.count)) (funext fun s => funext fun k => ?_)
    cases keep (d.off + k * d.stride) <;> rfl

variable (s : State) (keep : Nat → Bool)

/-- A commit makes the shadow active of every register it does not keep. -/
theorem State.copyPage_committed {o : Nat} {d : RegDef} (h : RegAt p o d) (hs : d.shadowed = true) (hk : keep o = false) :
    Committed s (s.copyPage p keep) d (p * 4096 + o) := by
  obtain ⟨r, i, j, hp, hc⟩ := regAt_cell h
  obtain ⟨hn, hlt⟩ := PageRow.shadows_distinct r (findPage_spec hp).1
  rw [State.copyPage_eq s keep hp]
  exact (State.foldl_copyReg _ (hn.sublist (List.filter_sublist.map _)) (fun x hx => hlt x (List.mem_filter.mp hx).1) s).1
    (d, o) (List.mem_filter.mpr ⟨List.mem_filter.mpr ⟨hc, hs⟩, by simp [hk]⟩)

theorem regAt_shadowed_lt {o : Nat} {d : RegDef} (h : RegAt p o d) (hs : d.shadowed = true) : o < 0x800 := by
  obtain ⟨r, i, j, hp, hc⟩ := regAt_cell h
  exact (PageRow.shadows_distinct r (findPage_spec hp).1).2 (d, o) (List.mem_filter.mpr ⟨hc, hs⟩)

/-- It leaves every register that is no active value of the page, and the active values it keeps. -/
theorem State.reg_copyPage_other {a : Nat} (h : a / 4096 = p → a % 4096 < 0x800 ∨ keep (a % 4096 - 0x800) = true) :
    (s.copyPage p keep).reg a = s.reg a := by
  cases hp : findPage p with
  | none => simp [State.copyPage, hp]
  | some x =>
    obtain ⟨r, i, j⟩ := x
    obtain ⟨hn, hlt⟩ := PageRow.shadows_distinct r (findPage_spec hp).1
    rw [State.copyPage_eq s keep hp]
    refine (State.foldl_copyReg _ (hn.sublist (List.filter_sublist.map _)) (fun x hx => hlt x (List.mem_filter.mp hx).1) s).2
      a fun x hx e => ?_
    obtain ⟨hx, hk⟩ := List.mem_filter.mp hx
    have := hlt x hx
    have ho : a % 4096 - 0x800 = x.2 := by omega
    rcases h (by omega) with h | h
    · omega
    · simp [← ho, h] at hk

end

/-- A field all of whose bits are shadowed is active after a commit as it was written before. -/
theorem Committed.fget_act {s t : State} {d : RegDef} {f : Fld} (h : Committed s t d f.addr)
    (hb : ∀ i < f.w, (d.bits .RWS).getLsbD (i + f.lo) = true) : t.fget f.act = s.fget f := by
  unfold Committed at h
  unfold State.fget Fld.act
  dsimp only
  rw [h]
  apply Nat.eq_of_testBit_eq
  intro i
  rw [Fld.get_bit, Fld.get_bit]
  by_cases hi : i < f.w
  · have h32 : i + f.lo < 32 := BitVec.lt_of_getLsbD (hb i hi)
    simp only [BitVec.getLsbD_or, BitVec.getLsbD_and, BitVec.getLsbD_not, hb i hi, h32]
    simp
  · simp [hi]

theorem State.fget_lt (s : State) (f : Fld) : s.fget f < 2 ^ f.w := Nat.mod_lt _ (Nat.two_pow_pos _)

theorem State.fget_keepField (s old : State) {f : Fld} (h : f.lo + f.w ≤ 32) : (s.keepField old f).fget f.act = old.fget f.act :=
  (State.fget_fput_same s f.act _ h).trans (Nat.mod_eq_of_lt (State.fget_lt old f.act))

-- what the blocks do in consequence of a commit

/-- PG_FAULT and the active values: what the blocks leave as a commit has made it. -/
def CommitKept (a : Nat) : Prop := a % 4096 = 0x020 ∨ 0x800 ≤ a % 4096

/-- PG_FAULT and the active values are the same in both states. -/
def SameActive (s t : State) : Prop := ∀ a, CommitKept a → t.reg a = s.reg a

namespace SameActive

theorem of_regs {s t : State} (h : t.regs = s.regs) : SameActive s t := fun a _ => by unfold State.reg; rw [h]

theorem refl (s : State) : SameActive s s := .of_regs rfl

theorem trans {s t u : State} (h : SameActive s t) (h' : SameActive t u) : SameActive s u :=
  fun a ha => (h' a ha).trans (h a ha)

theorem fput {s t : State} (h : SameActive s t) (f : Fld) (v : Nat) (hf : ¬ CommitKept f.addr) : SameActive s (t.fput f v) :=
  fun a ha => (State.reg_fput_other _ _ _ fun (e : a = f.addr) => hf (e ▸ ha)).trans (h a ha)

theorem fputB {s t : State} (h : SameActive s t) (f : Fld) (b : Bool) (hf : ¬ CommitKept f.addr) : SameActive s (t.fputB f b) :=
  h.fput f _ hf

theorem evRise {s t : State} (h : SameActive s t) (p b : Nat) : SameActive s (t.evRise p b) :=
  fun a ha => (State.reg_evRise_other _ _ _ (by unfold CommitKept at ha; omega)).trans (h a ha)

theorem setRfp {s t : State} (h : SameActive s t) (p : Nat) (x : RfSt) : SameActive s (t.setRfp p x) := h.trans (of_regs rfl)

theorem foldl {α : Type} {f : State → α → State} (l : List α) (h : ∀ s, ∀ x ∈ l, SameActive s (f s x)) (s : State) :
    SameActive s (l.foldl f s) := by
  induction l generalizing s with
  | nil => exact refl s
  | cons x l ih =>
    have h' := List.forall_mem_cons.mp (h s)
    exact h'.1.trans (ih (fun s y hy => h s y (List.mem_cons_of_mem _ hy)) _)

theorem ite {s t u : State} {c : Prop} [Decidable c] (h : c → SameActive s t) (h' : ¬ c → SameActive s u) :
    SameActive s (if c then t else u) := by
  split
  · next hc => exact h hc
  · next hc => exact h' hc

theorem fget {s t : State} (h : SameActive s t) (f : Fld) (hf : CommitKept f.addr) : t.fget f = s.fget f := by
  unfold State.fget; rw [h _ hf]

theorem flag {s t : State} (h : SameActive s t) (f : Fld) (hf : CommitKept f.addr) : t.flag f = s.flag f := by
  unfold State.flag; rw [h.fget f hf]

variable (s : State)

theorem rfStat_not_kept (p : Nat) : ¬ CommitKept ((0x020 + 1 * p) * 4096 + 0x044) := by unfold CommitKept; omega

theorem calRelease : SameActive s s.calRelease := by
  unfold State.calRelease
  exact foldl _ (fun s p _ => ite (fun _ => (refl s).setRfp _ _) fun _ => refl s) s

theorem calEnd (result done : Nat) : SameActive s (s.calEnd result done) := by
  have hstat : ¬ CommitKept 0x028048 := by unfold CommitKept; decide
  have hs := (((refl s).fputB F.CAL_STAT_BUSY false hstat).fput F.CAL_STAT_RESULT result hstat).fput F.CAL_STAT_DONE done hstat
  exact hs.trans (of_regs rfl)

theorem calAbandon (p : Nat) : SameActive s (s.calAbandon p) := by
  unfold State.calAbandon State.calFail
  exact ite (fun _ => ((calEnd s 3 0).trans (calRelease _)).evRise _ _) fun _ => refl s

theorem tune (p : Nat) : SameActive s (s.tune p) := by
  unfold State.tune
  exact ((((calAbandon s p).fput _ _ (rfStat_not_kept p)).fputB _ _ (rfStat_not_kept p)).fputB _ _ (rfStat_not_kept p)).setRfp _ _

theorem retuneOne (p : Nat) : SameActive s (s.retuneOne p) := by
  unfold State.retuneOne
  exact ite (fun _ => refl s) fun _ => ite (fun _ => tune s p) fun _ => (calAbandon s p).setRfp _ _

theorem streamsUpdate : SameActive s s.streamsUpdate := by
  unfold State.streamsUpdate State.when
  have hrun : ¬ CommitKept F.SX_RUN_S.addr := by unfold CommitKept; decide
  have hinv : ¬ CommitKept F.SX_INV_S.addr := by unfold CommitKept; decide
  exact ite (fun _ => (((refl s).fput _ _ hrun).fput _ _ hinv).evRise _ _) fun _ => ((refl s).fput _ _ hrun).fput _ _ hinv

theorem retune (m : Nat) : SameActive s (s.retune m) := by
  unfold State.retune
  have hall := foldl (f := State.retuneOne) (maskPaths ((maskPaths m).foldl (fun a p => a ||| s.groupOf p) 0))
    (fun s p _ => retuneOne s p) s
  exact hall.trans ((of_regs rfl).trans (streamsUpdate _))

theorem arrayM : SameActive s s.arrayM := by
  unfold State.arrayM
  exact foldl _ (fun s p _ => ite (fun _ => (refl s).fputB _ _ (rfStat_not_kept p)) fun _ => refl s) s

theorem notchRestart (p : Nat) {k : Nat} (hk : k < 8) : SameActive s (s.notchRestart p k) := by
  have hstat : ¬ CommitKept ((0x030 + 1 * p) * 4096 + 0x078 + 4 * k) := by unfold CommitKept; omega
  unfold State.notchRestart
  exact ite (fun _ => (((refl s).fputB _ _ hstat).fputB _ _ hstat).fput _ _ hstat) fun _ => ((refl s).fputB _ _ hstat).fputB _ _ hstat

theorem notchCommitted (old : State) (p : Nat) : SameActive s (s.notchCommitted old p) := by
  unfold State.notchCommitted
  exact foldl _ (fun s _ hk => ite (fun _ => notchRestart s p (List.mem_range.mp hk)) fun _ => refl s) s

end SameActive

-- COMMIT of each page that does more than copy

section
variable {s : State} {via : Via} {page : Fin 1024}

theorem exec_commit (hj : s.judge via page.val 0x00C true = .ok) :
    exec (.commit via page) s = .next (s.commitPage page.val true) :=
  congrArg _ (State.guarded_ok hj _)

theorem exec_srst (hj : s.judge via page.val 0x00C true = .ok) : exec (.srst via page) s = .next (s.srst page.val) :=
  congrArg _ (State.guarded_ok hj _)

theorem exec_freeze (on : Bool) (hj : s.judge via page.val 0x00C true = .ok) :
    exec (.freeze via page on) s = .next (s.setFreeze page.val on) :=
  congrArg _ (State.guarded_ok hj _)

end

section
variable (s : State) {p : Nat}

theorem State.commitPage_off (hi : implemented p = true) (hd : s.domState (pageDom p) ≠ dON) (b : Bool) :
    s.commitPage p b = s.fault p faultUNPWR := by
  obtain ⟨x, hx⟩ := Option.isSome_iff_exists.mp hi
  simp [State.commitPage, hx, hd]

theorem State.fget_act_copyPage {keep : Nat → Bool} {o : Nat} {d : RegDef} {f : Fld} (h : RegAt p o d) (hs : d.shadowed = true)
    (hk : keep o = false) (ha : f.addr = p * 4096 + o) (hb : ∀ i < f.w, (d.bits .RWS).getLsbD (i + f.lo) = true) :
    (s.copyPage p keep).fget f.act = s.fget f :=
  Committed.fget_act (by rw [ha]; exact s.copyPage_committed keep h hs hk) hb

/-- The page has an active value for each shadowed register, and its register table is `rs`. -/
def ShadowPage (p : Nat) (rs : List RegDef) : Prop := (findPage p).map (fun x => (x.1.regs, x.1.shadow)) = some (rs, true)

theorem ShadowPage.row {rs : List RegDef} (h : ShadowPage p rs) :
    ∃ r i j, findPage p = some (r, i, j) ∧ r.regs = rs ∧ r.shadow = true := by
  obtain ⟨⟨r, i, j⟩, hp, he⟩ := Option.map_eq_some_iff.mp h
  obtain ⟨hr, hs⟩ := Prod.mk.inj he
  exact ⟨r, i, j, hp, hr, hs⟩

theorem ShadowPage.regAt {rs : List RegDef} (h : ShadowPage p rs) {o k : Nat} {d : RegDef} (hr : findReg rs o = some (d, k)) :
    RegAt p o d := by
  obtain ⟨r, i, j, hp, rfl, -⟩ := h.row
  exact ⟨r, i, j, k, hp, hr⟩

theorem ShadowPage.findReg {rs : List RegDef} (h : ShadowPage p rs) {o : Nat} {d : RegDef} (hr : RegAt p o d) :
    ∃ k, findReg rs o = some (d, k) := by
  obtain ⟨r, i, j, hp, rfl, -⟩ := h.row
  obtain ⟨r', i', j', k, hp', hk⟩ := hr
  cases hp.symm.trans hp'
  exact ⟨k, hk⟩

end

-- RFn (R66, R67, R71)

theorem shadowPage_rf (p : Fin 8) : ShadowPage (rfPage p.val) regsRF := by
  have h : ∀ p : Fin 8, ShadowPage (rfPage p.val) regsRF := by unfold ShadowPage; decide +kernel
  exact h p

/-- Where `bad`, the previous value of a field stays active and fault bit `b` of page `q` is set. -/
def State.keepBad (c old : State) (bad : Bool) (f : Fld) (q b : Nat) : State :=
  if bad then (c.keepField old f).fault q b else c

section
variable (c old : State) (bad : Bool) {f g : Fld} {q b : Nat}

theorem State.fget_keepBad_same (hf : f.lo + f.w ≤ 32) (hq : f.act.addr ≠ q * 4096 + 0x020) :
    (c.keepBad old bad f q b).fget f.act = if bad then old.fget f.act else c.fget f.act := by
  cases bad
  · rfl
  · exact (State.fget_fault_other _ _ _ _ hq).trans (State.fget_keepField c old hf)

theorem State.fget_keepBad_other (hf : g.addr ≠ f.act.addr) (hq : g.addr ≠ q * 4096 + 0x020) :
    (c.keepBad old bad f q b).fget g = c.fget g := by
  cases bad
  · rfl
  · refine (State.fget_fault_other _ _ _ _ hq).trans ?_
    unfold State.fget State.keepField
    rw [State.reg_fput_other _ _ _ hf]

theorem State.flag_keepBad (hb : b < 32) : bad = true → (c.keepBad old bad f q b).flag (PG_FAULT q b) = true := by
  rintro rfl
  exact State.flag_fault _ q hb

theorem State.flag_keepBad_other {b' : Nat} (hf : f.act.addr ≠ q * 4096 + 0x020) (hb : b' ≠ b) :
    (c.keepBad old bad f q b).flag (PG_FAULT q b') = c.flag (PG_FAULT q b') := by
  cases bad
  · rfl
  · refine (State.flag_fputB_other _ _ _ _ (by simp [PG_FAULT]) (.inr (by simp only [PG_FAULT]; omega))).trans ?_
    unfold State.flag State.fget State.keepField
    rw [State.reg_fput_other _ _ _ (by simp only [PG_FAULT]; exact hf.symm)]

end

/-- N and BW that a commit may not make active. -/
def State.badN (s : State) (p : Nat) : Bool := decide (s.fget (F.RF_LO_N p) < 1124 ∨ 1584 < s.fget (F.RF_LO_N p))
def State.badBW (s : State) (p : Nat) : Bool := decide (5 < s.fget (F.RF_BB_BW p))

/-- The copy of an RF page, with N and BW kept where they are out of range. -/
def State.commitRfFields (s : State) (p : Nat) : State :=
  ((s.copyPage (rfPage p) fun _ => false).keepBad s (s.badN p) (F.RF_LO_N p) (rfPage p) 0).keepBad s (s.badBW p) (F.RF_BB_BW p)
    (rfPage p) 1

/-- AGCEN = 0 takes the manual gain as the commit has made it. -/
def State.commitRfGain (c : State) (p : Nat) : State :=
  if c.flag (F.RF_CTL_AGCEN p) then c else c.fput (F.RF_GAIN_GAIN p) (c.fget (F.RF_BB_MGAIN p).act)

theorem State.commitRf_eq (s : State) (p : Nat) (b : Bool) : s.commitRf p b =
    if b ∧ s.fget (F.RF_LO_N p).act ≠ ((s.commitRfFields p).commitRfGain p).fget (F.RF_LO_N p).act then
      ((s.commitRfFields p).commitRfGain p).retune (2 ^ p) else (s.commitRfFields p).commitRfGain p := rfl

theorem State.sameActive_commitRf (s : State) (p : Nat) (b : Bool) : SameActive (s.commitRfFields p) (s.commitRf p b) := by
  have hgain : ¬ CommitKept (F.RF_GAIN_GAIN p).addr := by simp only [F.RF_GAIN_GAIN, CommitKept]; omega
  have hagc : SameActive (s.commitRfFields p) ((s.commitRfFields p).commitRfGain p) :=
    .ite (fun _ => .refl _) fun _ => (SameActive.refl _).fput _ _ hgain
  rw [State.commitRf_eq]
  exact .ite (fun _ => hagc.trans (.retune _ _)) fun _ => hagc

section
variable (s : State) (p : Fin 8)

theorem State.fget_copyPage_N :
    (s.copyPage (rfPage p.val) fun _ => false).fget (F.RF_LO_N p.val).act = s.fget (F.RF_LO_N p.val) :=
  s.fget_act_copyPage ((shadowPage_rf p).regAt (o := 0x048) rfl) (by decide) rfl (by simp [F.RF_LO_N, rfPage])
    (by change ∀ i < 11, BitVec.getLsbD (RegDef.bits _ _) (i + 0) = true; decide)

theorem State.fget_copyPage_BW :
    (s.copyPage (rfPage p.val) fun _ => false).fget (F.RF_BB_BW p.val).act = s.fget (F.RF_BB_BW p.val) :=
  s.fget_act_copyPage ((shadowPage_rf p).regAt (o := 0x04C) rfl) (by decide) rfl (by simp [F.RF_BB_BW, rfPage])
    (by change ∀ i < 3, BitVec.getLsbD (RegDef.bits _ _) (i + 0) = true; decide)

theorem State.commitRfFields_N : (s.commitRfFields p.val).fget (F.RF_LO_N p.val).act =
    if 1124 ≤ s.fget (F.RF_LO_N p.val) ∧ s.fget (F.RF_LO_N p.val) ≤ 1584 then s.fget (F.RF_LO_N p.val)
    else s.fget (F.RF_LO_N p.val).act := by
  have hq : (F.RF_LO_N p.val).act.addr ≠ rfPage p.val * 4096 + 0x020 := by simp only [F.RF_LO_N, Fld.act, rfPage]; omega
  have hbw : (F.RF_LO_N p.val).act.addr ≠ (F.RF_BB_BW p.val).act.addr := by simp only [F.RF_LO_N, F.RF_BB_BW, Fld.act]; omega
  rw [State.commitRfFields, State.fget_keepBad_other _ _ _ hbw hq, State.fget_keepBad_same _ _ _ (by simp [F.RF_LO_N]) hq,
    s.fget_copyPage_N p]
  have hbad : s.badN p.val = true ↔ ¬ (1124 ≤ s.fget (F.RF_LO_N p.val) ∧ s.fget (F.RF_LO_N p.val) ≤ 1584) := by
    simp only [State.badN, decide_eq_true_eq]; omega
  simp only [hbad, ite_not]

theorem State.commitRfFields_BW : (s.commitRfFields p.val).fget (F.RF_BB_BW p.val).act =
    if s.fget (F.RF_BB_BW p.val) ≤ 5 then s.fget (F.RF_BB_BW p.val) else s.fget (F.RF_BB_BW p.val).act := by
  have hq : (F.RF_BB_BW p.val).act.addr ≠ rfPage p.val * 4096 + 0x020 := by simp only [F.RF_BB_BW, Fld.act, rfPage]; omega
  have hn : (F.RF_BB_BW p.val).act.addr ≠ (F.RF_LO_N p.val).act.addr := by simp only [F.RF_LO_N, F.RF_BB_BW, Fld.act]; omega
  rw [State.commitRfFields, State.fget_keepBad_same _ _ _ (by simp [F.RF_BB_BW]) hq, State.fget_keepBad_other _ _ _ hn hq,
    s.fget_copyPage_BW p]
  have hbad : s.badBW p.val = true ↔ ¬ s.fget (F.RF_BB_BW p.val) ≤ 5 := by
    simp only [State.badBW, decide_eq_true_eq]; omega
  simp only [hbad, ite_not]

theorem State.commitRfFields_faultN (h : s.badN p.val = true) : (s.commitRfFields p.val).flag (PG_FAULT (rfPage p.val) 0) = true := by
  have hq : (F.RF_BB_BW p.val).act.addr ≠ rfPage p.val * 4096 + 0x020 := by simp only [F.RF_BB_BW, Fld.act, rfPage]; omega
  rw [State.commitRfFields, State.flag_keepBad_other _ _ _ hq (by decide)]
  exact State.flag_keepBad _ _ _ (by decide) h

theorem State.commitRfFields_faultBW (h : s.badBW p.val = true) : (s.commitRfFields p.val).flag (PG_FAULT (rfPage p.val) 1) = true :=
  State.flag_keepBad _ _ _ (by decide) h

theorem State.commitPage_rf (hd : s.domState (pageDom (rfPage p.val)) = dON) (b : Bool) :
    s.commitPage (rfPage p.val) b = s.commitRf p.val b := by
  obtain ⟨r, i, j, hp, -, hs⟩ := (shadowPage_rf p).row
  have hr : 0x020 ≤ rfPage p.val ∧ rfPage p.val < 0x028 := by unfold rfPage; omega
  have hsub : rfPage p.val - 0x020 = p.val := by unfold rfPage; omega
  simp [State.commitPage, hp, hd, hs, hr, hsub]

end

theorem commitKept_fault (q : Nat) : CommitKept (q * 4096 + 0x020) := by unfold CommitKept; omega

/-- A commit of RFn takes N and BW in range, and keeps the old value of one that is not, with its fault. -/
theorem commit_rf (s : State) (via : Via) (p : Fin 8) (hj : s.judge via (rfPage p.val) 0x00C true = .ok)
    (hd : s.domState (pageDom (rfPage p.val)) = dON) :
    let n := s.fget (F.RF_LO_N p.val)
    let bw := s.fget (F.RF_BB_BW p.val)
    Completes (.commit via (Fin.ofNat 1024 (rfPage p.val))) s fun t =>
      t.fget (F.RF_LO_N p.val).act = (if 1124 ≤ n ∧ n ≤ 1584 then n else s.fget (F.RF_LO_N p.val).act) ∧
      t.fget (F.RF_BB_BW p.val).act = (if bw ≤ 5 then bw else s.fget (F.RF_BB_BW p.val).act) ∧
      ((n < 1124 ∨ 1584 < n) → t.flag (PG_FAULT (rfPage p.val) 0) = true) ∧
      (5 < bw → t.flag (PG_FAULT (rfPage p.val) 1) = true) := by
  intro n bw
  have hpage : (Fin.ofNat 1024 (rfPage p.val)).val = rfPage p.val := by simp only [Fin.ofNat, rfPage]; omega
  have hsame := s.sameActive_commitRf p.val true
  refine .of_exec (exec_commit (by rw [hpage]; exact hj)) ?_
  rw [hpage, s.commitPage_rf p hd]
  refine ⟨?_, ?_, fun h => ?_, fun h => ?_⟩
  · exact (hsame.fget _ (by simp only [F.RF_LO_N, Fld.act, CommitKept]; omega)).trans (s.commitRfFields_N p)
  · exact (hsame.fget _ (by simp only [F.RF_BB_BW, Fld.act, CommitKept]; omega)).trans (s.commitRfFields_BW p)
  · rw [hsame.flag _ (commitKept_fault _)]
    exact s.commitRfFields_faultN p (decide_eq_true h)
  · rw [hsame.flag _ (commitKept_fault _)]
    exact s.commitRfFields_faultBW p (decide_eq_true h)

-- ARRAY (R81, R82)

theorem shadowPage_rfcom : ShadowPage 0x028 regsRFCOM := by unfold ShadowPage; decide +kernel

/-- An enabled group of fewer than two members. -/
abbrev State.fewMembers (s : State) (en mask : Fld) : Prop := s.flag en = true ∧ popcount 4 (s.fget mask) < 2

section
variable (s : State)

theorem State.commitArray_few (h : s.fewMembers F.ARRAY_AG0EN F.ARRAY_AG0MASK ∨ s.fewMembers F.ARRAY_AG1EN F.ARRAY_AG1MASK) :
    s.commitArray = s.fault 0x028 1 := by
  simp only [State.commitArray, Bool.and_eq_true, decide_eq_true_eq]
  exact if_pos h

theorem State.sameActive_commitArray
    (h : ¬ (s.fewMembers F.ARRAY_AG0EN F.ARRAY_AG0MASK ∨ s.fewMembers F.ARRAY_AG1EN F.ARRAY_AG1MASK)) :
    SameActive (s.copyPage 0x028 fun _ => false) s.commitArray := by
  have harr := SameActive.arrayM (s.copyPage 0x028 fun _ => false)
  simp only [State.commitArray, Bool.and_eq_true, decide_eq_true_eq]
  rw [if_neg h]
  refine SameActive.trans ?_ (.of_regs rfl)
  exact .ite (fun _ => harr) fun _ => harr.trans (.retune _ _)

theorem State.commitPage_array (hd : s.domState 1 = dON) (b : Bool) : s.commitPage 0x028 b = s.commitArray := by
  have hdom : pageDom 0x028 = 1 := by decide
  obtain ⟨r, i, j, hp, -, hs⟩ := shadowPage_rfcom.row
  simp [State.commitPage, hp, hdom, hd, hs]

end

/-- The ARRAY commit is taken unless an enabled group is too small. -/
theorem commit_array (s : State) (via : Via) (hj : s.judge via 0x028 0x00C true = .ok) (hd : s.domState 1 = dON) :
    (s.fewMembers F.ARRAY_AG0EN F.ARRAY_AG0MASK ∨ s.fewMembers F.ARRAY_AG1EN F.ARRAY_AG1MASK →
      Completes (.commit via 0x028) s fun t => t.flag (PG_FAULT 0x028 1) = true ∧ OnlyRegs s t [0x028020]) ∧
    (¬ (s.fewMembers F.ARRAY_AG0EN F.ARRAY_AG0MASK ∨ s.fewMembers F.ARRAY_AG1EN F.ARRAY_AG1MASK) →
      Completes (.commit via 0x028) s fun t => t.fget F.ARRAY_AG0MASK.act = s.fget F.ARRAY_AG0MASK ∧
        t.fget F.ARRAY_AG1MASK.act = s.fget F.ARRAY_AG1MASK ∧ t.flag F.ARRAY_AG0EN.act = s.flag F.ARRAY_AG0EN ∧
        t.flag F.ARRAY_AG1EN.act = s.flag F.ARRAY_AG1EN) := by
  have hx : exec (.commit via 0x028) s = .next s.commitArray := (exec_commit hj).trans (congrArg _ (s.commitPage_array hd true))
  refine ⟨fun h => .of_exec hx ?_, fun h => .of_exec hx ?_⟩
  · rw [s.commitArray_few h]
    exact ⟨s.flag_fault _ (by decide), s.onlyRegs_fault _ _⟩
  · obtain ⟨d, hr, hd, hbits⟩ : ∃ d, findReg regsRFCOM 0x054 = some (d, 0) ∧ d.shadowed = true ∧ d.bits .RWS = 0x13FF :=
      ⟨_, rfl, by decide, by decide⟩
    have hact (f : Fld) (ha : f.addr = 0x028054) (hb : ∀ i < f.w, (0x13FF : Word).getLsbD (i + f.lo) = true) :
        s.commitArray.fget f.act = s.fget f := by
      rw [(s.sameActive_commitArray h).fget _ (by simp [Fld.act, ha, CommitKept])]
      exact s.fget_act_copyPage (shadowPage_rfcom.regAt hr) hd rfl ha (by rw [hbits]; exact hb)
    refine ⟨hact _ rfl (by decide), hact _ rfl (by decide), ?_, ?_⟩ <;>
      exact congrArg (fun n : Nat => decide (n ≠ 0)) (hact _ rfl (by decide))

-- the other pages

theorem State.reg_when_fault (s : State) (b : Bool) (p n : Nat) {a : Nat} (h : a ≠ p * 4096 + 0x020) :
    (s.when b (·.fault p n)).reg a = s.reg a := by
  cases b
  · rfl
  · exact State.reg_fput_other _ _ _ (by simpa [PG_FAULT] using h)

theorem State.flag_when_fault (s : State) {b : Bool} (p : Nat) {n : Nat} (hn : n < 32) (hb : b = true) :
    (s.when b (·.fault p n)).flag (PG_FAULT p n) = true := by
  subst hb; exact s.flag_fault p hn

/-- A commit stands committed in any later state with the active value unchanged. -/
theorem Committed.congr {s t u : State} {d : RegDef} {a : Nat} (h : Committed s t d a) (he : u.reg (a + 0x800) = t.reg (a + 0x800)) :
    Committed s u d a := he.trans h

theorem shadowPage_clkout : ShadowPage 0x012 regsCLKOUT := by unfold ShadowPage; decide +kernel
theorem shadowPage_ledger : ShadowPage 0x008 regsLEDGER := by unfold ShadowPage; decide +kernel
theorem shadowPage_sky : ShadowPage 0x110 regsSKY := by unfold ShadowPage; decide +kernel

section
variable (s : State) (b : Bool)

theorem State.commitPage_clkout (hd : s.domState 1 = dON) : s.commitPage 0x012 b = s.commitClk := by
  have hdom : pageDom 0x012 = 1 := by decide
  obtain ⟨r, i, j, hp, -, hs⟩ := shadowPage_clkout.row
  simp [State.commitPage, hp, hdom, hd, hs]

theorem State.commitPage_ledger (hd : s.domState 1 = dON) : s.commitPage 0x008 b = s.commitLedger := by
  have hdom : pageDom 0x008 = 1 := by decide
  obtain ⟨r, i, j, hp, -, hs⟩ := shadowPage_ledger.row
  simp [State.commitPage, hp, hdom, hd, hs]

theorem State.commitPage_sky (hd : s.domState 1 = dON) :
    s.commitPage 0x110 b = { s with sky.gridPend := some (s.reg F.GRID_DUMP.addr, wholeSec s.now) } := by
  have hdom : pageDom 0x110 = 1 := by decide
  obtain ⟨r, i, j, hp, -, hs⟩ := shadowPage_sky.row
  simp [State.commitPage, hp, hdom, hd, hs]

theorem State.commitPage_sieve (p : Fin 8) (hd : s.domState (pageDom (svPage p.val)) = dON) :
    s.commitPage (svPage p.val) b = (s.copyPage (svPage p.val) fun _ => false).notchCommitted s p.val := by
  have hrow : ∀ p : Fin 8, ShadowPage (svPage p.val) regsSIEVE := by unfold ShadowPage; decide +kernel
  obtain ⟨r, i, j, hp, -, hs⟩ := (hrow p).row
  have h28 : ¬ (0x020 ≤ svPage p.val ∧ svPage p.val < 0x028) := by unfold svPage; omega
  have h38 : 0x030 ≤ svPage p.val ∧ svPage p.val < 0x038 := by unfold svPage; omega
  have hne : svPage p.val ≠ 0x028 ∧ svPage p.val ≠ 0x012 ∧ svPage p.val ≠ 0x008 ∧ svPage p.val ≠ 0x110 ∧
      svPage p.val ≠ 0x038 := by
    unfold svPage; omega
  have hsub : svPage p.val - 0x030 = p.val := by unfold svPage; omega
  simp only [State.commitPage, hp, hd, hs, h28, h38, hne, hsub, ne_eq, not_true_eq_false, if_false, if_true, and_self]

end

/-- The outputs whose CFG a commit may not make active. -/
def State.clkBads (s : State) : List Nat := (List.range 4).filter s.clkBad

theorem State.clkBads_contains (s : State) {n : Nat} (hn : n < 4) : s.clkBads.contains ((0x040 + 4 * n - 0x040) / 4) = s.clkBad n := by
  have h4 : (0x040 + 4 * n - 0x040) / 4 = n := by omega
  rw [h4, Bool.eq_iff_iff, List.contains_iff_mem, State.clkBads, List.mem_filter, List.mem_range]
  simp [hn]

theorem State.sameActive_commitClk (s : State) : SameActive
    ((s.copyPage 0x012 fun o => s.clkBads.contains ((o - 0x040) / 4)).when (decide (s.clkBads ≠ [])) (·.fault 0x012 0)) s.commitClk := by
  have hrun : ¬ CommitKept F.CLKOUT_STAT_RUN.addr := by unfold CommitKept; decide
  unfold State.commitClk
  refine SameActive.foldl _ (fun t n _ => ?_) _
  exact .ite (fun _ => (SameActive.refl t).fputB _ _ hrun) fun _ => .refl t

theorem clkout_cfg_shadowed {n : Nat} (hn : n < 4) {d : RegDef} (h : RegAt 0x012 (0x040 + 4 * n) d) : d.shadowed = true := by
  have hall : ∀ n < 4, ((findReg regsCLKOUT (0x040 + 4 * n)).all fun x => x.1.shadowed) = true := by decide
  obtain ⟨k, hr⟩ := shadowPage_clkout.findReg h
  simpa [hr] using hall n hn

/-- A commit of CLKOUT takes the CFG of every output but a bad one. -/
theorem commit_clkout (s : State) (via : Via) (hj : s.judge via 0x012 0x00C true = .ok) (hd : s.domState 1 = dON) :
    Completes (.commit via 0x012) s fun t =>
      (∀ n < 4, ∀ d, RegAt 0x012 (0x040 + 4 * n) d →
        if s.clkBad n then t.reg (0x012840 + 4 * n) = s.reg (0x012840 + 4 * n) else Committed s t d (0x012040 + 4 * n)) ∧
      ((∃ n < 4, s.clkBad n = true) → t.flag (PG_FAULT 0x012 0) = true) := by
  refine .of_exec ((exec_commit hj).trans (congrArg _ (s.commitPage_clkout true hd))) ⟨fun n hn d hr => ?_, fun ⟨n, hn, hb⟩ => ?_⟩
  · have hact : s.commitClk.reg (0x012840 + 4 * n) =
        (s.copyPage 0x012 fun o => s.clkBads.contains ((o - 0x040) / 4)).reg (0x012840 + 4 * n) :=
      (s.sameActive_commitClk _ (by unfold CommitKept; omega)).trans (State.reg_when_fault _ _ _ _ (by omega))
    split
    · next hb =>
      refine hact.trans (State.reg_copyPage_other _ _ fun _ => .inr ?_)
      have ho : (0x012840 + 4 * n) % 4096 - 0x800 = 0x040 + 4 * n := by omega
      rw [ho, s.clkBads_contains hn, hb]
    · next hb =>
      have hs := clkout_cfg_shadowed hn hr
      have hk := (s.clkBads_contains hn).trans (Bool.eq_false_iff.mpr hb)
      have hc := State.copyPage_committed s (fun o => s.clkBads.contains ((o - 0x040) / 4)) hr hs hk
      have ha : 0x012 * 4096 + (0x040 + 4 * n) = 0x012040 + 4 * n := by omega
      rw [ha] at hc
      exact hc.congr (by have ha' : 0x012040 + 4 * n + 0x800 = 0x012840 + 4 * n := by omega
                         rw [ha']; exact hact)
  · rw [s.sameActive_commitClk.flag _ (commitKept_fault 0x012)]
    refine State.flag_when_fault _ _ (by decide) (decide_eq_true fun he => ?_)
    have hm : n ∈ s.clkBads := List.mem_filter.mpr ⟨List.mem_range.mpr hn, hb⟩
    simp [he] at hm

/-- The offsets of the tariff table, which a bad one keeps. -/
def State.ledgerKeep (s : State) (o : Nat) : Bool := s.tarBad && decide (0x0C0 ≤ o ∧ o < 0x0E0)

/-- A commit of the Ledger takes all but a bad tariff table. -/
theorem commit_ledger (s : State) (via : Via) (hj : s.judge via 0x008 0x00C true = .ok) (hd : s.domState 1 = dON) :
    Completes (.commit via 0x008) s fun t =>
      (∀ o d, RegAt 0x008 o d → d.shadowed = true →
        if s.tarBad ∧ 0x0C0 ≤ o ∧ o < 0x0E0 then t.reg (0x008800 + o) = s.reg (0x008800 + o) else Committed s t d (0x008000 + o)) ∧
      (s.tarBad = true → t.flag (PG_FAULT 0x008 0) = true) := by
  refine .of_exec ((exec_commit hj).trans (congrArg _ (s.commitPage_ledger true hd)))
    ⟨fun o d hr hs => ?_, State.flag_when_fault _ 0x008 (by decide)⟩
  have ho := regAt_shadowed_lt hr hs
  have hact : s.commitLedger.reg (0x008800 + o) = (s.copyPage 0x008 s.ledgerKeep).reg (0x008800 + o) :=
    State.reg_when_fault _ _ _ _ (by omega)
  have hmod : (0x008800 + o) % 4096 - 0x800 = o := by omega
  split
  · next hb =>
    refine hact.trans (State.reg_copyPage_other _ _ fun _ => .inr ?_)
    rw [hmod]
    simp [State.ledgerKeep, hb]
  · next hb =>
    have hk : s.ledgerKeep o = false := by
      rw [Bool.eq_false_iff]
      simpa [State.ledgerKeep] using hb
    refine (State.copyPage_committed s _ hr hs hk).congr ?_
    have ha : 0x008 * 4096 + o + 0x800 = 0x008800 + o := by omega
    rw [ha]
    exact hact

/-- On a SIEVE page each active value takes its shadow. -/
theorem commit_sieve (s : State) (via : Via) (p : Fin 8) (hj : s.judge via (svPage p.val) 0x00C true = .ok)
    (hd : s.domState (pageDom (svPage p.val)) = dON) :
    Completes (.commit via (Fin.ofNat 1024 (svPage p.val))) s fun t =>
      ∀ o d, RegAt (svPage p.val) o d → d.shadowed = true → Committed s t d (svPage p.val * 4096 + o) := by
  have hpage : (Fin.ofNat 1024 (svPage p.val)).val = svPage p.val := by simp only [Fin.ofNat, svPage]; omega
  refine .of_exec (exec_commit (by rw [hpage]; exact hj)) fun o d hr hs => ?_
  rw [hpage, s.commitPage_sieve true p hd]
  have ho := regAt_shadowed_lt hr hs
  exact (State.copyPage_committed s _ hr hs rfl).congr (SameActive.notchCommitted _ s p.val _ (by unfold CommitKept; omega))

end Sys2Proof.Machine
end

section
/-! SUPPORT. SRST (02: R30; 03: R475): a pass over the register table. -/

namespace Sys2Proof.Machine

-- SRST (R30, R475 to R478)

/-- Two changes of registers alone are one. -/
theorem State.regs_only_trans {s t u : State} (h : { t with regs := s.regs } = s) (h' : { u with regs := t.regs } = t) :
    { u with regs := s.regs } = s :=
  (congrArg (fun x : State => { x with regs := s.regs }) h').trans h

/-- The keys of a table in canonical form rise. -/
theorem Tab.rising_lt {α : Type} {lo : Option Nat} {k : Nat} {v : α} {t : Tab α} (h : Tab.rising lo ((k, v) :: t) = true) :
    ∀ e ∈ t, k < e.1 := by
  induction t generalizing lo k v with
  | nil => simp
  | cons e t ih =>
    obtain ⟨j, w⟩ := e
    simp only [Tab.rising, Bool.and_eq_true, decide_eq_true_eq] at h
    have hj : Tab.rising (some k) ((j, w) :: t) = true := by simp [Tab.rising, h.2]
    exact List.forall_mem_cons.mpr ⟨h.2.1, fun e he => h.2.1.trans (ih hj e he)⟩

/-- What SRST makes of the register `d` at address `a`: reset, but the bits that report live state. -/
def srstWord (r : PageRow) (d : RegDef) (a : Nat) (w : Word) : Word :=
  (regReset a &&& ~~~srstKeep r.start d (a % 4096)) ||| (w &&& srstKeep r.start d (a % 4096))

theorem srstWord_reset (r : PageRow) (d : RegDef) (a : Nat) : srstWord r d a (regReset a) = regReset a := by
  unfold srstWord
  generalize srstKeep r.start d (a % 4096) = m
  ext i hi
  simp only [BitVec.getElem_or, BitVec.getElem_and, BitVec.getElem_not]
  cases m[i] <;> simp

/-- SRST's pass over one entry of the register table. -/
def State.srstEntry (r : PageRow) (p : Nat) (s : State) (e : Nat × Word) : State :=
  if e.1 / 4096 ≠ p ∨ e.1 % 4096 < 0x040 then s
  else match findReg r.regs (e.1 % 4096) with
    | some (d, _) => s.setReg e.1 (srstWord r d e.1 e.2)
    | none => if p = 0x110 then s else s.setReg e.1 (regReset e.1)

theorem State.srstRegs_eq (s : State) {p : Nat} {r : PageRow} {i j : Nat} (hp : findPage p = some (r, i, j)) :
    s.srstRegs p = s.regs.foldl (State.srstEntry r p) s := by
  simp only [State.srstRegs, hp]
  rfl

section
variable (r : PageRow) (p : Nat) (s : State) {a : Nat}

/-- A pass over an entry leaves the registers at other addresses, those of other pages and the headers. -/
theorem State.reg_srstEntry_other (e : Nat × Word) (h : e.1 ≠ a ∨ a / 4096 ≠ p ∨ a % 4096 < 0x040) :
    (s.srstEntry r p e).reg a = s.reg a := by
  unfold State.srstEntry
  split
  · rfl
  · next hp =>
    have ha : a ≠ e.1 := by rintro rfl; omega
    split
    · exact State.reg_setReg_other _ ha _
    · split
      · rfl
      · exact State.reg_setReg_other _ ha _

theorem State.srstEntry_rest (e : Nat × Word) : { s.srstEntry r p e with regs := s.regs } = s := by
  unfold State.srstEntry
  split
  · rfl
  · split
    · rfl
    · split <;> rfl

theorem State.foldl_srstEntry_other (l : Tab Word) (h : (∀ e ∈ l, e.1 ≠ a) ∨ a / 4096 ≠ p ∨ a % 4096 < 0x040) :
    (l.foldl (State.srstEntry r p) s).reg a = s.reg a := by
  induction l generalizing s with
  | nil => rfl
  | cons e l ih =>
    have he : e.1 ≠ a ∨ a / 4096 ≠ p ∨ a % 4096 < 0x040 := h.imp_left fun h => h e (List.mem_cons_self ..)
    have hl : (∀ e ∈ l, e.1 ≠ a) ∨ a / 4096 ≠ p ∨ a % 4096 < 0x040 := h.imp_left fun h x hx => h x (List.mem_cons_of_mem _ hx)
    exact (ih _ hl).trans (State.reg_srstEntry_other r p s e he)

theorem State.foldl_srstEntry_rest (l : Tab Word) : { l.foldl (State.srstEntry r p) s with regs := s.regs } = s := by
  induction l generalizing s with
  | nil => rfl
  | cons e l ih =>
    rw [List.foldl_cons]
    exact State.regs_only_trans (State.srstEntry_rest r p s e) (ih (s.srstEntry r p e))

/-- The pass over a table in canonical form resets each of the page's registers, listed in the table or not. -/
theorem State.foldl_srstEntry_block {d : RegDef} {k : Nat} (hd : findReg r.regs (a % 4096) = some (d, k))
    (ha : a / 4096 = p ∧ 0x040 ≤ a % 4096) {lo : Option Nat} {l : Tab Word} (hl : Tab.rising lo l = true)
    (hs : s.reg a = Tab.get regReset l a) :
    (l.foldl (State.srstEntry r p) s).reg a = srstWord r d a (Tab.get regReset l a) := by
  induction l generalizing s lo with
  | nil => rw [List.foldl_nil, hs]; exact (srstWord_reset r d a).symm
  | cons e l ih =>
    obtain ⟨b, w⟩ := e
    rw [List.foldl_cons]
    by_cases hb : b = a
    · subst hb
      have hlater : ∀ e ∈ l, e.1 ≠ b := fun e he => by have := Tab.rising_lt hl e he; omega
      have hin : ¬ (b / 4096 ≠ p ∨ b % 4096 < 0x040) := by omega
      rw [State.foldl_srstEntry_other r p _ l (.inl hlater)]
      simp [State.srstEntry, hin, hd, Tab.get]
    · have hget : Tab.get regReset ((b, w) :: l) a = Tab.get regReset l a := by simp [Tab.get, hb]
      rw [hget] at hs ⊢
      exact ih _ (Tab.rising_tail hl) ((State.reg_srstEntry_other r p s (b, w) (.inl hb)).trans hs)

end

section
variable (s : State) {p a : Nat}

theorem State.reg_srstRegs_other (h : a / 4096 ≠ p ∨ a % 4096 < 0x040) : (s.srstRegs p).reg a = s.reg a := by
  cases hp : findPage p with
  | none => simp [State.srstRegs, hp]
  | some x =>
    obtain ⟨r, i, j⟩ := x
    rw [s.srstRegs_eq hp]
    exact State.foldl_srstEntry_other r p s _ (.inr h)

theorem State.srstRegs_rest : { s.srstRegs p with regs := s.regs } = s := by
  cases hp : findPage p with
  | none => simp [State.srstRegs, hp]
  | some x =>
    obtain ⟨r, i, j⟩ := x
    rw [s.srstRegs_eq hp]
    exact State.foldl_srstEntry_rest r p s _

/-- A register of the page returns to reset but for its live bits. -/
theorem State.reg_srstRegs_block {r : PageRow} {i j k o : Nat} {d : RegDef} (hs : s.regsWf = true)
    (hp : findPage p = some (r, i, j)) (hd : findReg r.regs o = some (d, k)) (ho : 0x040 ≤ o ∧ o < 4096) :
    (s.srstRegs p).reg (p * 4096 + o) = srstWord r d (p * 4096 + o) (s.reg (p * 4096 + o)) := by
  have hmod : (p * 4096 + o) % 4096 = o := by omega
  have hrise := (Bool.and_eq_true_iff.mp hs).1
  rw [s.srstRegs_eq hp]
  exact State.foldl_srstEntry_block r p s (by rw [hmod]; exact hd) ⟨by omega, by omega⟩ hrise rfl

/-- The state whose registers SRST returns to reset: PG_EVPEND and PG_FAULT are clear. -/
def State.srstCleared (s : State) (p : Nat) : State := (s.setReg (p * 4096 + 0x01C) 0).setReg (p * 4096 + 0x020) 0

theorem State.onlyRegs_srstCleared : OnlyRegs s (s.srstCleared p) [p * 4096 + 0x01C, p * 4096 + 0x020] :=
  ((OnlyRegs.refl s _).setReg _ _ (by simp)).setReg _ _ (by simp)

theorem State.srstCleared_other (h : a ≠ p * 4096 + 0x01C) (h' : a ≠ p * 4096 + 0x020) : (s.srstCleared p).reg a = s.reg a :=
  s.onlyRegs_srstCleared.2 a (by simp [h, h'])

theorem State.srstCleared_clear (h : a = p * 4096 + 0x01C ∨ a = p * 4096 + 0x020) : (s.srstCleared p).reg a = 0 := by
  rcases h with rfl | rfl
  · exact (State.reg_setReg_other _ (by omega) _).trans (State.reg_setReg_same _ _ _)
  · exact State.reg_setReg_same _ _ _

theorem State.srst_powered (hi : implemented p = true) (hp : s.powered p = true) (hph : p ≠ phPage) :
    s.srst p = ((s.srstCleared p).srstRegs p).srstBlock (s.srstCleared p) p := by
  have hpow : (s.srstCleared p).powered p = true := by
    unfold State.srstCleared
    rw [State.powered_setReg_header _ (by omega), State.powered_setReg_header _ (by omega)]
    exact hp
  simp only [State.srst, hi, not_true_eq_false, if_false, if_neg hph]
  exact if_neg fun h => h hpow

end

/-- The pages whose blocks do nothing of their own when SRST returns their registers to reset. -/
def plainPages : List Nat :=
  [0x005, 0x006, 0x007, 0x008, 0x009, 0x039, 0x043, 0x102, 0x103, 0x116, 0x142, 0x150, 0x151, 0x152, 0x161, 0x190]

theorem State.srstBlock_plain (s old : State) {p : Nat} (hp : p ∈ plainPages) : s.srstBlock old p = s := by
  simp only [plainPages, List.mem_cons, List.not_mem_nil, or_false] at hp
  rcases hp with rfl | rfl | rfl | rfl | rfl | rfl | rfl | rfl | rfl | rfl | rfl | rfl | rfl | rfl | rfl | rfl <;> rfl

theorem State.srst_plain (s : State) {p : Nat} (hi : implemented p = true) (hp : s.powered p = true) (hm : p ∈ plainPages) :
    s.srst p = (s.srstCleared p).srstRegs p := by
  have hph : p ≠ phPage := by rintro rfl; exact absurd hm (by decide)
  rw [s.srst_powered hi hp hph, State.srstBlock_plain _ _ hm]

/-- SRST of a page whose block does nothing more: the page's registers, and nothing else, return to reset. -/
theorem srst_plain (s : State) (via : Via) (page : Fin 1024) (hj : s.judge via page.val 0x00C true = .ok)
    (hp : s.powered page.val = true) (hwf : s.regsWf = true) (hm : page.val ∈ plainPages) :
    Completes (.srst via page) s fun t =>
      t.reg (page.val * 4096 + 0x01C) = 0 ∧ t.reg (page.val * 4096 + 0x020) = 0 ∧
      (∀ row o d, (findPage page.val).map Prod.fst = some row → 0x040 ≤ o → o < 4096 → RegAt page.val o d →
        let keep := srstKeep row.start d o
        let a := page.val * 4096 + o
        t.reg a = (regReset a &&& ~~~keep) ||| (s.reg a &&& keep)) ∧
      { t with regs := s.regs } = s ∧
      ∀ a, (a / 4096 ≠ page.val ∨ a % 4096 < 0x040) → a % 4096 ≠ 0x01C → a % 4096 ≠ 0x020 → t.reg a = s.reg a := by
  refine .of_exec ((exec_srst hj).trans (congrArg _ (s.srst_plain (judge_ok_implemented hj) hp hm))) ⟨?_, ?_, ?_, ?_, ?_⟩
  · exact (State.reg_srstRegs_other _ (.inr (by omega))).trans (s.srstCleared_clear (.inl rfl))
  · exact (State.reg_srstRegs_other _ (.inr (by omega))).trans (s.srstCleared_clear (.inr rfl))
  · rintro row o d hrow ho ho' ⟨r, i, j, k, hr, hd⟩
    have hrow' : r = row := by simpa [hr] using hrow
    have hwf' : (s.srstCleared page.val).regsWf = true := State.regs_wf_setReg (State.regs_wf_setReg hwf _ _) _ _
    have hmod : (page.val * 4096 + o) % 4096 = o := by omega
    have h := State.reg_srstRegs_block _ hwf' hr hd ⟨ho, ho'⟩
    rw [s.srstCleared_other (by omega) (by omega), srstWord, hmod, hrow'] at h
    exact h
  · exact State.regs_only_trans s.onlyRegs_srstCleared.1 (State.srstRegs_rest _)
  · intro a ha h1c h20
    rw [State.reg_srstRegs_other _ ha, s.srstCleared_other (by omega) (by omega)]

theorem State.reg_setOfs_other (s : State) (b : Bool) {a : Nat} (h : a ≠ F.SKY_STATE_TIMEERR.addr) : (s.setOfs b).reg a = s.reg a :=
  State.reg_fput_other _ F.SKY_STATE_TIMEERR _ h

theorem State.reg_setClip_other (s : State) (b : Bool) {a : Nat} (h : a ≠ F.SKY_STATE_TIMEERR.addr) : (s.setClip b).reg a = s.reg a :=
  State.reg_fput_other _ F.SKY_STATE_TIMEERR _ h

theorem State.srstBlock_sky (s old : State) : s.srstBlock old 0x110 =
    { (s.setOfs false).setClip false with sky.gridPend := some (regReset F.GRID_DUMP.addr, wholeSec s.now) } := rfl

/-- SRST of SKY clears the causes of TIMEERR too, and the reset grid waits for its second (R475). -/
theorem srst_sky (s : State) (via : Via) (hj : s.judge via 0x110 0x00C true = .ok) (hp : s.powered 0x110 = true) :
    Completes (.srst via 0x110) s fun t =>
      t.sky.ofs = false ∧ t.sky.clip = false ∧ t.sky.gridPend = some (regReset F.GRID_DUMP.addr, wholeSec s.now) ∧
      t.reg 0x11001C = 0 ∧ t.reg 0x110020 = 0 ∧ t.sky.time = s.sky.time ∧ t.comb = s.comb := by
  have hx := (exec_srst (page := 0x110) hj).trans (congrArg _ (s.srst_powered (p := 0x110) (by decide) hp (by decide)))
  rw [State.srstBlock_sky] at hx
  have hrest := State.srstRegs_rest (s.srstCleared 0x110) (p := 0x110)
  have hhead (a : Nat) (ha : a = 0x11001C ∨ a = 0x110020) : ((s.srstCleared 0x110).srstRegs 0x110).reg a = 0 :=
    (State.reg_srstRegs_other _ (.inr (by omega))).trans (s.srstCleared_clear ha)
  have hsky : ((s.srstCleared 0x110).srstRegs 0x110).sky = s.sky := (congrArg State.sky hrest :)
  have hcomb : ((s.srstCleared 0x110).srstRegs 0x110).comb = s.comb := (congrArg State.comb hrest :)
  generalize (s.srstCleared 0x110).srstRegs 0x110 = u at hx hhead hsky hcomb
  have hclear (a : Nat) (ha : a = 0x11001C ∨ a = 0x110020) : ((u.setOfs false).setClip false).reg a = 0 := by
    have hne : a ≠ F.SKY_STATE_TIMEERR.addr := by rcases ha with rfl | rfl <;> decide
    rw [State.reg_setClip_other _ _ hne, State.reg_setOfs_other _ _ hne, hhead a ha]
  have hnow : u.now = s.now := by unfold State.now; rw [hsky]
  rw [hnow] at hx
  exact .of_exec hx ⟨rfl, rfl, rfl, hclear _ (.inl rfl), hclear _ (.inr rfl), (congrArg SkySt.time hsky :), hcomb⟩

end Sys2Proof.Machine
end

section
/-! SUPPORT. FREEZE (02: R30) and the latched read of NOW_T2 (03: R38). -/

namespace Sys2Proof.Machine

-- FREEZE (R30)

/-- `t` is `s` but for the held values and the number of free values drawn. -/
def SnapOnly (s t : State) : Prop := { t with snap := s.snap, fresh := s.fresh } = s

theorem SnapOnly.refl (s : State) : SnapOnly s s := rfl

theorem SnapOnly.trans {s t u : State} (h : SnapOnly s t) (h' : SnapOnly t u) : SnapOnly s u :=
  Eq.trans (congrArg (fun x : State => { x with snap := s.snap, fresh := s.fresh }) h' :) h

/-- What a register reads as does not depend on the held values. -/
theorem SnapOnly.view {s t : State} (h : SnapOnly s t) (r a : Nat) : t.view r a = s.view r a := by
  rw [← h]; rfl

/-- A fold that keeps `I` ends with `Q`, if the step of one element brings it and no other step loses it. -/
theorem foldl_brings {α β : Type} {f : β → α → β} {I Q : β → Prop} {l : List α} (hI : ∀ x ∈ l, ∀ b, I b → I (f b x))
    (hQ : ∀ x ∈ l, ∀ b, I b → Q b → Q (f b x)) {x : α} (hx : x ∈ l) (hb : ∀ b, I b → Q (f b x)) {b : β} (h : I b) :
    Q (l.foldl f b) := by
  obtain ⟨l₁, l₂, rfl⟩ := List.append_of_mem hx
  simp only [List.mem_append, List.mem_cons] at hI hQ
  rw [List.foldl_append, List.foldl_cons]
  have h₁ : I (l₁.foldl f b) := List.foldlRecOn l₁ f h fun b hb y hy => hI y (.inl hy) b hb
  have hall := List.foldlRecOn (motive := fun b => I b ∧ Q b) l₂ f ⟨hI x (.inr (.inl rfl)) _ h₁, hb _ h₁⟩
    fun b hb y hy => ⟨hI y (.inr (.inr hy)) b hb.1, hQ y (.inr (.inr hy)) b hb.1 hb.2⟩
  exact hall.2

/-- Hold the value that reader `r` reads at `a`. -/
def State.hold (s : State) (a r : Nat) : State := { s with snap := Tab.set (fun _ => 0) s.snap (snapKey r a) (s.view r a) }

/-- What FREEZE holds of the register `d` at address `a`. -/
def State.freezeReg (s : State) (d : RegDef) (a : Nat) : State :=
  if d.bits .RO = (0 : Word) ∨ popping a then s
  else if perReader a then readers.foldl (fun s r => s.hold a r) s
  else
    let x := if drawnReg a then s.drawReg a else (if a = F.Q_NEXTIN_T.addr then s.nextinRead.1 else s.view 0 a, s)
    { x.2 with snap := Tab.set (fun _ => 0) x.2.snap a x.1 }

theorem State.freezeTake_eq (s : State) {p : Nat} {r : PageRow} {i j : Nat} (hp : findPage p = some (r, i, j)) :
    s.freezeTake p = r.cells.foldl (fun s x => s.freezeReg x.1 (p * 4096 + x.2)) s := by
  simp only [State.freezeTake, hp, PageRow.cells, List.foldl_flatMap, List.foldl_map, Nat.add_assoc]
  rfl

theorem snapKey_inj {r r' a a' : Nat} (ha : a < 2 ^ 24) (ha' : a' < 2 ^ 24) (h : snapKey r a = snapKey r' a') :
    a = a' ∧ (perReader a = true → r = r') := by
  unfold snapKey latchKey at h
  cases h1 : perReader a <;> cases h2 : perReader a' <;> simp only [h1, h2, if_true, Bool.false_eq_true, if_false] at h
  · exact ⟨h, by simp⟩
  · omega
  · omega
  · omega

section
variable {s t : State} {a a' : Nat} {r : Nat} {d : RegDef}

theorem State.held_setSnap (s : State) (k : Nat) (w : Word) (b : Nat) :
    ({ s with snap := Tab.set (fun _ => 0) s.snap k w } : State).held b = if b = k then w else s.held b :=
  Tab.get_set _ _ _ _ _

theorem SnapOnly.hold (h : SnapOnly s t) (a r : Nat) : SnapOnly s (t.hold a r) := h

theorem SnapOnly.freezeReg (h : SnapOnly s t) (d : RegDef) (a : Nat) : SnapOnly s (t.freezeReg d a) := by
  unfold State.freezeReg
  split
  · exact h
  · split
    · exact List.foldlRecOn readers _ h fun _ hb r _ => hb.hold a r
    · by_cases hd : drawnReg a = true
      · rw [if_pos hd]; exact h
      · rw [if_neg hd]; exact h

/-- Freezing another register leaves what is held of this one. -/
theorem State.held_freezeReg_other (t : State) (d : RegDef) (ha : a < 2 ^ 24) (ha' : a' < 2 ^ 24) (hne : a ≠ a') :
    (t.freezeReg d a').held (snapKey r a) = t.held (snapKey r a) := by
  have hkey (r' : Nat) : snapKey r a ≠ snapKey r' a' := fun e => hne (snapKey_inj ha ha' e).1
  unfold State.freezeReg
  split
  · rfl
  · split
    · refine List.foldlRecOn (motive := fun u : State => u.held (snapKey r a) = t.held (snapKey r a)) readers _ rfl fun u hu r' _ => ?_
      exact (State.held_setSnap u _ _ _).trans ((if_neg (hkey r')).trans hu)
    · next hper =>
      have hk : snapKey r a ≠ a' := by have := hkey 0; simpa [snapKey, hper] using this
      by_cases hd : drawnReg a' = true
      · rw [if_pos hd]; exact (State.held_setSnap (t.drawReg a').2 _ _ _).trans (if_neg hk)
      · rw [if_neg hd]; exact (State.held_setSnap t _ _ _).trans (if_neg hk)

/-- Freezing a register holds what each reader reads. -/
theorem State.held_freezeReg_same (h : SnapOnly s t) (ha : a < 2 ^ 24) (hro : d.bits .RO ≠ 0) (hpop : popping a = false)
    (hd : drawnReg a = false) (hq : a ≠ F.Q_NEXTIN_T.addr) (hr : r ∈ readers) :
    (t.freezeReg d a).held (snapKey r a) = s.view (if perReader a then r else 0) a := by
  unfold State.freezeReg
  rw [if_neg (by rw [hpop]; simpa using hro)]
  cases hper : perReader a
  · have hk : snapKey r a = a := by simp [snapKey, hper]
    simp only [hd, if_neg hq, Bool.false_eq_true, if_false, hk]
    exact (State.held_setSnap t _ _ _).trans ((if_pos rfl).trans (h.view 0 a))
  · simp only [if_true]
    refine foldl_brings (I := SnapOnly s) (Q := fun u => u.held (snapKey r a) = s.view r a) (fun r' _ u hu => hu.hold a r')
      (fun r' _ u hu hv => ?_) hr (fun u hu => ?_) h
    · refine (State.held_setSnap u _ _ _).trans ?_
      split
      · next e => rw [(snapKey_inj ha ha e).2 hper]; exact hu.view r' a
      · exact hv
    · exact (State.held_setSnap u _ _ _).trans ((if_pos rfl).trans (hu.view r a))

end

section
variable (s : State) {p : Nat}

theorem State.snapOnly_freezeTake : SnapOnly s (s.freezeTake p) := by
  cases hp : findPage p with
  | none => simp [State.freezeTake, hp, SnapOnly]
  | some x =>
    obtain ⟨r, i, j⟩ := x
    rw [s.freezeTake_eq hp]
    exact List.foldlRecOn r.cells _ (.refl s) fun _ h x _ => h.freezeReg x.1 _

/-- FREEZE holds the value every RO register of the page has, for each reader that reads its own. -/
theorem State.held_freezeTake (hp : p < 1024) {o : Nat} {d : RegDef} (h : RegAt p o d) (hro : d.bits .RO ≠ 0)
    (hpop : popping (p * 4096 + o) = false) (hd : drawnReg (p * 4096 + o) = false) (hq : p * 4096 + o ≠ F.Q_NEXTIN_T.addr)
    {r : Nat} (hr : r ∈ readers) :
    (s.freezeTake p).held (snapKey r (p * 4096 + o)) = s.view (if perReader (p * 4096 + o) then r else 0) (p * 4096 + o) := by
  obtain ⟨row, i, j, hrow, hc⟩ := regAt_cell h
  have hlt : ∀ x ∈ row.cells, p * 4096 + x.2 < 2 ^ 24 := fun x hx => by
    have := PageRow.cell_in_page row (findPage_spec hrow).1 x hx; omega
  rw [s.freezeTake_eq hrow]
  have hsame (x : RegDef × Nat) (hx : p * 4096 + o = p * 4096 + x.2) (hro : x.1.bits .RO ≠ 0) (u : State) (hu : SnapOnly s u) :=
    State.held_freezeReg_same (d := x.1) hu (hlt _ hc) hro hpop hd hq hr
  refine foldl_brings (f := fun (t : State) (x : RegDef × Nat) => t.freezeReg x.1 (p * 4096 + x.2)) (I := SnapOnly s)
    (Q := fun u => u.held (snapKey r (p * 4096 + o)) = s.view (if perReader (p * 4096 + o) then r else 0) (p * 4096 + o))
    (fun x _ _ h => h.freezeReg _ _) (fun x hx u hu hv => ?_) hc (fun u hu => hsame (d, o) rfl hro u hu) (.refl s)
  by_cases he : p * 4096 + o = p * 4096 + x.2
  · by_cases hx0 : x.1.bits .RO = 0
    · have hskip : u.freezeReg x.1 (p * 4096 + x.2) = u := if_pos (.inl hx0)
      rw [hskip, hv]
    · exact he ▸ hsame x he hx0 u hu
  · exact (State.held_freezeReg_other u x.1 (hlt _ hc) (hlt x hx) he).trans hv

/-- FREEZE let go holds nothing of the page. -/
theorem State.held_freezeDrop {a : Nat} (hp : p < 1024) (ha : a / 4096 = p) : (s.freezeDrop p).held a = 0 := by
  have hmod : a % 2 ^ 24 / 4096 = p := by omega
  unfold State.held State.freezeDrop
  rw [Tab.get_clear, if_pos (decide_eq_true hmod)]

theorem State.snapOnly_freezeDrop : SnapOnly s (s.freezeDrop p) := by
  unfold SnapOnly State.freezeDrop
  rfl

end

/-- PG_CTL with FREEZE as written. -/
def State.frozen (s : State) (p : Nat) (on : Bool) : State := s.fputB (PG_FREEZE p) on

section
variable (s : State) {p : Nat}

theorem State.frozen_powered (on : Bool) : (s.frozen p on).powered p = s.powered p :=
  State.powered_setReg_header s (by simp only [PG_FREEZE, pgCtl]; omega) _ p

/-- FREEZE rising on a powered page takes what its registers read as. -/
theorem State.setFreeze_rises (h : s.flag (PG_FREEZE p) = false) (hp : s.powered p = true) :
    s.setFreeze p true = (s.frozen p true).freezeTake p := by
  have := s.frozen_powered (p := p) true
  simp_all [State.setFreeze, State.frozen]

theorem State.setFreeze_rises_unpowered (h : s.flag (PG_FREEZE p) = false) (hp : s.powered p = false) :
    s.setFreeze p true = s.frozen p true := by
  have := s.frozen_powered (p := p) true
  simp_all [State.setFreeze, State.frozen]

theorem State.setFreeze_again (h : s.flag (PG_FREEZE p) = true) : s.setFreeze p true = s.frozen p true := by
  simp [State.setFreeze, State.frozen, h]

theorem State.setFreeze_falls : s.setFreeze p false = (s.frozen p false).freezeDrop p := by
  simp [State.setFreeze, State.frozen]

/-- A write of FREEZE changes PG_CTL and what is held. -/
theorem State.setFreeze_snapOnly (on : Bool) : SnapOnly (s.frozen p on) (s.setFreeze p on) := by
  cases on
  · rw [s.setFreeze_falls]; exact State.snapOnly_freezeDrop _
  · cases hf : s.flag (PG_FREEZE p)
    · cases hp : s.powered p
      · rw [s.setFreeze_rises_unpowered hf hp]; exact .refl _
      · rw [s.setFreeze_rises hf hp]; exact State.snapOnly_freezeTake _
    · rw [s.setFreeze_again hf]; exact .refl _

end

theorem SnapOnly.reg {s t : State} (h : SnapOnly s t) (a : Nat) : t.reg a = s.reg a := by
  rw [← h]; rfl

/-- FREEZE: what is written stands in PG_CTL, what is held is taken when it rises and let go when it falls. -/
theorem freeze_holds (s : State) (via : Via) (page : Fin 1024) (on : Bool) (hj : s.judge via page.val 0x00C true = .ok) :
    Completes (.freeze via page on) s fun t =>
      t.flag (PG_FREEZE page.val) = on ∧ OnlyRegs s { t with snap := s.snap, fresh := s.fresh } [pgCtl page.val] ∧
      (on = false → ∀ a, a / 4096 = page.val → t.held a = 0) ∧
      (on = true → s.flag (PG_FREEZE page.val) = true → t.snap = s.snap) ∧
      (on = true → s.flag (PG_FREEZE page.val) = false → s.powered page.val = true → ∀ o d, RegAt page.val o d →
        let a := page.val * 4096 + o
        d.bits .RO ≠ 0 → popping a = false → drawnReg a = false → a ≠ F.Q_NEXTIN_T.addr →
        ∀ r ∈ readers, t.held (snapKey r a) = (s.fputB (PG_FREEZE page.val) true).view (if perReader a then r else 0) a) := by
  have hsnap := s.setFreeze_snapOnly (p := page.val) on
  have hctl : OnlyRegs s (s.frozen page.val on) [pgCtl page.val] := (OnlyRegs.refl s _).fputB _ _ (by simp [PG_FREEZE])
  refine .of_exec (exec_freeze on hj) ⟨?_, ?_, ?_, ?_, ?_⟩
  · have hflag : (s.frozen page.val on).flag (PG_FREEZE page.val) = on :=
      State.flag_fputB_same s _ on (by simp [PG_FREEZE]) (by simp [PG_FREEZE])
    unfold State.flag State.fget at hflag ⊢
    rw [hsnap.reg]; exact hflag
  · have he : { s.setFreeze page.val on with snap := s.snap, fresh := s.fresh } = s.frozen page.val on := hsnap
    rw [he]; exact hctl
  · rintro rfl a ha
    rw [s.setFreeze_falls]
    exact State.held_freezeDrop _ page.isLt ha
  · rintro rfl hf
    rw [s.setFreeze_again hf]
    exact (congrArg State.snap hctl.1 :)
  · rintro rfl hf hp o d hr a hro hpop hd hq r hr'
    rw [s.setFreeze_rises hf hp]
    exact State.held_freezeTake _ page.isLt hr hro hpop hd hq hr'

-- NOW_T2 (R38)

theorem State.latched_setLatch (s : State) (r a b : Nat) (w : Word) :
    (s.setLatch r a w).latched r b = if b = a then w else s.latched r b := by
  refine (Tab.get_set _ _ _ _ _).trans ?_
  simp only [latchKey, Nat.add_left_cancel_iff, State.latched]

theorem State.nowLatch_rest (s : State) (r : Nat) : { s.nowLatch r with out := s.out, latch := s.latch } = s := by
  have hset (t : State) (h : { t with out := s.out, latch := s.latch } = s) (a : Nat) (w : Word) :
      { t.setLatch r a w with out := s.out, latch := s.latch } = s := h
  unfold State.nowLatch
  exact hset _ (hset _ (hset _ (hset _ (hset _ (hset _ rfl _ _) _ _) _ _) _ _) _ _) _ _

/-- What a read of NOW_T2 latches for its reader. -/
theorem State.nowLatch_latched (s : State) (r : Nat) :
    (s.nowLatch r).latched r (F.NOW_T 1).addr = BitVec.ofNat 32 (s.now / 2 ^ 32) ∧
    (s.nowLatch r).latched r (F.NOW_T 2).addr = BitVec.ofNat 32 s.now ∧
    (s.nowLatch r).latched r F.SMP_HI.addr = BitVec.ofNat 32 (s.sky.smp / 2 ^ 32) ∧
    (s.nowLatch r).latched r F.SMP_LO.addr = BitVec.ofNat 32 s.sky.smp ∧
    (s.nowLatch r).latched r F.WEEK.addr = BitVec.ofNat 32 (s.now / sec / 604800) := by
  simp [State.nowLatch, State.latched_setLatch, F.NOW_T, F.SMP_HI, F.SMP_LO, F.WEEK, F.TOWMS]

section
variable {s : State} (r : Reader) (hd : s.domPowered 1 = true) (hb : s.boot.dead = false)
include hd hb

theorem exec_nowT2Read (hf : s.flag (PG_FREEZE 0x110) = false) :
    exec (.nowT2Read r) s = .next { s.nowLatch (readerIdx r) with out := [BitVec.ofNat 32 (s.now / 2 ^ 64)] } := by
  show execNowT2Read r s = _
  simp [execNowT2Read, hd, hb, hf]

theorem exec_nowT2Read_frozen (hf : s.flag (PG_FREEZE 0x110) = true) :
    exec (.nowT2Read r) s = .next { s with out := [s.held (F.NOW_T 0).addr] } := by
  show execNowT2Read r s = _
  simp [execNowT2Read, hd, hb, hf]

end

end Sys2Proof.Machine
end

section
/-! Register pages: the statement of the family 00_scope.md. -/

namespace Sys2Proof.Machine

theorem commit_off (s : State) (via : Via) (page : Fin 1024) (hj : s.judge via page.val 0x00C true = .ok)
    (hd : s.domState (pageDom page.val) ≠ dON) (hi : implemented page.val = true) :
    Completes (.commit via page) s fun t =>
      t.flag (PG_FAULT page.val faultUNPWR) = true ∧ OnlyRegs s t [page.val * 4096 + 0x020] :=
  .of_exec ((exec_commit hj).trans (congrArg _ (s.commitPage_off hi hd true))) ⟨s.flag_fault _ (by decide), s.onlyRegs_fault _ _⟩

/-- A commit of SKY leaves the grid waiting for the first whole second (R51). -/
theorem commit_sky (s : State) (via : Via) (hj : s.judge via 0x110 0x00C true = .ok) (hd : s.domState 1 = dON) :
    Completes (.commit via 0x110) s fun t =>
      t.sky.gridPend = some (s.reg F.GRID_DUMP.addr, wholeSec s.now) ∧ { t with sky.gridPend := s.sky.gridPend } = s :=
  .of_exec ((exec_commit hj).trans (congrArg _ (s.commitPage_sky true hd))) ⟨rfl, rfl⟩

/-- Settles O3: each form of REGISTER_WRITE by its judgement, each commit by what it copies and what its block does in consequence,
SRST by a pass over the register table, and FREEZE by a pass over the page's registers. -/
theorem registerPagesTakeWritesAndCommands : Obligations.RegisterPagesTakeWritesAndCommands := by
  unfold Obligations.RegisterPagesTakeWritesAndCommands
  refine ⟨?writes, ?headers, fun s via => ⟨?wdog, ?sky, ?rf, ?clkout, ?ledger, ?array, ?sieve, ?off, ?srst, ?srstSky,
    ?freeze, ?now⟩⟩
  case writes =>
    intro s via page off v be d hv hk o a j only
    have faults {b : Nat} (hb : b < 32) {j' : Judge} (hw : s.judgedWrite via page.val o v j' = s.fault page.val b) (hj : j = j') :
        only b := blockWrite_faults v be hv hk hj hw hb
    have hx : exec (.registerWrite via page off (some v) be) s = .next (s.judgedWrite via page.val o v j) := blockWrite_exec v be hv hk
    refine ⟨faults (by decide) rfl, faults (by decide) rfl, faults (by decide) rfl, fun hj => ?_, fun hj => ?_,
      blockWrite_stores v be hv hk, fun hu he hs => ⟨blockRead_unpowered be hv hk hu he hs, blockRead_live be hv hk hu he rfl⟩⟩
    · rw [hx, hj]; rfl
    · rw [hx, hj]; rfl
  case headers =>
    intro s via page v hv
    exact ⟨headerWrite_stores v hv (off := 0x018) rfl (by decide) rfl, fun off => w1cHeader_written v hv, pgStat_read hv,
      wtenant_written v, wtenant_read⟩
  case wdog => exact wdogPeriod_written
  case sky => exact commit_sky s via
  case rf => exact commit_rf s via
  case clkout => exact commit_clkout s via
  case ledger => exact commit_ledger s via
  case array => exact fun hj hd => commit_array s via hj hd
  case sieve => exact commit_sieve s via
  case off => exact commit_off s via
  case srst => exact srst_plain s via
  case srstSky => exact srst_sky s via
  case freeze => exact freeze_holds s via
  case now =>
    intro r hd hb
    refine ⟨fun hf => .of_exec (exec_nowT2Read r hd hb hf) ?_, fun hf => .of_exec (exec_nowT2Read_frozen r hd hb hf) ⟨rfl, rfl⟩⟩
    have hrest := s.nowLatch_rest (readerIdx r)
    obtain ⟨h1, h0, hhi, hlo, hweek⟩ := s.nowLatch_latched (readerIdx r)
    generalize s.nowLatch (readerIdx r) = u at *
    exact ⟨h1, h0, hhi, hlo, hweek, rfl, hrest⟩

end Sys2Proof.Machine
end

section
/-! What reset leaves (02: R473, R480; 21: R409, R412). -/

namespace Sys2Proof.Machine

/-- At reset no event of a page is enabled, and no page is owned or locked. -/
theorem regReset_header (p : Nat) {o : Nat} (ho : o = 0x018 ∨ o = 0x024) : regReset (p * 4096 + o) = 0 := by
  have hdiv : (p * 4096 + o) / 4096 = p := by omega
  have hmod : (p * 4096 + o) % 4096 = o := by omega
  have hlt : o < 0x040 := by omega
  simp only [regReset, hdiv, hmod, if_pos hlt]
  cases findPage p with
  | none => rfl
  | some x => rcases ho with rfl | rfl <;> rfl

theorem voted_reset (d c : Nat) : State.reset.voted d c = true ↔ 8192 * d + c = 8192 + WARDEN := by
  change decide (8192 * d + c = 8192 * 1 + 4097) = true ↔ _
  simp [WARDEN]

theorem core_reset_p (i : Nat) : (State.reset.core i).p = 8 := by
  change (coreReset i).p = 8
  unfold coreReset
  split <;> rfl

/-- Settles O58: each register by its reset value in the register map, the tables by their being empty. -/
theorem resetLeavesTheStatedValues : Obligations.ResetLeavesTheStatedValues := by
  unfold Obligations.ResetLeavesTheStatedValues
  have boot : State.reset.fget F.RST_CAUSE_CAUSE = 1 ∧ State.reset.fget F.RST_WDOG_PERIOD = 1000 ∧
      State.reset.skyState = skUNSTEERED := by decide +kernel
  have power : (∀ p ∈ [0x000, 0x001, 0x002, 0x004, 0x010], State.reset.flag (PG_EN p) = true) ∧
      State.reset.domState 1 = dON ∧ State.reset.holders 1 = 1 := by decide +kernel
  have uart : State.reset.uMode 0 = umMONITOR ∧ State.reset.flag (F.U_CTL_EN 0) = true ∧
      State.reset.fget (F.U_BAUD_RATE 0) = 115200 := by decide +kernel
  have cicada : State.reset.reg 0x130048 = 0x000F ∧ (∀ c < 4, State.reset.fget (resFld c) = 1024) ∧
      State.reset.reg (F.SRC_CFG_CW 0).addr = 0x7103 ∧ State.reset.reg (F.SRC_CFG_CW 1024).addr = 0x5203 ∧
      State.reset.reg (F.SRC_CFG_CW 1117).addr = 0x4323 := by decide +kernel
  obtain ⟨hcause, hwdog, hsky⟩ := boot
  obtain ⟨hen, hdom, hhold⟩ := power
  obtain ⟨hmode, huart, hbaud⟩ := uart
  obtain ⟨hirq, hres, hch, hblock, h1117⟩ := cicada
  have hpages : ∀ p < 1024, implemented p = true →
      State.reset.reg (p * 4096 + 0x018) = 0 ∧ State.reset.reg (p * 4096 + 0x024) = 0 :=
    fun p _ _ => ⟨regReset_header p (.inl rfl), regReset_header p (.inr rfl)⟩
  exact ⟨rfl, hcause, hwdog, hpages, hen, hdom, hhold, voted_reset, rfl, core_reset_p, hmode, huart, hbaud, hirq, hres, hch, hblock,
    h1117, fun _ => rfl, hsky, rfl, rfl, rfl, rfl, rfl⟩

end Sys2Proof.Machine
end

section
/-! SUPPORT. The queue engine (16: R305 to R312, R323): what its operations do to queues and tenants, and what they leave. -/

namespace Sys2Proof.Machine

-- contexts

section
variable (s : State) {i j : Nat}

theorem State.queue_putQueue (i j : Nat) (q : Queue) : (s.putQueue i q).queue j = if j = i then q else s.queue j :=
  Tab.get_set _ _ _ _ _

theorem State.queue_putQueue_same (i : Nat) (q : Queue) : (s.putQueue i q).queue i = q := Tab.get_set_same _ _ _ _

theorem State.queue_putQueue_other (h : j ≠ i) (q : Queue) : (s.putQueue i q).queue j = s.queue j := Tab.get_set_other _ _ h _

theorem State.tenant_setTenant_same (i : Nat) (x : Tenant) : (s.setTenant i x).tenant i = x := Tab.get_set_same _ _ _ _

theorem State.tenant_updTenant_same (i : Nat) (f : Tenant → Tenant) : (s.updTenant i f).tenant i = f (s.tenant i) :=
  s.tenant_setTenant_same i _

theorem State.tenant_congr {s t : State} (h : t.tn.tenants = s.tn.tenants) (k : Nat) : t.tenant k = s.tenant k := by
  unfold State.tenant; rw [h]

theorem State.queue_congr {s t : State} (h : t.tn.queues = s.tn.queues) (k : Nat) : t.queue k = s.queue k := by
  unfold State.queue; rw [h]

end

theorem State.finc_fget (s : State) (f : Fld) (h : f.lo + f.w ≤ 32) : (s.finc f).fget f = satInc f.w (s.fget f) := by
  have hlt : satInc f.w (s.fget f) < 2 ^ f.w := by
    have := Nat.two_pow_pos f.w
    unfold satInc
    split <;> omega
  exact (State.fget_fput_same s f _ h).trans (Nat.mod_eq_of_lt hlt)

-- queue work

/-- The registers in which the queue engine counts (R312). -/
def QueueCount (a : Nat) : Prop := a = F.QC_EVICT.addr ∨ a = F.QC_COLD.addr

/-- What pushes, pops and replies do from `s` to `t`: contexts, the queue engine's counts, the ports' and the cores' lines, and
the answer of a pop change, and nothing else. -/
structure QueueWork (s t : State) : Prop where
  rest : { t with tn := s.tn, regs := s.regs, pcie := s.pcie, wv := s.wv, out := s.out, latch := s.latch } = s
  regs : ∀ a, ¬ QueueCount a → t.reg a = s.reg a

namespace QueueWork

variable {s t u : State}

theorem refl (s : State) : QueueWork s s := ⟨rfl, fun _ _ => rfl⟩

theorem trans (h : QueueWork s t) (h' : QueueWork t u) : QueueWork s u :=
  ⟨Eq.trans (congrArg (fun x : State =>
      { x with tn := s.tn, regs := s.regs, pcie := s.pcie, wv := s.wv, out := s.out, latch := s.latch }) h'.rest :) h.rest,
    fun a ha => (h'.regs a ha).trans (h.regs a ha)⟩

theorem putQueue (h : QueueWork s t) (i : Nat) (q : Queue) : QueueWork s (t.putQueue i q) := ⟨h.rest, h.regs⟩

theorem updTenant (h : QueueWork s t) (k : Nat) (f : Tenant → Tenant) : QueueWork s (t.updTenant k f) := ⟨h.rest, h.regs⟩

theorem wardenLine (h : QueueWork s t) (n : Nat) : QueueWork s (t.wardenLine n) := ⟨h.rest, h.regs⟩

theorem popAnswer (h : QueueWork s t) (r : Nat) (x : Item) : QueueWork s (t.popAnswer r x) := ⟨h.rest, h.regs⟩

theorem fput (h : QueueWork s t) (f : Fld) (v : Nat) (hf : QueueCount f.addr) : QueueWork s (t.fput f v) :=
  ⟨h.rest, fun a ha => (State.reg_fput_other _ _ _ fun (e : a = f.addr) => ha (e ▸ hf)).trans (h.regs a ha)⟩

theorem fget (h : QueueWork s t) (f : Fld) (hf : ¬ QueueCount f.addr) : t.fget f = s.fget f := by
  unfold State.fget; rw [h.regs _ hf]

theorem flag (h : QueueWork s t) (f : Fld) (hf : ¬ QueueCount f.addr) : t.flag f = s.flag f := by
  unfold State.flag; rw [h.fget f hf]

theorem comb (h : QueueWork s t) : t.comb = s.comb := (congrArg State.comb h.rest :)

theorem uarts (h : QueueWork s t) : t.uarts = s.uarts := (congrArg State.uarts h.rest :)

theorem spi (h : QueueWork s t) : t.spi = s.spi := (congrArg State.spi h.rest :)

end QueueWork

section
variable (s : State) (i : Nat)

/-- An operation makes its queue hot, or counts an eviction or a cold operation (R312). -/
theorem State.touch_eq : ∃ t l, (t = s ∨ t = s.finc F.QC_EVICT ∨ t = s.finc F.QC_COLD) ∧ s.touch i = { t with tn.slots := l } := by
  unfold State.touch
  split
  · exact ⟨s, _, .inl rfl, rfl⟩
  · split
    · exact ⟨s, _, .inl rfl, rfl⟩
    · split
      · exact ⟨s, _, .inl rfl, rfl⟩
      · split
        · exact ⟨_, _, .inr (.inl rfl), rfl⟩
        · exact ⟨_, _, .inr (.inr rfl), rfl⟩

/-- It leaves all contexts but the slots. -/
theorem State.touch_tn : { (s.touch i).tn with slots := s.tn.slots } = s.tn := by
  obtain ⟨t, l, rfl | rfl | rfl, h⟩ := s.touch_eq i <;> rw [h] <;> rfl

theorem State.touch_work : QueueWork s (s.touch i) := by
  obtain ⟨t, l, ht, h⟩ := s.touch_eq i
  have hw : QueueWork s t := by
    rcases ht with ht | ht | ht <;> rw [ht]
    · exact .refl s
    · exact (QueueWork.refl s).fput _ _ (.inl rfl)
    · exact (QueueWork.refl s).fput _ _ (.inr rfl)
  rw [h]
  exact ⟨hw.rest, hw.regs⟩

theorem State.touch_queue (j : Nat) : (s.touch i).queue j = s.queue j :=
  State.queue_congr (congrArg TnSt.queues (s.touch_tn i) :) j

theorem State.touch_tenants : (s.touch i).tn.tenants = s.tn.tenants := (congrArg TnSt.tenants (s.touch_tn i) :)

theorem State.touch_waiting : (s.touch i).tn.waiting = s.tn.waiting := (congrArg TnSt.waiting (s.touch_tn i) :)

/-- A message of a vector changes the PCIe port alone. -/
theorem State.msix_rest (v : Nat) : { s.msix v with pcie := s.pcie } = s := by
  unfold State.msix
  split
  · rfl
  · split <;> rfl

theorem State.tenantMsix_rest (t b a : Nat) : { s.tenantMsix t b a with pcie := s.pcie } = s := by
  unfold State.tenantMsix State.when
  split
  · exact s.msix_rest _
  · rfl

theorem State.tenantMsix_tn (t b a : Nat) : (s.tenantMsix t b a).tn = s.tn := (congrArg State.tn (s.tenantMsix_rest t b a) :)

theorem QueueWork.tenantMsix {s t : State} (h : QueueWork s t) (k b a : Nat) : QueueWork s (t.tenantMsix k b a) := by
  have hr := t.tenantMsix_rest k b a
  have hregs : (t.tenantMsix k b a).regs = t.regs := (congrArg State.regs hr :)
  refine h.trans ⟨?_, fun c _ => by unfold State.reg; rw [hregs]⟩
  exact (congrArg (fun x : State => { x with tn := t.tn, regs := t.regs, wv := t.wv, out := t.out, latch := t.latch }) hr :)

theorem State.popItem_work : QueueWork s (s.popItem i).2 := by
  unfold State.popItem
  split
  · exact ((QueueWork.refl s).putQueue i _).trans (State.touch_work _ i)
  · exact s.touch_work i

theorem State.popItem_tenants : (s.popItem i).2.tn.tenants = s.tn.tenants := by
  unfold State.popItem
  split
  · exact State.touch_tenants _ i
  · exact s.touch_tenants i

theorem State.unstall_work : QueueWork s (s.unstall i) := by
  have hclear : QueueWork s (if s.tn.stalled = some i then { s with tn.stalled := none } else s) := by
    split
    · exact ⟨rfl, fun _ _ => rfl⟩
    · exact .refl s
  unfold State.unstall
  split
  · dsimp only
    split
    · exact ⟨(hclear.trans (State.popItem_work _ i)).rest, (hclear.trans (State.popItem_work _ i)).regs⟩
    · exact hclear
  · exact .refl s

theorem State.unstall_tenants : (s.unstall i).tn.tenants = s.tn.tenants := by
  have hclear : (if s.tn.stalled = some i then { s with tn.stalled := none } else s).tn.tenants = s.tn.tenants := by
    split <;> rfl
  unfold State.unstall
  split
  · dsimp only
    split
    · exact (State.popItem_tenants _ i).trans hclear
    · exact hclear
  · rfl

variable {i}

/-- With no pop waiting on it, a queue that becomes readable keeps its items. -/
theorem State.unstall_quiet (h : ∀ w ∈ s.tn.waiting, w.2 ≠ i) : ∃ l, s.unstall i = { s with tn.stalled := l } := by
  have hfind (l : Option Nat) : ({ s with tn.stalled := l } : State).tn.waiting.find? (fun w => w.2 = i) = none :=
    List.find?_eq_none.mpr fun w hw => by simpa using h w hw
  unfold State.unstall
  split
  · split
    · exact ⟨none, by simp [hfind none]⟩
    · exact ⟨s.tn.stalled, by simp [hfind s.tn.stalled]⟩
  · exact ⟨s.tn.stalled, rfl⟩

end

end Sys2Proof.Machine
end

section
/-! SUPPORT. Replies (16: R311, R315 to R319): how the Warden takes a command and what its reply leaves. -/

namespace Sys2Proof.Machine

section
variable (s : State) (i : Nat) (m : List Item)

/-- A queue with a whole message put in, its credits spent. -/
def Queue.given (q : Queue) (m : List Item) : Queue :=
  match q.batch with
  | some b => { q with batch := some (b ++ [m]), cred := q.cred - m.length }
  | none => { q with ready := q.ready ++ [m], cred := q.cred - m.length }

theorem State.pushMsg_eq : s.pushMsg i m =
    (((s.putQueue i ((s.queue i).given m)).touch i).tenantMsix (i / 2) (s.queue i).pkt ((s.queue i).given m).pkt).unstall i := rfl

theorem State.pushMsg_work : QueueWork s (s.pushMsg i m) := by
  rw [s.pushMsg_eq]
  exact ((((QueueWork.refl s).putQueue i _).trans (State.touch_work _ i)).tenantMsix _ _ _).trans (State.unstall_work _ i)

theorem State.pushMsg_tenants : (s.pushMsg i m).tn.tenants = s.tn.tenants := by
  rw [s.pushMsg_eq, State.unstall_tenants, State.tenantMsix_tn, State.touch_tenants]
  rfl

variable {i}

/-- With no batch open and no pop waiting, the message stands last among the readable ones. -/
theorem State.pushMsg_ready (hb : (s.queue i).batch = none) (hw : ∀ w ∈ s.tn.waiting, w.2 ≠ i) :
    ((s.pushMsg i m).queue i).ready = (s.queue i).ready ++ [m] := by
  have htn := ((s.putQueue i ((s.queue i).given m)).touch i).tenantMsix_tn (i / 2) (s.queue i).pkt ((s.queue i).given m).pkt
  have hq := State.touch_queue (s.putQueue i ((s.queue i).given m)) i i
  have hwait := State.touch_waiting (s.putQueue i ((s.queue i).given m)) i
  rw [State.queue_putQueue_same] at hq
  rw [s.pushMsg_eq]
  generalize ((s.putQueue i ((s.queue i).given m)).touch i).tenantMsix (i / 2) (s.queue i).pkt ((s.queue i).given m).pkt = u at htn
  obtain ⟨l, hl⟩ := u.unstall_quiet (i := i) fun w hm => hw w (by rw [htn, hwait] at hm; exact hm)
  rw [hl]
  have hu : u.queue i = (s.queue i).given m := (State.queue_congr (congrArg TnSt.queues htn) i).trans hq
  change (u.queue i).ready = _
  rw [hu, Queue.given, hb]

end

-- sending a reply

section
variable (s : State) (k : Nat) (payload : List Byte)

theorem State.sendReply_work : QueueWork s (s.sendReply k payload) := by
  unfold State.sendReply
  dsimp only
  split
  · exact .refl s
  · split
    · exact .refl s
    · exact (s.pushMsg_work _ _).updTenant k _

/-- A reply leaves the tenant as it was but for the SEQ of its next frame. -/
theorem State.sendReply_tenant : ∃ n, (s.sendReply k payload).tenant k = { s.tenant k with outSeq := n } := by
  unfold State.sendReply
  dsimp only
  split
  · exact ⟨_, rfl⟩
  · split
    · exact ⟨_, rfl⟩
    · refine ⟨((s.tenant k).outSeq + 1) % 65536, ?_⟩
      rw [State.tenant_updTenant_same, State.tenant_congr (s.pushMsg_tenants _ _)]

/-- A live tenant with the credit gets the REPLY frame, whole. -/
theorem State.sendReply_ready (hl : (s.tenant k).live = true) (hb : (s.queue (2 * k + 1)).batch = none)
    (hw : ∀ w ∈ s.tn.waiting, w.2 ≠ 2 * k + 1)
    (hc : (frameItems 2 (frameBytes 1 k (s.tenant k).outSeq payload)).length ≤ (s.queue (2 * k + 1)).cred) :
    ((s.sendReply k payload).queue (2 * k + 1)).ready =
      (s.queue (2 * k + 1)).ready ++ [frameItems 2 (frameBytes 1 k (s.tenant k).outSeq payload)] := by
  have hlive : ¬ ¬ (s.tenant k).live = true := not_not_intro hl
  have hcred := Nat.not_lt.mpr hc
  have h := s.pushMsg_ready (frameItems 2 (frameBytes 1 k (s.tenant k).outSeq payload)) hb hw
  simp only [State.sendReply, if_neg hlive, if_neg hcred]
  exact h

end

-- the reply cache

section
variable (s : State) (k op seq code : Nat) (res : List Byte)

/-- What the cache keeps of a reply (R317). -/
def cached (op seq code : Nat) (res : List Byte) : Reply :=
  ⟨seq, op, code, if res.length ≤ 2 then res else [], decide (2 < res.length)⟩

/-- The state with the reply in the tenant's cache, its frame still to send. -/
def State.cacheReply (s : State) (k op seq code : Nat) (res : List Byte) : State :=
  s.updTenant k fun x => { x with cache := (cached op seq code res :: x.cache.filter fun c => c.seq ≠ seq).take 32 }

theorem State.reply_eq : s.reply k op seq code res =
    (s.cacheReply k op seq code res).sendReply k (replyPayload op code seq (s.icred k) res) := rfl

theorem State.reply_work : QueueWork s (s.reply k op seq code res) :=
  ((QueueWork.refl s).updTenant k _).trans (State.sendReply_work _ _ _)

theorem State.reply_tenant : ∃ n, (s.reply k op seq code res).tenant k =
    { s.tenant k with
      cache := (cached op seq code res :: (s.tenant k).cache.filter fun c => c.seq ≠ seq).take 32, outSeq := n } := by
  obtain ⟨n, hn⟩ := State.sendReply_tenant (s.cacheReply k op seq code res) k (replyPayload op code seq (s.icred k) res)
  refine ⟨n, ?_⟩
  rw [s.reply_eq, hn, State.cacheReply, State.tenant_updTenant_same]

theorem State.reply_ready (hl : (s.tenant k).live = true) (hb : (s.queue (2 * k + 1)).batch = none)
    (hw : ∀ w ∈ s.tn.waiting, w.2 ≠ 2 * k + 1) {m : List Item}
    (hm : frameItems 2 (frameBytes 1 k (s.tenant k).outSeq (replyPayload op code seq (s.icred k) res)) = m)
    (hc : m.length ≤ (s.queue (2 * k + 1)).cred) :
    ((s.reply k op seq code res).queue (2 * k + 1)).ready = (s.queue (2 * k + 1)).ready ++ [m] := by
  have hx : (s.cacheReply k op seq code res).tenant k = { s.tenant k with
      cache := (cached op seq code res :: (s.tenant k).cache.filter fun c => c.seq ≠ seq).take 32 } :=
    s.tenant_updTenant_same k _
  subst hm
  have h := State.sendReply_ready (s.cacheReply k op seq code res) k (replyPayload op code seq (s.icred k) res)
  rw [hx] at h
  exact h hl hb hw hc

end

-- taking a command (R315, R316)

/-- The state in which a command that tenant `k` sent with number `seq` is carried out. -/
def State.taken (s : State) (k seq : Nat) : State := s.updTenant k fun x => { x with lastSeq := some seq }

section
variable {s : State} {k seq op : Nat}

theorem State.taken_tenant (s : State) (k seq : Nat) : (s.taken k seq).tenant k = { s.tenant k with lastSeq := some seq } :=
  s.tenant_updTenant_same k _

theorem State.accepts.live (h : s.accepts k seq) : (s.tenant k).live = true := by
  obtain ⟨ho, -, -⟩ := h
  simp [Tenant.live, ho]

/-- An accepted command is carried out and answered. -/
theorem State.command_reply (h : s.accepts k seq) {f : State → Done × State} {code : Nat} {res : List Byte} {t : State}
    (hf : f (s.taken k seq) = (.reply code res, t)) : s.command k op seq f = t.reply k op seq code res := by
  have hlive := h.live
  obtain ⟨ho, ha, hr⟩ := h
  have hin : ¬ (¬ (s.tenant k).live = true ∨ (s.tenant k).state = .fault ∧ ¬ keptInFault op = true) := by
    rw [hlive, ho]; simp
  have hfree : ¬ ((s.tenant k).running ≠ [] ∧ ¬ neverHeld op = true) := fun h => h.1 hr
  unfold State.taken at hf
  simp only [State.command, if_neg hin, ha, if_neg hfree, hf]

/-- A command carried out and answered at once: its reply is the newest of the cache. -/
theorem Answers.of_reply {c : Instr} (h : s.accepts k seq) {f : State → Done × State} {code : Nat} {res : List Byte} {t : State}
    {P : State → Prop} (hc : exec c s = .next (s.command k op seq f)) (hf : f (s.taken k seq) = (.reply code res, t))
    (hl : (t.tenant k).lastSeq = some seq) (hP : P (t.reply k op seq code res)) : Answers c s k op seq code res P := by
  obtain ⟨n, hn⟩ := t.reply_tenant k op seq code res
  refine .of_exec (hc.trans (congrArg _ (State.command_reply h hf))) ⟨?_, ?_, hP⟩ <;> rw [hn]
  · exact hl
  · rfl

end

end Sys2Proof.Machine
end

section
/-! SUPPORT. The fabric beyond REGISTER_WRITE (02: R24, R27, R34; 20: R386): what its judgement looks at, popping registers read by a
host, and reads held back. -/

namespace Sys2Proof.Machine

-- what the judgement looks at

/-- Power states, PG_OWNER, the ports' links and SPI_WT: the registers that decide who reaches and may write a page. -/
def FabricReg (a : Nat) : Prop :=
  a / 4096 = 0x005 ∨ a % 4096 = 0x024 ∨ a = F.PCIE_LINK_UP.addr ∨ a = F.USB_STAT_VBUS.addr ∨ a = F.SPI_WT_T.addr

theorem fabricReg_owner (p : Nat) : FabricReg (p * 4096 + 0x024) := .inr (.inl (by omega))

section
variable {s t : State} {via : Via} {p o : Nat}

theorem State.fget_congr {f : Fld} (h : t.reg f.addr = s.reg f.addr) : t.fget f = s.fget f := by
  unfold State.fget; rw [h]

theorem State.flag_congr {f : Fld} (h : t.reg f.addr = s.reg f.addr) : t.flag f = s.flag f := by
  unfold State.flag; rw [State.fget_congr h]

variable (hr : ∀ a, FabricReg a → t.reg a = s.reg a)
include hr

theorem State.domState_congr {d : Nat} (hd : d ≤ 40) : t.domState d = s.domState d :=
  State.fget_congr (hr _ (.inl (by simp only [F.PW_D_STATE]; omega)))

theorem State.domPowered_congr {d : Nat} (hd : d ≤ 40) : t.domPowered d = s.domPowered d := by
  simp only [State.domPowered, State.domState_congr hr hd]

theorem State.powered_congr : t.powered p = s.powered p := State.domPowered_congr hr (pageDom_le p)

theorem State.unreachable_congr (hb : t.boot = s.boot) : t.unreachable via p = s.unreachable via p := by
  have hpcie : t.flag F.PCIE_LINK_UP = s.flag F.PCIE_LINK_UP := State.flag_congr (hr F.PCIE_LINK_UP.addr (by simp [FabricReg]))
  have husb : t.flag F.USB_STAT_VBUS = s.flag F.USB_STAT_VBUS := State.flag_congr (hr F.USB_STAT_VBUS.addr (by simp [FabricReg]))
  unfold State.unreachable
  rw [hb, State.domPowered_congr hr (d := 1) (by decide), State.domPowered_congr hr (d := 2) (by decide), hpcie, husb]

theorem State.readHeld_congr (hb : t.boot = s.boot) (n : Nat) : t.readHeld via p o n = s.readHeld via p o n := by
  simp only [State.readHeld, State.unreachable_congr hr hb, State.domState_congr hr (pageDom_le p)]

theorem State.mayWrite_congr (w : Writer) : t.mayWrite w p = s.mayWrite w p := by
  have hlock : t.flag (PG_LOCK p) = s.flag (PG_LOCK p) := State.flag_congr (hr _ (fabricReg_owner p))
  have howned : t.flag (PG_OWNED p) = s.flag (PG_OWNED p) := State.flag_congr (hr _ (fabricReg_owner p))
  have hten : t.fget (PG_TENANT p) = s.fget (PG_TENANT p) := State.fget_congr (hr _ (fabricReg_owner p))
  simp only [State.mayWrite, hlock, howned, hten]

theorem State.writer_congr (ht : t.tn.tenants = s.tn.tenants) (hw : t.pcie.wtenant = s.pcie.wtenant) :
    t.writer via p = s.writer via p := by
  have hspi : t.fget F.SPI_WT_T = s.fget F.SPI_WT_T := State.fget_congr (hr F.SPI_WT_T.addr (by simp [FabricReg]))
  simp only [State.writer, State.tenant_congr ht, hw, hspi]

/-- States alike in boot, tenants, BAR0's write tenant and the registers it looks at judge every access alike. -/
theorem State.judge_congr (hb : t.boot = s.boot) (ht : t.tn.tenants = s.tn.tenants) (hw : t.pcie.wtenant = s.pcie.wtenant) (whole : Bool) :
    t.judge via p o whole = s.judge via p o whole := by
  simp only [State.judge, State.unreachable_congr hr hb, State.writer_congr hr ht hw, State.mayWrite_congr hr,
    State.domState_congr hr (pageDom_le p), State.powered_congr hr]

end

section
variable {s : State} {via : Via} {p o : Nat}

/-- A port or core that reaches the fabric. -/
theorem State.reachable_behalf (n : Fin 4096) (h1 : s.domPowered 1 = true) (hd : s.boot.dead = false) :
    s.unreachable (.behalf n) p = false := by
  unfold State.unreachable
  rw [hd, h1]
  rfl

theorem State.not_held_of_on (h : s.domState (pageDom p) = dON) (n : Nat) : s.readHeld via p o n = false :=
  State.readHeld_of_not_entry n (by rw [h]; decide)

theorem State.powered_of_on (h : s.domState (pageDom p) = dON) : s.powered p = true := by
  simp [State.powered, State.domPowered, h]

/-- A read of a block register that waits for the end of its domain's entry sequence. -/
theorem State.readHeld_entry {d : RegDef} (hu : s.unreachable via p = false) (he : s.domState (pageDom p) = dENTRY)
    (hk : regKind p (o / 4 * 4) = some (.block d)) (hs : isSleepReg (p * 4096 + o / 4 * 4) = false) :
    s.readHeld via p o 1 = true := by
  simp [State.readHeld, hu, he, hk, hs]

/-- A host's read of a popping register of a powered page is 0 and removes nothing (R27). -/
theorem State.busRead_popping {d : RegDef} (hu : s.unreachable via p = false) (hk : regKind p (o / 4 * 4) = some (.block d))
    (hp : s.powered p = true) (hpop : popping (p * 4096 + o / 4 * 4) = true) (hc : viaCore via = none) : s.busRead via p o = (0, s) := by
  simp [State.busRead, State.readReg, hu, hk, hp, hpop, hc]

theorem State.nowLatch_eq (s : State) (r : Nat) : ∃ l, s.nowLatch r = { s with latch := l } := by
  unfold State.nowLatch State.setLatch
  exact ⟨_, rfl⟩

/-- A read changes nothing but the latches it takes. -/
theorem State.readLatch_eq (s : State) (r a : Nat) : ∃ l, s.readLatch r a = { s with latch := l } := by
  unfold State.readLatch
  split
  · exact s.nowLatch_eq r
  · split
    · simp only [List.foldl]
      unfold State.setLatch
      exact ⟨_, rfl⟩
    · split
      · exact ⟨_, rfl⟩
      · exact ⟨s.latch, rfl⟩

/-- A write is refused on a page locked against its writer. -/
theorem State.judge_locked {d : RegDef} (hu : s.unreachable via p = false) (hk : regKind p o = some (.block d))
    (hl : localPort via p = false) (hw : s.mayWrite (s.writer via p) p = false) : s.judge via p o true = .locked := by
  simp [State.judge, hu, hk, hl, hw]

theorem State.mayWrite_locked (t : Nat) (h : s.flag (PG_LOCK p) = true) : s.mayWrite (.tenant t) p = false := by
  simp [State.mayWrite, h]

theorem State.busReads_one (s : State) (via : Via) (p o : Nat) :
    s.busReads via p o 1 = ([(s.busRead via p o).1], (s.busRead via p o).2) := rfl

theorem State.busWrites_one (s : State) (via : Via) (p o : Nat) (v : Word) : s.busWrites via p o [v] = s.busWrite via p o v true := rfl

end

-- the registers of these chapters

/-- A field whose bits are all RW takes what is written to it (R7). -/
theorem RegDef.write_rw_field {d : RegDef} {lo w : Nat} (hrw : ∀ i < w, (d.bits .RW).getLsbD (i + lo) = true) (hc : d.bits .W1C = 0)
    (hs : d.bits .W1S = 0) (old v : Word) : (d.write old v).toNat / 2 ^ lo % 2 ^ w = v.toNat / 2 ^ lo % 2 ^ w := by
  apply Nat.eq_of_testBit_eq
  intro i
  rw [Fld.get_bit, Fld.get_bit]
  by_cases hi : i < w
  · rw [RegDef.write_rw_bit (hrw i hi) (by simp [hc]) (by simp [hs])]
  · simp [hi]

/-- SPI_WT. -/
def spiWtReg : RegDef := ⟨0x040, 1, 4, [⟨0, 12, .RW, 0⟩]⟩

theorem regKind_spiWt : regKind 0x152 0x040 = some (.block spiWtReg) := by decide

/-- A permitted write of SPI_WT stores the tenant. -/
theorem State.writeBlock_spiWt (s : State) (via : Via) (v : Word) :
    (s.writeBlock via 0x152 0x040 v).fget F.SPI_WT_T = v.toNat % 4096 ∧ OnlyRegs s (s.writeBlock via 0x152 0x040 v) [F.SPI_WT_T.addr] := by
  obtain ⟨-, r, i, j, n, hr, hd⟩ := regKind_block regKind_spiWt
  have hst : s.writeBlock via 0x152 0x040 v = s.setReg 0x152040 (spiWtReg.write (s.reg 0x152040) v) := State.store_block v s hr hd
  rw [hst]
  refine ⟨?_, (OnlyRegs.refl s _).setReg _ _ (by simp [F.SPI_WT_T])⟩
  have hfield := RegDef.write_rw_field (d := spiWtReg) (lo := 0) (w := 12) (by decide) (by decide) (by decide) (s.reg 0x152040) v
  unfold State.fget
  refine (congrArg (fun w : Word => w.toNat / 2 ^ 0 % 2 ^ 12) (s.reg_setReg_same 0x152040 _)).trans (hfield.trans ?_)
  rw [pow_zero, Nat.div_one]
  rfl

/-- The register U_RX of UART0. -/
theorem regKind_uRx : ∃ d, regKind 0x158 0x058 = some (.block d) := ⟨_, rfl⟩

theorem pageDom_uart : pageDom 0x158 = 2 := by decide

section
variable {s : State} {via : Via} (hu : s.unreachable via 0x158 = false)
include hu

/-- U_RX, read by a host, gives 0 and keeps its character (R27). -/
theorem State.busRead_uRx (hd : s.domState 2 = dON) (hc : viaCore via = none) : s.busRead via 0x158 0x058 = (0, s) := by
  obtain ⟨d, hk⟩ := regKind_uRx
  exact State.busRead_popping (o := 0x058) hu hk (State.powered_of_on (by rw [pageDom_uart]; exact hd)) (by decide) hc

theorem State.readHeld_uRx (hd : s.domState 2 = dENTRY) : s.readHeld via 0x158 0x058 1 = true := by
  obtain ⟨d, hk⟩ := regKind_uRx
  exact State.readHeld_entry (o := 0x058) hu (by rw [pageDom_uart]; exact hd) hk (by decide)

end

end Sys2Proof.Machine
end

section
/-! Register commands of tenants (16: R320, R321; 20: R386): REGRD and REGWR. -/

namespace Sys2Proof.Machine

-- what a command names

theorem regSpan_word {p o : Nat} (hp : p < 1024) (ho : o < 4096) (h4 : o % 4 = 0) :
    regSpan (BitVec.ofNat 32 (p * 4096 + o)).toNat 1 = some (p, o) := by
  have hw : (BitVec.ofNat 32 (p * 4096 + o)).toNat = p * 4096 + o := by simp; omega
  have hmod : (p * 4096 + o) % 4096 = o := by omega
  have hdiv : (p * 4096 + o) / 4096 % 1024 = p := by omega
  have hin : ¬ (1 = 0 ∨ 64 < 1 ∨ o % 4 ≠ 0 ∨ 4096 < o + 4 * 1) := by omega
  simp only [regSpan, hw, hmod, hdiv, if_neg hin]

theorem regSpan_aligned {w : Nat} (h4 : w % 4 = 0) : regSpan w 1 = some (w / 4096 % 1024, w % 4096) := by
  have hin : ¬ (1 = 0 ∨ 64 < 1 ∨ w % 4096 % 4 ≠ 0 ∨ 4096 < w % 4096 + 4 * 1) := by omega
  simp only [regSpan, if_neg hin]

theorem regSpan_bad {w n : Nat} (h : n = 0 ∨ 64 < n ∨ w % 4 ≠ 0 ∨ 4096 < w % 4096 + 4 * n) : regSpan w n = none := by
  have hout : n = 0 ∨ 64 < n ∨ w % 4096 % 4 ≠ 0 ∨ 4096 < w % 4096 + 4 * n := by omega
  simp only [regSpan, if_pos hout]

section
variable {s t : State} {n : Fin 4096} {seq arg0 : Half} {w v : Word} {p o : Nat} {P : State → Prop}

/-- REGRD of registers whose read nothing holds back. -/
theorem exec_regrd (hs : regSpan w.toNat arg0.toNat = some (p, o)) (hh : s.readHeld (.behalf n) p o arg0.toNat = false) :
    exec (.regrd n seq arg0 [w]) s = .next (s.command n.val 0x0021 seq.toNat fun s =>
      (.reply cOK (wordBytes (s.busReads (.behalf n) p o arg0.toNat).1), (s.busReads (.behalf n) p o arg0.toNat).2)) := by
  show execRegrd n seq arg0 [w] s = _
  simp [execRegrd, argWord, hs, hh]

theorem exec_regrd_held (hs : regSpan w.toNat arg0.toNat = some (p, o)) (hh : s.readHeld (.behalf n) p o arg0.toNat = true) :
    exec (.regrd n seq arg0 [w]) s = .next { s with pwr.held := s.pwr.held ++ [(pageDom p, .regrd n seq arg0 [w])] } := by
  show execRegrd n seq arg0 [w] s = _
  simp [execRegrd, argWord, hs, hh]

theorem exec_regrd_bad (hs : regSpan w.toNat arg0.toNat = none) :
    exec (.regrd n seq arg0 [w]) s = .next (s.command n.val 0x0021 seq.toNat (done cBADARG)) := by
  show execRegrd n seq arg0 [w] s = _
  simp [execRegrd, argWord, hs]

/-- REGRD of one register: the reply carries what the read gives. -/
theorem regrd_answers (h : s.accepts n.val seq.toNat) (hs : regSpan w.toNat 1 = some (p, o))
    (hh : s.readHeld (.behalf n) p o 1 = false) (hr : (s.taken n.val seq.toNat).busRead (.behalf n) p o = (v, t))
    (ht : t.tn = (s.taken n.val seq.toNat).tn) (hP : P (t.reply n.val 0x21 seq.toNat cOK (wordBytes [v]))) :
    Answers (.regrd n seq 1 [w]) s n.val 0x21 seq.toNat cOK (wordBytes [v]) P := by
  refine Answers.of_reply h (exec_regrd hs hh) (t := t) ?_ ?_ hP
  · rw [show (1 : Half).toNat = 1 from rfl, State.busReads_one, hr]
  · rw [State.tenant_congr (congrArg TnSt.tenants ht), State.taken_tenant]

/-- The frame of such a reply, sent when the tenant has the credit and no pop waits for it. -/
theorem regrd_sent (h : s.accepts n.val seq.toNat) (v : Word) :
    let o := 2 * n.val + 1
    let m := frameItems 2 (frameBytes 1 n.val (s.tenant n.val).outSeq
      (replyPayload 0x21 cOK seq.toNat (s.icred n.val) (wordBytes [v])))
    (s.queue o).batch = none → (∀ w ∈ s.tn.waiting, w.2 ≠ o) → m.length ≤ (s.queue o).cred →
      (((s.taken n.val seq.toNat).reply n.val 0x21 seq.toNat cOK (wordBytes [v])).queue o).ready = (s.queue o).ready ++ [m] := by
  intro o m hb hw hc
  have hx := s.taken_tenant n.val seq.toNat
  have hlive : ((s.taken n.val seq.toNat).tenant n.val).live = true := by rw [hx]; exact h.live
  exact State.reply_ready (s.taken n.val seq.toNat) n.val 0x21 seq.toNat cOK (wordBytes [v]) hlive hb hw (by rw [hx]; rfl) hc

/-- REGWR of one register on a page the Warden does not write for its own. -/
theorem regwr_answers (h : s.accepts n.val seq.toNat) (hs : regSpan w.toNat 1 = some (p, o))
    (hl : n.val = 0 → s.flag (PG_LOCK p) = false) (hw : (s.taken n.val seq.toNat).busWrite (.behalf n) p o v true = t)
    (ht : t.tn = (s.taken n.val seq.toNat).tn) (hP : P (t.reply n.val 0x22 seq.toNat cOK [])) :
    Answers (.regwr n seq 1 [w, v]) s n.val 0x22 seq.toNat cOK [] P := by
  have hown : ¬ (n.val = 0 ∧ (s.taken n.val seq.toNat).flag (PG_LOCK p) = true) := fun hc => by
    have hf : s.flag (PG_LOCK p) = true := hc.2
    rw [hl hc.1] at hf
    cases hf
  refine Answers.of_reply (t := t) h rfl ?_ ?_ hP
  · simp only [List.length_cons, List.length_nil, argWord, List.getD_cons_zero, show (1 : Half).toNat = 1 from rfl, hs, hown, if_false,
      List.drop_one, List.tail_cons, State.busWrites_one, hw]
    rfl
  · rw [State.tenant_congr (congrArg TnSt.tenants ht), State.taken_tenant]

/-- REGWR of tenant 0 on a locked page: the Warden writes the register for it, or refuses (R321). -/
theorem regwr_locked_answers (h : s.accepts n.val seq.toNat) (hs : regSpan w.toNat 1 = some (p, o)) (hn : n.val = 0)
    (hl : s.flag (PG_LOCK p) = true) (hk : notForOwner p = false) (ho : o ≠ 0x024)
    (hw : (s.taken n.val seq.toNat).busWrite .warden p o v true = t) (ht : t.tn = (s.taken n.val seq.toNat).tn)
    (hP : P (t.reply n.val 0x22 seq.toNat cOK [])) : Answers (.regwr n seq 1 [w, v]) s n.val 0x22 seq.toNat cOK [] P := by
  have hown : n.val = 0 ∧ (s.taken n.val seq.toNat).flag (PG_LOCK p) = true := ⟨hn, hl⟩
  refine Answers.of_reply (t := t) h rfl ?_ ?_ hP
  · simp only [List.length_cons, List.length_nil, argWord, List.getD_cons_zero, show (1 : Half).toNat = 1 from rfl, hs, if_pos hown, hk,
      List.drop_one, List.tail_cons, State.ownerWrites, if_neg ho, hw]
    rfl
  · rw [State.tenant_congr (congrArg TnSt.tenants ht), State.taken_tenant]

theorem regwr_rights (h : s.accepts n.val seq.toNat) (hs : regSpan w.toNat 1 = some (p, o)) (hn : n.val = 0)
    (hl : s.flag (PG_LOCK p) = true) (hk : notForOwner p = true)
    (hP : P ((s.taken n.val seq.toNat).reply n.val 0x22 seq.toNat cRIGHTS [])) :
    Answers (.regwr n seq 1 [w, v]) s n.val 0x22 seq.toNat cRIGHTS [] P := by
  have hown : n.val = 0 ∧ (s.taken n.val seq.toNat).flag (PG_LOCK p) = true := ⟨hn, hl⟩
  refine Answers.of_reply (t := s.taken n.val seq.toNat) h rfl ?_ (by rw [State.taken_tenant]) hP
  simp only [List.length_cons, List.length_nil, argWord, List.getD_cons_zero, show (1 : Half).toNat = 1 from rfl, hs, if_pos hown, hk]
  rfl

end

theorem page_of_queueCount {a : Nat} (h : QueueCount a) : a / 4096 = 0x142 ∧ 0x040 ≤ a % 4096 := by
  rcases h with rfl | rfl <;> decide

section
variable (s : State) (k op seq code : Nat) (res : List Byte) {a : Nat}

/-- A reply changes no register but the queue engine's counts. -/
theorem State.reply_reg (h : a / 4096 = 0x142 → a % 4096 < 0x040) : (s.reply k op seq code res).reg a = s.reg a :=
  (s.reply_work k op seq code res).regs a fun hc => by
    obtain ⟨hp, ho⟩ := page_of_queueCount hc
    have := h hp
    omega

end

/-- Of a word as its result the cache keeps only that the reply was cut short (R317). -/
theorem Answers.of_word {c : Instr} {s : State} {k op seq code : Nat} {v : Word} {P : State → Prop}
    (h : Answers c s k op seq code (wordBytes [v]) P) (w : Word) : Answers c s k op seq code (wordBytes [w]) P := h

theorem State.header_id (s : State) (p : Nat) : s.header p (0 / 4 * 4) = s.reg (p * 4096) := by
  simp [State.header]

-- the clauses

/-- A read that waits for the end of an entry sequence. -/
theorem regrd_waits {s : State} {n : Fin 4096} {seq : Half} (hp1 : s.domPowered 1 = true) (hb : s.boot.dead = false) (hd : s.domState 2 = dENTRY) :
    Completes (.regrd n seq 1 [0x158058]) s fun u =>
      u.pwr.held = s.pwr.held ++ [(2, .regrd n seq 1 [0x158058])] ∧ u.tn = s.tn ∧ u.regs = s.regs := by
  have hx := exec_regrd_held (s := s) (n := n) (seq := seq) (arg0 := 1) (w := 0x158058) (p := 0x158) (o := 0x058) (by decide)
    (State.readHeld_uRx (State.reachable_behalf n hp1 hb) hd)
  rw [pageDom_uart] at hx
  exact .of_exec hx ⟨rfl, rfl, rfl⟩

section
variable {s : State} {n : Fin 4096} {seq arg0 : Half} (h : s.accepts n.val seq.toNat)
include h

/-- REGRD of a powered block register that pops nothing. -/
theorem regrd_block (hp1 : s.domPowered 1 = true) (hb : s.boot.dead = false) {p o : Nat} {d : RegDef} (hp : p < 1024) (ho : o < 4096)
    (hk : regKind p o = some (.block d)) (h4 : o % 4 = 0) (hd : s.domState (pageDom p) = dON) (hf : s.flag (PG_FREEZE p) = false)
    (hpop : popping (p * 4096 + o) = false) (hdr : drawnReg (p * 4096 + o) = false) (hq : p * 4096 + o ≠ F.Q_NEXTIN_T.addr) :
    Answers (.regrd n seq 1 [BitVec.ofNat 32 (p * 4096 + o)]) s n.val 0x21 seq.toNat cOK
      (wordBytes [s.view (viaReader (.behalf n)) (p * 4096 + o)]) fun u => u.comb = s.comb := by
  have hal : o / 4 * 4 = o := by omega
  have hdiv : (p * 4096 + o) / 4096 = p := by omega
  have hread := State.busRead_live (s := s.taken n.val seq.toNat) (via := .behalf n) (p := p) (o := o) (d := d)
    (State.reachable_behalf n hp1 hb) (by rw [hal]; exact hk) (State.powered_of_on hd) (by rw [hal]; exact hpop)
    (by rw [hal]; exact hdr) (by rw [hal]; exact hq) (by rw [hal, hdiv]; exact hf)
  rw [hal] at hread
  obtain ⟨l, hl⟩ := (s.taken n.val seq.toNat).readLatch_eq (viaReader (.behalf n)) (p * 4096 + o)
  have hans := regrd_answers (P := fun u => u.comb = s.comb) h (regSpan_word hp ho h4) (State.not_held_of_on hd 1) hread
    (by rw [hl]) ((State.reply_work _ _ _ _ _ _).comb.trans (by rw [hl]; rfl))
  exact hans.of_word _

/-- REGRD of PG_ID of any implemented page. -/
theorem regrd_pageId (hp1 : s.domPowered 1 = true) (hb : s.boot.dead = false) {p : Nat} (hp : p < 1024) (hi : implemented p = true)
    {P : State → Prop}
    (hP : P ((s.taken n.val seq.toNat).reply n.val 0x21 seq.toNat cOK (wordBytes [s.reg (p * 4096)]))) :
    Answers (.regrd n seq 1 [BitVec.ofNat 32 (p * 4096)]) s n.val 0x21 seq.toNat cOK (wordBytes [s.reg (p * 4096)]) P := by
  have hspan := regSpan_word (o := 0) hp (by decide) rfl
  rw [Nat.add_zero] at hspan
  have hread := State.busRead_header (s := s.taken n.val seq.toNat) (via := .behalf n) (p := p) (o := 0)
    (State.reachable_behalf n hp1 hb) hi (by decide)
  rw [State.header_id] at hread
  exact regrd_answers h hspan (State.readHeld_header (o := 0) hi (by decide)) hread rfl hP

/-- REGRD of U_RX. -/
theorem regrd_uRx (hp1 : s.domPowered 1 = true) (hb : s.boot.dead = false) (hd : s.domState 2 = dON) {P : State → Prop}
    (hP : P ((s.taken n.val seq.toNat).reply n.val 0x21 seq.toNat cOK (wordBytes [0]))) :
    Answers (.regrd n seq 1 [0x158058]) s n.val 0x21 seq.toNat cOK (wordBytes [0]) P :=
  regrd_answers h (by decide) (State.not_held_of_on (by rw [pageDom_uart]; exact hd) 1)
    (State.busRead_uRx (s := s.taken n.val seq.toNat) (State.reachable_behalf n hp1 hb) hd rfl) rfl hP

/-- A count or an offset outside its range. -/
theorem regrd_badArg {w : Word}
    (hw : arg0.toNat = 0 ∨ 64 < arg0.toNat ∨ w.toNat % 4 ≠ 0 ∨ 4096 < w.toNat % 4096 + 4 * arg0.toNat) :
    Answers (.regrd n seq arg0 [w]) s n.val 0x21 seq.toNat cBADARG [] fun u => u.comb = s.comb :=
  .of_reply h (exec_regrd_bad (regSpan_bad hw)) rfl (by rw [State.taken_tenant]) (State.reply_work _ _ _ _ _ _).comb

/-- REGWR of a register that a write only stores. -/
theorem regwr_stores {p o : Nat} {d : RegDef} (v : Word) (hp : p ∈ storePages) (ho : o < 4096) (h4 : o % 4 = 0)
    (hk : regKind p o = some (.block d)) (hl : n.val = 0 → s.flag (PG_LOCK p) = false) (hj : s.judge (.behalf n) p o true = .ok) :
    Answers (.regwr n seq 1 [BitVec.ofNat 32 (p * 4096 + o), v]) s n.val 0x22 seq.toNat cOK [] fun u =>
      u.reg (p * 4096 + o) = d.write (s.reg (p * 4096 + o)) v ∧ u.comb = s.comb := by
  have hp' : p < 1024 ∧ p ≠ 0x142 := by
    have : ∀ p ∈ storePages, p < 1024 ∧ p ≠ 0x142 := by decide
    exact this p hp
  have hal : o / 4 * 4 = o := by omega
  obtain ⟨-, r, i, k, m, hr, hd⟩ := regKind_block hk
  have hw := State.busWrite_block (s := s.taken n.val seq.toNat) (via := .behalf n) (p := p) (o := o) (d := d) (whole := true) v
    (by simp) (by rw [hal]; exact hk)
  have hj' : (s.taken n.val seq.toNat).judge (.behalf n) p o true = .ok := hj
  rw [hal, hj', State.judgedWrite, State.writeBlock_store v _ _ hp, State.store_block v _ hr hd] at hw
  refine regwr_answers h (regSpan_word hp'.1 ho h4) hl hw rfl ⟨?_, (State.reply_work _ _ _ _ _ _).comb⟩
  rw [State.reply_reg _ _ _ _ _ _ (by omega)]
  exact State.reg_setReg_same _ _ _

/-- REGWR of SPI_WT, as the tenant or, for tenant 0 on a locked page, as the Warden. -/
theorem regwr_spiWt (v : Word)
    (hj : s.judge (if n.val = 0 ∧ s.flag (PG_LOCK 0x152) = true then .warden else .behalf n) 0x152 0x040 true = .ok) :
    Answers (.regwr n seq 1 [0x152040, v]) s n.val 0x22 seq.toNat cOK [] fun u => u.fget F.SPI_WT_T = v.toNat % 4096 ∧
      ∀ a, a / 4096 ≠ 0x142 → a ≠ F.SPI_WT_T.addr → u.reg a = s.reg a := by
  have hs : regSpan (0x152040 : Word).toNat 1 = some (0x152, 0x040) := by decide
  have hstored (via : Via) (t : State) (ht : t = (s.taken n.val seq.toNat).writeBlock via 0x152 0x040 v) :
      let u := t.reply n.val 0x22 seq.toNat cOK []
      u.fget F.SPI_WT_T = v.toNat % 4096 ∧ ∀ a, a / 4096 ≠ 0x142 → a ≠ F.SPI_WT_T.addr → u.reg a = s.reg a := by
    obtain ⟨hwt, hreg⟩ := (s.taken n.val seq.toNat).writeBlock_spiWt via v
    subst ht
    refine ⟨((State.reply_work _ _ _ _ _ _).fget _ fun hc => ?_).trans hwt, fun a ha hne => ?_⟩
    · exact absurd (page_of_queueCount hc).1 (by decide)
    · rw [State.reply_reg _ _ _ _ _ _ fun he => absurd he ha]
      exact hreg.2 a (by simpa using hne)
  have hwrite (via : Via) (hv : via ≠ .bar2) (hj : (s.taken n.val seq.toNat).judge via 0x152 0x040 true = .ok) :
      (s.taken n.val seq.toNat).busWrite via 0x152 0x040 v true = (s.taken n.val seq.toNat).writeBlock via 0x152 0x040 v := by
    have hw := State.busWrite_block (s := s.taken n.val seq.toNat) (o := 0x040) (whole := true) v hv regKind_spiWt
    exact hw.trans (congrArg _ hj)
  have htn (via : Via) : ((s.taken n.val seq.toNat).writeBlock via 0x152 0x040 v).tn = (s.taken n.val seq.toNat).tn :=
    (congrArg State.tn ((s.taken n.val seq.toNat).writeBlock_spiWt via v).2.1 :)
  by_cases hc : n.val = 0 ∧ s.flag (PG_LOCK 0x152) = true
  · rw [if_pos hc] at hj
    exact regwr_locked_answers h hs hc.1 hc.2 (by decide) (by decide) (hwrite .warden (by simp) hj) (htn _) (hstored _ _ rfl)
  · rw [if_neg hc] at hj
    have hl (h0 : n.val = 0) : s.flag (PG_LOCK 0x152) = false := Bool.eq_false_iff.mpr fun hf => hc ⟨h0, hf⟩
    exact regwr_answers h hs hl (hwrite (.behalf n) (by simp) hj) (htn _) (hstored _ _ rfl)

/-- REGWR of a page locked against the tenant: LOCKED, answered OK. -/
theorem regwr_lockedOut {w : Word} (v : Word) {d : RegDef} (h4 : w.toNat % 4 = 0) (hn : n.val ≠ 0) (hw : w.toNat < 2 ^ 22)
    (hp1 : s.domPowered 1 = true) (hb : s.boot.dead = false) (hl : s.flag (PG_LOCK (w.toNat / 4096)) = true)
    (hk : regKind (w.toNat / 4096) (w.toNat % 4096) = some (.block d)) :
    Answers (.regwr n seq 1 [w, v]) s n.val 0x22 seq.toNat cOK [] fun u =>
      u.flag (PG_FAULT (w.toNat / 4096) faultLOCKED) = true ∧
        ∀ a, a / 4096 ≠ 0x142 → a ≠ w.toNat / 4096 * 4096 + 0x020 → u.reg a = s.reg a := by
  have hs := regSpan_aligned h4
  have hpage : w.toNat / 4096 % 1024 = w.toNat / 4096 := by omega
  rw [hpage] at hs
  generalize w.toNat / 4096 = p at *
  have hal : w.toNat % 4096 / 4 * 4 = w.toNat % 4096 := by omega
  have hj := State.judge_locked (s := s.taken n.val seq.toNat) (via := .behalf n) (State.reachable_behalf n hp1 hb) hk rfl
    (State.mayWrite_locked n.val hl)
  have hwr := State.busWrite_block (s := s.taken n.val seq.toNat) (via := .behalf n) (p := p) (o := w.toNat % 4096) (d := d)
    (whole := true) v (by simp) (by rw [hal]; exact hk)
  rw [hal, hj, State.judgedWrite] at hwr
  have hwork := ((s.taken n.val seq.toNat).fault p faultLOCKED).reply_work n.val 0x22 seq.toNat cOK []
  refine regwr_answers h hs (fun h0 => absurd h0 hn) hwr rfl ⟨?_, fun a ha hne => ?_⟩
  · refine (hwork.flag _ fun hc => ?_).trans (State.flag_fault _ p (by decide))
    have ho := (page_of_queueCount hc).2
    simp only [PG_FAULT] at ho
    omega
  · rw [State.reply_reg _ _ _ _ _ _ fun he => absurd he ha]
    exact ((s.taken n.val seq.toNat).onlyRegs_fault p faultLOCKED).2 a (by simpa using hne)

end

/-- Settles O32: each command by the span it names, the read or write the fabric makes of it, and the reply. -/
theorem registerCommandsOfTenants : Obligations.RegisterCommandsOfTenants := by
  unfold Obligations.RegisterCommandsOfTenants
  intro s n seq arg0 h k q o sent up
  refine ⟨?pageId, ?uRx, ?block, ?stores, ?badArg, ?waits, ?spiWt, ?rights, ?lockedOut⟩
  case pageId => exact fun p hp hup hi => regrd_pageId h hup.1 hup.2 hp hi (regrd_sent h _)
  case uRx =>
    exact fun hup hd => regrd_uRx h hup.1 hup.2 hd ⟨regrd_sent h 0, (State.reply_work _ _ _ _ _ _).uarts⟩
  case block =>
    intro p o d hup hp ho hk h4 hd hf a hpop hdr hq
    exact regrd_block h hup.1 hup.2 hp ho hk h4 hd hf hpop hdr hq
  case stores => exact fun p o d v hp ho h4 hk hl hj => regwr_stores h v hp ho h4 hk hl hj
  case badArg => exact fun w hw => regrd_badArg h hw
  case waits => exact fun hup hd => regrd_waits hup.1 hup.2 hd
  case spiWt => exact fun v hj => regwr_spiWt h v hj
  case rights =>
    exact fun w v h4 hk hl hn => regwr_rights h (regSpan_aligned h4) hn hl hk fun a ha =>
      State.reply_reg _ _ _ _ _ _ fun he => absurd he ha
  case lockedOut => exact fun w v d h4 hn hw hup hl hk => regwr_lockedOut h v h4 hn hw hup.1 hup.2 hl hk

end Sys2Proof.Machine
end

section
/-! SUPPORT. Credits granted again and quench (16: R309, R310, R323): the queues keep their items. -/

namespace Sys2Proof.Machine

/-- From `s` to `t` only credits were granted: no tenant and no item differs, and of the registers PG_EVPEND of QUEUE at most (POOLLOW). -/
structure Regranted (s t : State) : Prop where
  regs : ∀ a, a ≠ 0x14101C → t.reg a = s.reg a
  tenants : t.tn.tenants = s.tn.tenants
  queues : ∀ j, { t.queue j with cred := 0 } = { s.queue j with cred := 0 }

namespace Regranted

variable {s t u : State}

theorem refl (s : State) : Regranted s s := ⟨fun _ _ => rfl, rfl, fun _ => rfl⟩

theorem trans (h : Regranted s t) (h' : Regranted t u) : Regranted s u where
  regs a ha := (h'.regs a ha).trans (h.regs a ha)
  tenants := h'.tenants.trans h.tenants
  queues j := (h'.queues j).trans (h.queues j)

theorem batch (h : Regranted s t) (j : Nat) : (t.queue j).batch = (s.queue j).batch := (congrArg Queue.batch (h.queues j) :)

theorem ready (h : Regranted s t) (j : Nat) : (t.queue j).ready = (s.queue j).ready := (congrArg Queue.ready (h.queues j) :)

theorem foldl {α : Type} {f : State → α → State} (l : List α) (h : ∀ s x, Regranted s (f s x)) (s : State) :
    Regranted s (l.foldl f s) :=
  List.foldlRecOn (motive := Regranted s) l f (refl s) fun t ht x _ => ht.trans (h t x)

theorem credit (s : State) (i n : Nat) : Regranted s (s.putQueue i { s.queue i with cred := n }) where
  regs _ _ := rfl
  tenants := rfl
  queues j := by
    rw [State.queue_putQueue]
    split
    · next hj => rw [hj]
    · rfl

theorem poolCheck (s : State) (n : Nat) : Regranted s (s.poolCheck n) := by
  unfold State.poolCheck State.when
  split
  · have htn : (s.evRise 0x141 1).tn = s.tn := s.evRise_tn _ _
    exact ⟨fun a ha => State.reg_evRise_other s _ _ ha, by rw [htn], fun j => by unfold State.queue; rw [htn]⟩
  · exact refl s

theorem tenantMsix (s : State) (k b a : Nat) : Regranted s (s.tenantMsix k b a) := by
  have hr := s.tenantMsix_rest k b a
  have htn := s.tenantMsix_tn k b a
  have hregs : (s.tenantMsix k b a).regs = s.regs := (congrArg State.regs hr :)
  exact ⟨fun a _ => by unfold State.reg; rw [hregs], by rw [htn], fun j => by unfold State.queue; rw [htn]⟩

theorem grantQ (s : State) (i : Nat) : Regranted s (s.grantQ i) := by
  unfold State.grantQ
  split
  · dsimp only
    split
    · exact ((credit s i _).trans (poolCheck _ _)).trans (tenantMsix _ _ _ _)
    · exact (credit s i _).trans (poolCheck _ _)
  · exact refl s

theorem regrant (s : State) : Regranted s s.regrant := foldl _ grantQ s

end Regranted

-- what a quench gives up

section
variable (s : State) (k i : Nat)

theorem State.discardBatch_eq : ∃ t, s.discardBatch i = t ∧ Regranted (s.putQueue i { s.queue i with batch := none }) t :=
  ⟨_, rfl, .regrant _⟩

theorem State.discardReady_eq : ∃ t, s.discardReady i = t ∧ Regranted (s.putQueue i { s.queue i with ready := [] }) t :=
  ⟨_, rfl, .regrant _⟩

/-- The tenant quenched and its open batch given up, with DISCARD its readable messages too: a quench but for its event. -/
def State.silenced (s : State) (k : Nat) (discard : Bool) : State :=
  ((s.updTenant k fun x => { x with q := true }).discardBatch (2 * k + 1)).when discard (·.discardReady (2 * k + 1))

theorem State.quenchOn_eq (discard : Bool) : s.quenchOn k discard = (s.silenced k discard).evRise 0x140 4 := rfl

/-- What stands of a quenched tenant's output. -/
theorem State.silenced_holds (discard : Bool) :
    (∀ a, a ≠ 0x14101C → (s.silenced k discard).reg a = s.reg a) ∧ ((s.silenced k discard).tenant k).q = true ∧
    ((s.silenced k discard).queue (2 * k + 1)).batch = none ∧
    (discard = true → ((s.silenced k discard).queue (2 * k + 1)).ready = []) := by
  obtain ⟨t, ht, hg⟩ := (s.updTenant k fun x => { x with q := true }).discardBatch_eq (2 * k + 1)
  have hq : (t.tenant k).q = true := by
    rw [State.tenant_congr hg.tenants]
    exact congrArg Tenant.q (s.tenant_updTenant_same k fun x => { x with q := true })
  have hb : (t.queue (2 * k + 1)).batch = none := by
    rw [hg.batch, State.queue_putQueue_same]
  unfold State.silenced State.when
  rw [ht]
  cases discard with
  | false => exact ⟨hg.regs, hq, hb, nofun⟩
  | true =>
    obtain ⟨u, hu, hg'⟩ := t.discardReady_eq (2 * k + 1)
    simp only [if_true, hu]
    refine ⟨fun a ha => (hg'.regs a ha).trans (hg.regs a ha), ?_, ?_, fun _ => ?_⟩
    · rw [State.tenant_congr hg'.tenants]; exact hq
    · rw [hg'.batch, State.queue_putQueue_same]; exact hb
    · rw [hg'.ready, State.queue_putQueue_same]

/-- A quench of one tenant (R323): it is marked, its open batch goes, with DISCARD its readable messages, and QUENCH rises. -/
theorem State.quenchOn_holds (discard : Bool) :
    ((s.quenchOn k discard).tenant k).q = true ∧ ((s.quenchOn k discard).queue (2 * k + 1)).batch = none ∧
    (discard = true → ((s.quenchOn k discard).queue (2 * k + 1)).ready = []) ∧ Rises s (s.quenchOn k discard) 0x140 4 ∧
    ∀ a, a ≠ 0x14101C → a ≠ 0x14001C → (s.quenchOn k discard).reg a = s.reg a := by
  obtain ⟨hregs, hq, hb, hr⟩ := s.silenced_holds k discard
  have htn := (s.silenced k discard).evRise_tn 0x140 4
  have htenant : ((s.silenced k discard).evRise 0x140 4).tenant k = (s.silenced k discard).tenant k :=
    State.tenant_congr (congrArg TnSt.tenants htn) k
  have hqueue : ((s.silenced k discard).evRise 0x140 4).queue (2 * k + 1) = (s.silenced k discard).queue (2 * k + 1) :=
    State.queue_congr (congrArg TnSt.queues htn) _
  rw [s.quenchOn_eq]
  refine ⟨by rw [htenant]; exact hq, by rw [hqueue]; exact hb, by rw [hqueue]; exact hr, fun he => ?_, fun a ha ha' => ?_⟩
  · exact State.rises_evRise _ _ _ (by decide) ((State.flag_congr (hregs _ (by decide))).trans he)
  · exact (State.reg_evRise_other _ _ _ ha').trans (hregs a ha)

/-- QUENCH of a tenant that is not FREE. -/
theorem State.quench_one (on discard : Bool) (hf : (s.tenant k).state ≠ .free) :
    s.quench on discard false k = if on then s.quenchOn k discard else s.quenchOff k := by
  simp [State.quench, hf]

theorem State.quenchOff_q : ((s.quenchOff k).tenant k).q = false :=
  congrArg Tenant.q (s.tenant_updTenant_same k fun x => { x with q := false })

end

end Sys2Proof.Machine
end

section
/-! USB control requests (17: R339, R340): what each leaves of a held write, and what it does. -/

namespace Sys2Proof.Machine

-- a new SETUP (R340)

/-- A discarded write is counted in DISC. -/
def DiscCounted (s t : State) : Prop := s.usb.held ≠ none → t.fget F.USB_CNT_DISC = satInc 16 (s.fget F.USB_CNT_DISC)

/-- Of the registers, USB_CNT at most differs. -/
def OnlyDisc (s t : State) : Prop := ∀ a, a ≠ F.USB_CNT_DISC.addr → t.reg a = s.reg a

/-- From `s` to `t` a new SETUP came: what was held is gone, and counted in DISC. -/
structure UsbSetup (s t : State) : Prop where
  disc : DiscCounted s t
  only : OnlyDisc s t
  usb : t.usb = { s.usb with held := none, stall := false }
  rest : { t with usb := s.usb, regs := s.regs } = s

section
variable (s : State)

theorem State.usbDiscard_none (h : s.usb.held = none) : s.usbDiscard = s := by simp [State.usbDiscard, h]

theorem State.usbDiscard_some (h : s.usb.held ≠ none) :
    s.usbDiscard = ({ s with usb.held := none } : State).finc F.USB_CNT_DISC := by
  obtain ⟨x, hx⟩ := Option.ne_none_iff_exists'.mp h
  simp [State.usbDiscard, hx]

theorem State.usbRequest_setup : UsbSetup s s.usbRequest := by
  unfold State.usbRequest
  by_cases h : s.usb.held = none
  · rw [s.usbDiscard_none h]
    exact ⟨fun h' => absurd h h', fun _ _ => rfl, by rw [← h], rfl⟩
  · rw [s.usbDiscard_some h]
    exact ⟨fun _ => State.finc_fget { s with usb.held := none } F.USB_CNT_DISC (by decide),
      fun a ha => State.reg_fput_other _ _ _ ha, rfl, rfl⟩

end

section
variable {s t : State} (h : UsbSetup s t)
include h

theorem UsbSetup.tn : t.tn = s.tn := (congrArg State.tn h.rest :)

theorem UsbSetup.tenant (k : Nat) : t.tenant k = s.tenant k := State.tenant_congr (congrArg TnSt.tenants h.tn) k

/-- A SETUP touches no register the fabric judges an access by. -/
theorem UsbSetup.fabric (a : Nat) (ha : FabricReg a) : t.reg a = s.reg a :=
  h.only a fun e => by subst e; simp [FabricReg, F.USB_CNT_DISC, F.PCIE_LINK_UP, F.USB_STAT_VBUS, F.SPI_WT_T] at ha

theorem UsbSetup.boot : t.boot = s.boot := (congrArg State.boot h.rest :)

end

-- the port

theorem State.usbUp_vbus {s : State} (h : s.usbUp = true) : s.flag F.USB_STAT_VBUS = true := by
  simp only [State.usbUp, Bool.and_eq_true] at h
  exact h.2

theorem State.usbUp_alive {s : State} (h : s.usbUp = true) : s.boot.dead = false := by
  simp only [State.usbUp, State.portsOn, Bool.and_eq_true, Bool.not_eq_true'] at h
  exact h.1.2

/-- The USB port, up, reaches the fabric. -/
theorem State.usbUp_reaches {s : State} (h : s.usbUp = true) (h1 : s.domPowered 1 = true) (n : Fin 4096) (p : Nat) :
    s.unreachable (.usb n) p = false := by
  unfold State.unreachable
  rw [State.usbUp_alive h, h1, State.usbUp_vbus h]
  rfl

theorem State.busReads_length (s : State) (via : Via) (p o n : Nat) : (s.busReads via p o n).1.length = n := by
  induction n generalizing s p o with
  | zero => rfl
  | succ n ih => exact congrArg (· + 1) (ih _ _ _)

/-- A register with a row of its own is a block register. -/
theorem regKind_of_regAt {p o : Nat} {d : RegDef} (h : RegAt p o d) (ha : absentReg p o = false) (ho : 0x030 ≤ o) :
    regKind p o = some (.block d) := by
  obtain ⟨r, i, j, k, hp, hr⟩ := h
  simp [regKind, hp, ha, Nat.not_lt.mpr ho, hr]

-- with the port down

theorem usbControl_down {s : State} (h : s.usbUp = false) (page : Fin 1024) (off : BitVec 12) (t v : Half) (ws : List Word) (b : List Byte) :
    ∀ c ∈ [Instr.usbRegwr page off t ws, .usbRegwrCommit, .usbQuench v t, .usbOpen b, .openrd, .qstat t, .usbRegrd page off 1],
      exec c s = .next s := by
  have hd : ¬ s.usbUp = true := by rw [h]; exact Bool.false_ne_true
  have hx (x : State) : (if ¬ s.usbUp = true then s else x) = s := if_pos hd
  simp only [List.forall_mem_cons, List.not_mem_nil, false_imp_iff, implies_true, and_true]
  exact ⟨congrArg _ (hx _), congrArg _ (hx _), congrArg _ (hx _), congrArg _ (hx _), congrArg _ (hx _), congrArg _ (hx _), congrArg _ (hx _)⟩

-- with the port up

section
variable {s : State} (hup : s.usbUp = true)
include hup

theorem State.usbUp_if (x : State) : (if ¬ s.usbUp = true then s else x) = x := if_neg (not_not_intro hup)

-- REGWR and its commit

section
variable {page : Fin 1024} {off : BitVec 12} {t : Half} {ws : List Word}

theorem exec_usbRegwr_held (h : off.toNat % 4 = 0 ∧ ws ≠ [] ∧ ws.length ≤ 64 ∧ t.toNat < 4096) :
    exec (.usbRegwr page off t ws) s = .next { s.usbRequest with usb.held := some (page.val, off.toNat, t.toNat, ws) } := by
  obtain ⟨h4, hne, hlen, ht⟩ := h
  have hpos := List.length_pos_iff.mpr hne
  have hin : ¬ (off.toNat % 4 ≠ 0 ∨ ws.length = 0 ∨ 64 < ws.length ∨ 4096 ≤ t.toNat) := by omega
  exact congrArg _ ((State.usbUp_if hup _).trans (if_neg hin))

theorem exec_usbRegwr_stalls (h : ¬ (off.toNat % 4 = 0 ∧ ws ≠ [] ∧ ws.length ≤ 64 ∧ t.toNat < 4096)) :
    exec (.usbRegwr page off t ws) s = .next s.usbRequest.usbStall := by
  have hout : off.toNat % 4 ≠ 0 ∨ ws.length = 0 ∨ 64 < ws.length ∨ 4096 ≤ t.toNat := by
    rw [ne_eq, ← List.length_eq_zero_iff] at h
    omega
  exact congrArg _ ((State.usbUp_if hup _).trans (if_pos hout))

theorem usbRegwr_holds : Completes (.usbRegwr page off t ws) s fun u =>
    DiscCounted s u ∧ OnlyDisc s u ∧ u.tn = s.tn ∧ u.comb = s.comb ∧
    (off.toNat % 4 = 0 ∧ ws ≠ [] ∧ ws.length ≤ 64 ∧ t.toNat < 4096 →
      u.usb.held = some (page.val, off.toNat, t.toNat, ws) ∧ u.usb.stall = false) ∧
    (¬ (off.toNat % 4 = 0 ∧ ws ≠ [] ∧ ws.length ≤ 64 ∧ t.toNat < 4096) → u.usb.held = none ∧ u.usb.stall = true) := by
  have h := s.usbRequest_setup
  have hcomb : s.usbRequest.comb = s.comb := (congrArg State.comb h.rest :)
  by_cases hg : off.toNat % 4 = 0 ∧ ws ≠ [] ∧ ws.length ≤ 64 ∧ t.toNat < 4096
  · exact .of_exec (exec_usbRegwr_held hup hg)
      ⟨h.disc, h.only, h.tn, hcomb, fun _ => ⟨rfl, (congrArg UsbSt.stall h.usb :)⟩, fun hn => absurd hg hn⟩
  · exact .of_exec (exec_usbRegwr_stalls hup hg)
      ⟨h.disc, h.only, h.tn, hcomb, fun hy => absurd hy hg, fun _ => ⟨(congrArg UsbSt.held h.usb :), rfl⟩⟩

end

omit hup in
theorem exec_usbRegwrCommit_none (h : s.usb.held = none) : exec .usbRegwrCommit s = .next s := by
  show execUsbRegwrCommit s = _
  simp [execUsbRegwrCommit, h]

theorem exec_usbRegwrCommit {p o : Nat} {n : Fin 4096} {ws : List Word} (h : s.usb.held = some (p, o, n.val, ws)) :
    exec .usbRegwrCommit s = .next (({ s with usb.held := none } : State).busWrites (.usb n) p o ws) := by
  have hn : (⟨n.val % 4096, Nat.mod_lt _ (by decide)⟩ : Fin 4096) = n := Fin.ext (Nat.mod_eq_of_lt n.isLt)
  refine congrArg _ ((State.usbUp_if hup _).trans ?_)
  simp only [h, hn]

/-- The commit of one word is a register write as its write tenant. -/
theorem exec_usbRegwrCommit_one {page : Fin 1024} {off : BitVec 12} {n : Fin 4096} {w : Word}
    (h : s.usb.held = some (page.val, off.toNat, n.val, [w])) :
    exec .usbRegwrCommit s = exec (.registerWrite (.usb n) page off w 15) { s with usb.held := none } := 
  (exec_usbRegwrCommit hup h).trans (exec_write _ (.usb n) page off w 15).symm

theorem usbRegwrCommit_wdog {n : Fin 4096} {w : Word} (h : s.usb.held = some (0x002, 0x048, n.val, [w]))
    (hj : s.judge (.usb n) 0x002 0x048 true = .ok) :
    Completes .usbRegwrCommit s fun u => u.fget F.RST_WDOG_PERIOD = w.toNat % 2 ^ 16 ∧ u.usb.held = none ∧
      OnlyRegs s { u with usb := s.usb } [0x002048] := by
  have hj' : ({ s with usb.held := none } : State).judge (.usb n) 0x002 0x048 true = .ok := hj
  obtain ⟨u, hu, hp, ho, hreg⟩ := wdogPeriod_written w (by simp) hj'
  exact .of_exec ((exec_usbRegwrCommit_one (page := 0x002) (off := 0x048) hup h).trans hu)
    ⟨hp, (congrArg (fun x : State => x.usb.held) ho :), (congrArg (fun x : State => { x with usb := s.usb }) ho :), hreg⟩

-- QUENCH, OPEN, OPENRD, QSTAT

section
variable {t v : Half} {b : List Byte}

theorem usbQuench_stalls (h : 8 ≤ v.toNat ∨ 4096 ≤ t.toNat) : exec (.usbQuench v t) s = .next s.usbRequest.usbStall :=
  congrArg _ ((State.usbUp_if hup _).trans (if_pos h))

theorem exec_usbQuench (hv : v.toNat < 8) (ht : t.toNat < 4096) : exec (.usbQuench v t) s =
    .next (s.usbRequest.quench (v.getLsbD 0) (v.getLsbD 1) (v.getLsbD 2) t.toNat) :=
  congrArg _ ((State.usbUp_if hup _).trans (if_neg (by omega)))

/-- QUENCH of one tenant sets or clears its flag (R323). -/
theorem usbQuench_one (hv : v.toNat < 8) (ht : t.toNat < 4096) (hall : v.getLsbD 2 = false) (hf : (s.tenant t.toNat).state ≠ .free) :
    Completes (.usbQuench v t) s fun u =>
      DiscCounted s u ∧ (u.tenant t.toNat).q = v.getLsbD 0 ∧
      (v.getLsbD 0 = true → Rises s u 0x140 4 ∧ (u.queue (2 * t.toNat + 1)).batch = none ∧
        (v.getLsbD 1 = true → (u.queue (2 * t.toNat + 1)).ready = [])) := by
  have h := s.usbRequest_setup
  have hx := exec_usbQuench hup hv ht
  rw [hall, State.quench_one _ _ _ _ (by rw [h.tenant]; exact hf)] at hx
  cases h0 : v.getLsbD 0 with
  | false =>
    rw [h0] at hx
    exact .of_exec hx ⟨h.disc, State.quenchOff_q _ _, nofun⟩
  | true =>
    rw [h0] at hx
    obtain ⟨hq, hb, hr, hev, hregs⟩ := s.usbRequest.quenchOn_holds t.toNat (v.getLsbD 1)
    refine .of_exec hx ⟨fun hh => ?_, hq, fun _ => ⟨fun he => hev ?_, hb, hr⟩⟩
    · exact (State.fget_congr (hregs _ (by decide) (by decide))).trans (h.disc hh)
    · exact (State.flag_congr (h.only _ (by decide))).trans he

theorem usbOpen_holds : Completes (.usbOpen b) s fun u =>
    DiscCounted s u ∧ OnlyDisc s u ∧
    (b.length ≤ 128 → frameOk b = true → frameOp b = some 1 → u.tn.openIn = s.tn.openIn ++ [(.usb, 0, b)]) ∧
    ((128 < b.length ∨ frameOk b = false ∨ frameOp b ≠ some 1) → u.tn = s.tn) := by
  have h := s.usbRequest_setup
  have hexec {x : State} (hx : (if 128 < b.length then s.usbRequest.usbStall
      else if ¬ frameOk b = true ∨ frameOp b ≠ some 0x0001 then s.usbRequest
      else { s.usbRequest with tn.openIn := s.usbRequest.tn.openIn ++ [(.usb, 0, b)] }) = x) : exec (.usbOpen b) s = .next x :=
    congrArg _ ((State.usbUp_if hup _).trans hx)
  by_cases hlen : 128 < b.length
  · exact .of_exec (hexec (if_pos hlen)) ⟨h.disc, h.only, fun hl => absurd hlen (by omega), fun _ => h.tn⟩
  · by_cases hbad : ¬ frameOk b = true ∨ frameOp b ≠ some 0x0001
    · refine .of_exec (hexec ((if_neg hlen).trans (if_pos hbad))) ⟨h.disc, h.only, fun _ hok hop => ?_, fun _ => h.tn⟩
      exact hbad.elim (absurd hok) (absurd hop)
    · refine .of_exec (hexec ((if_neg hlen).trans (if_neg hbad))) ⟨h.disc, h.only, fun _ _ _ => ?_, fun hb => ?_⟩
      · rw [h.tn]
      · rw [← Bool.not_eq_true] at hb
        exact absurd (hb.resolve_left hlen) hbad

theorem exec_openrd : exec .openrd s =
    .next { s.usbRequest with usb.reply := [], out := s.usb.reply.map (fun (x : Byte) => x.zeroExtend 32) } :=
  congrArg Host.Outcome.next (State.usbUp_if hup _)

theorem openrd_holds : Completes .openrd s fun u =>
    DiscCounted s u ∧ OnlyDisc s u ∧ u.usb.reply = [] ∧ u.tn = s.tn ∧
    u.out = s.usb.reply.map (fun (x : Byte) => x.zeroExtend 32) :=
  have h := s.usbRequest_setup
  .of_exec (exec_openrd hup) ⟨h.disc, h.only, rfl, h.tn, rfl⟩

theorem exec_qstat (ht : t.toNat < 4096) : exec (.qstat t) s = .next { s.usbRequest with out := [s.usbRequest.qstat t.toNat] } :=
  congrArg Host.Outcome.next ((State.usbUp_if hup _).trans (if_neg (Nat.not_le.mpr ht)))

theorem qstat_holds (ht : t.toNat < 4096) : Completes (.qstat t) s fun u =>
    DiscCounted s u ∧ OnlyDisc s u ∧ u.tn = s.tn ∧
    u.out = [BitVec.ofNat 32 (min 0xFFFF (s.queue (2 * t.toNat + 1)).pkt * 65536 + min 0xFFFF (s.queue (2 * t.toNat)).cred)] := by
  have h := s.usbRequest_setup
  have hq := State.queue_congr (congrArg TnSt.queues h.tn)
  refine .of_exec (exec_qstat hup ht) ⟨h.disc, h.only, h.tn, ?_⟩
  show [s.usbRequest.qstat t.toNat] = _
  rw [State.qstat, hq, hq]

end

-- REGRD

section
variable {page : Fin 1024} {off : BitVec 12} {k : Nat}

theorem exec_usbRegrd (h4 : off.toNat % 4 = 0) (h1 : 1 ≤ k) (h64 : k ≤ 64) (hh : s.readHeld (.usb 0) page.val off.toNat k = false) :
    exec (.usbRegrd page off k) s = .next { (s.usbRequest.busReads (.usb 0) page.val off.toNat k).2 with
      out := (s.usbRequest.busReads (.usb 0) page.val off.toNat k).1 } := by
  have h := s.usbRequest_setup
  have hheld : ¬ s.usbRequest.readHeld (.usb 0) page.val off.toNat k = true := by
    rw [State.readHeld_congr h.fabric h.boot, hh]
    exact Bool.false_ne_true
  have hin : ¬ (off.toNat % 4 ≠ 0 ∨ k = 0 ∨ 64 < k) := by omega
  exact congrArg _ ((State.usbUp_if hup _).trans ((if_neg hin).trans (if_neg hheld)))

theorem exec_usbRegrd_held (h4 : off.toNat % 4 = 0) (h1 : 1 ≤ k) (h64 : k ≤ 64) (hh : s.readHeld (.usb 0) page.val off.toNat k = true) :
    exec (.usbRegrd page off k) s = .next { s.usbRequest with
      pwr.held := s.usbRequest.pwr.held ++ [(pageDom page.val, .usbRegrd page off k)] } := by
  have h := s.usbRequest_setup
  have hheld : s.usbRequest.readHeld (.usb 0) page.val off.toNat k = true := by
    rw [State.readHeld_congr h.fabric h.boot, hh]
  have hin : ¬ (off.toNat % 4 ≠ 0 ∨ k = 0 ∨ 64 < k) := by omega
  exact congrArg _ ((State.usbUp_if hup _).trans ((if_neg hin).trans (if_pos hheld)))

theorem exec_usbRegrd_stalls (hk : off.toNat % 4 ≠ 0 ∨ k = 0 ∨ 64 < k) : exec (.usbRegrd page off k) s = .next s.usbRequest.usbStall :=
  congrArg Host.Outcome.next ((State.usbUp_if hup _).trans (if_pos hk))

theorem usbRegrd_stalls (hk : off.toNat % 4 ≠ 0 ∨ k = 0 ∨ 64 < k) : Completes (.usbRegrd page off k) s fun u =>
    DiscCounted s u ∧ OnlyDisc s u ∧ u.usb.stall = true ∧ u.out = s.out :=
  have h := s.usbRequest_setup
  .of_exec (exec_usbRegrd_stalls hup hk) ⟨h.disc, h.only, rfl, (congrArg State.out h.rest :)⟩

/-- REGRD of one register whose read changes no register. -/
theorem usbRegrd_one {w : Word} {u : State} {P : State → Prop} (h4 : off.toNat % 4 = 0)
    (hh : s.readHeld (.usb 0) page.val off.toNat 1 = false) (hr : s.usbRequest.busRead (.usb 0) page.val off.toNat = (w, u))
    (hP : P { u with out := [w] }) : Completes (.usbRegrd page off 1) s P := by
  have hx := exec_usbRegrd hup h4 (le_refl 1) (by decide) hh
  rw [State.busReads_one, hr] at hx
  exact .of_exec hx hP

theorem usbRegrd_block {d : RegDef} (hd : RegAt page.val off.toNat d) (h4 : off.toNat % 4 = 0) (h40 : 0x040 ≤ off.toNat)
    (hp1 : s.domPowered 1 = true) (hon : s.domState (pageDom page.val) = dON) (hf : s.flag (PG_FREEZE page.val) = false)
    (ha : absentReg page.val off.toNat = false) (hpop : popping (page.val * 4096 + off.toNat) = false)
    (hdr : drawnReg (page.val * 4096 + off.toNat) = false) (hq : page.val * 4096 + off.toNat ≠ F.Q_NEXTIN_T.addr) :
    Completes (.usbRegrd page off 1) s fun u =>
      DiscCounted s u ∧ OnlyDisc s u ∧
      u.out = [s.usbRequest.view (viaReader (.usb 0)) (page.val * 4096 + off.toNat)] := by
  have h := s.usbRequest_setup
  have hal : off.toNat / 4 * 4 = off.toNat := by omega
  have hdiv : (page.val * 4096 + off.toNat) / 4096 = page.val := by have := off.isLt; omega
  have hread := State.busRead_live (s := s.usbRequest) (via := .usb 0) (p := page.val) (o := off.toNat) (d := d)
    (by rw [State.unreachable_congr h.fabric h.boot]; exact State.usbUp_reaches hup hp1 0 _)
    (by rw [hal]; exact regKind_of_regAt hd ha (by omega))
    (by rw [State.powered_congr h.fabric]; exact State.powered_of_on hon)
    (by rw [hal]; exact hpop) (by rw [hal]; exact hdr) (by rw [hal]; exact hq)
    (by rw [hal, hdiv, State.flag_congr (h.only _ (by simp only [PG_FREEZE, pgCtl, F.USB_CNT_DISC]; omega))]; exact hf)
  rw [hal] at hread
  obtain ⟨l, hl⟩ := s.usbRequest.readLatch_eq (viaReader (.usb 0)) (page.val * 4096 + off.toNat)
  rw [hl] at hread
  exact usbRegrd_one hup h4 (State.not_held_of_on hon 1) hread ⟨h.disc, h.only, rfl⟩

theorem usbRegrd_uRx (hp1 : s.domPowered 1 = true) (hd : s.domState 2 = dON) : Completes (.usbRegrd 0x158 0x058 1) s fun u =>
    DiscCounted s u ∧ OnlyDisc s u ∧ u.out = [0] ∧ u.uarts = s.uarts := by
  have h := s.usbRequest_setup
  have hu : s.usbRequest.unreachable (.usb 0) 0x158 = false := by
    rw [State.unreachable_congr h.fabric h.boot]; exact State.usbUp_reaches hup hp1 0 _
  have hread := State.busRead_uRx hu (by rw [State.domState_congr h.fabric (by decide)]; exact hd) rfl
  exact usbRegrd_one (page := 0x158) (off := 0x058) hup rfl (State.not_held_of_on (by rw [← hd]; exact congrArg _ pageDom_uart) 1) hread
    ⟨h.disc, h.only, rfl, (congrArg State.uarts h.rest :)⟩

theorem usbRegrd_waits (hp1 : s.domPowered 1 = true) (hd : s.domState 2 = dENTRY) : Completes (.usbRegrd 0x158 0x058 1) s fun u =>
    DiscCounted s u ∧ OnlyDisc s u ∧ u.pwr.held = s.pwr.held ++ [(2, .usbRegrd 0x158 0x058 1)] := by
  have h := s.usbRequest_setup
  have hheld := State.readHeld_uRx (State.usbUp_reaches hup hp1 0 _) hd
  refine .of_exec (exec_usbRegrd_held (page := 0x158) (off := 0x058) hup rfl (le_refl 1) (by decide) hheld) ⟨h.disc, h.only, ?_⟩
  have hpwr : s.usbRequest.pwr = s.pwr := (congrArg State.pwr h.rest :)
  show s.usbRequest.pwr.held ++ [(pageDom 0x158, _)] = _
  rw [pageDom_uart, hpwr]

end

end

/-- Settles O25: each request from what its SETUP discards and what it does then. -/
theorem usbControlRequestsCommitOrDiscard : Obligations.UsbControlRequestsCommitOrDiscard := by
  unfold Obligations.UsbControlRequestsCommitOrDiscard
  intro s page off t v ws b disc only
  refine ⟨fun hd => usbControl_down hd page off t v ws b, fun hup => ⟨?regwr, ?one, ?many, ?wdog, ?none, ?quenchBad, ?quench, ?opening, ?openrd,
    ?qstat, ?regrd, ?regrdBad, ?block, ?uRx, ?waits⟩⟩
  case regwr => exact usbRegwr_holds hup
  case one => exact fun w n h => exec_usbRegwrCommit_one hup h
  case many => exact fun n vs h => .of_exec (exec_usbRegwrCommit hup h) rfl
  case wdog => exact fun n w h hj => usbRegwrCommit_wdog hup h hj
  case none => exact exec_usbRegwrCommit_none
  case quenchBad =>
    have h := s.usbRequest_setup
    exact fun hbad => .of_exec (usbQuench_stalls hup hbad) ⟨h.disc, h.only, rfl, h.tn⟩
  case quench => exact fun hv ht hall hf => usbQuench_one hup hv ht hall hf
  case opening => exact usbOpen_holds hup
  case openrd => exact openrd_holds hup
  case qstat => exact fun ht => qstat_holds hup ht
  case regrd => exact fun k h4 h1 h64 hh => .of_exec (exec_usbRegrd hup h4 h1 h64 hh) ⟨rfl, State.busReads_length _ _ _ _ _⟩
  case regrdBad => exact fun k hk => usbRegrd_stalls hup hk
  case block =>
    intro d hd h4 h40 hp1 _ hon hf ha a hpop hdr hq
    exact usbRegrd_block hup hd h4 h40 hp1 hon hf ha hpop hdr hq
  case uRx => exact fun hp1 hd => usbRegrd_uRx hup hp1 hd
  case waits => exact fun hp1 hd => usbRegrd_waits hup hp1 hd

end Sys2Proof.Machine
end

section
/-! SUPPORT. Items (16: R305, R306): the bytes a frame's items carry, and END on the last of them. -/

namespace Sys2Proof.Machine

-- numbers of bytes

theorem ofLe_lt (l : List Byte) : ofLe l < 256 ^ l.length := by
  induction l with
  | nil => simp [ofLe]
  | cons b r ih =>
    have hb := b.isLt
    rw [ofLe, List.length_cons, pow_succ]
    omega

theorem leBytes_ofLe (l : List Byte) : leBytes l.length (ofLe l) = l := by
  induction l with
  | nil => rfl
  | cons b r ih =>
    have hb := b.isLt
    have hdiv : (b.toNat + 256 * ofLe r) / 256 = ofLe r := by omega
    have hmod : BitVec.ofNat 8 (b.toNat + 256 * ofLe r) = b := BitVec.eq_of_toNat_eq (by simp; omega)
    rw [List.length_cons, ofLe, leBytes, hdiv, hmod, ih]

-- pieces

section
variable {α : Type} {n : Nat}

theorem pieces_flatten (hn : 0 < n) (k : Nat) (l : List α) (h : l.length ≤ k) : (pieces n k l).flatten = l := by
  induction k generalizing l with
  | zero => rw [List.length_eq_zero_iff.mp (Nat.le_zero.mp h)]; rfl
  | succ k ih =>
    cases l with
    | nil => rfl
    | cons a r =>
      rw [pieces, List.flatten_cons, ih _ (by rw [List.length_drop]; omega), List.take_append_drop]
      exact nofun

theorem length_le_of_mem_pieces (k : Nat) (l c : List α) (hc : c ∈ pieces n k l) : c.length ≤ n := by
  induction k generalizing l with
  | zero => cases hc
  | succ k ih =>
    cases l with
    | nil => cases hc
    | cons a r =>
      rw [pieces] at hc
      · rcases List.mem_cons.mp hc with rfl | hc
        · exact List.length_take_le _ _
        · exact ih _ hc
      · exact nofun

theorem chunks_flatten (hn : 0 < n) (l : List α) : (chunks n l).flatten = l := pieces_flatten hn _ l (le_refl _)

theorem chunks_ne_nil (hn : 0 < n) {l : List α} (h : l ≠ []) : chunks n l ≠ [] := fun hc =>
  h (by rw [← chunks_flatten hn l, hc]; rfl)

end

-- items

section
variable {pri : Nat} {last : Bool} {bs : List Byte}

theorem mkItem_toNat (hp : pri < 4) (hb : bs.length ≤ 7) :
    (mkItem pri last bs).toNat = pri * 2 ^ 62 + (if last then 2 ^ 61 else 0) + bs.length * 2 ^ 56 + ofLe bs ∧ ofLe bs < 2 ^ 56 := by
  have hl : ofLe bs < 2 ^ 56 := lt_of_lt_of_le (ofLe_lt bs) (Nat.pow_le_pow_right (by decide) hb : (256 : Nat) ^ bs.length ≤ 256 ^ 7)
  refine ⟨?_, hl⟩
  rw [mkItem, BitVec.toNat_ofNat]
  cases last <;> simp only [Bool.false_eq_true, if_false, if_true] <;> omega

theorem itemBytes_mkItem (hp : pri < 4) (hb : bs.length ≤ 7) : itemBytes (mkItem pri last bs) = bs := by
  obtain ⟨ht, hl⟩ := mkItem_toNat (last := last) hp hb
  have hnb : itemNB (mkItem pri last bs) = bs.length := by
    rw [itemNB, ht]
    cases last <;> simp only [Bool.false_eq_true, if_false, if_true] <;> omega
  have hval : (mkItem pri last bs).toNat % 2 ^ 56 = ofLe bs := by
    rw [ht]
    cases last <;> simp only [Bool.false_eq_true, if_false, if_true] <;> omega
  rw [itemBytes, hnb, hval, leBytes_ofLe]

theorem itemEnd_mkItem (hp : pri < 4) (hb : bs.length ≤ 7) : itemEnd (mkItem pri last bs) = last := by
  obtain ⟨ht, hl⟩ := mkItem_toNat (last := last) hp hb
  rw [itemEnd, ← BitVec.testBit_toNat, Nat.testBit_eq_decide_div_mod_eq, ht]
  cases last <;> simp only [Bool.false_eq_true, if_false, if_true, decide_eq_true_eq, decide_eq_false_iff_not] <;> omega

/-- The items marked from pieces: END on the last alone. -/
theorem markLast_split (hp : pri < 4) {cs : List (List Byte)} (hne : cs ≠ []) (hc : ∀ c ∈ cs, c.length ≤ 7) :
    ∃ xs x, markLast pri cs = xs ++ [x] ∧ (∀ y ∈ xs, itemEnd y = false) ∧ itemEnd x = true := by
  induction cs with
  | nil => exact absurd rfl hne
  | cons c r ih =>
    obtain ⟨hc0, hr⟩ := List.forall_mem_cons.mp hc
    cases r with
    | nil => exact ⟨[], mkItem pri true c, rfl, by simp, itemEnd_mkItem hp hc0⟩
    | cons d r =>
      obtain ⟨xs, x, hm, hx, he⟩ := ih (List.cons_ne_nil d r) hr
      exact ⟨mkItem pri false c :: xs, x, by rw [markLast, hm, List.cons_append]; exact nofun,
        List.forall_mem_cons.mpr ⟨itemEnd_mkItem hp hc0, hx⟩, he⟩

theorem msgBytes_markLast (hp : pri < 4) {cs : List (List Byte)} (hc : ∀ c ∈ cs, c.length ≤ 7) : msgBytes (markLast pri cs) = cs.flatten := by
  induction cs with
  | nil => rfl
  | cons c r ih =>
    obtain ⟨hc0, hr⟩ := List.forall_mem_cons.mp hc
    cases r with
    | nil => simp [markLast, msgBytes, itemBytes_mkItem hp hc0]
    | cons d r =>
      have h := ih hr
      rw [markLast, msgBytes, List.flatMap_cons, itemBytes_mkItem hp hc0, List.flatten_cons]
      · exact congrArg (c ++ ·) h
      · exact nofun

theorem frameItems_split (hp : pri < 4) (hne : bs ≠ []) :
    ∃ xs x, frameItems pri bs = xs ++ [x] ∧ (∀ y ∈ xs, itemEnd y = false) ∧ itemEnd x = true :=
  markLast_split hp (chunks_ne_nil (by decide) hne) fun c hc => length_le_of_mem_pieces _ _ c hc

theorem msgBytes_frameItems (hp : pri < 4) : msgBytes (frameItems pri bs) = bs :=
  (msgBytes_markLast hp fun c hc => length_le_of_mem_pieces _ _ c hc).trans (chunks_flatten (by decide) bs)

end

end Sys2Proof.Machine
end

section
/-! SUPPORT. A byte port's frame in its tenant's inbound queue (11: R225; 16: R306, R309). -/

namespace Sys2Proof.Machine

/-- From `s` to `t` items were pushed into queue `i`, which is `q` now: no other queue, no tenant and no waiting pop differs. -/
structure Pushed (s t : State) (i : Nat) (q : Queue) : Prop where
  work : QueueWork s t
  queue : t.queue i = q
  other : ∀ j, j ≠ i → t.queue j = s.queue j
  tenants : t.tn.tenants = s.tn.tenants
  waiting : t.tn.waiting = s.tn.waiting

section
variable {s t : State} {i k : Nat} {q : Queue} {x : Item}

theorem Pushed.refl (s : State) (i : Nat) : Pushed s s i (s.queue i) := ⟨.refl s, rfl, fun _ _ => rfl, rfl, rfl⟩

/-- A push into an inbound queue that has credit. -/
theorem State.pushItem_inbound (t : State) (hc : (t.queue (2 * k)).cred ≠ 0) (x : Item) (byTenant : Bool) : t.pushItem (2 * k) x byTenant =
    (((t.putQueue (2 * k) { (t.queue (2 * k)).push x with cred := (t.queue (2 * k)).cred - 1 }).touch (2 * k)).unstall (2 * k)).wardenLine 1 := by
  have hodd : ¬ (2 * k % 2 = 1 ∧ t.muted (2 * k / 2) = true ∧ ¬ (t.queue (2 * k)).isReply x = true) := fun hh => by omega
  have heven : 2 * k % 2 = 0 := by omega
  simp only [State.pushItem, if_neg hodd, if_neg hc, if_pos heven]

/-- An item pushed into an inbound queue that has credit, and on which no pop waits. -/
theorem Pushed.pushItem (h : Pushed s t (2 * k) q) (hc : q.cred ≠ 0) (hw : ∀ w ∈ s.tn.waiting, w.2 ≠ 2 * k) (x : Item) (byTenant : Bool) :
    Pushed s (t.pushItem (2 * k) x byTenant) (2 * k) { q.push x with cred := q.cred - 1 } := by
  have heq := t.pushItem_inbound (by rw [h.queue]; exact hc) x byTenant
  rw [h.queue] at heq
  have hput := (h.work.putQueue (2 * k) { q.push x with cred := q.cred - 1 }).trans (State.touch_work _ (2 * k))
  have hq := State.touch_queue (t.putQueue (2 * k) { q.push x with cred := q.cred - 1 }) (2 * k)
  have hten := State.touch_tenants (t.putQueue (2 * k) { q.push x with cred := q.cred - 1 }) (2 * k)
  have hwait := State.touch_waiting (t.putQueue (2 * k) { q.push x with cred := q.cred - 1 }) (2 * k)
  rw [heq]
  generalize (t.putQueue (2 * k) { q.push x with cred := q.cred - 1 }).touch (2 * k) = u at *
  obtain ⟨l, hl⟩ := u.unstall_quiet (i := 2 * k) fun w hm => hw w (by rw [← h.waiting]; exact hwait ▸ hm)
  rw [hl]
  refine ⟨⟨hput.rest, hput.regs⟩, (hq _).trans (State.queue_putQueue_same _ _ _), fun j hj => ?_, hten.trans h.tenants, hwait.trans h.waiting⟩
  exact (hq j).trans ((State.queue_putQueue_other _ hj _).trans (h.other j hj))

theorem Queue.push_more (q : Queue) (h : itemEnd x = false) : q.push x = { q with part := q.part ++ [x] } := by
  simp [Queue.push, h]

theorem Queue.push_last (q : Queue) (h : itemEnd x = true) (hb : q.batch = none) :
    q.push x = { q with part := [], ready := q.ready ++ [q.part ++ [x]] } := by
  simp [Queue.push, h, hb]

variable (hw : ∀ w ∈ s.tn.waiting, w.2 ≠ 2 * k)
include hw

/-- An item that does not end its message is not judged. -/
theorem Pushed.pushIn_more (h : Pushed s t (2 * k) q) (hc : q.cred ≠ 0) (hx : itemEnd x = false) :
    Pushed s (t.pushIn k x) (2 * k) { q with part := q.part ++ [x], cred := q.cred - 1 } := by
  have hp := h.pushItem hc hw x true
  rw [q.push_more hx] at hp
  simpa [State.pushIn, hx] using hp

theorem Pushed.pushIn_mores (xs : List Item) (h : Pushed s t (2 * k) q) (hc : xs.length ≤ q.cred) (hx : ∀ y ∈ xs, itemEnd y = false) :
    Pushed s (xs.foldl (fun s x => s.pushIn k x) t) (2 * k) { q with part := q.part ++ xs, cred := q.cred - xs.length } := by
  induction xs generalizing t q with
  | nil => simpa using h
  | cons y ys ih =>
    obtain ⟨hy, hys⟩ := List.forall_mem_cons.mp hx
    rw [List.length_cons] at hc
    have hfirst := h.pushIn_more hw (by omega) hy
    have hrest := ih hfirst (by show ys.length ≤ q.cred - 1; omega) hys
    rw [List.foldl_cons, List.length_cons]
    simpa [Nat.sub_sub, Nat.add_comm] using hrest

/-- The item that ends a good message of an OPEN tenant makes it readable. -/
theorem Pushed.pushIn_last (h : Pushed s t (2 * k) q) (hc : q.cred ≠ 0) (hx : itemEnd x = true) (hb : q.batch = none)
    (ho : (s.tenant k).state = .opened) (hok : frameOk (msgBytes (q.part ++ [x])) = true) :
    Pushed s (t.pushIn k x) (2 * k) { q with part := [], ready := q.ready ++ [q.part ++ [x]], cred := q.cred - 1 } := by
  have hp := h.pushItem hc hw x true
  rw [q.push_last hx hb] at hp
  have hcred : (t.queue (2 * k)).cred ≠ 0 := by rw [h.queue]; exact hc
  have hten : ((t.pushItem (2 * k) x true).tenant k).state ≠ .fault := by
    rw [State.tenant_congr hp.tenants, ho]
    exact nofun
  have hcheck : (t.pushItem (2 * k) x true).checkIn k = t.pushItem (2 * k) x true := by
    simp [State.checkIn, hp.queue, hok, hten]
  simpa [State.pushIn, hcred, hx, hcheck] using hp

/-- A good frame, covered by the credit, for an OPEN tenant whose queue has neither part of a message nor a batch (R306, R309). -/
theorem State.pushFrame_pushed (port : Port) {pri : Nat} (hp : pri < 4) {b : List Byte} (hok : frameOk b = true)
    (ho : (s.tenant k).state = .opened) (hc : (frameItems pri b).length ≤ (s.queue (2 * k)).cred) (hpart : (s.queue (2 * k)).part = [])
    (hb : (s.queue (2 * k)).batch = none) : Pushed s (s.pushFrame port k pri b) (2 * k) { s.queue (2 * k) with
      ready := (s.queue (2 * k)).ready ++ [frameItems pri b], cred := (s.queue (2 * k)).cred - (frameItems pri b).length } := by
  have hne : b ≠ [] := by rintro rfl; simp [frameOk] at hok
  obtain ⟨xs, x, hm, hxs, hx⟩ := frameItems_split hp hne
  have hbytes := msgBytes_frameItems (pri := pri) (bs := b) hp
  have hfold : s.pushFrame port k pri b = (xs.foldl (fun s x => s.pushIn k x) s).pushIn k x :=
    (if_neg (Nat.not_lt.mpr hc)).trans (by rw [hm, List.foldl_append]; rfl)
  rw [hm, List.length_append, List.length_singleton] at hc
  rw [hm] at hbytes
  have hmores := (Pushed.refl s (2 * k)).pushIn_mores hw xs (by omega) hxs
  rw [hpart, List.nil_append] at hmores
  have hlast := hmores.pushIn_last hw (x := x) (by show _ - xs.length ≠ 0; omega) hx hb ho (by rw [hbytes]; exact hok)
  rw [hfold, hm]
  simpa [Nat.sub_sub, hpart] using hlast

end

-- the receiver of a byte port

section
variable {b : List Byte}

theorem frameOk_spec (h : frameOk b = true) : 12 ≤ b.length ∧ frameLen b = b.length ∧ ∃ r, b = 0x4B :: 0x54 :: r := by
  simp only [frameOk, Bool.and_eq_true, decide_eq_true_eq] at h
  obtain ⟨⟨hlen, hsync, hl⟩, -⟩ := h
  refine ⟨hlen, hl, b.drop 2, ?_⟩
  exact (List.take_append_drop 2 b).symm.trans (by rw [hsync]; rfl)

/-- The receiver finds a whole frame that came alone (R225). -/
theorem frameScan_frame (h : frameOk b = true) (n : Nat) : frameScan (n + 1) b = ([b], 0, []) := by
  obtain ⟨hlen, hl, r, hr⟩ := frameOk_spec h
  have hshort : ¬ (b.length < 8 ∨ b.length < frameLen b) := by omega
  have hnil : frameScan n [] = ([], 0, []) := by cases n <;> rfl
  have htake : b.take (frameLen b) = b := by rw [hl]; exact List.take_length
  have hdrop : b.drop (frameLen b) = [] := by rw [hl]; exact List.drop_length
  subst hr
  rw [frameScan]
  simp only [ne_eq, not_true_eq_false, if_false, if_neg hshort, htake, hdrop, h, if_true, hnil]

theorem State.receiveFrame_bound {s : State} {port : Port} {client pri : Nat} (h : frameOk b = true) (hcls : frameCls b = 0)
    (hop : frameOp b ≠ some 1) (hbound : s.boundTo (frameTenant b) port client = true) :
    s.receiveFrame port client pri b = s.pushFrame port (frameTenant b) pri b := by
  have hgood : ¬ (¬ frameOk b = true ∨ 11 ≤ frameCls b) := by rw [h, hcls]; decide
  have hin : ¬ ¬ s.boundTo (frameTenant b) port client = true := not_not_intro hbound
  simp only [State.receiveFrame, if_neg hgood, if_neg hop, if_neg hin]

end

end Sys2Proof.Machine
end

section
/-! The SPI port (17: R343 to R346): registers, frames and quench. -/

namespace Sys2Proof.Machine

-- registers (R343, R344)

theorem State.busWrite_aligned (s : State) (via : Via) (p o : Nat) (v : Word) (whole : Bool) :
    s.busWrite via p (o / 4 * 4) v whole = s.busWrite via p o v whole := by
  have h : o / 4 * 4 / 4 * 4 = o / 4 * 4 := by omega
  simp only [State.busWrite, h]

theorem State.reg_mode3 (s : State) (m : Bool) (a : Nat) (ha : FabricReg a) : (s.fputB F.SPI_STAT_MODE3 m).reg a = s.reg a :=
  State.reg_fput_other _ _ _ fun (e : a = F.SPI_STAT_MODE3.addr) => by
    subst e
    simp [FabricReg, F.SPI_STAT_MODE3, F.PCIE_LINK_UP, F.USB_STAT_VBUS, F.SPI_WT_T] at ha

theorem State.portsOn_alive {s : State} (h : s.portsOn = true) : s.boot.dead = false := by
  simp only [State.portsOn, Bool.and_eq_true, Bool.not_eq_true'] at h
  exact h.2

theorem State.portsOn_powered {s : State} (h : s.portsOn = true) : s.domPowered 2 = true := by
  simp only [State.portsOn, Bool.and_eq_true] at h
  exact h.1

/-- The SPI port, on, reaches the fabric. -/
theorem State.spi_reaches {s : State} (h : s.portsOn = true) (h1 : s.domPowered 1 = true) (p : Nat) : s.unreachable .spi p = false := by
  unfold State.unreachable
  rw [State.portsOn_alive h, h1, State.portsOn_powered h]
  rfl

section
variable {s : State} {m : Bool} {a : BitVec 24} {v : Word} (hp : s.portsOn = true)
include hp

theorem State.portsOn_if (x : State) : (if ¬ s.portsOn = true then s else x) = x := if_neg (not_not_intro hp)

theorem exec_rwr (ws : List Word) : exec (.rwr m a ws false) s = .next ((s.fputB F.SPI_STAT_MODE3 m).spiWrites (a.toNat / 4 * 4) ws) :=
  congrArg Host.Outcome.next (State.portsOn_if hp _)

theorem exec_rwr_cut : exec (.rwr m a [] true) s = .next ((s.fputB F.SPI_STAT_MODE3 m).finc F.SPI_CNT_PART) :=
  congrArg Host.Outcome.next (State.portsOn_if hp _)

theorem exec_rrd : exec (.rrd m a 1) s = .next { ((s.fputB F.SPI_STAT_MODE3 m).spiReads (a.toNat / 4 * 4) 1).2 with
    out := ((s.fputB F.SPI_STAT_MODE3 m).spiReads (a.toNat / 4 * 4) 1).1 } :=
  congrArg Host.Outcome.next (State.portsOn_if hp _)

theorem exec_rwr_outside (h : 2 ^ 22 ≤ a.toNat) : exec (.rwr m a [v] false) s = .next (s.fputB F.SPI_STAT_MODE3 m) := by
  have hout : ¬ a.toNat / 4 * 4 < 2 ^ 22 := by omega
  rw [exec_rwr hp, State.spiWrites, if_neg hout, State.spiWrites]

theorem exec_rrd_outside (h : 2 ^ 22 ≤ a.toNat) : exec (.rrd m a 1) s = .next { s.fputB F.SPI_STAT_MODE3 m with out := [0] } := by
  have hout : 2 ^ 22 ≤ a.toNat / 4 * 4 := by omega
  rw [exec_rrd hp]
  simp only [State.spiReads, if_pos hout]

/-- An RWR word is a register write at its address (R479). -/
theorem exec_rwr_word (h : a.toNat < 2 ^ 22) : exec (.rwr m a [v] false) s =
    exec (.registerWrite .spi ⟨a.toNat / 4096, by omega⟩ (BitVec.ofNat 12 a.toNat) v 15) (s.fputB F.SPI_STAT_MODE3 m) := by
  have hin : a.toNat / 4 * 4 < 2 ^ 22 := by omega
  have hpage : a.toNat / 4 * 4 / 4096 = a.toNat / 4096 := by omega
  have hoff : a.toNat / 4 * 4 % 4096 = a.toNat % 4096 / 4 * 4 := by omega
  have hbits : (BitVec.ofNat 12 a.toNat).toNat = a.toNat % 4096 := BitVec.toNat_ofNat _ _
  rw [exec_rwr hp, exec_write, State.spiWrites, if_pos hin, State.spiWrites, hpage, hoff, State.busWrite_aligned, hbits]
  rfl

theorem rwr_spiWt (hj : s.judge .spi 0x152 0x040 true = .ok) : Completes (.rwr m 0x152040 [v] false) s fun u =>
    u.fget F.SPI_WT_T = v.toNat % 4096 ∧ u.flag F.SPI_STAT_MODE3 = m ∧ OnlyRegs s u [F.SPI_WT_T.addr, F.SPI_STAT_MODE3.addr] := by
  have hx := exec_rwr_word (m := m) (a := 0x152040) (v := v) hp (by decide)
  have hj' : (s.fputB F.SPI_STAT_MODE3 m).judge .spi 0x152 0x040 true = .ok := by
    rw [State.judge_congr (s.reg_mode3 m) rfl rfl rfl]
    exact hj
  have hw := State.busWrite_block (s := s.fputB F.SPI_STAT_MODE3 m) (via := .spi) (o := 0x040) (whole := true) v (by simp) regKind_spiWt
  obtain ⟨hwt, hrest, hreg⟩ := (s.fputB F.SPI_STAT_MODE3 m).writeBlock_spiWt .spi v
  refine .of_exec (hx.trans (congrArg Host.Outcome.next (hw.trans (congrArg _ hj')))) ⟨hwt, ?_,
    (congrArg (fun x : State => { x with regs := s.regs }) hrest :), fun b hb => ?_⟩
  · exact (State.flag_congr (hreg _ (by decide))).trans (State.flag_fputB_same _ _ _ (by decide) (by decide))
  · obtain ⟨hb1, hb2⟩ : b ≠ F.SPI_WT_T.addr ∧ b ≠ F.SPI_STAT_MODE3.addr := by simpa using hb
    exact (hreg b (by simpa using hb1)).trans (State.reg_fput_other _ _ _ hb2)

theorem rwr_cut : Completes (.rwr m a [] true) s fun u => u.fget F.SPI_CNT_PART = satInc 16 (s.fget F.SPI_CNT_PART) ∧
    OnlyRegs s u [F.SPI_CNT_PART.addr, F.SPI_STAT_MODE3.addr] := by
  have hpart : (s.fputB F.SPI_STAT_MODE3 m).fget F.SPI_CNT_PART = s.fget F.SPI_CNT_PART :=
    State.fget_fput_other _ _ _ _ (by decide) (.inl (by decide))
  refine .of_exec (exec_rwr_cut hp) ⟨?_, ((OnlyRegs.refl s _).fputB _ m (by simp)).fput _ _ (by simp)⟩
  rw [State.finc_fget _ _ (by decide), hpart]
  rfl

theorem State.spi_reaches_mode3 (h1 : s.domPowered 1 = true) (m : Bool) (p : Nat) :
    (s.fputB F.SPI_STAT_MODE3 m).unreachable .spi p = false := by
  rw [State.unreachable_congr (s.reg_mode3 m) rfl]
  exact State.spi_reaches hp h1 p

theorem exec_rrd_uRx (h1 : s.domPowered 1 = true) (hd : s.domState 2 = dON) :
    exec (.rrd m 0x158058 1) s = .next { s.fputB F.SPI_STAT_MODE3 m with out := [0] } := by
  have hd' : (s.fputB F.SPI_STAT_MODE3 m).domState 2 = dON := (State.domState_congr (s.reg_mode3 m) (by decide)).trans hd
  have hread := State.busRead_uRx (State.spi_reaches_mode3 hp h1 m 0x158) hd' rfl
  have hheld := State.not_held_of_on (via := .spi) (p := 0x158) (o := 0x058) (by rw [pageDom_uart]; exact hd') 1
  rw [exec_rrd hp, show (0x158058 : BitVec 24).toNat / 4 * 4 = 0x158058 from rfl]
  simp [State.spiReads, hheld, hread]

theorem rrd_uRx_held (h1 : s.domPowered 1 = true) (hd : s.domState 2 = dENTRY) : Completes (.rrd m 0x158058 1) s fun u =>
    u.out = [0xFFFFFFFF] ∧ u.fget F.SPI_CNT_PART = satInc 16 (s.fget F.SPI_CNT_PART) ∧ u.uarts = s.uarts := by
  have hd' : (s.fputB F.SPI_STAT_MODE3 m).domState 2 = dENTRY := (State.domState_congr (s.reg_mode3 m) (by decide)).trans hd
  have hheld := State.readHeld_uRx (State.spi_reaches_mode3 hp h1 m 0x158) hd'
  have hpart : (s.fputB F.SPI_STAT_MODE3 m).fget F.SPI_CNT_PART = s.fget F.SPI_CNT_PART :=
    State.fget_fput_other _ _ _ _ (by decide) (.inl (by decide))
  have hreads : (s.fputB F.SPI_STAT_MODE3 m).spiReads 0x158058 1 =
      ([0xFFFFFFFF], (s.fputB F.SPI_STAT_MODE3 m).finc F.SPI_CNT_PART) := by
    simp [State.spiReads, hheld]
  have hx := exec_rrd (m := m) (a := 0x158058) hp
  rw [show (0x158058 : BitVec 24).toNat / 4 * 4 = 0x158058 from rfl, hreads] at hx
  refine .of_exec hx ⟨rfl, ?_, rfl⟩
  exact (State.finc_fget _ F.SPI_CNT_PART (by decide)).trans (by rw [hpart]; rfl)

-- frames (R345)

variable {b : List Byte}

/-- FWR of one whole frame that its tenant may send and has the credit for. -/
theorem fwr_frame (hok : frameOk b = true) (hcls : frameCls b = 0) (hop : frameOp b ≠ some 1) (hrx : s.spi.rx = [])
    (hbound : s.boundTo (frameTenant b) .spi 0 = true) (ho : (s.tenant (frameTenant b)).state = .opened)
    (hc : (frameItems 1 b).length ≤ (s.queue (2 * frameTenant b)).cred) (hpart : (s.queue (2 * frameTenant b)).part = [])
    (hb : (s.queue (2 * frameTenant b)).batch = none) (hw : ∀ w ∈ s.tn.waiting, w.2 ≠ 2 * frameTenant b) :
    Completes (.fwr m b) s fun u =>
      u.queue (2 * frameTenant b) = { s.queue (2 * frameTenant b) with
        ready := (s.queue (2 * frameTenant b)).ready ++ [frameItems 1 b]
        cred := (s.queue (2 * frameTenant b)).cred - (frameItems 1 b).length } ∧
      u.spi.rx = [] ∧ u.flag F.SPI_STAT_MODE3 = m ∧ (∀ j, j ≠ 2 * frameTenant b → u.queue j = s.queue j) ∧ u.comb = s.comb := by
  have hpush := State.pushFrame_pushed (s := { s with spi.rx := [] }) hw .spi (pri := 1) (by decide) hok ho hc hpart hb
  have hrecv : ({ s with spi.rx := [] } : State).receiveAll .spi 0 [b] 0 =
      ({ s with spi.rx := [] } : State).pushFrame .spi (frameTenant b) 1 b := by
    have hpri : classPri (frameCls b) = 1 := by rw [hcls]; rfl
    have hframe := State.receiveFrame_bound (s := { s with spi.rx := [] }) (pri := 1) hok hcls hop hbound
    simp only [State.receiveAll, List.replicate_zero, List.foldl_nil, List.foldl_cons, hpri]
    exact hframe
  have hx : exec (.fwr m b) s = .next ((({ s with spi.rx := [] } : State).receiveAll .spi 0 [b] 0).fputB F.SPI_STAT_MODE3 m) := by
    refine congrArg Host.Outcome.next ((State.portsOn_if hp _).trans ?_)
    simp only [hrx, List.nil_append, frameScan_frame hok]
  rw [hrecv] at hx
  generalize ({ s with spi.rx := [] } : State).pushFrame .spi (frameTenant b) 1 b = u at hx hpush
  exact .of_exec hx ⟨hpush.queue, (congrArg (·.rx) hpush.work.spi :), State.flag_fputB_same _ _ _ (by decide) (by decide), hpush.other,
    hpush.work.comb⟩

omit hp in
/-- Of the frame being sent, bytes are clocked out in order. -/
theorem State.spiOut_tx (k : Nat) (s : State) (h : k ≤ s.spi.tx.length) :
    s.spiOut k = (s.spi.tx.take k, { s with spi.tx := s.spi.tx.drop k }) := by
  induction k generalizing s with
  | zero => rfl
  | succ k ih =>
    match ht : s.spi.tx with
    | [] => rw [ht] at h; cases h
    | x :: r =>
      have hk := ih { s with spi.tx := r } (by rw [ht] at h; exact Nat.le_of_succ_le_succ h)
      rw [State.spiOut, ht]
      simp only [hk, List.take_succ_cons, List.drop_succ_cons]

omit hp in
theorem State.spiWaiting_tx (s : State) : s.spi.tx.length ≤ s.spiWaiting := by
  unfold State.spiWaiting
  exact (Nat.le_add_right _ _).trans (Nat.le_add_right _ _)

theorem exec_frd (n : Nat) : exec (.frd m n) s =
    .next { (State.spiOut (min n (min 0xFFFF s.spiWaiting)) s).2.fputB F.SPI_STAT_MODE3 m with
      out := BitVec.ofNat 32 (min 0xFFFF s.spiWaiting) :: ((State.spiOut (min n (min 0xFFFF s.spiWaiting)) s).1 ++
        List.replicate (n - (State.spiOut (min n (min 0xFFFF s.spiWaiting)) s).1.length) 0).map (fun (x : Byte) => x.zeroExtend 32) } :=
  congrArg Host.Outcome.next (State.portsOn_if hp _)

theorem exec_frd_nothing (n : Nat) (h : s.spiWaiting = 0) :
    exec (.frd m n) s = .next { s.fputB F.SPI_STAT_MODE3 m with out := 0 :: List.replicate n 0 } := by
  have hmin : min n (min 0xFFFF 0) = 0 := by omega
  rw [exec_frd hp, h, hmin]
  simp [State.spiOut]

theorem frd_frame (htx : s.spi.tx = b) : Completes (.frd m b.length) s fun u =>
    u.out = BitVec.ofNat 32 (min 0xFFFF s.spiWaiting) :: (b.take 0xFFFF ++ List.replicate (b.length - 0xFFFF) 0).map
      (fun (x : Byte) => x.zeroExtend 32) ∧ u.spi.tx = b.drop 0xFFFF ∧ u.tn = s.tn := by
  have hwait := s.spiWaiting_tx
  rw [htx] at hwait
  have hmin : min b.length (min 0xFFFF s.spiWaiting) = min b.length 0xFFFF := by omega
  have hout := State.spiOut_tx (min b.length 0xFFFF) s (by rw [htx]; exact Nat.min_le_left _ _)
  have htake : b.take (min b.length 0xFFFF) = b.take 0xFFFF := by rw [← List.take_take, List.take_of_length_le (List.length_take_le' _ _)]
  have hdrop : b.drop (min b.length 0xFFFF) = b.drop 0xFFFF := by
    rcases Nat.le_total b.length 0xFFFF with hle | hle
    · rw [Nat.min_eq_left hle, List.drop_length, List.drop_eq_nil_of_le hle]
    · rw [Nat.min_eq_right hle]
  have hpad : b.length - (b.take 0xFFFF).length = b.length - 0xFFFF := by rw [List.length_take]; omega
  have hx := exec_frd (m := m) hp b.length
  rw [hmin, hout, htx, htake, hdrop, hpad] at hx
  exact .of_exec hx ⟨rfl, rfl, rfl⟩

end

-- SPI_QUENCH (R346)

section
variable {s : State} {via : Via} {v : Word} (hj : s.judge via 0x152 0x044 true = .ok)
include hj

theorem exec_spiQuench : exec (.spiQuench via v) s = .next (s.spiQuench v) := by
  refine congrArg Host.Outcome.next ?_
  unfold State.gated
  rw [hj]
  exact State.guarded_ok hj _

theorem exec_spiQuench_noGo (h : v.getLsbD 31 = false) : exec (.spiQuench via v) s = .next s :=
  (exec_spiQuench hj).trans (congrArg _ (if_neg (by rw [h]; exact Bool.false_ne_true)))

theorem spiQuench_one (hgo : v.getLsbD 31 = true) (hon : v.getLsbD 16 = true) (hall : v.getLsbD 18 = false)
    (hf : (s.tenant (v.toNat % 4096)).state ≠ .free) : Completes (.spiQuench via v) s fun u =>
      (u.tenant (v.toNat % 4096)).q = true ∧ (u.queue (2 * (v.toNat % 4096) + 1)).batch = none ∧
      (v.getLsbD 17 = true → (u.queue (2 * (v.toNat % 4096) + 1)).ready = []) ∧ Rises s u 0x140 4 := by
  have hq : s.spiQuench v = s.quenchOn (v.toNat % 4096) (v.getLsbD 17) := by
    refine (if_pos hgo).trans ?_
    rw [hon, hall]
    exact State.quench_one s _ _ _ hf
  obtain ⟨hflag, hb, hr, hev, -⟩ := s.quenchOn_holds (v.toNat % 4096) (v.getLsbD 17)
  exact .of_exec ((exec_spiQuench hj).trans (congrArg _ hq)) ⟨hflag, hb, hr, hev⟩

end

/-- Settles O23: each command of the SPI port from the register access, the frame or the quench it makes. -/
theorem spiMovesWordsAndFrames : Obligations.SpiMovesWordsAndFrames := by
  unfold Obligations.SpiMovesWordsAndFrames
  intro s m hp sm
  refine ⟨?word, ?wt, ?cut, ?outside, ?uRx, ?fwr, ?nothing, ?frd, ?quench⟩
  case word => exact fun a v h => exec_rwr_word hp h
  case wt => exact fun v hj => rwr_spiWt hp hj
  case cut => exact fun a => rwr_cut hp
  case outside => exact fun a v h => ⟨exec_rwr_outside hp h, exec_rrd_outside hp h⟩
  case uRx => exact fun h1 => ⟨exec_rrd_uRx hp h1, rrd_uRx_held hp h1⟩
  case fwr =>
    intro b hok hcls hop hrx t q hbound ho hc hpart hb hw
    exact fwr_frame hp hok hcls hop hrx hbound ho hc hpart hb hw
  case nothing => exact fun n h => exec_frd_nothing hp n h
  case frd => exact fun b htx _ => frd_frame hp htx
  case quench => exact fun via v hj => ⟨exec_spiQuench_noGo hj, spiQuench_one hj⟩

end Sys2Proof.Machine
end

section
/-! SUPPORT. Writes of Comb (15: R289 to R292): the lines of a write put its bytes one after the other, and what a write leaves. -/

namespace Sys2Proof.Machine

-- bytes put in Comb

section
variable {s t : State}

theorem State.combByte_congr (h : t.comb = s.comb) (a : Nat) : t.combByte a = s.combByte a := by
  unfold State.combByte; rw [h]

theorem State.combBytes_congr (h : t.comb = s.comb) (a n : Nat) : t.combBytes a n = s.combBytes a n := by
  simp only [State.combBytes, State.combByte_congr h]

theorem State.combPut_rest (s : State) (a : Nat) (bs : List Byte) : { s.combPut a bs with comb := s.comb } = s := by
  induction bs generalizing s a with
  | nil => rfl
  | cons b r ih => exact (congrArg (fun x : State => { x with comb := s.comb }) (ih _ (a + 1)) :)

/-- Only the contents of Comb and the address within it count. -/
theorem State.combPut_congr (h : t.comb = s.comb) {a c : Nat} (ha : c % 2 ^ 24 = a % 2 ^ 24) (bs : List Byte) :
    (t.combPut c bs).comb = (s.combPut a bs).comb := by
  induction bs generalizing s t a c with
  | nil => exact h
  | cons b r ih =>
    refine ih (s := { s with comb := Tab.set combDefault s.comb (a % 2 ^ 24) b }) ?_ (by omega)
    rw [h, ha]

theorem State.combPut_append (s : State) (a : Nat) (xs ys : List Byte) :
    s.combPut a (xs ++ ys) = (s.combPut a xs).combPut (a + xs.length) ys := by
  induction xs generalizing s a with
  | nil => rfl
  | cons x r ih =>
    rw [List.cons_append, State.combPut, ih, List.length_cons, Nat.add_comm r.length, ← Nat.add_assoc]
    rfl

theorem State.combBytes_succ (s : State) (a n : Nat) : s.combBytes a (n + 1) = s.combByte a :: s.combBytes (a + 1) n := by
  simp only [State.combBytes, List.range_succ_eq_map, List.map_cons, List.map_map, Nat.add_zero, List.cons.injEq, true_and]
  refine List.map_congr_left fun i _ => ?_
  simp only [Function.comp_apply, Nat.succ_eq_add_one, Nat.add_assoc, Nat.add_comm 1]

/-- Bytes put read back. -/
theorem State.combBytes_combPut (s : State) (a : Nat) (bs : List Byte) (h : bs.length ≤ 2 ^ 24) :
    (s.combPut a bs).combBytes a bs.length = bs := by
  induction bs generalizing s a with
  | nil => rfl
  | cons x r ih =>
    rw [List.length_cons] at h ⊢
    rw [State.combBytes_succ, State.combByte_combPut_head _ _ _ h, State.combPut, ih _ _ (Nat.le_of_succ_le h)]

end

-- lines

theorem mem_lineParts {k a n : Nat} {x : Nat × Nat} (h : x ∈ lineParts k a n) : ∃ i ≤ n, x.1 = (a + i) % 2 ^ 24 := by
  induction k generalizing a n with
  | zero => cases h
  | succ k ih =>
    rcases List.mem_cons.mp h with rfl | h
    · exact ⟨0, Nat.zero_le n, rfl⟩
    · obtain ⟨i, hi, hx⟩ := ih h
      refine ⟨min n (64 - a % 64) + i, by omega, ?_⟩
      rw [hx, Nat.add_assoc]

theorem lines_cover (a n : Nat) : n = 0 ∨ a % 64 + n ≤ 64 * lines a n := by
  unfold lines
  split
  · exact .inl ‹_›
  · exact .inr (by omega)

theorem combQuarter_lt (a : Nat) : combQuarter a < 4 := Nat.mod_lt _ (by decide)

-- what a write leaves

/-- From `s` to `t` Comb was written: of the registers page COMB alone, its ECC and the draws of free values differ. -/
structure CombWork (s t : State) : Prop where
  rest : { t with regs := s.regs, fresh := s.fresh, comb := s.comb, ecc := s.ecc } = s
  regs : ∀ a, a / 4096 ≠ 0x120 → t.reg a = s.reg a

namespace CombWork

variable {s t u : State}

theorem refl (s : State) : CombWork s s := ⟨rfl, fun _ _ => rfl⟩

theorem trans (h : CombWork s t) (h' : CombWork t u) : CombWork s u :=
  ⟨Eq.trans (congrArg (fun x : State => { x with regs := s.regs, fresh := s.fresh, comb := s.comb, ecc := s.ecc }) h'.rest :) h.rest,
    fun a ha => (h'.regs a ha).trans (h.regs a ha)⟩

theorem combPut (s : State) (a : Nat) (bs : List Byte) : CombWork s (s.combPut a bs) := by
  have hr := s.combPut_rest a bs
  have hregs : (s.combPut a bs).regs = s.regs := (congrArg State.regs hr :)
  exact ⟨(congrArg (fun x : State => { x with regs := s.regs, fresh := s.fresh, ecc := s.ecc }) hr :),
    fun c _ => by unfold State.reg; rw [hregs]⟩

theorem combCount (s : State) {m : Nat} (hm : m < 16) : CombWork s (s.combCount m) := by
  refine ⟨rfl, fun a ha => ?_⟩
  have hacc : a ≠ (F.CB_ACC m).addr := by simp only [F.CB_ACC]; omega
  have hcnf : a ≠ (F.CB_CNF m).addr := by simp only [F.CB_CNF]; omega
  exact (State.reg_fput_other _ _ _ hcnf).trans (State.reg_fput_other _ _ _ hacc)

theorem combOn (h : CombWork s t) {q : Nat} (hq : q < 4) : t.combOn q = s.combOn q := by
  have hd (d : Nat) (hd : d ≤ 40) : t.domPowered d = s.domPowered d := by
    have hst : t.domState d = s.domState d := State.fget_congr (h.regs _ (by simp only [F.PW_D_STATE]; omega))
    simp only [State.domPowered, hst]
  simp only [State.combOn, hd 1 (by decide), hd (30 + q) (by omega)]

theorem fget (h : CombWork s t) {f : Fld} (hf : f.addr / 4096 ≠ 0x120) : t.fget f = s.fget f := State.fget_congr (h.regs _ hf)

theorem boot (h : CombWork s t) : t.boot = s.boot := (congrArg State.boot h.rest :)

end CombWork

-- the lines of a write

/-- One line of a write of master `m`, of the bytes still to write. -/
def combLine (m : Nat) (r : List Byte × State) (x : Nat × Nat) : List Byte × State :=
  let s := r.2
  (r.1.drop x.2, if s.combOn (combQuarter x.1) then
      let s := (s.combCount m).combPut x.1 (r.1.take x.2)
      { s with ecc := Tab.clear (fun w => decide (x.1 ≤ 4 * w ∧ 4 * w + 4 ≤ x.1 + x.2)) s.ecc }
    else s.combOff m x.1)

theorem State.combWrite_eq (s : State) (m a : Nat) (bs : List Byte) :
    s.combWrite m a bs = ((accesses a bs.length).foldl (combLine m) (bs, s)).2 := rfl

section
variable {m : Nat} (hm : m < 16)
include hm

/-- A line in a quarter that is on. -/
theorem combLine_on (s : State) (bs : List Byte) {x : Nat × Nat} (h : s.combOn (combQuarter x.1) = true) :
    ∃ t, combLine m (bs, s) x = (bs.drop x.2, t) ∧ CombWork s t ∧ t.comb = (s.combPut x.1 (bs.take x.2)).comb := by
  refine ⟨_, congrArg (Prod.mk _) (if_pos h), ?_,
    State.combPut_congr (t := s.combCount m) (s.combCount_comb m) (rfl : x.1 % 2 ^ 24 = x.1 % 2 ^ 24) (bs.take x.2)⟩
  have hw := (CombWork.combCount s hm).trans (CombWork.combPut (s.combCount m) x.1 (bs.take x.2))
  exact ⟨hw.rest, hw.regs⟩

theorem combLines_on (k a : Nat) (bs : List Byte) (s : State) (hk : bs.length = 0 ∨ a % 64 + bs.length ≤ 64 * k)
    (hon : ∀ x ∈ lineParts k a bs.length, s.combOn (combQuarter x.1) = true) :
    CombWork s ((lineParts k a bs.length).foldl (combLine m) (bs, s)).2 ∧
    ((lineParts k a bs.length).foldl (combLine m) (bs, s)).2.comb = (s.combPut a bs).comb := by
  induction k generalizing a bs s with
  | zero =>
    have hnil : bs = [] := List.length_eq_zero_iff.mp (by omega)
    subst hnil
    exact ⟨.refl s, rfl⟩
  | succ k ih =>
    rw [lineParts] at hon ⊢
    obtain ⟨hon0, hons⟩ := List.forall_mem_cons.mp hon
    obtain ⟨t, ht, hwork, hcomb⟩ := combLine_on hm s bs hon0
    have hlen : bs.length - min bs.length (64 - a % 64) = (bs.drop (min bs.length (64 - a % 64))).length := (List.length_drop).symm
    have htake : (bs.take (min bs.length (64 - a % 64))).length = min bs.length (64 - a % 64) :=
      List.length_take.trans (Nat.min_eq_left (Nat.min_le_left _ _))
    rw [List.foldl_cons, ht]
    rw [hlen] at hons ⊢
    obtain ⟨hwork', hcomb'⟩ := ih (a + min bs.length (64 - a % 64)) (bs.drop (min bs.length (64 - a % 64))) t
      (by rw [List.length_drop]; omega) fun x hx => (hwork.combOn (combQuarter_lt x.1)).trans (hons x hx)
    refine ⟨hwork.trans hwork', hcomb'.trans ?_⟩
    have hput := s.combPut_append a (bs.take (min bs.length (64 - a % 64))) (bs.drop (min bs.length (64 - a % 64)))
    rw [List.take_append_drop, htake] at hput
    rw [hput]
    exact State.combPut_congr (hcomb.trans (State.combPut_congr rfl (Nat.mod_mod _ _) _)) rfl _

/-- A write whose lines all lie in quarters that are on puts its bytes from its address. -/
theorem State.combWrite_on (s : State) (a : Nat) (bs : List Byte) (hon : ∀ x ∈ accesses a bs.length, s.combOn (combQuarter x.1) = true) :
    CombWork s (s.combWrite m a bs) ∧ (s.combWrite m a bs).comb = (s.combPut a bs).comb := by
  rw [State.combWrite_eq]
  exact combLines_on hm _ a bs s (lines_cover a _) hon

end

end Sys2Proof.Machine
end

section
/-! SUPPORT. Votes and path requests at start-up (04: R75, R76; 20: R384, R385): what they leave. -/

namespace Sys2Proof.Machine

/-- PG_EVEN and PG_OWNER of every page, the state of COMB2, and pages SYS, CLK, AUX, those of WEEKFLOOR and of the update unit: what
votes and path requests leave. -/
def StartKept (a : Nat) : Prop :=
  a % 4096 = 0x018 ∨ a % 4096 = 0x024 ∨ a = 0x0050C0 ∨ a / 4096 = 0x001 ∨ a / 4096 = 0x010 ∨ a / 4096 = 0x011 ∨ a / 4096 = 0x110 ∨
  a / 4096 = 0x161

/-- From `s` to `t` votes were cast and paths asked for a state. -/
structure StartWork (s t : State) : Prop where
  rest : { t with regs := s.regs, cic := s.cic, rf := s.rf, pwr := s.pwr } = s
  regs : ∀ a, StartKept a → t.reg a = s.reg a
  votes : ∀ d c, s.voted d c = true → t.voted d c = true

namespace StartWork

variable {s t u : State}

theorem refl (s : State) : StartWork s s := ⟨rfl, fun _ _ => rfl, fun _ _ h => h⟩

theorem trans (h : StartWork s t) (h' : StartWork t u) : StartWork s u :=
  ⟨Eq.trans (congrArg (fun x : State => { x with regs := s.regs, cic := s.cic, rf := s.rf, pwr := s.pwr }) h'.rest :) h.rest,
    fun a ha => (h'.regs a ha).trans (h.regs a ha), fun d c hv => h'.votes d c (h.votes d c hv)⟩

theorem fput (h : StartWork s t) (f : Fld) (v : Nat) (hf : ¬ StartKept f.addr) : StartWork s (t.fput f v) :=
  ⟨h.rest, fun a ha => (State.reg_fput_other _ _ _ fun (e : a = f.addr) => hf (e ▸ ha)).trans (h.regs a ha), h.votes⟩

theorem fputB (h : StartWork s t) (f : Fld) (b : Bool) (hf : ¬ StartKept f.addr) : StartWork s (t.fputB f b) := h.fput f _ hf

theorem setRf (h : StartWork s t) (x : RfComSt) : StartWork s { t with rf := x } := ⟨h.rest, h.regs, h.votes⟩

theorem rfMove (h : StartWork s t) (p : Nat) (m : RfMove) : StartWork s (t.rfMove p m) := h.setRf _

theorem evRise (h : StartWork s t) (p b : Nat) (hp : ¬ StartKept (p * 4096 + 0x01C)) : StartWork s (t.evRise p b) := by
  have hput := h.fputB (PG_EVPEND p b) true hp
  unfold State.evRise State.evRiseD
  split
  · exact ⟨hput.rest, hput.regs, hput.votes⟩
  · exact h

theorem foldl {α : Type} {f : State → α → State} (l : List α) (h : ∀ s, ∀ x ∈ l, StartWork s (f s x)) (s : State) :
    StartWork s (l.foldl f s) := by
  induction l generalizing s with
  | nil => exact refl s
  | cons x l ih =>
    have h' := List.forall_mem_cons.mp (h s)
    exact h'.1.trans (ih (fun s y hy => h s y (List.mem_cons_of_mem _ hy)) _)

theorem ite {c : Prop} [Decidable c] (h : c → StartWork s t) (h' : ¬ c → StartWork s u) : StartWork s (if c then t else u) := by
  split
  · next hc => exact h hc
  · next hc => exact h' hc

theorem fget (h : StartWork s t) {f : Fld} (hf : StartKept f.addr) : t.fget f = s.fget f := State.fget_congr (h.regs _ hf)

theorem flag (h : StartWork s t) {f : Fld} (hf : StartKept f.addr) : t.flag f = s.flag f := State.flag_congr (h.regs _ hf)

theorem comb (h : StartWork s t) : t.comb = s.comb := (congrArg State.comb h.rest :)

theorem tn (h : StartWork s t) : t.tn = s.tn := (congrArg State.tn h.rest :)

theorem wv (h : StartWork s t) : t.wv = s.wv := (congrArg State.wv h.rest :)

theorem upd (h : StartWork s t) : t.upd = s.upd := (congrArg State.upd h.rest :)

theorem boot (h : StartWork s t) : t.boot = s.boot := (congrArg State.boot h.rest :)

theorem sky (h : StartWork s t) : t.sky = s.sky := (congrArg State.sky h.rest :)

-- votes

variable (s) {d : Nat}

theorem setDom (hd : d ≤ 40) (hd' : d ≠ 32) (st : Nat) : StartWork s (s.setDom d st) := by
  have hdom : ¬ StartKept (0x005040 + 4 * d) := by unfold StartKept; omega
  have hon : ¬ StartKept (pwOn d).addr := by
    unfold pwOn
    split <;> simp [StartKept, F.PW_ON0, F.PW_ON1_D]
  have hset := (((refl s).fput (F.PW_D_STATE d) st hdom).fput (F.PW_D_AP d) 0 hdom).fputB (pwOn d) (decide (st = dON ∨ st = dENTRY)) hon
  unfold State.setDom
  exact ite (fun _ => hset.fputB _ _ (by simp [StartKept, F.CB_STAT_QON])) fun _ => hset

theorem domFollow (hd : d ≤ 40) (hd' : d ≠ 32) : StartWork s (s.domFollow d) := by
  unfold State.domFollow
  exact ite (fun _ => setDom s hd hd' _) fun _ => ite (fun _ => setDom s hd hd' _) fun _ => refl s

theorem setVote (d c : Nat) : StartWork s (s.setVote d c true) := by
  refine ⟨rfl, fun _ _ => rfl, fun d' c' h => ?_⟩
  refine (Tab.get_set voteReset s.pwr.votes (8192 * d + c) (8192 * d' + c') true).trans ?_
  split
  · rfl
  · exact h

theorem castVote (hd : d ≤ 40) (hd' : d ≠ 32) (c : Nat) : StartWork s (s.castVote d c true) := by
  have hdom : ¬ StartKept (0x005040 + 4 * d) := by unfold StartKept; omega
  unfold State.castVote
  exact ite (fun _ => refl s) fun _ => ((setVote s d c).fput (F.PW_D_HOLDERS d) _ hdom).trans (domFollow _ hd hd')

theorem castVote_voted (hd : d ≤ 40) (hd' : d ≠ 32) (c : Nat) : (s.castVote d c true).voted d c = true := by
  have hdom : ¬ StartKept (0x005040 + 4 * d) := by unfold StartKept; omega
  have hset : (s.setVote d c true).voted d c = true := Tab.get_set_same voteReset s.pwr.votes (8192 * d + c) true
  unfold State.castVote
  split
  · assumption
  · exact (((refl _).fput (F.PW_D_HOLDERS d) _ hdom).trans (domFollow _ hd hd')).votes d c hset

-- paths

variable {p : Nat} (hp : p < 8)

theorem calEnd (result done : Nat) : StartWork s (s.calEnd result done) := by
  have hstat : ¬ StartKept 0x028048 := by unfold StartKept; decide
  exact ((((refl s).fputB F.CAL_STAT_BUSY false hstat).fput F.CAL_STAT_RESULT result hstat).fput F.CAL_STAT_DONE done hstat).setRf _

theorem calRelease : StartWork s s.calRelease := by
  unfold State.calRelease
  exact foldl _ (fun s _ _ => ite (fun _ => (refl s).setRf _) fun _ => refl s) s

theorem calAbandon (p : Nat) : StartWork s (s.calAbandon p) := by
  unfold State.calAbandon State.calFail
  exact ite (fun _ => ((calEnd s 3 0).trans (calRelease _)).evRise _ _ (by unfold StartKept; decide)) fun _ => refl s

include hp

theorem rfStat_not_kept : ¬ StartKept ((0x020 + 1 * p) * 4096 + 0x044) := by unfold StartKept; omega

theorem tune : StartWork s (s.tune p) := by
  have hstat := rfStat_not_kept hp
  unfold State.tune
  exact ((((calAbandon s p).fput _ _ hstat).fputB _ _ hstat).fputB _ _ hstat).setRf _

theorem rfAdvance : StartWork s (s.rfAdvance p) := by
  have hstat := rfStat_not_kept hp
  have hcal := calAbandon s p
  have hmask : StartWork s (if s.fget (F.RF_CTL_REQ p) < 3 then s.calAbandon p else s) := ite (fun _ => hcal) fun _ => refl s
  unfold State.rfAdvance
  refine ite (fun _ => ite (fun _ => refl s) fun _ => hcal.rfMove p _) fun _ => ?_
  refine ite (fun _ => refl s) fun _ => ite (fun _ => tune s hp) fun _ => ?_
  refine ite (fun _ => (refl s).rfMove p _) fun _ => ?_
  refine ite (fun _ => ite (fun _ => ((refl s).fput _ _ hstat).rfMove p _) fun _ => refl s) fun _ => ?_
  refine ite (fun _ => ite (fun _ => ite (fun _ => (refl s).rfMove p _) fun _ => refl s) fun _ => ?_) fun _ => ?_
  · exact ite (fun _ => (refl s).rfMove p _) fun _ => refl s
  · refine ite (fun _ => ite (fun _ => hcal.rfMove p _) fun _ => refl s) fun _ => ite (fun _ => ?_) fun _ => refl s
    exact ite (fun _ => hmask.rfMove p _) fun _ => hmask

theorem rfReq_receive : StartWork s (s.rfReq p 3) := by
  have hctl : ¬ StartKept ((0x020 + 1 * p) * 4096 + 0x040) := by unfold StartKept; omega
  have hpend : ¬ StartKept (rfPage p * 4096 + 0x01C) := by unfold StartKept rfPage; omega
  have hreq (x : RfComSt) : StartWork s { s.fput (F.RF_CTL_REQ p) 3 with rf := x } := ((refl s).fput _ _ hctl).setRf x
  unfold State.rfReq
  exact ite (fun h => absurd h (by decide)) fun _ =>
    ite (fun _ => ((hreq _).setRf _).evRise _ _ hpend) fun _ => (hreq _).trans (rfAdvance _ hp)

end StartWork

end Sys2Proof.Machine
end

section
/-! Straps, the boot check and host load (05: R88; 21: R411, R414; 22: R424, R425). -/

namespace Sys2Proof.Machine

-- straps (R411, R88)

/-- The boot mode that SERVICE and BOOTSEL select. -/
def strapMode (bs : BitVec 2) (svc : Bool) : Nat := if svc then bmSERVICE else if bs = 1 then bmSPI else if bs = 2 then bmPCIE else bmFLASH

/-- The straps reported, before the ROM's votes. -/
def State.strapped (s : State) (bs : BitVec 2) (da : BitVec 3) (rs : BitVec 2) (svc : Bool) : State :=
  let s := { s with boot.sampled := true }.fputB F.CLKOUT_STAT_VIO2HI Config.vio2hi
  let s := ((s.fput F.SYS_STRAP_BOOTSEL bs.toNat).fput F.SYS_STRAP_DEVADDR da.toNat).fput F.SYS_STRAP_REFSEL rs.toNat
  let s := ((s.fputB F.SYS_STRAP_SERVICE svc).fput F.CLK_CFG_REFSEL rs.toNat).fput F.CLK_CFG_R (refDividers rs.toNat).1
  ((s.fput F.AUX_STAT_R (refDividers rs.toNat).2).fput F.SYS_BOOT_MODE (strapMode bs svc)).fput F.SYS_BOOT_STATE
    (if strapMode bs svc = bmSPI ∨ strapMode bs svc = bmPCIE then bsHOSTWAIT else bsROM)

section
variable {s : State} {bs : BitVec 2} {da : BitVec 3} {rs : BitVec 2} {svc : Bool}

theorem exec_strapSample_again (h : s.domPowered 1 = false ∨ s.boot.sampled = true) : exec (.strapSample bs da rs svc) s = .next s :=
  congrArg Host.Outcome.next (if_pos (h.imp (fun h => by rw [h]; exact Bool.false_ne_true) id))

theorem exec_strapSample (h1 : s.domPowered 1 = true) (hs : s.boot.sampled = false) : exec (.strapSample bs da rs svc) s =
    .next (((s.strapped bs da rs svc).castVote 2 WARDEN true).castVote 34 WARDEN true) := by
  have hin : ¬ (¬ s.domPowered 1 = true ∨ s.boot.sampled = true) := by rw [h1, hs]; decide
  exact congrArg Host.Outcome.next (if_neg hin)

theorem strapDividers : ∀ rs : BitVec 2, (refDividers rs.toNat).1 % 2 ^ 8 = [25, 50, 65, 100].getD rs.toNat 0 ∧
    (refDividers rs.toNat).2 % 2 ^ 8 = [10, 20, 26, 40].getD rs.toNat 0 := by decide

theorem strapMode_eq : ∀ (bs : BitVec 2) (svc : Bool), strapMode bs svc % 2 ^ 3 = (if svc then 3 else [0, 1, 2, 0].getD bs.toNat 0) ∧
    (if strapMode bs svc = bmSPI ∨ strapMode bs svc = bmPCIE then bsHOSTWAIT else bsROM) % 2 ^ 2 =
      (if svc then 0 else [0, 2, 2, 0].getD bs.toNat 0) := by decide

theorem strapped_keeps (s : State) (bs : BitVec 2) (da : BitVec 3) (rs : BitVec 2) (svc : Bool) :
    (s.strapped bs da rs svc).boot.sampled = true ∧ (s.strapped bs da rs svc).comb = s.comb ∧ (s.strapped bs da rs svc).tn = s.tn := by
  simp [State.strapped]

theorem strapped_straps (s : State) (bs : BitVec 2) (da : BitVec 3) (rs : BitVec 2) (svc : Bool) :
    (s.strapped bs da rs svc).fget F.SYS_STRAP_BOOTSEL = bs.toNat ∧ (s.strapped bs da rs svc).fget F.SYS_STRAP_DEVADDR = da.toNat ∧
    (s.strapped bs da rs svc).fget F.SYS_STRAP_REFSEL = rs.toNat ∧ (s.strapped bs da rs svc).flag F.SYS_STRAP_SERVICE = svc ∧
    (s.strapped bs da rs svc).fget F.CLK_CFG_REFSEL = rs.toNat := by
  have hb : bs.toNat % 2 ^ 2 = bs.toNat := Nat.mod_eq_of_lt bs.isLt
  have hd : da.toNat % 2 ^ 3 = da.toNat := Nat.mod_eq_of_lt da.isLt
  have hr : rs.toNat % 2 ^ 2 = rs.toNat := Nat.mod_eq_of_lt rs.isLt
  refine ⟨?_, ?_, ?_, ?_, ?_⟩
  case refine_4 =>
    simp (disch := decide) only [State.strapped, State.flag, State.fget_fput_other]
    exact State.flag_fputB_same _ _ _ (by decide) (by decide)
  all_goals
    simp (disch := decide) only [State.strapped, State.fputB, State.fget_fput_other, State.fget_fput_same]
    assumption

theorem strapped_modes (s : State) (bs : BitVec 2) (da : BitVec 3) (rs : BitVec 2) (svc : Bool) :
    (s.strapped bs da rs svc).fget F.CLK_CFG_R = [25, 50, 65, 100].getD rs.toNat 0 ∧
    (s.strapped bs da rs svc).fget F.AUX_STAT_R = [10, 20, 26, 40].getD rs.toNat 0 ∧
    (s.strapped bs da rs svc).fget F.SYS_BOOT_MODE = (if svc then 3 else [0, 1, 2, 0].getD bs.toNat 0) ∧
    (s.strapped bs da rs svc).fget F.SYS_BOOT_STATE = (if svc then 0 else [0, 2, 2, 0].getD bs.toNat 0) := by
  obtain ⟨hm, ha⟩ := strapDividers rs
  obtain ⟨hmode, hst⟩ := strapMode_eq bs svc
  refine ⟨?_, ?_, ?_, ?_⟩
  all_goals
    simp (disch := decide) only [State.strapped, State.fputB, State.fget_fput_other, State.fget_fput_same]
    assumption

theorem strapSample_reports (h1 : s.domPowered 1 = true) (hs : s.boot.sampled = false) :
    Completes (.strapSample bs da rs svc) s fun u =>
      u.boot.sampled = true ∧ u.fget F.SYS_STRAP_BOOTSEL = bs.toNat ∧ u.fget F.SYS_STRAP_DEVADDR = da.toNat ∧
      u.fget F.SYS_STRAP_REFSEL = rs.toNat ∧ u.flag F.SYS_STRAP_SERVICE = svc ∧ u.fget F.CLK_CFG_REFSEL = rs.toNat ∧
      u.fget F.CLK_CFG_R = [25, 50, 65, 100].getD rs.toNat 0 ∧ u.fget F.AUX_STAT_R = [10, 20, 26, 40].getD rs.toNat 0 ∧
      u.fget F.SYS_BOOT_MODE = (if svc then 3 else [0, 1, 2, 0].getD bs.toNat 0) ∧
      u.fget F.SYS_BOOT_STATE = (if svc then 0 else [0, 2, 2, 0].getD bs.toNat 0) ∧ u.voted 2 WARDEN = true ∧ u.voted 34 WARDEN = true ∧
      u.comb = s.comb ∧ u.tn = s.tn := by
  obtain ⟨hbs, hda, hrs, hsvc, hclk⟩ := strapped_straps s bs da rs svc
  obtain ⟨hm, ha, hmode, hst⟩ := strapped_modes s bs da rs svc
  obtain ⟨hsam, hcomb, htn⟩ := strapped_keeps s bs da rs svc
  have hv2 := StartWork.castVote (s.strapped bs da rs svc) (d := 2) (by decide) (by decide) WARDEN
  have hv34 := StartWork.castVote ((s.strapped bs da rs svc).castVote 2 WARDEN true) (d := 34) (by decide) (by decide) WARDEN
  have hw := hv2.trans hv34
  have hsys {f : Fld} (hf : f.addr / 4096 = 0x001) := hw.fget (f := f) (.inr (.inr (.inr (.inl hf))))
  refine .of_exec (exec_strapSample h1 hs) ⟨?_, ?_, ?_, ?_, ?_, ?_, ?_, ?_, ?_, ?_, ?_, ?_, hw.comb.trans hcomb, hw.tn.trans htn⟩
  · exact (congrArg BootSt.sampled hw.boot).trans hsam
  · exact (hsys rfl).trans hbs
  · exact (hsys rfl).trans hda
  · exact (hsys rfl).trans hrs
  · exact (hw.flag (by simp [StartKept, F.SYS_STRAP_SERVICE])).trans hsvc
  · exact (hw.fget (by simp [StartKept, F.CLK_CFG_REFSEL])).trans hclk
  · exact (hw.fget (by simp [StartKept, F.CLK_CFG_R])).trans hm
  · exact (hw.fget (by simp [StartKept, F.AUX_STAT_R])).trans ha
  · exact (hsys rfl).trans hmode
  · exact (hsys rfl).trans hst
  · exact hv34.votes _ _ (StartWork.castVote_voted _ (by decide) (by decide) _)
  · exact StartWork.castVote_voted _ (by decide) (by decide) _

end

-- BOOT (R424, R425)

/-- The image of flash, by the length its header states. -/
def State.flashImage (s : State) : List Byte := s.flashBytes 0 (min 0x100000 (imgField (s.flashBytes 0 0x200) 0x18 4))

/-- BOOT looks for an image: straps sampled in FLASH mode, HOSTIO on, and nothing decided yet. -/
def State.bootReady (s : State) : Prop := s.boot.sampled = true ∧ s.boot.checked = false ∧ s.boot.dead = false ∧
  s.fget F.SYS_BOOT_MODE = 0 ∧ s.fget F.SYS_BOOT_STATE = 0 ∧ s.domPowered 2 = true

section
variable {s : State}

theorem State.not_bootReady_iff : ¬ s.bootReady ↔ ¬ s.boot.sampled = true ∨ s.boot.checked = true ∨ s.boot.dead = true ∨
    s.fget F.SYS_BOOT_MODE ≠ bmFLASH ∨ s.fget F.SYS_BOOT_STATE ≠ bsROM ∨ ¬ s.domPowered 2 = true := by
  simp only [State.bootReady, not_and_or, Bool.not_eq_false, bmFLASH, bsROM, ne_eq]

theorem exec_boot_idle (h : ¬ s.bootReady) : exec .boot s = .next s :=
  congrArg Host.Outcome.next (if_pos (State.not_bootReady_iff.mp h))

theorem exec_boot (h : s.bootReady) : exec .boot s = .next (if imageOk s.fuses s.flashImage then
    { s.combWrite 0 0 s.flashImage with boot.checked := true } else { s with boot.dead := true }) := by
  show execBoot s = _
  rw [execBoot, if_neg fun hn => State.not_bootReady_iff.mpr hn h, State.flashImage]

theorem State.flashImage_length (s : State) : s.flashImage.length ≤ 0x100000 := by
  simp only [State.flashImage, State.flashBytes, List.length_map, List.length_range]
  omega

/-- A write of at most 1 MiB from address 0 lies in COMB0. -/
theorem State.combOn_low (h0 : s.combOn 0 = true) {bs : List Byte} (hb : bs.length ≤ 0x100000) :
    ∀ x ∈ accesses 0 bs.length, s.combOn (combQuarter x.1) = true := by
  intro x hx
  obtain ⟨i, hi, hx1⟩ := mem_lineParts hx
  have hq : combQuarter x.1 = 0 := by rw [combQuarter, hx1]; omega
  rw [hq, h0]

theorem boot_loads (h : s.bootReady) : Completes .boot s fun u =>
    if imageOk s.fuses s.flashImage then s.combOn 0 = true → u.boot.checked = true ∧ u.boot.dead = false ∧
      u.combBytes 0 s.flashImage.length = s.flashImage ∧ ∀ a, s.flashImage.length ≤ a → a < 2 ^ 24 → u.combByte a = s.combByte a
    else u = { s with boot.dead := true } := by
  have hx := exec_boot h
  have hlen := s.flashImage_length
  obtain ⟨-, -, hdead, -⟩ := h
  by_cases hok : imageOk s.fuses s.flashImage = true
  · have hput (h0 : s.combOn 0 = true) := s.combWrite_on (m := 0) (by decide) 0 s.flashImage (State.combOn_low h0 hlen)
    rw [if_pos hok] at hx
    generalize s.combWrite 0 0 s.flashImage = w at hx hput
    refine .of_exec hx ?_
    rw [if_pos hok]
    intro h0
    obtain ⟨hw, hcomb⟩ := hput h0
    refine ⟨rfl, (congrArg BootSt.dead hw.boot).trans hdead, ?_, fun a ha ha' => ?_⟩
    · exact (State.combBytes_congr hcomb 0 _).trans (State.combBytes_combPut s 0 _ (hlen.trans (by decide)))
    · exact (State.combByte_congr hcomb a).trans (State.combByte_combPut_other 0 a _ fun i hi => by omega)
  · rw [if_neg hok] at hx
    refine .of_exec hx ?_
    rw [if_neg hok]

end

-- host load (R414)

section
variable {s : State} {via : Via} {d : Word}

theorem accesses_word (a : Nat) : accesses (4 * a) 4 = [(4 * a % 2 ^ 24, 4)] := by
  have hlines : lines (4 * a) 4 = 1 := by
    unfold lines
    rw [if_neg (by decide)]
    omega
  have hmin : min 4 (64 - 4 * a % 64) = 4 := by omega
  rw [accesses, hlines, lineParts, hmin, lineParts]

theorem leBytes_length (n v : Nat) : (leBytes n v).length = n := by
  induction n generalizing v with
  | zero => rfl
  | succ n ih => rw [leBytes, List.length_cons, ih]

theorem blData_writes (hj : s.judge via 0x002 0x05C true = .ok) (hon : s.combOn (combQuarter (4 * s.fget F.BL_ADDR_A)) = true) :
    Completes (.blData via d) s fun u => u.combBytes (4 * s.fget F.BL_ADDR_A) 4 = leBytes 4 d.toNat ∧
      u.fget F.BL_ADDR_A = (s.fget F.BL_ADDR_A + 1) % 2 ^ 22 ∧ ∀ a < 2 ^ 24, a / 4 ≠ s.fget F.BL_ADDR_A → u.combByte a = s.combByte a := by
  have hx : exec (.blData via d) s = .next (s.blData d) := congrArg Host.Outcome.next (State.guarded_ok hj _)
  have hlt : s.fget F.BL_ADDR_A < 2 ^ 22 := s.fget_lt _
  have hlen := leBytes_length 4 d.toNat
  obtain ⟨hw, hcomb⟩ := s.combWrite_on (m := 0) (by decide) (4 * s.fget F.BL_ADDR_A) (leBytes 4 d.toNat) (by
    rw [hlen, accesses_word]
    intro x hx
    rw [List.mem_singleton.mp hx, Nat.mod_eq_of_lt (by omega)]
    exact hon)
  have haddr := hw.fget (f := F.BL_ADDR_A) (by decide)
  have hput := State.combBytes_combPut s (4 * s.fget F.BL_ADDR_A) (leBytes 4 d.toNat) (by rw [hlen]; decide)
  rw [hlen] at hput
  refine .of_exec hx ⟨(State.combBytes_congr hcomb _ _).trans hput, ?_, fun a ha hne => ?_⟩
  · exact (State.fget_fput_same _ _ _ (by decide)).trans (by rw [haddr]; rfl)
  · exact (State.combByte_congr hcomb a).trans (State.combByte_combPut_other _ a _ fun i hi => by omega)

/-- A host load refused with a result. -/
def LoadRefused (s : State) (res : Nat) (u : State) : Prop := u.fget F.BL_STAT_RESULT = res ∧ u.boot.checked = s.boot.checked ∧
  u.boot.dead = s.boot.dead ∧ u.fget F.SYS_BOOT_STATE = bsHOSTWAIT ∧ OnlyRegs s u [F.BL_STAT_RESULT.addr]

theorem loadRefused (hb : s.fget F.SYS_BOOT_STATE = bsHOSTWAIT) {res : Nat} (hr : res < 8) :
    LoadRefused s res (s.fput F.BL_STAT_RESULT res) :=
  ⟨(State.fget_fput_same _ _ _ (by decide)).trans (Nat.mod_eq_of_lt hr), rfl, rfl,
    (State.fget_fput_other _ _ _ _ (by decide) (.inl (by decide))).trans hb, (OnlyRegs.refl s _).fput _ _ (by simp)⟩

variable (hj : s.judge via 0x002 0x068 true = .ok)
include hj

theorem exec_blGo : exec (.blGo via) s = .next s.blGo := congrArg Host.Outcome.next (State.guarded_ok hj _)

theorem exec_blGo_idle (hb : s.fget F.SYS_BOOT_STATE ≠ bsHOSTWAIT) : exec (.blGo via) s = .next s :=
  (exec_blGo hj).trans (congrArg Host.Outcome.next (if_pos hb))

variable (hb : s.fget F.SYS_BOOT_STATE = bsHOSTWAIT)
include hb

theorem blGo_length (hn : 0x100000 < s.fget F.BL_LEN_N) : Completes (.blGo via) s (LoadRefused s 3) :=
  .of_exec ((exec_blGo hj).trans (congrArg Host.Outcome.next ((if_neg (not_not_intro hb)).trans (if_pos hn)))) (loadRefused hb (by decide))

variable (hn : s.fget F.BL_LEN_N ≤ 0x100000)
include hn

theorem blGo_crc (hc : crc32c (s.combBytes 0 (s.fget F.BL_LEN_N)) ≠ s.fget F.BL_CRC) : Completes (.blGo via) s (LoadRefused s 1) :=
  .of_exec ((exec_blGo hj).trans (congrArg Host.Outcome.next
    ((if_neg (not_not_intro hb)).trans ((if_neg (Nat.not_lt.mpr hn)).trans (if_pos hc))))) (loadRefused hb (by decide))

theorem blGo_image (hc : crc32c (s.combBytes 0 (s.fget F.BL_LEN_N)) = s.fget F.BL_CRC) : Completes (.blGo via) s fun u =>
    if imageOk s.fuses (s.combBytes 0 (s.fget F.BL_LEN_N)) then
      u.fget F.BL_STAT_RESULT = 0 ∧ u.boot.checked = true ∧ u.comb = s.comb
    else LoadRefused s 2 u := by
  have hx := (exec_blGo hj).trans (congrArg Host.Outcome.next
    ((if_neg (not_not_intro hb)).trans ((if_neg (Nat.not_lt.mpr hn)).trans (if_neg (not_not_intro hc)))))
  by_cases hok : imageOk s.fuses (s.combBytes 0 (s.fget F.BL_LEN_N)) = true
  · rw [if_pos hok] at hx
    exact .of_exec hx ((if_pos hok).mpr ⟨State.fget_fput_same _ _ _ (by decide), rfl, rfl⟩)
  · rw [if_neg hok] at hx
    exact .of_exec hx ((if_neg hok).mpr (loadRefused hb (by decide)))

end

end Sys2Proof.Machine
end

section
/-! Image entry (02: R473, R480; 03: R39; 07: R128; 15: R295; 21: R412, R415). -/

namespace Sys2Proof.Machine

-- pages locked (R473)

/-- LOCK and PG_EVEN of one page. -/
def State.lockPage (s : State) (p : Nat) : State :=
  let s := if unlockedPages.contains p then s else s.fputB (PG_LOCK p) true
  s.setReg (p * 4096 + 0x018) (BitVec.ofNat 32 (evBits p))

theorem State.lockPages_eq (s : State) : s.lockPages = implementedPages.foldl State.lockPage s := rfl

/-- Page `p` as a running image leaves it. -/
def PageEntered (t : State) (p : Nat) : Prop :=
  t.reg (p * 4096 + 0x018) = BitVec.ofNat 32 (evBits p) ∧ (p ∉ unlockedPages → t.flag (PG_LOCK p) = true)

section
variable (s : State) {p q : Nat}

theorem State.lockPage_unlocked (h : p ∈ unlockedPages) : s.lockPage p = s.setReg (p * 4096 + 0x018) (BitVec.ofNat 32 (evBits p)) := by
  have hc : unlockedPages.contains p = true := List.contains_iff_mem.mpr h
  simp only [State.lockPage, hc, if_true]

theorem State.lockPage_locked (h : p ∉ unlockedPages) :
    s.lockPage p = (s.fputB (PG_LOCK p) true).setReg (p * 4096 + 0x018) (BitVec.ofNat 32 (evBits p)) := by
  have hc : unlockedPages.contains p = false := by simpa using h
  simp only [State.lockPage, hc, Bool.false_eq_true, if_false]

theorem State.lockPage_rest (p : Nat) : { s.lockPage p with regs := s.regs } = s := by
  by_cases h : p ∈ unlockedPages
  · rw [s.lockPage_unlocked h]; rfl
  · rw [s.lockPage_locked h]; rfl

/-- A page's lock leaves every other register. -/
theorem State.reg_lockPage_other (p : Nat) {a : Nat} (h18 : a ≠ p * 4096 + 0x018) (h24 : a ≠ p * 4096 + 0x024) :
    (s.lockPage p).reg a = s.reg a := by
  by_cases h : p ∈ unlockedPages
  · rw [s.lockPage_unlocked h]
    exact State.reg_setReg_other _ h18 _
  · rw [s.lockPage_locked h]
    exact (State.reg_setReg_other _ h18 _).trans (State.reg_fput_other _ _ _ h24)

theorem State.lockPage_enters (p : Nat) : PageEntered (s.lockPage p) p := by
  by_cases h : p ∈ unlockedPages
  · rw [s.lockPage_unlocked h]
    exact ⟨State.reg_setReg_same _ _ _, fun hn => absurd h hn⟩
  · rw [s.lockPage_locked h]
    refine ⟨State.reg_setReg_same _ _ _, fun _ => ?_⟩
    refine (State.flag_congr (State.reg_setReg_other _ ?_ _)).trans (State.flag_fputB_same _ _ _ (by simp [PG_LOCK]) (by simp [PG_LOCK]))
    simp only [PG_LOCK]
    omega

theorem PageEntered.of_regs {s t : State} (h : PageEntered s p) (hr : ∀ a, a % 4096 = 0x018 ∨ a % 4096 = 0x024 → t.reg a = s.reg a) :
    PageEntered t p :=
  ⟨(hr _ (.inl (by omega))).trans h.1,
    fun hp => (State.flag_congr (hr _ (.inr (by simp only [PG_LOCK]; omega)))).trans (h.2 hp)⟩

theorem State.lockPage_keeps {s : State} (h : PageEntered s p) (q : Nat) : PageEntered (s.lockPage q) p := by
  by_cases hq : p = q
  · rw [hq]
    exact s.lockPage_enters q
  · refine ⟨(State.reg_lockPage_other _ _ (by omega) (by omega)).trans h.1, fun hp => ?_⟩
    refine (State.flag_congr (State.reg_lockPage_other _ _ ?_ ?_)).trans (h.2 hp) <;> (simp only [PG_LOCK]; omega)

theorem State.lockPage_fold (l : List Nat) (h : p ∈ l ∨ PageEntered s p) : PageEntered (l.foldl State.lockPage s) p := by
  induction l generalizing s with
  | nil => exact h.resolve_left (List.not_mem_nil)
  | cons q l ih =>
    refine ih (s.lockPage q) ?_
    rcases h with h | h
    · rcases List.mem_cons.mp h with rfl | h
      · exact .inr (s.lockPage_enters p)
      · exact .inl h
    · exact .inr (State.lockPage_keeps h q)

theorem State.lockPages_enters (hp : p < 1024) (hi : implemented p = true) : PageEntered s.lockPages p := by
  rw [State.lockPages_eq]
  exact s.lockPage_fold implementedPages (.inl (List.mem_filter.mpr ⟨List.mem_range.mpr hp, hi⟩))

theorem State.lockPages_rest : { s.lockPages with regs := s.regs } = s :=
  List.foldlRecOn (motive := fun t => { t with regs := s.regs } = s) implementedPages State.lockPage rfl fun t ht p _ =>
    Eq.trans (congrArg (fun x : State => { x with regs := s.regs }) (t.lockPage_rest p) :) ht

theorem State.lockPages_keeps : s.lockPages.comb = s.comb ∧ s.lockPages.sky = s.sky := by
  have h := s.lockPages_rest
  generalize s.lockPages = t at *
  exact ⟨(congrArg State.comb h :), (congrArg State.sky h :)⟩

/-- The lock of a page keeps what is neither PG_EVEN nor PG_OWNER, and PG_OWNER of the pages it leaves unlocked. -/
theorem State.reg_lockPages {a : Nat} (h18 : a % 4096 ≠ 0x018) (h24 : a % 4096 = 0x024 → a / 4096 ∈ unlockedPages) :
    s.lockPages.reg a = s.reg a := by
  refine List.foldlRecOn (motive := fun t => t.reg a = s.reg a) implementedPages State.lockPage rfl fun t ht p _ => Eq.trans ?_ ht
  by_cases h : p ∈ unlockedPages
  · rw [t.lockPage_unlocked h]
    exact State.reg_setReg_other _ (by omega) _
  · refine t.reg_lockPage_other p (by omega) fun ha => h ?_
    have hu := h24 (by omega)
    rwa [show a / 4096 = p by omega] at hu

end

-- the image reported (R39, R430)

/-- The image taken over and entered: what the Warden reports of it. -/
def State.entered (s : State) (i : Image) (tms : Half) : State :=
  ((((s.adopt i).enterAt i.boot).fput F.SYS_BOOT_STATE bsIMAGE).fput F.SYS_BOOT_TMS tms.toNat).fput F.WEEKFLOOR_WEEK i.week

section
variable (s : State) (i : Image) (tms : Half)

theorem State.entered_keeps : (s.entered i tms).comb = s.comb ∧ (s.entered i tms).boot = s.boot ∧ (s.entered i tms).sky = s.sky ∧
    (s.entered i tms).upd.image = some i := by
  simp [State.entered, State.adopt, State.oldFormats, State.loadBanks, State.enterAt]

/-- The registers in which an entry reports the image. -/
def entryRegs : List Nat := [0x16105C, 0x161060, 0x161064, 0x001050, 0x110090]

theorem State.reg_entered {a : Nat} (h : a ∉ entryRegs) : (s.entered i tms).reg a = s.reg a := by
  simp only [entryRegs, List.mem_cons, List.not_mem_nil, or_false, not_or] at h
  obtain ⟨hrun, hver, hconf, hboot, hweek⟩ := h
  have hadopt : (s.adopt i).reg a = s.reg a := by
    refine (State.reg_fput_other _ _ _ hconf).trans ((State.reg_fput_other _ _ _ hconf).trans ?_)
    exact (State.reg_fput_other _ _ _ hver).trans ((State.reg_fput_other _ _ _ hrun).trans (State.reg_fput_other _ _ _ hrun))
  refine (State.reg_fput_other _ _ _ hweek).trans ((State.reg_fput_other _ _ _ hboot).trans ?_)
  exact (State.reg_fput_other _ _ _ hboot).trans hadopt

theorem State.entered_core : ((s.entered i tms).core 16).k = BitVec.ofNat 2 i.boot.1 ∧
    ((s.entered i tms).core 16).p = BitVec.ofNat 16 i.boot.2 := by
  have hcore : (s.entered i tms).core 16 =
      { ((s.adopt i).core 16).restart (BitVec.ofNat 2 i.boot.1) with p := BitVec.ofNat 16 i.boot.2 } := Tab.get_set_same _ _ _ _
  rw [hcore]
  exact ⟨rfl, rfl⟩

theorem State.entered_boot : (s.entered i tms).fget F.SYS_BOOT_STATE = bsIMAGE ∧ (s.entered i tms).fget F.SYS_BOOT_TMS = tms.toNat ∧
    (s.entered i tms).fget F.WEEKFLOOR_WEEK = i.week % 2 ^ 16 := by
  have htms : tms.toNat % 2 ^ 16 = tms.toNat := Nat.mod_eq_of_lt tms.isLt
  refine ⟨?_, ?_, ?_⟩
  · simp (disch := decide) only [State.entered, State.fget_fput_other, State.fget_fput_same]
    rfl
  · simp (disch := decide) only [State.entered, State.fget_fput_other, State.fget_fput_same]
    exact htms
  · simp (disch := decide) only [State.entered, State.fget_fput_same]
    rfl

theorem State.adopt_version : (s.adopt i).fget F.UP_VER = i.version % 2 ^ 32 ∧ (s.adopt i).flag F.UP_CONF_CONFIRMED = false := by
  constructor
  · simp (disch := decide) only [State.adopt, State.oldFormats, State.fputB, State.fget_fput_other, State.fget_fput_same]
    rfl
  · simp (disch := decide) only [State.adopt, State.oldFormats, State.flag_fputB_other]
    exact State.flag_fputB_same _ _ _ (by decide) (by decide)

theorem State.entered_version : (s.entered i tms).fget F.UP_VER = i.version % 2 ^ 32 ∧
    (s.entered i tms).flag F.UP_CONF_CONFIRMED = false := by
  have hkeep {a : Nat} (hb : a ≠ 0x001050) (hw : a ≠ 0x110090) : (s.entered i tms).reg a = (s.adopt i).reg a :=
    (State.reg_fput_other _ _ _ hw).trans ((State.reg_fput_other _ _ _ hb).trans (State.reg_fput_other _ _ _ hb))
  obtain ⟨hver, hconf⟩ := s.adopt_version i
  exact ⟨(State.fget_congr (hkeep (by decide) (by decide))).trans hver, (State.flag_congr (hkeep (by decide) (by decide))).trans hconf⟩

end

-- base registers, late AON events, the code table (R295, R128)

/-- Base registers loaded, and the AON events that waited for MGMT raised. -/
def State.blocksLoaded (s : State) : State :=
  let s := ((List.range 38).filter s.domPowered).foldl State.loadBases s
  s.aon.late.foldl (fun (s : State) n => s.evRise 0x1A0 n) s

/-- What the entry notes for itself: the image no longer awaits entry, the watchdog's count begins. -/
def State.entryNoted (s : State) : State :=
  { s with aon.late := [], boot.checked := false, boot.fromBackup := false, boot.wdT := s.now }

theorem StartWork.loadBases (s : State) (d : Nat) : StartWork s (s.loadBases d) := by
  unfold State.loadBases
  refine .ite (fun _ => (refl s).fput _ _ (by simp [StartKept, F.SM_ADDR_ADDR])) fun _ => .ite (fun hd => (refl s).fput _ _ ?_) fun _ => ?_
  · simp only [StartKept, F.HV_CSBASE_V]
    omega
  · refine .ite (fun _ => (refl s).fput _ _ (by simp [StartKept, F.SC_SOLB_ADDR])) fun _ => .ite (fun _ => ?_) fun _ => refl s
    exact ((refl s).fput _ _ (by simp [StartKept, F.GA_FBASE_V])).fput _ _ (by simp [StartKept, F.GA_NFR_V])

theorem StartWork.blocksLoaded (s : State) : StartWork s s.blocksLoaded :=
  (foldl _ (fun s d _ => loadBases s d) s).trans (foldl _ (fun s n _ => (refl s).evRise 0x1A0 n (by simp [StartKept])) _)

section
variable {s : State}

theorem State.loadCodeTable_off (h : s.domPowered 32 = false) : s.loadCodeTable = s := by simp [State.loadCodeTable, h]

/-- The image's codes, cut to the table's size. -/
def State.imageCodes (s : State) : List Byte :=
  (Config.imageCodes (s.combBytes 0 (min 0x100000 (ofLe (s.combBytes 0x18 4))))).take (256 * tableUnits)

theorem State.loadCodeTable_on (h : s.domPowered 32 = true) (hb : s.fget F.SYS_BOOT_STATE = bsIMAGE) :
    s.loadCodeTable = s.combPut codeTable s.imageCodes := by
  have hc : s.domPowered 32 = true ∧ s.fget F.SYS_BOOT_STATE = 1 := ⟨h, hb⟩
  rw [State.loadCodeTable, if_pos hc, State.imageCodes]

theorem State.loadCodeTable_rest (s : State) : { s.loadCodeTable with comb := s.comb } = s := by
  unfold State.loadCodeTable
  split
  · exact s.combPut_rest _ _
  · rfl

theorem State.imageCodes_length (s : State) : s.imageCodes.length ≤ 256 * tableUnits := List.length_take_le _ _

/-- The codes in their table, and nothing else of Comb. -/
theorem State.loadCodeTable_comb (hb : s.fget F.SYS_BOOT_STATE = bsIMAGE) :
    (s.domPowered 32 = false → s.loadCodeTable.comb = s.comb) ∧
    (s.domPowered 32 = true → s.loadCodeTable.combBytes codeTable s.imageCodes.length = s.imageCodes ∧
      ∀ a < 2 ^ 24, (a < codeTable ∨ codeTable + s.imageCodes.length ≤ a) → s.loadCodeTable.combByte a = s.combByte a) := by
  have hlen := s.imageCodes_length
  refine ⟨fun h => congrArg State.comb (State.loadCodeTable_off h), fun h => ?_⟩
  rw [State.loadCodeTable_on h hb]
  refine ⟨State.combBytes_combPut s codeTable s.imageCodes (hlen.trans (by decide)), fun a ha hout => ?_⟩
  refine State.combByte_combPut_other codeTable a s.imageCodes fun i hi => ?_
  unfold codeTable tableUnits at *
  omega

end

-- the configured paths (R415)

/-- The Warden's vote for a path, and its request. -/
def State.startPath (s : State) (p : Nat) : State :=
  let s := s.castVote (3 + p) WARDEN true
  if s.domPowered (3 + p) then s.rfReq p 3 else s

theorem State.startPaths_eq (s : State) : s.startPaths = configured.foldl State.startPath { s with rf.start := some {} } := rfl

theorem configured_lt {p : Nat} (h : p ∈ configured) : p < 8 := List.mem_range.mp (List.mem_filter.mp h).1

section
variable (s : State) {p : Nat} (hp : p < 8)
include hp

theorem StartWork.rfRequested : StartWork s (if s.domPowered (3 + p) then s.rfReq p 3 else s) :=
  ite (fun _ => rfReq_receive s hp) fun _ => refl s

theorem StartWork.startPath : StartWork s (s.startPath p) :=
  (castVote s (by omega) (by omega) WARDEN).trans (rfRequested _ hp)

theorem State.startPath_voted : (s.startPath p).voted (3 + p) WARDEN = true :=
  (StartWork.rfRequested _ hp).votes _ _ (StartWork.castVote_voted s (by omega) (by omega) WARDEN)

end

theorem StartWork.startPaths_fold (l : List Nat) (hl : ∀ p ∈ l, p < 8) (s : State) :
    StartWork s (l.foldl State.startPath s) ∧ ∀ p ∈ l, (l.foldl State.startPath s).voted (3 + p) WARDEN = true := by
  induction l generalizing s with
  | nil => exact ⟨refl s, nofun⟩
  | cons q l ih =>
    obtain ⟨hq, hl⟩ := List.forall_mem_cons.mp hl
    obtain ⟨hw, hv⟩ := ih hl (s.startPath q)
    exact ⟨(startPath s hq).trans hw, List.forall_mem_cons.mpr ⟨hw.votes _ _ (s.startPath_voted hq), hv⟩⟩

theorem StartWork.startPaths (s : State) : StartWork s s.startPaths := by
  rw [State.startPaths_eq]
  exact ((refl s).setRf _).trans (startPaths_fold configured (fun _ => configured_lt) _).1

theorem State.startPaths_voted (s : State) {p : Nat} (hp : p < 8) (hc : Config.rfConfigured p = true) :
    s.startPaths.voted (3 + p) WARDEN = true := by
  rw [State.startPaths_eq]
  exact (StartWork.startPaths_fold configured (fun _ => configured_lt) _).2 p (List.mem_filter.mpr ⟨List.mem_range.mpr hp, hc⟩)

-- the entry

/-- The image that awaits entry in Comb. -/
def State.combImage (s : State) : Image := parseImage (s.combBytes 0 (min 0x100000 (imgField (s.combBytes 0 0x200) 0x18 4)))

/-- The state of an entry of image `i` before the codes are loaded. -/
def State.entryState (s : State) (i : Image) (tms : Half) : State := (s.lockPages.entered i tms).blocksLoaded.entryNoted

section
variable {s : State} {i : Image} {tms : Half}

theorem exec_imageEntry_idle (h : s.boot.checked = false ∨ s.boot.dead = true ∨ s.fget F.SYS_BOOT_STATE = bsIMAGE) :
    exec (.imageEntry tms) s = .next s :=
  congrArg Host.Outcome.next (if_pos (h.imp (fun h => by rw [h]; exact Bool.false_ne_true) id))

theorem exec_imageEntry (hc : s.boot.checked = true) (hd : s.boot.dead = false) (hb : s.fget F.SYS_BOOT_STATE ≠ bsIMAGE) :
    exec (.imageEntry tms) s = .next (s.entryState s.combImage tms).loadCodeTable.startPaths := by
  have hin : ¬ (¬ s.boot.checked = true ∨ s.boot.dead = true ∨ s.fget F.SYS_BOOT_STATE = bsIMAGE) := by simp [hc, hd, hb]
  show execImageEntry tms s = _
  rw [execImageEntry, if_neg hin]
  rfl

theorem State.entryState_reg {a : Nat} (ha : StartKept a) : (s.entryState i tms).reg a = (s.lockPages.entered i tms).reg a :=
  (StartWork.blocksLoaded _).regs a ha

/-- After the entry: what votes and requests leave is as before the codes were loaded. -/
theorem State.entry_reg {a : Nat} (ha : StartKept a) :
    (s.entryState i tms).loadCodeTable.startPaths.reg a = (s.lockPages.entered i tms).reg a := by
  have hregs : (s.entryState i tms).loadCodeTable.regs = (s.entryState i tms).regs := (congrArg State.regs (State.loadCodeTable_rest _) :)
  refine ((StartWork.startPaths _).regs a ha).trans (Eq.trans ?_ (State.entryState_reg ha))
  unfold State.reg
  rw [hregs]

theorem State.entryState_comb : (s.entryState i tms).comb = s.comb :=
  (StartWork.blocksLoaded (s.lockPages.entered i tms)).comb.trans ((State.entered_keeps _ _ _).1.trans s.lockPages_keeps.1)

theorem State.entryState_comb2 : (s.entryState i tms).domPowered 32 = s.domPowered 32 := by
  have hst : (s.entryState i tms).domState 32 = s.domState 32 := State.fget_congr (f := F.PW_D_STATE 32) (
    (State.entryState_reg (.inr (.inr (.inl rfl)))).trans ((State.reg_entered _ _ _ (by decide)).trans (State.reg_lockPages _ (by decide) (by decide))))
  simp only [State.domPowered, hst]

/-- What the entry leaves in registers, core and boot state. -/
theorem State.entry_reports (s : State) (i : Image) (tms : Half) :
    let u := (s.entryState i tms).loadCodeTable.startPaths
    u.fget F.SYS_BOOT_STATE = bsIMAGE ∧ u.fget F.SYS_BOOT_TMS = tms.toNat ∧ u.fget F.WEEKFLOOR_WEEK = i.week % 2 ^ 16 ∧
    u.upd.image = some i ∧ (u.core 16).k = BitVec.ofNat 2 i.boot.1 ∧
    (u.core 16).p = BitVec.ofNat 16 i.boot.2 ∧ u.fget F.UP_VER = i.version % 2 ^ 32 ∧
    u.flag F.UP_CONF_CONFIRMED = false ∧ u.boot.checked = false ∧ u.boot.wdT = s.now := by
  intro u
  have hload := (s.entryState i tms).loadCodeTable_rest
  have hstart := StartWork.startPaths (s.entryState i tms).loadCodeTable
  have hblocks := StartWork.blocksLoaded (s.lockPages.entered i tms)
  obtain ⟨-, -, hsky, himage⟩ := s.lockPages.entered_keeps i tms
  obtain ⟨hboot, htms, hweek⟩ := s.lockPages.entered_boot i tms
  obtain ⟨hver, hconf⟩ := s.lockPages.entered_version i tms
  obtain ⟨hk, hp⟩ := s.lockPages.entered_core i tms
  have hupd : u.upd = (s.lockPages.entered i tms).upd :=
    hstart.upd.trans ((congrArg State.upd hload :).trans hblocks.upd)
  have hwv : u.wv = (s.lockPages.entered i tms).wv := hstart.wv.trans ((congrArg State.wv hload :).trans hblocks.wv)
  have hcore : u.core 16 = (s.lockPages.entered i tms).core 16 := by unfold State.core; rw [hwv]
  have hbt : u.boot = (s.entryState i tms).boot := hstart.boot.trans (congrArg State.boot hload :)
  have hnow : (s.lockPages.entered i tms).blocksLoaded.now = s.now := by
    unfold State.now
    rw [hblocks.sky, hsky, s.lockPages_keeps.2]
  refine ⟨?_, ?_, ?_, ?_, ?_, ?_, ?_, ?_, ?_, ?_⟩
  · exact (State.fget_congr (State.entry_reg (by simp [StartKept, F.SYS_BOOT_STATE]))).trans hboot
  · exact (State.fget_congr (State.entry_reg (by simp [StartKept, F.SYS_BOOT_TMS]))).trans htms
  · exact (State.fget_congr (State.entry_reg (by simp [StartKept, F.WEEKFLOOR_WEEK]))).trans hweek
  · rw [hupd, himage]
  · rw [hcore, hk]
  · rw [hcore, hp]
  · exact (State.fget_congr (State.entry_reg (by simp [StartKept, F.UP_VER]))).trans hver
  · exact (State.flag_congr (State.entry_reg (by simp [StartKept, F.UP_CONF_CONFIRMED]))).trans hconf
  · rw [hbt]; rfl
  · rw [hbt]; exact hnow

/-- The codes of the image, in Comb after the entry (R128). -/
theorem State.entry_codes (s : State) (i : Image) (tms : Half) :
    let u := (s.entryState i tms).loadCodeTable.startPaths
    (s.domPowered 32 = false → u.comb = s.comb) ∧
    (s.domPowered 32 = true → u.combBytes codeTable s.imageCodes.length = s.imageCodes ∧
      ∀ a < 2 ^ 24, (a < codeTable ∨ codeTable + s.imageCodes.length ≤ a) → u.combByte a = s.combByte a) := by
  intro u
  have hcomb := State.entryState_comb (s := s) (i := i) (tms := tms)
  have hu := (StartWork.startPaths (s.entryState i tms).loadCodeTable).comb
  have hcodes : (s.entryState i tms).imageCodes = s.imageCodes := by simp only [State.imageCodes, State.combBytes_congr hcomb]
  have hb : (s.entryState i tms).fget F.SYS_BOOT_STATE = bsIMAGE :=
    (State.fget_congr (State.entryState_reg (by simp [StartKept, F.SYS_BOOT_STATE]))).trans (State.entered_boot _ _ _).1
  obtain ⟨hoff, hon⟩ := State.loadCodeTable_comb hb
  rw [State.entryState_comb2, hcodes] at hon
  rw [State.entryState_comb2] at hoff
  refine ⟨fun h => hu.trans ((hoff h).trans hcomb), fun h => ?_⟩
  obtain ⟨hin, hout⟩ := hon h
  refine ⟨(State.combBytes_congr hu _ _).trans hin, fun a ha hc => ?_⟩
  exact (State.combByte_congr hu a).trans ((hout a ha hc).trans (State.combByte_congr hcomb a))

/-- A header register of any page, after the entry. -/
theorem State.entry_header {a : Nat} (ha : a % 4096 = 0x018 ∨ a % 4096 = 0x024) :
    (s.entryState i tms).loadCodeTable.startPaths.reg a = s.lockPages.reg a := by
  refine (State.entry_reg (ha.elim .inl fun h => .inr (.inl h))).trans (State.reg_entered _ _ _ fun hm => ?_)
  simp only [entryRegs, List.mem_cons, List.not_mem_nil, or_false] at hm
  omega

/-- Pages locked and sources enabled after the entry (R473). -/
theorem State.entry_pages (s : State) (i : Image) (tms : Half) :
    let u := (s.entryState i tms).loadCodeTable.startPaths
    (∀ p < 1024, implemented p = true → u.flag (PG_LOCK p) = true ∨ p ∈ [0x012, 0x120, 0x130, 0x152]) ∧
    (∀ p ∈ [0x012, 0x120, 0x130, 0x152], u.flag (PG_LOCK p) = s.flag (PG_LOCK p)) ∧
    (∀ p < 1024, implemented p = true → ∀ b < 32, u.flag (PG_EVEN p b) = (evBits p).testBit b) := by
  intro u
  have hpage {p : Nat} (hp : p < 1024) (hi : implemented p = true) : PageEntered u p :=
    (s.lockPages_enters hp hi).of_regs fun _ => State.entry_header
  refine ⟨fun p hp hi => ?_, fun p hp => ?_, fun p hp hi b hb => ?_⟩
  · by_cases hu : p ∈ unlockedPages
    · exact .inr hu
    · exact .inl ((hpage hp hi).2 hu)
  · have hlock : (PG_LOCK p).addr = p * 4096 + 0x024 := rfl
    refine State.flag_congr ((State.entry_header (.inr (by omega))).trans (State.reg_lockPages s (by omega) fun _ => ?_))
    rwa [show (PG_LOCK p).addr / 4096 = p by omega]
  · have heven : u.reg (PG_EVEN p b).addr = BitVec.ofNat 32 (evBits p) := (hpage hp hi).1
    have hbit : (BitVec.ofNat 32 (evBits p)).toNat.testBit b = (evBits p).testBit b := by
      rw [BitVec.toNat_ofNat, Nat.testBit_mod_two_pow, decide_eq_true hb, Bool.true_and]
    rw [← hbit, Nat.testBit_eq_decide_div_mod_eq]
    unfold State.flag State.fget
    rw [heven]
    refine decide_eq_decide.mpr ?_
    show (BitVec.ofNat 32 (evBits p)).toNat / 2 ^ b % 2 ^ 1 ≠ 0 ↔ _
    omega

end

/-- Settles O57: straps, the boot check, host load and image entry, each from what its stages leave. -/
theorem startUpTakesStrapsAndAnImage : Obligations.StartUpTakesStrapsAndAnImage := by
  unfold Obligations.StartUpTakesStrapsAndAnImage
  intro s bs da rs svc via d tms strap
  refine ⟨?again, ?straps, ?boot, ?data, ?go, ?idle, ?entry⟩
  case again => exact exec_strapSample_again
  case straps => exact strapSample_reports
  case boot => exact ⟨exec_boot_idle, boot_loads⟩
  case data => exact blData_writes
  case go =>
    intro hj n b refused
    exact ⟨exec_blGo_idle hj, fun hb => ⟨blGo_length hj hb, blGo_crc hj hb, blGo_image hj hb⟩⟩
  case idle => exact exec_imageEntry_idle
  case entry =>
    intro hc hd hb i
    obtain ⟨hst, htms, hweek, himage, hk, hp, hver, hconf, hchk, hwd⟩ := s.entry_reports s.combImage tms
    exact .of_exec (exec_imageEntry hc hd hb) ⟨hst, htms, hweek, himage, hk, hp, hver, hconf, hchk, hwd,
      fun p hp hcf => State.startPaths_voted _ hp hcf, s.entry_codes s.combImage tms, s.entry_pages s.combImage tms⟩

end Sys2Proof.Machine
end

section
/-! SUPPORT. What a chain of updates keeps: a view of the state and some of its registers; and rises along such a chain (02: R31). -/

namespace Sys2Proof.Machine

/-- From `s` to `t` the view `π` of the state and the registers that satisfy `R` stand. -/
structure Keeps {α : Type} (π : State → α) (R : Nat → Prop) (s t : State) : Prop where
  view : π t = π s
  regs : ∀ a, R a → t.reg a = s.reg a

/-- The view does not look at the registers, or at the raises Cicada has yet to take. -/
structure Blind {α : Type} (π : State → α) : Prop where
  regs : ∀ (t : State) (l : Tab Word), π { t with regs := l } = π t
  cic : ∀ (t : State) (c : CicSt), π { t with cic := c } = π t

namespace Keeps

variable {α : Type} {π : State → α} {R : Nat → Prop} {s t u : State}

theorem refl (s : State) : Keeps π R s s := ⟨rfl, fun _ _ => rfl⟩

theorem trans (h : Keeps π R s t) (h' : Keeps π R t u) : Keeps π R s u :=
  ⟨h'.view.trans h.view, fun a ha => (h'.regs a ha).trans (h.regs a ha)⟩

theorem of_eq (hv : π t = π s) (hr : t.regs = s.regs) : Keeps π R s t := ⟨hv, fun _ _ => by unfold State.reg; rw [hr]⟩

theorem fget (h : Keeps π R s t) {f : Fld} (hf : R f.addr) : t.fget f = s.fget f := State.fget_congr (h.regs _ hf)

theorem flag (h : Keeps π R s t) {f : Fld} (hf : R f.addr) : t.flag f = s.flag f := State.flag_congr (h.regs _ hf)

theorem foldl {β : Type} {f : State → β → State} (l : List β) (h : ∀ s, ∀ x ∈ l, Keeps π R s (f s x)) (s : State) :
    Keeps π R s (l.foldl f s) := by
  induction l generalizing s with
  | nil => exact refl s
  | cons x l ih =>
    have h' := List.forall_mem_cons.mp (h s)
    exact h'.1.trans (ih (fun s y hy => h s y (List.mem_cons_of_mem _ hy)) _)

/-- The same along a fold that collects a value beside the state. -/
theorem foldlSnd {β γ : Type} {f : γ × State → β → γ × State} (l : List β) (h : ∀ r, ∀ x ∈ l, Keeps π R r.2 (f r x).2) (r : γ × State) :
    Keeps π R r.2 (l.foldl f r).2 := by
  induction l generalizing r with
  | nil => exact refl r.2
  | cons x l ih =>
    have h' := List.forall_mem_cons.mp (h r)
    exact h'.1.trans (ih (fun r y hy => h r y (List.mem_cons_of_mem _ hy)) _)

theorem ite {c : Prop} [Decidable c] (h : c → Keeps π R s t) (h' : ¬ c → Keeps π R s u) : Keeps π R s (if c then t else u) := by
  split
  · next hc => exact h hc
  · next hc => exact h' hc

theorem when {b : Bool} {f : State → State} (h : b = true → Keeps π R s (f s)) : Keeps π R s (s.when b f) :=
  ite h fun _ => refl s

theorem mono {Q : Nat → Prop} (h : Keeps π R s t) (hq : ∀ a, Q a → R a) : Keeps π Q s t := ⟨h.view, fun a ha => h.regs a (hq a ha)⟩

theorem map {β : Type} (f : α → β) (h : Keeps π R s t) : Keeps (fun x => f (π x)) R s t := ⟨congrArg f h.view, h.regs⟩

section
variable (hπ : Blind π)
include hπ

theorem setReg (h : Keeps π R s t) (a : Nat) (w : Word) (ha : ¬ R a) : Keeps π R s (t.setReg a w) :=
  ⟨(hπ.regs t _).trans h.view, fun b hb => (State.reg_setReg_other _ (fun (e : b = a) => ha (e ▸ hb)) _).trans (h.regs b hb)⟩

theorem fput (h : Keeps π R s t) (f : Fld) (v : Nat) (hf : ¬ R f.addr) : Keeps π R s (t.fput f v) := h.setReg hπ _ _ hf

theorem fputB (h : Keeps π R s t) (f : Fld) (b : Bool) (hf : ¬ R f.addr) : Keeps π R s (t.fputB f b) := h.fput hπ f _ hf

theorem finc (h : Keeps π R s t) (f : Fld) (hf : ¬ R f.addr) : Keeps π R s (t.finc f) := h.fput hπ f _ hf

theorem fault (h : Keeps π R s t) (p b : Nat) (hf : ¬ R (p * 4096 + 0x020)) : Keeps π R s (t.fault p b) := h.fputB hπ _ _ hf

theorem put96 (h : Keeps π R s t) (f : Nat → Fld) (v : Nat) (hf : ∀ i < 3, ¬ R (f i).addr) : Keeps π R s (t.put96 f v) :=
  ((h.fput hπ _ _ (hf 0 (by decide))).fput hπ _ _ (hf 1 (by decide))).fput hπ _ _ (hf 2 (by decide))

theorem raise (h : Keeps π R s t) (src p i : Nat) (d : Option Word) : Keeps π R s (t.raise src p i d) :=
  ⟨(hπ.cic t _).trans h.view, h.regs⟩

theorem evRiseD (h : Keeps π R s t) (p b : Nat) (d : Option Word) (hp : ¬ R (p * 4096 + 0x01C)) : Keeps π R s (t.evRiseD p b d) := by
  unfold State.evRiseD
  split
  · exact (h.fputB hπ _ _ hp).raise hπ _ _ _ _
  · exact h

theorem evRise (h : Keeps π R s t) (p b : Nat) (hp : ¬ R (p * 4096 + 0x01C)) : Keeps π R s (t.evRise p b) := h.evRiseD hπ p b none hp

end

end Keeps

-- rises

section
variable {s t u : State} {p b : Nat}

/-- A rise after updates that leave the page's PG_EVEN. -/
theorem Rises.of_evRise (hb : b < 32) (h : t.reg (p * 4096 + 0x018) = s.reg (p * 4096 + 0x018)) : Rises s (t.evRise p b) p b := by
  intro he
  refine t.rises_evRise p b hb ?_
  rwa [State.flag_congr (s := s) (t := t) h]

/-- Updates that leave PG_EVPEND of the page and the raises leave a rise. -/
theorem Rises.keep (h : Rises s t p b) (hr : u.reg (p * 4096 + 0x01C) = t.reg (p * 4096 + 0x01C)) (hc : u.cic = t.cic) : Rises s u p b := by
  intro he
  obtain ⟨hp, hx⟩ := h he
  exact ⟨(State.flag_congr hr).trans hp, by rw [hc]; exact hx⟩

/-- A further rise, of another bit or page, leaves a rise. -/
theorem Rises.evRise (h : Rises s t p b) (p' b' : Nat) (hb : b < 32) : Rises s (t.evRise p' b') p b := by
  intro he
  obtain ⟨hpend, hx⟩ := h he
  unfold State.evRise State.evRiseD
  split
  · refine ⟨?_, addRaise_keeps _ _ hx⟩
    change (t.fputB (PG_EVPEND p' b') true).flag (PG_EVPEND p b) = true
    by_cases hp : p = p' ∧ b = b'
    · obtain ⟨rfl, rfl⟩ := hp
      exact State.flag_fputB_same _ _ _ (by simp only [PG_EVPEND]; omega) (by simp [PG_EVPEND])
    · rw [State.flag_fputB_other _ _ _ _ (by simp [PG_EVPEND]) (by simp only [PG_EVPEND]; omega), hpend]
  · exact ⟨hpend, hx⟩

end

end Sys2Proof.Machine
end

section
/-! The tick of the time base (03: R41, R46, R48). -/
namespace Sys2Proof.Machine

/-- Steering INC touches registers, the raises, the drift and the clip condition alone. -/
theorem State.steerInc_frame (s : State) (i : Int) :
    (s.steerInc i).comb = s.comb ∧ (s.steerInc i).sched = s.sched ∧ (s.steerInc i).pending = s.pending ∧
      (s.steerInc i).sky = { s.sky with clip := (s.steerInc i).sky.clip } := by
  unfold State.steerInc
  dsimp only
  split <;> simp [State.setClip, State.timeErr, State.setInc]

/-- What a tick of the time base leaves: Comb, the schedule and the queue. -/
structure TickKept (s t : State) : Prop where
  comb : t.comb = s.comb
  sched : t.sched = s.sched
  pending : t.pending = s.pending

theorem TickKept.trans {s t u : State} (h : TickKept s t) (h' : TickKept t u) : TickKept s u :=
  ⟨h'.comb.trans h.comb, h'.sched.trans h.sched, h'.pending.trans h.pending⟩

/-- A state in which the sample tick has moved the time to `t`, the commanded steps still to be made. -/
structure SampleMoved (s w : State) (t : Nat) : Prop where
  kept : TickKept s w
  time : w.sky.time = t
  smp : w.sky.smp = if s.sky.started then (s.sky.smp + 1) % 2 ^ 64 else 0
  started : w.sky.started = true
  stepReq : w.sky.stepReq = s.sky.stepReq

theorem SampleMoved.of_sky {s w u : State} {t : Nat} {l : Int} {c : Bool} (h : SampleMoved s w t) (hk : TickKept w u)
    (hs : u.sky = { w.sky with slewLeft := l, clip := c }) : SampleMoved s u t := by
  refine ⟨h.kept.trans hk, ?_, ?_, ?_, ?_⟩ <;> rw [hs]
  exacts [h.time, h.smp, h.started, h.stepReq]

/-- INC steered back to its base, with no slew left. -/
theorem SampleMoved.slewDone {s w r : State} {t : Nat} (h : SampleMoved s w t) (i : Int) (hr : w.steerInc i = r) :
    SampleMoved s { r with sky.slewLeft := 0 } t := by
  obtain ⟨hc, hd, hp, hs⟩ := w.steerInc_frame i
  rw [hr] at hc hd hp hs
  have hu : ({ r with sky.slewLeft := 0 } : State).sky = { w.sky with slewLeft := 0, clip := r.sky.clip } :=
    congrArg (fun k : SkySt => { k with slewLeft := 0 }) hs
  exact h.of_sky ⟨hc, hd, hp⟩ hu

/-- A sample tick moves the time, unless SRC = AON; the commanded steps that wait are then made (R41, R44). -/
theorem State.sampleTick_moved (s : State) : ∃ w : State,
    SampleMoved s w (if s.srcAON then s.sky.time else (s.sky.time + s.inc) % 2 ^ 128) ∧
    s.sampleTick = w.sky.stepReq.foldl State.skyStepBy { w with sky.stepReq := [] } := by
  unfold State.sampleTick
  extract_lets +onlyGivenNames _k v
  have hv : SampleMoved s v s.sky.time := ⟨⟨rfl, rfl, rfl⟩, rfl, rfl, rfl, rfl⟩
  have hsrc : v.srcAON = s.srcAON := rfl
  have hinc : v.inc = s.inc := rfl
  clear_value v
  refine ⟨_, ?_, Eq.refl _⟩
  rw [← hsrc]
  split
  · exact hv
  extract_lets inc t _src tio tio' _src' u left r
  have hu : SampleMoved s u ((s.sky.time + s.inc) % 2 ^ 128) :=
    ⟨hv.kept.trans ⟨rfl, rfl, rfl⟩, by rw [← hv.time, ← hinc], hv.smp, hv.started, hv.stepReq⟩
  clear_value u
  split
  · exact hu
  · split
    · exact hu.slewDone _ (Eq.refl r)
    · exact hu.of_sky ⟨rfl, rfl, rfl⟩ rfl

/-- A sample tick on which no commanded step waits (R41). -/
theorem State.sampleTick_plain {s : State} (h : s.sky.stepReq = []) :
    SampleMoved s s.sampleTick (if s.srcAON then s.sky.time else (s.sky.time + s.inc) % 2 ^ 128) := by
  obtain ⟨w, hw, he⟩ := s.sampleTick_moved
  have hr : w.sky.stepReq = [] := hw.stepReq.trans h
  rw [he, hr]
  exact ⟨⟨hw.kept.comb, hw.kept.sched, hw.kept.pending⟩, hw.time, hw.smp, hw.started, h.symm⟩

/-- What the always-on clock's part of a tick keeps of the Sky Clock (R46). -/
structure AonTicked (s t : State) : Prop where
  rest : { t with sky := s.sky } = s
  stepReq : t.sky.stepReq = s.sky.stepReq
  smp : t.sky.smp = s.sky.smp
  started : t.sky.started = s.sky.started
  time : s.srcAON = false → t.sky.time = s.sky.time

theorem State.aonTick_ticked (s : State) (byp t32 : Bool) : AonTicked s (s.aonTick byp t32) := by
  refine ⟨rfl, ?_, ?_, ?_, ?_⟩ <;> unfold State.aonTick SkySt.tick32 SkySt.count32 <;> cases s.srcAON <;> cases byp <;> cases t32 <;> simp

/-- While SRC = AON a 32.768 kHz tick moves the time on by I_A (R46). -/
theorem State.aonTick_time {s : State} (hs : s.srcAON = true) (hf : s.sky.first = false) (hi : 0 < s.sky.iA) (byp : Bool) :
    (s.aonTick byp true).sky.time = (s.sky.anchor + s.sky.iA) % 2 ^ 96 * 2 ^ 32 := by
  have hb (k : SkySt) (hk : k.first = false) (hi : 0 < k.iA) :
      k.tick32.count32.between = (k.anchor + k.iA) % 2 ^ 96 := by
    unfold SkySt.between SkySt.count32 SkySt.tick32
    simp only [hk, Bool.false_eq_true, if_false]
    split
    · rfl
    · rw [Nat.mul_zero, Nat.zero_div, Nat.add_zero]
      exact min_eq_left (by omega)
  unfold State.aonTick
  rw [hs]
  cases byp
  · exact congrArg (· % 2 ^ 96 * 2 ^ 32) (hb s.sky hf hi) |>.trans (by rw [Nat.mod_mod])
  · exact congrArg (· % 2 ^ 96 * 2 ^ 32) (hb { s.sky with c := s.sky.c + 1, n32 := s.sky.n32 + 1 } hf hi) |>.trans (by rw [Nat.mod_mod])

/-- The time of the last tick takes no part in the always-on clock's. -/
theorem State.aonTick_time_prev (s : State) (p : Nat) (byp t32 : Bool) :
    (({ s with sky.prev := p } : State).aonTick byp t32).sky.time = (s.aonTick byp t32).sky.time := by
  unfold State.aonTick
  rw [show ({ s with sky.prev := p } : State).srcAON = s.srcAON from rfl]
  cases s.srcAON <;> cases byp <;> cases t32 <;> simp [SkySt.tick32, SkySt.count32, SkySt.between]

theorem TickKept.uncGrow (s : State) (dt : Nat) : TickKept s (s.uncGrow dt) := by
  unfold State.uncGrow
  split <;> exact ⟨rfl, rfl, rfl⟩

theorem State.uncGrow_sky (s : State) (dt : Nat) : (s.uncGrow dt).sky = { s.sky with uncAcc := (s.uncGrow dt).sky.uncAcc } := by
  unfold State.uncGrow
  split <;> rfl

/-- With MGMT off a tick moves the holdover counter alone (R48). -/
theorem State.tick_off {s : State} (h : s.domPowered 1 = false) : s.tick = { s with sky.aon := (s.sky.aon + s.sky.iA) % 2 ^ 96 } := by
  unfold State.tick
  rw [h]
  exact if_pos Bool.false_ne_true

/-- What follows the clock's own part of a tick: UNC grows and the holdover counter follows (R47, R48). -/
def State.tickEnd (s u : State) : State :=
  let u := u.uncGrow (u.sky.time - s.sky.time)
  { u with sky.aon := u.now }

theorem State.tickEnd_holds (s u : State) : TickKept u (s.tickEnd u) ∧ (s.tickEnd u).sky.time = u.sky.time ∧
    (s.tickEnd u).sky.smp = u.sky.smp ∧ (s.tickEnd u).sky.started = u.sky.started := by
  have hk := TickKept.uncGrow u (u.sky.time - s.sky.time)
  have hs := State.uncGrow_sky u (u.sky.time - s.sky.time)
  unfold State.tickEnd
  generalize u.uncGrow (u.sky.time - s.sky.time) = w at hk hs ⊢
  exact ⟨⟨hk.comb, hk.sched, hk.pending⟩, (congrArg SkySt.time hs :), (congrArg SkySt.smp hs :), (congrArg SkySt.started hs :)⟩

/-- The always-on clock's part of a tick with MGMT on. -/
def State.tickAon (s : State) : State :=
  ({ s with sky.prev := s.now } : State).aonTick (s.flag F.CLK_STAT_BYP || Config.bypEdge s.cycle) (Config.tick32 s.cycle)

/-- A tick with MGMT on is the always-on clock's part, then out of bypass a sample tick. -/
theorem State.tick_on {s : State} (h : s.domPowered 1 = true) :
    s.tick = s.tickEnd (if s.flag F.CLK_STAT_BYP then s.tickAon else s.tickAon.sampleTick) := by
  unfold State.tick
  rw [if_neg (by simp [h])]
  rfl

theorem State.tickAon_ticked (s : State) : AonTicked { s with sky.prev := s.now } s.tickAon := State.aonTick_ticked _ _ _

theorem State.tick_kept {s : State} (hreq : s.sky.stepReq = []) : TickKept s s.tick := by
  cases h : s.domPowered 1
  · rw [State.tick_off h]
    exact ⟨rfl, rfl, rfl⟩
  · obtain ⟨hrest, hr, -, -, -⟩ := s.tickAon_ticked
    have ha : TickKept s s.tickAon := ⟨(congrArg State.comb hrest :), (congrArg State.sched hrest :), (congrArg State.pending hrest :)⟩
    rw [State.tick_on h]
    split
    · exact ha.trans (s.tickEnd_holds _).1
    · exact (ha.trans (State.sampleTick_plain (hr.trans hreq)).kept).trans (s.tickEnd_holds _).1

/-- Settles O2: each tick is the always-on clock's part, then out of bypass a sample tick. -/
theorem sampleTickAddsIncrement : Obligations.SampleTickAddsIncrement := by
  unfold Obligations.SampleTickAddsIncrement
  refine ⟨fun s h => ?_, fun s hreq => ?_⟩
  · obtain ⟨pending⟩ := s
    cases (h : pending = [])
    rfl
  · obtain ⟨hrest, hr, hsmp, hst, htime⟩ := s.tickAon_ticked
    have hk := State.tick_kept hreq
    refine ⟨hk.comb, hk.sched, hk.pending, State.tick_off, fun h1 hb hsrc => ?_, fun h1 hb => ?_,
      fun hsrc hf hi byp => State.aonTick_time hsrc hf hi byp⟩
    · obtain ⟨-, ht, hn, hd⟩ := s.tickEnd_holds s.tickAon.sampleTick
      have hm := State.sampleTick_plain (hr.trans hreq)
      have hreg : s.tickAon.regs = s.regs := rfl
      rw [State.tick_on h1, hb, if_neg Bool.false_ne_true, ht, hn, hd, hm.time, hm.smp, hm.started, hst, hsmp, htime hsrc,
        if_neg (by rw [show s.tickAon.srcAON = s.srcAON from rfl, hsrc]; exact Bool.false_ne_true)]
      exact ⟨rfl, rfl, rfl⟩
    · obtain ⟨-, ht, hn, -⟩ := s.tickEnd_holds s.tickAon
      rw [State.tick_on h1, hb, if_pos rfl, ht, hn, hsmp]
      refine ⟨?_, rfl⟩
      unfold State.tickAon
      rw [hb]
      exact s.aonTick_time_prev _ _ _

end Sys2Proof.Machine
end

section
/-! The scrubber (03: R61, R62). -/
namespace Sys2Proof.Machine

/-- A schedule table out of order with an entry past the last, 511: the ARMED bit that entry 1024 would have lies where VOTEF of
entry 0 does. -/
def scrubAlias : State := { sched := [(1024, { errs := 1 }), (0, { c0 := 1 })] }

/-- What the scrubber makes of it: entry 1024 is judged first, while unarmed; the correction of entry 0 then sets that bit. -/
def scrubAliasVoted : State := ((scrubAlias.voteEntry 1024).voteEntry 0)

theorem exec_scrubVote_scrubAlias : exec .scrubVote scrubAlias = .next scrubAliasVoted := by
  have h0 : scrubAlias.armed 1024 = false := by decide
  have h1 : (scrubAlias.voteEntry 1024).armed 0 = false := by decide
  show Host.Outcome.next (List.foldl _ scrubAlias [1024, 0]) = _
  simp only [List.foldl_cons, List.foldl_nil, h0, h1, Bool.false_eq_true, if_false, scrubAliasVoted]

/-- Refutes O6: in a table that lists entry 1024 before entry 0, the correction of entry 0 sets the bit that ARMED of entry 1024
reads, and the error in the action words of entry 1024 stays. -/
theorem not_scrubberRestoresCopies : ¬ Obligations.ScrubberRestoresCopies := by
  unfold Obligations.ScrubberRestoresCopies
  intro h
  obtain ⟨t, ht, hP⟩ := h scrubAlias
  cases exec_scrubVote_scrubAlias.symm.trans ht
  obtain ⟨-, -, herr, -⟩ := hP 1024
  have harmed : scrubAliasVoted.armed 1024 = true := by decide
  have herrs : (scrubAliasVoted.entry 1024).errs = 1 := by decide
  exact absurd (herr harmed) (by rw [herrs]; decide)

end Sys2Proof.Machine
end

section
/-! Steps, leaps, time-outs and source changes of the Sky Clock (03: R40 to R46, R52). Here and in the two sections
that follow stand the clauses of O4 that hold; `not_skyClockEventsAct` refutes the one on a change of grid. -/

namespace Sys2Proof.Machine

section
variable {s : State} {via : Via}

theorem exec_skyStep (hj : s.judge via 0x110 0x044 true = .ok) : exec (.skyStep via) s = .next s.commandedStep :=
  congrArg _ (State.guarded_ok hj State.commandedStep)

theorem skyStep_follow (hj : s.judge via 0x110 0x044 true = .ok) (hs : s.skyState = skFOLLOW) :
    Completes (.skyStep via) s fun t => t.flag (PG_FAULT 0x110 0) = true ∧ OnlyRegs s t [0x110020] :=
  .of_exec ((exec_skyStep hj).trans (congrArg Host.Outcome.next (if_pos hs))) ⟨s.flag_fault 0x110 (by decide), s.onlyRegs_fault 0x110 0⟩

theorem State.get64_lt (s : State) (hi lo : Fld) (h : hi.w = 32) (l : lo.w = 32) : s.get64 hi lo < 2 ^ 64 := by
  have h1 := s.fget_lt hi
  have h2 := s.fget_lt lo
  rw [h] at h1
  rw [l] at h2
  unfold State.get64
  omega

theorem skyStep_waits (hj : s.judge via 0x110 0x044 true = .ok) (hs : s.skyState ≠ skFOLLOW) :
    Completes (.skyStep via) s fun t =>
      t.sky.stepReq = s.sky.stepReq ++ [sgn 64 (s.get64 F.STEP_S F.STEP_F) * 2 ^ 16] ∧ { t with sky.stepReq := s.sky.stepReq } = s := by
  refine .of_exec ((exec_skyStep hj).trans (congrArg Host.Outcome.next (if_neg hs))) ⟨?_, rfl⟩
  have hlt := s.get64_lt F.STEP_S F.STEP_F rfl rfl
  unfold sgn
  rw [Nat.mod_eq_of_lt hlt]

theorem State.sampleTick_step {d : Int} (hs : s.srcAON = true) (hd : s.sky.stepReq = [d]) :
    let n := if s.sky.started then (s.sky.smp + 1) % 2 ^ 64 else 0
    s.sampleTick = ({ s with sky.stepReq := [], sky.started := true, sky.smp := n } : State).skyStepBy d := by
  intro n
  unfold State.sampleTick
  extract_lets +onlyGivenNames _k v
  have hv : v.srcAON = true := hs
  have hr : v.sky.stepReq = [d] := hd
  rw [if_pos hv]
  change v.sky.stepReq.foldl State.skyStepBy { v with sky.stepReq := [] } = _
  rw [hr]
  rfl

end

-- the step itself

/-- A step of the clock is a change of contexts, then the count in DISC, the event and OFS (R44). -/
theorem State.skyStepBy_eq (s : State) (d : Int) : ∃ w : State,
    s.skyStepBy d = ((w.finc F.DISC_STEPS).evRise 0x110 1).setOfs false ∧ w.regs = s.regs ∧ w.cic = s.cic ∧ w.comb = s.comb ∧
    w.sky.time = (((s.sky.time : Int) + d * 2 ^ 32) % (2 ^ 128 : Int)).toNat ∧ w.sky.stepDump = true ∧ w.sky.stepEpoch = true :=
  ⟨_, rfl, rfl, rfl, rfl, rfl, rfl, rfl⟩

theorem State.skyStepBy_holds (s : State) (d : Int) : let t := s.skyStepBy d
    t.sky.time = (((s.sky.time : Int) + d * 2 ^ 32) % (2 ^ 128 : Int)).toNat ∧
      t.fget F.DISC_STEPS = satInc 16 (s.fget F.DISC_STEPS) ∧ Rises s t 0x110 1 ∧ t.sky.stepDump = true ∧ t.sky.stepEpoch = true ∧
      t.comb = s.comb ∧ ∀ a, a ∉ [0x110040, 0x110094, 0x11001C] → t.reg a = s.reg a := by
  obtain ⟨w, ht, hregs, -, hcomb, htime, hdump, hep⟩ := s.skyStepBy_eq d
  have hreg (a : Nat) : w.reg a = s.reg a := by unfold State.reg; rw [hregs]
  have hsky : ((w.finc F.DISC_STEPS).evRise 0x110 1).sky = w.sky := State.evRise_sky _ _ _
  have hrise : Rises s ((w.finc F.DISC_STEPS).evRise 0x110 1) 0x110 1 :=
    .of_evRise (by decide) ((State.reg_fput_other _ _ _ (by decide)).trans (hreg _))
  have hdisc : ((w.finc F.DISC_STEPS).evRise 0x110 1).fget F.DISC_STEPS = satInc 16 (s.fget F.DISC_STEPS) := by
    rw [State.fget_evRise_other _ _ _ _ (by decide), State.finc_fget _ _ (by decide), State.fget_congr (hreg _)]
    rfl
  have hcomb' : ((w.finc F.DISC_STEPS).evRise 0x110 1).comb = s.comb := (State.evRise_comb _ _ _).trans hcomb
  have hother : ∀ a, a ≠ 0x110094 → a ≠ 0x11001C → ((w.finc F.DISC_STEPS).evRise 0x110 1).reg a = s.reg a := fun a h94 h1c =>
    ((State.reg_evRise_other _ _ _ h1c).trans (State.reg_fput_other _ _ _ h94)).trans (hreg a)
  rw [ht]
  generalize (w.finc F.DISC_STEPS).evRise 0x110 1 = u at *
  refine ⟨(congrArg SkySt.time hsky).trans htime, ?_, hrise.keep (State.reg_fput_other _ _ _ (by decide)) rfl,
    (congrArg SkySt.stepDump hsky).trans hdump, (congrArg SkySt.stepEpoch hsky).trans hep, hcomb', fun a ha => ?_⟩
  · exact (State.fget_congr (State.reg_fput_other _ _ _ (by decide))).trans hdisc
  · simp only [List.mem_cons, List.not_mem_nil, or_false, not_or] at ha
    exact (State.reg_fput_other _ _ _ ha.1).trans (hother a ha.2.1 ha.2.2)

-- leap seconds, time-outs, sources and periods

theorem leapApply_due {s : State} (hp : s.flag F.LEAP_PEND = true) (hn : s.get96 F.LEAP_T ≤ s.now) :
    Completes .leapApply s fun t =>
      t.fget F.LEAP_CUR = s.fget F.LEAP_NEXT ∧ t.flag F.LEAP_PEND = false ∧ Rises s t 0x110 2 ∧
      OnlyRegsEvents s t [0x110070] [0x110] := by
  refine .of_exec (congrArg Host.Outcome.next (if_pos ⟨hp, hn⟩)) ⟨?_, ?_, ?_, ?_⟩
  · have hlt : s.fget F.LEAP_NEXT < 2 ^ F.LEAP_CUR.w := s.fget_lt F.LEAP_NEXT
    rw [State.fget_evRise_other _ _ _ _ (by decide)]
    exact (State.fget_fput_other _ _ _ _ (by decide) (by decide)).trans
      ((State.fget_fput_same _ _ _ (by decide)).trans (Nat.mod_eq_of_lt hlt))
  · rw [State.flag_evRise_other _ _ _ _ (by decide)]
    exact State.flag_fputB_same _ _ _ (by decide) (by decide)
  · exact .of_evRise (by decide) ((State.reg_fput_other _ _ _ (by decide)).trans (State.reg_fput_other _ _ _ (by decide)))
  · exact (((OnlyRegs.refl s [0x110070]).fput F.LEAP_CUR _ (by decide)).fputB F.LEAP_PEND _ (by decide)).events.evRise _ _ (by decide)

theorem leapApply_early {s : State} (h : s.now < s.get96 F.LEAP_T) : exec .leapApply s = .next s :=
  congrArg Host.Outcome.next (if_neg fun hc => absurd hc.2 (Nat.not_le.mpr h))

theorem srcReturnSample_holds {s : State} (hs : s.srcAON = true) (hb : s.flag F.CLK_STAT_BYP = false) :
    Completes .srcReturnSample s fun t =>
      t.srcAON = false ∧ t.fget F.DISC_SRCSW = satInc 16 (s.fget F.DISC_SRCSW) ∧ Rises s t 0x110 4 ∧
      t.sky = (s.aonTick false true).sky ∧ OnlyRegsEvents (s.aonTick false true) t [0x110040, 0x110094] [0x110] := by
  refine .of_exec (congrArg Host.Outcome.next (if_pos ⟨hs, by rw [hb]; exact Bool.false_ne_true⟩)) ?_
  have hregs : (s.aonTick false true).regs = s.regs := rfl
  have hreg (a : Nat) : (s.aonTick false true).reg a = s.reg a := by unfold State.reg; rw [hregs]
  dsimp only
  generalize s.aonTick false true = w at hreg ⊢
  refine ⟨?_, ?_, ?_, ?_, ?_⟩
  · unfold State.srcAON
    rw [State.flag_evRise_other _ _ _ _ (by decide), State.flag_evRise_other _ _ _ _ (by decide)]
    exact (State.flag_congr (State.reg_fput_other _ _ _ (by decide))).trans (State.flag_fputB_same _ _ _ (by decide) (by decide))
  · rw [State.fget_evRise_other _ _ _ _ (by decide), State.fget_evRise_other _ _ _ _ (by decide), State.finc_fget _ _ (by decide)]
    exact congrArg (satInc 16) (State.fget_congr ((State.reg_fput_other _ _ _ (by decide)).trans (hreg _)))
  · exact .of_evRise (by decide) (((State.reg_evRise_other _ _ _ (by decide)).trans
      (State.reg_fput_other _ _ _ (by decide))).trans ((State.reg_fput_other _ _ _ (by decide)).trans (hreg _)))
  · simp
  · exact ((((OnlyRegs.refl w _).fputB F.SKY_STATE_SRC _ (by decide)).fput F.DISC_SRCSW _ (by decide)).events.evRise _ _
      (by decide)).evRise _ _ (by decide)

theorem aonPeriodMeasure_holds {s : State} (p : BitVec 96) (hs : s.srcAON = false) (hst : s.skyState = skSTEERED) :
    Completes (.aonPeriodMeasure p) s fun t => t.sky.iA = p.toNat ∧ { t with sky.iA := s.sky.iA } = s :=
  .of_exec (congrArg Host.Outcome.next (if_pos ⟨by rw [hs]; exact Bool.false_ne_true, hst⟩)) ⟨rfl, rfl⟩

end Sys2Proof.Machine
end

section
/-! Steering INC and entering HOLDOVER (03: R42, R43, R45, R47). -/

namespace Sys2Proof.Machine

theorem clampInt_inc (i : Int) : 0 ≤ clampInt incLo incHi i ∧ clampInt incLo incHi i < 2 ^ 56 := by
  unfold clampInt incLo incHi incNom
  split
  · omega
  · split <;> omega

theorem State.reg_setInc (s : State) (i a : Nat) :
    (s.setInc i).reg a = ((s.fput F.INC_I_INC_I (i / 2 ^ 32)).fput F.INC_F i).reg a := rfl

theorem State.fget_setInc (s : State) (i : Nat) (f : Fld) :
    (s.setInc i).fget f = ((s.fput F.INC_I_INC_I (i / 2 ^ 32)).fput F.INC_F i).fget f := rfl

theorem State.inc_setInc (s : State) {i : Nat} (hi : i < 2 ^ 56) : (s.setInc i).inc = i := by
  unfold State.inc
  rw [State.fget_setInc, State.fget_setInc, State.fget_fput_other _ _ _ _ (by decide) (by decide), State.fget_fput_same _ _ _ (by decide),
    State.fget_fput_same _ _ _ (by decide)]
  simp only [F.INC_I_INC_I, F.INC_F]
  omega

/-- The registers of page SKY that steering writes: INC, SKY_STATE (TIMEERR), and on a clip the event and the fault. -/
def steerRegs : List Nat := [0x110040, 0x11005C, 0x110060, 0x11001C, 0x110020]

/-- What steering INC by a demand does (R42). -/
structure Steered (s t : State) (i : Int) : Prop where
  inc : t.inc = (clampInt incLo incHi i).toNat
  regs : ∀ a, a ∉ steerRegs → t.reg a = s.reg a
  state : t.skyState = s.skyState
  fault : clampInt incLo incHi i ≠ i → t.flag (PG_FAULT 0x110 1) = true

theorem State.inc_congr {s t : State} (h1 : t.reg F.INC_I_INC_I.addr = s.reg F.INC_I_INC_I.addr) (h2 : t.reg F.INC_F.addr = s.reg F.INC_F.addr) :
    t.inc = s.inc := by
  unfold State.inc; rw [State.fget_congr h1, State.fget_congr h2]

theorem State.steerInc_steered (s : State) (i : Int) : Steered s (s.steerInc i) i := by
  obtain ⟨h0, hlt⟩ := clampInt_inc i
  have hinc := s.inc_setInc (i := (clampInt incLo incHi i).toNat) (by omega)
  have hregs : ∀ a, a ∉ steerRegs → (s.setInc (clampInt incLo incHi i).toNat).reg a = s.reg a := fun a ha => by
    rw [State.reg_setInc, State.reg_fput_other _ _ _ fun h => ha (by rw [h]; decide),
      State.reg_fput_other _ _ _ fun h => ha (by rw [h]; decide)]
  have hst : (s.setInc (clampInt incLo incHi i).toNat).skyState = s.skyState := by
    unfold State.skyState
    rw [State.fget_setInc, State.fget_fput_other _ _ _ _ (by decide) (by decide), State.fget_fput_other _ _ _ _ (by decide) (by decide)]
  unfold State.steerInc
  dsimp only
  generalize s.setInc (clampInt incLo incHi i).toNat = w at hinc hregs hst ⊢
  have hclip (b : Bool) : (∀ a, a ≠ 0x110040 → (w.setClip b).reg a = w.reg a) ∧ (w.setClip b).skyState = w.skyState :=
    ⟨fun a ha => State.reg_fput_other _ F.SKY_STATE_TIMEERR _ ha,
      State.fget_fput_other _ F.SKY_STATE_TIMEERR F.SKY_STATE_STATE _ (by decide) (by decide)⟩
  split
  · next he =>
    obtain ⟨hr, hs⟩ := hclip false
    refine ⟨(State.inc_congr (hr _ (by decide)) (hr _ (by decide))).trans hinc, fun a ha => ?_, hs.trans hst, fun h => absurd he h⟩
    exact (hr a fun h => ha (by rw [h]; decide)).trans (hregs a ha)
  · obtain ⟨hr, hs⟩ := hclip true
    generalize w.setClip true = v at hr hs ⊢
    have hv : ∀ a, a ≠ 0x11001C → a ≠ 0x110020 → ((v.fault 0x110 1).evRise 0x110 3).reg a = v.reg a := fun a h1 h2 =>
      (State.reg_evRise_other _ _ _ h1).trans (State.reg_fput_other _ _ _ h2)
    refine ⟨?_, fun a ha => ?_, ?_, fun _ => ?_⟩
    · exact (State.inc_congr ((hv _ (by decide) (by decide)).trans (hr _ (by decide)))
        ((hv _ (by decide) (by decide)).trans (hr _ (by decide)))).trans hinc
    · simp only [steerRegs, List.mem_cons, List.not_mem_nil, or_false, not_or] at ha
      exact ((hv a ha.2.2.2.1 ha.2.2.2.2).trans (hr a ha.1)).trans (hregs a (by simpa [steerRegs] using ha))
    · exact (State.fget_congr (hv _ (by decide) (by decide))).trans (hs.trans hst)
    · rw [State.flag_evRise_other _ _ _ _ (by decide)]
      exact v.flag_fault 0x110 (by decide)

/-- HOLDOVER before its STATE is written: no slew, and UNC grows from `unc` (R45, R47). -/
def State.coasting (v : State) (unc : Nat) : State := { v with sky.slewLeft := 0, sky.uncBase := unc, sky.uncAcc := 0 }

theorem State.skyEnter_holdover {s : State} (h : s.skyState ≠ skHOLDOVER) : s.skyEnter skHOLDOVER =
    (((s.steerInc s.sky.base).coasting (s.fget F.UNC)).fput F.SKY_STATE_STATE skHOLDOVER).evRise 0x110 0 := by
  unfold State.skyEnter
  rw [if_neg h, if_pos rfl]
  exact congrArg (fun w : State => (w.fput F.SKY_STATE_STATE skHOLDOVER).evRise 0x110 0) (if_neg (by decide))

/-- What entering HOLDOVER from `s` leaves. -/
def HeldOver (s t : State) : Prop :=
  let r := clampInt incLo incHi s.sky.base
  t.skyState = skHOLDOVER ∧ t.inc = r.toNat ∧ t.sky.slewLeft = 0 ∧ t.sky.time = s.sky.time ∧
    Rises s t 0x110 0 ∧ t.comb = s.comb ∧ (r ≠ s.sky.base → t.flag (PG_FAULT 0x110 1) = true) ∧
    ∀ a, a ∉ [0x110040, 0x11005C, 0x110060, 0x11001C, 0x110020] → t.reg a = s.reg a

theorem Steered.heldOver {s v : State} (h : Steered s v s.sky.base) (htime : v.sky.time = s.sky.time) (hcomb : v.comb = s.comb) (unc : Nat) :
    HeldOver s (((v.coasting unc).fput F.SKY_STATE_STATE skHOLDOVER).evRise 0x110 0) := by
  obtain ⟨hinc, hregs, -, hfault⟩ := h
  have ho : ∀ a, a ≠ 0x110040 → a ≠ 0x11001C →
      (((v.coasting unc).fput F.SKY_STATE_STATE skHOLDOVER).evRise 0x110 0).reg a = v.reg a := fun a h1 h2 =>
    (State.reg_evRise_other _ _ _ h2).trans (State.reg_fput_other _ _ _ h1)
  refine ⟨?_, ?_, ?_, ?_, ?_, ?_, fun hr => ?_, fun a ha => ?_⟩
  · exact (State.fget_evRise_other _ _ _ _ (by decide)).trans (State.fget_fput_same _ _ _ (by decide))
  · exact (State.inc_congr (ho _ (by decide) (by decide)) (ho _ (by decide) (by decide))).trans hinc
  · rw [State.evRise_sky]; rfl
  · rw [State.evRise_sky]; exact htime
  · exact .of_evRise (by decide) ((State.reg_fput_other _ _ _ (by decide)).trans (hregs _ (by decide)))
  · rw [State.evRise_comb]; exact hcomb
  · exact (State.flag_congr (ho _ (by decide) (by decide))).trans (hfault hr)
  · have ha' := ha
    simp only [List.mem_cons, List.not_mem_nil, or_false, not_or] at ha'
    exact (ho a ha'.1 ha'.2.2.2.1).trans (hregs a ha)

theorem State.skyEnter_heldOver {s : State} (h : s.skyState ≠ skHOLDOVER) : HeldOver s (s.skyEnter skHOLDOVER) := by
  obtain ⟨hcomb, -, -, hsky⟩ := s.steerInc_frame s.sky.base
  rw [State.skyEnter_holdover h]
  exact (s.steerInc_steered s.sky.base).heldOver (congrArg SkySt.time hsky :) hcomb _

theorem estimateTimeout_holds {s : State} (h : s.skyState = skSTEERED) : Completes .estimateTimeout s (HeldOver s) :=
  .of_exec (congrArg Host.Outcome.next (if_pos h)) (State.skyEnter_heldOver (by rw [h]; decide))

end Sys2Proof.Machine
end

section
/-! The grids of the Sky Clock (03: R50 to R52; 11: R211 to R219). -/

namespace Sys2Proof.Machine

-- what forming an epoch block leaves

/-- What an epoch's block leaves of the clock and of the epoch count. -/
def epochView (s : State) : SkySt × Nat × Option EpochSet := (s.sky, s.meas.epseq, s.meas.open_)

/-- Of the registers nothing is said. -/
def anyReg (_ : Nat) : Prop := False

/-- From `s` to `t` the clock, the count of epochs and the epoch that waits for its block stand. -/
abbrev EpochKept (s t : State) : Prop := Keeps epochView anyReg s t

theorem epochView_blind : Blind epochView := ⟨fun _ _ => rfl, fun _ _ => rfl⟩

namespace EpochKept

variable (s : State)

theorem of_work {s t : State} (h : QueueWork s t) : EpochKept s t := ⟨(congrArg epochView h.rest :), fun _ h => h.elim⟩

theorem sendFrame (t cls : Nat) (payload : List Byte) : EpochKept s (s.sendFrame t cls payload) := by
  unfold State.sendFrame
  refine .ite (fun _ => .refl s) fun _ => .ite (fun _ => ?_) fun _ => ?_
  · exact of_work ((QueueWork.refl s).updTenant t _)
  · exact of_work ((State.pushMsg_work s _ _).updTenant t _)

theorem sendSet (t : Nat) (fs : List (Nat × List Byte)) : EpochKept s (s.sendSet t fs) := by
  unfold State.sendSet
  refine .ite (fun _ => .refl s) fun _ => .ite (fun _ => ?_) fun _ => ?_
  · exact of_work ((QueueWork.refl s).updTenant t _)
  · exact .foldl _ (fun s x _ => sendFrame s t x.1 x.2) s

theorem sendHeld (sol : Nat → State → (List (List Byte) × List (List Byte)) × State) (h : ∀ t s, EpochKept s (sol t s).2) :
    EpochKept s (s.sendHeld sol) := by
  unfold State.sendHeld
  refine Keeps.trans (t := { s with meas := { s.meas with held := [] } }) (.of_eq rfl rfl) (.foldl _ (fun s x _ => ?_) _)
  exact (h x.1 s).trans (sendSet _ _ _)

theorem combWrite (m a : Nat) (bs : List Byte) : EpochKept s (s.combWrite m a bs) := by
  rw [State.combWrite_eq]
  refine Keeps.foldlSnd _ (fun r x _ => ?_) (bs, s)
  unfold combLine
  refine .ite (fun _ => ?_) fun _ => ?_
  · have hr := (r.2.combCount m).combPut_rest x.1 (r.1.take x.2)
    exact ⟨(congrArg epochView hr :), fun _ h => h.elim⟩
  · exact ((((Keeps.refl r.2).fault epochView_blind _ _ id).fput epochView_blind _ _ id).fput epochView_blind _ _ id).evRise
      epochView_blind _ _ id

theorem ringWrite (t : Nat) (ws : List Word) : EpochKept s (s.ringWrite t ws) := by
  unfold State.ringWrite
  exact (combWrite s 0 _ (wordBytes ws)).trans (.of_eq rfl rfl)

theorem penSend (w ct : Nat) (word : List Nat) : EpochKept s (s.penSend w ct word) := by
  unfold State.penSend
  exact .ite (fun _ => .of_eq rfl rfl) fun _ => .refl s

theorem groupSend (d : Nat) (bs : List Byte) : EpochKept s (s.groupSend d bs) := by
  unfold State.groupSend
  refine .foldl _ (fun s x _ => ?_) s
  unfold State.penForward
  refine .ite (fun _ => penSend s _ _ _) fun _ => .ite (fun _ => .of_eq rfl rfl) fun _ => ?_
  exact (Keeps.refl s).finc epochView_blind _ id

theorem epochSet (t : Nat) (e : EpochSet) (gs : List (List Word)) : EpochKept s (s.epochSet t e gs).2 := .of_eq rfl rfl

theorem draw (w : Nat) : EpochKept s (s.draw w).2 := .of_eq rfl rfl

theorem formEntry (ch t : Nat) : EpochKept s (s.formEntry ch t).2 := by
  unfold State.formEntry
  extract_lets +onlyGivenNames c _h v off w
  have hw : EpochKept s w := by
    unfold w
    split
    · exact .ite (fun _ => .of_eq rfl rfl) fun _ => .of_eq rfl rfl
    · exact .of_eq rfl rfl
  clear_value w off
  split
  next dop x hx =>
  have hdop : EpochKept w x := by
    split at hx <;> cases hx
    · exact .refl w
    · exact draw w 32
  split
  next cp y hy =>
  have hcp : EpochKept x y := by
    split at hy <;> cases hy
    · exact .refl x
    · exact draw x 64
  exact (hw.trans hdop).trans hcp

theorem formEntries (t : Nat) : EpochKept s (s.formEntries t).2 := by
  unfold State.formEntries
  refine Keeps.foldlSnd _ (fun r x _ => ?_) ([], s)
  exact formEntry r.2 x t

end EpochKept

/-- A block formed leaves the clock and the count of epochs, and no epoch waits. -/
theorem State.epochOut_holds (s : State) (others : List (Nat × List Word)) :
    (s.epochOut others).sky = s.sky ∧ (s.epochOut others).meas.epseq = s.meas.epseq ∧ (s.epochOut others).meas.open_ = none := by
  unfold State.epochOut
  split
  · next h => exact ⟨rfl, rfl, h⟩
  next e _ =>
  suffices h : ∀ t, EpochKept { s with meas.open_ := none } t →
      t.sky = s.sky ∧ t.meas.epseq = s.meas.epseq ∧ t.meas.open_ = none by
    refine h _ ?_
    extract_lets +onlyGivenNames _m a dev master gs b c
    have ha : EpochKept { s with meas.open_ := none } a := EpochKept.sendHeld _ _ fun _ s => .refl s
    have hb : EpochKept a b := .foldl _ (fun s ws _ => EpochKept.ringWrite s _ ws) a
    have hc : EpochKept b c := .ite (fun _ => .foldl _ (fun s ws _ => EpochKept.groupSend s _ _) b) fun _ => .refl b
    clear_value c
    refine ((ha.trans hb).trans hc).trans (.foldl _ (fun s k _ => ?_) c)
    refine (EpochKept.epochSet s k e gs).trans (.ite (fun _ => .of_eq rfl rfl) fun _ => ?_)
    exact EpochKept.sendSet _ k _
  intro t ht
  exact ⟨(congrArg Prod.fst ht.view :), (congrArg (fun v => v.2.1) ht.view :), (congrArg (fun v => v.2.2) ht.view :)⟩

theorem State.epochEnd_holds (s : State) (step : Bool) : (s.epochEnd step).sky.stepEpoch = step ∧
    (s.epochEnd step).sky.stepSum = 0 ∧ (s.epochEnd step).meas.epseq = (s.meas.epseq + 1) % 2 ^ 32 := by
  have h : EpochKept s ((s.hive.chans.map Prod.fst).foldl (fun s ch =>
      (s.setChan ch { s.chan ch with epInval := false, epBlank := false }).fputB (F.CH_FLAGS_SLIP ch) false) s) := by
    refine .foldl _ (fun s ch _ => ?_) s
    refine Keeps.fputB epochView_blind ?_ _ _ id
    exact .of_eq rfl rfl
  exact ⟨rfl, rfl, congrArg (fun v : SkySt × Nat × Option EpochSet => (v.2.1 + 1) % 2 ^ 32) h.view⟩

theorem State.epochClose_holds (s : State) (t : Nat) (step : Bool) : (s.epochClose t step).sky.stepEpoch = step ∧
    (s.epochClose t step).sky.stepSum = 0 ∧ (s.epochClose t step).meas.epseq = (s.meas.epseq + 1) % 2 ^ 32 := by
  obtain ⟨-, hout, -⟩ := s.epochOut_holds []
  have hform := EpochKept.formEntries (s.epochOut []) t
  have hseq : ((s.epochOut []).formEntries t).2.meas.epseq = s.meas.epseq :=
    (congrArg (fun v : SkySt × Nat × Option EpochSet => v.2.1) hform.view).trans hout
  unfold State.epochClose
  extract_lets +onlyGivenNames a
  split
  next es w hw =>
  have hw' : w.meas.epseq = s.meas.epseq := by rw [← hseq, show (s.epochOut []).formEntries t = _ from hw]
  have h (v : State) (hv : v.meas.epseq = w.meas.epseq) := by
    obtain ⟨h1, h2, h3⟩ := v.epochEnd_holds step
    rw [hv, hw'] at h3
    exact (⟨h1, h2, h3⟩ : (v.epochEnd step).sky.stepEpoch = step ∧ (v.epochEnd step).sky.stepSum = 0 ∧
      (v.epochEnd step).meas.epseq = (s.meas.epseq + 1) % 2 ^ 32)
  exact h _ rfl

-- the boundaries

theorem epochBoundary_due {s : State} (h : s.epochDue = true) : Completes (.epochBoundary []) s fun t =>
    t.sky.stepEpoch = false ∧ t.sky.stepSum = 0 ∧ t.meas.epseq = (s.meas.epseq + 1) % 2 ^ 32 ∧ t.meas.open_ = none := by
  obtain ⟨hstep, hsum, hseq⟩ := s.epochClose_holds s.epochT false
  obtain ⟨hsky, hseq', hopen⟩ := (s.epochClose s.epochT false).epochOut_holds []
  refine .of_exec (congrArg (fun w : State => Host.Outcome.next (w.epochOut [])) (if_pos h)) ⟨?_, ?_, hseq'.trans hseq, hopen⟩
  · rw [hsky, hstep]
  · rw [hsky, hsum]

theorem State.gridDue_aon {s : State} (h : s.srcAON = true) : s.gridDue = false ∧ s.epochDue = false := by
  unfold State.gridDue State.epochDue
  simp [h]

theorem exec_dumpGridBoundary_aon {s : State} (h : s.srcAON = true) : exec .dumpGridBoundary s = .next s :=
  congrArg Host.Outcome.next (if_neg (by rw [(State.gridDue_aon h).1]; exact Bool.false_ne_true))

theorem exec_epochBoundary_aon {s : State} (h : s.srcAON = true) (ho : s.meas.open_ = none) (os : List (Fin 8 × List Word)) :
    exec (.epochBoundary os) s = .next s := by
  have hs : s.when s.epochDue (fun s => s.epochClose s.epochT false) = s :=
    if_neg (by rw [(State.gridDue_aon h).2]; exact Bool.false_ne_true)
  show execEpochBoundary os s = _
  unfold execEpochBoundary
  rw [hs, State.epochOut, ho]

/-- A dump-grid boundary closes its window: the grid index is that of now. -/
theorem State.dumpGrid_holds (s : State) : s.dumpGrid.sky.stepDump = false ∧ s.dumpGrid.gridDue = false := by
  have h (w : State) : ({ w with sky.stepDump := false, hive.gridIdx := w.gridIndex } : State).gridDue = false := by
    have hi : ({ w with sky.stepDump := false, hive.gridIdx := w.gridIndex } : State).gridIndex = w.gridIndex := rfl
    unfold State.gridDue
    rw [hi]
    simp
  unfold State.dumpGrid
  extract_lets +onlyGivenNames whole a b c d
  clear_value d
  exact ⟨rfl, h d⟩

theorem dumpGridBoundary_due {s : State} (h : s.gridDue = true) :
    Completes .dumpGridBoundary s fun t => t.sky.stepDump = false ∧ t.gridDue = false :=
  .of_exec (congrArg Host.Outcome.next (if_pos h)) s.dumpGrid_holds

-- a change of grid (R51)

theorem State.closeDue_idle {s : State} (hc : s.sky.stepClose = false) (hg : s.gridDue = false) (he : s.epochDue = false) :
    s.closeDue = s := by
  unfold State.closeDue State.when
  simp [hc, hg, he]

theorem gridActivate_early {s : State} {w : Word} {g : Nat} (hp : s.sky.gridPend = some (w, g)) (h : s.now < g) :
    exec .gridActivate s = .next s := by
  show execGridActivate s = _
  unfold execGridActivate
  rw [hp]
  exact congrArg Host.Outcome.next (if_neg (Nat.not_le.mpr h))

/-- The active GRID as it takes a value. -/
def State.gridTaken (s : State) (w : Word) : State := { s.setReg 0x11086C w with sky.gridPend := none }

theorem State.gridTaken_reg (s : State) (w : Word) (a : Nat) : (s.gridTaken w).reg a = (s.setReg 0x11086C w).reg a := rfl

theorem State.gridTaken_scOff {s : State} (h : s.scOn = false) (w : Word) : (s.gridTaken w).vcUpdate = s.gridTaken w := by
  have hf : (s.gridTaken w).fget (F.PW_D_STATE 29) = s.fget (F.PW_D_STATE 29) :=
    State.fget_congr ((s.gridTaken_reg w _).trans (State.reg_setReg_other s (by decide) w))
  unfold State.scOn State.domPowered State.domState at h
  unfold State.vcUpdate State.scOn State.domPowered State.domState
  rw [hf, h]
  exact if_pos Bool.false_ne_true

theorem gridActivate_due {s : State} {w : Word} {g : Nat} (hp : s.sky.gridPend = some (w, g)) (h : g ≤ s.now)
    (hc : s.sky.stepClose = false) (hg : s.gridDue = false) (he : s.epochDue = false) (hsc : s.scOn = false) :
    Completes .gridActivate s fun t => t.reg 0x11086C = w ∧ t.sky.gridPend = none ∧ ∀ a, a ≠ 0x11086C → t.reg a = s.reg a := by
  have hidx := State.closeDue_idle hc hg he
  have hv := State.gridTaken_scOff hsc w
  have hr := s.gridTaken_reg w
  have hpend : (s.gridTaken w).sky.gridPend = none := rfl
  have hex : exec .gridActivate s = .next { (s.gridTaken w).vcUpdate with
      hive.gridIdx := (s.gridTaken w).vcUpdate.gridIndex, meas.epIdx := (s.gridTaken w).vcUpdate.epochIndex } := by
    show execGridActivate s = _
    unfold execGridActivate
    rw [hp]
    refine congrArg Host.Outcome.next ((if_pos h).trans ?_)
    rw [hidx]
    rfl
  rw [hv] at hex
  generalize s.gridTaken w = v at *
  refine .of_exec hex ⟨(hr _).trans (State.reg_setReg_same _ _ _), hpend, fun a ha => (hr a).trans (State.reg_setReg_other _ ha _)⟩

/-- A GRID value of 7 committed, its whole second come; the samples have stopped, so no window is due. -/
def gridSeven : State :=
  { regs := [(F.SKY_STATE_SRC.addr, F.SKY_STATE_SRC.put (regReset F.SKY_STATE_SRC.addr) 1)], sky.gridPend := some (7, 0) }

/-- Refutes O4: GRID stands at 0x06C, so its active value is at 0x11086C (R51), and a change of grid leaves 0x110864, the place the
statement names, as it was. -/
theorem not_skyClockEventsAct : ¬ Obligations.SkyClockEventsAct := by
  unfold Obligations.SkyClockEventsAct
  intro h
  obtain ⟨h1, -⟩ := h
  obtain ⟨-, -, -, -, -, -, -, -, -, hgrid⟩ := h1 gridSeven
  have hg : gridSeven.gridDue = false ∧ gridSeven.epochDue = false := State.gridDue_aon (by decide)
  have hsc : gridSeven.scOn = false := by decide
  obtain ⟨t, ht, hseven, -⟩ := (hgrid 7 0 rfl).2 (Nat.zero_le _) rfl hg.1 hg.2 hsc
  obtain ⟨u, hu, -, -, hkeep⟩ := gridActivate_due (s := gridSeven) rfl (Nat.zero_le _) rfl hg.1 hg.2 hsc
  cases ht.symm.trans hu
  have hzero : gridSeven.reg 0x110864 = 0 := by decide
  rw [hkeep _ (by decide), hzero] at hseven
  exact absurd hseven (by decide)

end Sys2Proof.Machine
end

section
/-! The schedule table (03: R56 to R62): its bitmaps, its copies, and the commands of SCHED_CMD. -/

namespace Sys2Proof.Machine

-- the bitmaps of page 0x112

section
variable (s : State) (f g : Nat → Fld) (i : Nat) (b : Bool)

theorem State.mapBit_setMapBit_same : (s.setMapBit f i b).mapBit f i = b := by
  unfold State.mapBit State.setMapBit State.fputB State.fput
  rw [State.reg_setReg_same, Fld.put_bit _ _ _ _ (Nat.le_of_ble_eq_true rfl), if_pos (by dsimp only; omega)]
  dsimp only
  rw [Nat.sub_self]
  cases b <;> rfl

variable {f g i} in
theorem State.mapBit_setMapBit_other {j : Nat} (h : (g (j / 32)).addr ≠ (f (i / 32)).addr) :
    (s.setMapBit f i b).mapBit g j = s.mapBit g j := by
  exact congrArg (·.getLsbD (j % 32)) (State.reg_fput_other _ ⟨(f (i / 32)).addr, i % 32, 1⟩ _ h)

variable {f i} in
theorem State.mapBit_congr {s t : State} (h : t.reg (f (i / 32)).addr = s.reg (f (i / 32)).addr) : t.mapBit f i = s.mapBit f i := by
  unfold State.mapBit; rw [h]

end

-- the copies of a compare value (R61)

theorem Entry.cmp_setCmp (e : Entry) (t : Nat) : (e.setCmp t).cmp = t := by
  simp [Entry.cmp, Entry.setCmp]

theorem copiesOut_setCmp (e : Entry) (t : Nat) : copiesOut (e.setCmp t) = 0 := by
  simp [copiesOut, Entry.cmp, Entry.setCmp]

theorem State.entry_setEntry_same (s : State) (i : Nat) (e : Entry) : (s.setEntry i e).entry i = e := Tab.get_set_same _ _ _ _

theorem State.entry_congr {s t : State} (h : t.sched = s.sched) (i : Nat) : t.entry i = s.entry i := by
  unfold State.entry; rw [h]

/-- What a vote of an entry leaves of it: the copies agree on the majority. -/
structure Voted (e v : Entry) : Prop where
  copies : copiesOut v = 0
  cmp : v.cmp = e.cmp
  inCmp : v.inCmp = e.inCmp
  tardy : v.tardy = e.tardy

/-- The registers in which a correction is reported (R61). -/
def VoteReg (a : Nat) : Prop := a = 0x11101C ∨ a = 0x11106C ∨ 0x1120C0 ≤ a

/-- Of the state a vote touches the schedule table, registers and raises. -/
abbrev VoteKept (s t : State) : Prop := Keeps (fun x : State => { x with regs := [], cic := {}, sched := [] }) (fun a => ¬ VoteReg a) s t

theorem VoteKept.schedFixed (s : State) (i : Nat) : VoteKept s (s.schedFixed i) := by
  have hb : Blind fun x : State => { x with regs := [], cic := {}, sched := [] } := ⟨fun _ _ => rfl, fun _ _ => rfl⟩
  exact (((Keeps.refl s).fputB hb _ _ (by simp only [VoteReg, F.VOTEF]; omega)).finc hb _ (by simp [VoteReg, F.SCHED_VFCNT_CNT])).evRise
    hb _ _ (by simp [VoteReg])

theorem State.schedFixed_sched (s : State) (i : Nat) : (s.schedFixed i).sched = s.sched := by
  unfold State.schedFixed; rw [State.evRise_sched]; rfl

theorem State.voteEntry_holds (s : State) (i : Nat) : VoteKept s (s.voteEntry i) ∧ Voted (s.entry i) ((s.voteEntry i).entry i) := by
  unfold State.voteEntry
  extract_lets e
  split
  · next h => exact ⟨.refl s, h, rfl, rfl, rfl⟩
  · have hv : Voted e { e.setCmp e.cmp with outv := copiesOut e } := ⟨copiesOut_setCmp e _, e.cmp_setCmp _, rfl, rfl⟩
    refine ⟨.trans (t := s.setEntry i _) (.of_eq rfl rfl) (VoteKept.schedFixed _ i), ?_⟩
    rw [State.entry_congr (State.schedFixed_sched _ i), State.entry_setEntry_same]
    exact hv

/-- An entry that joins the comparisons (R56). -/
theorem State.joinCmp_holds (s : State) (i : Nat) : VoteKept s (s.joinCmp i) ∧
    ((s.joinCmp i).entry i).inCmp = true ∧ ((s.joinCmp i).entry i).tardy = decide ((s.entry i).cmp ≤ s.now) ∧
    ((s.joinCmp i).entry i).cmp = (s.entry i).cmp ∧ copiesOut ((s.joinCmp i).entry i) = 0 := by
  obtain ⟨hk, hcopies, hcmp, hin, ht⟩ :=
    (s.setEntry i { s.entry i with inCmp := true, tardy := decide ((s.entry i).cmp ≤ s.now) }).voteEntry_holds i
  rw [State.entry_setEntry_same] at hcmp hin ht
  exact ⟨.trans (t := s.setEntry i _) (.of_eq rfl rfl) hk, hin, ht, hcmp, hcopies⟩

/-- The entry of a WRITE (R56): a fresh one with its words, its anchor, and three equal copies of its compare value, which is
the time written unless the tracker gives it (R249). -/
structure FreshEntry (t : Nat) (act arg per : Word) (e : Entry) : Prop where
  copies : copiesOut e = 0
  fires : e.fires = 0
  anchor : e.anchor = t
  inCmp : e.inCmp = false
  cmp : e.mainsRel = false → e.cmp = t
  act : e.act = act
  arg : e.arg = arg
  per : e.per = per

/-- The tracker gives an entry a compare value and a crossing, and nothing else. -/
theorem State.mainsSet_eq (s : State) (e : Entry) : ∃ c n, s.mainsSet e = { e.setCmp c with mNext := n } := by
  unfold State.mainsSet
  split
  · exact ⟨_, e.mNext, rfl⟩
  · exact ⟨_, _, rfl⟩

theorem State.freshEntry (s : State) {t : Nat} {act arg per : Word} {e : Entry} (he : e = { anchor := t, act := act, arg := arg, per := per }) :
    FreshEntry t act arg per (if e.mainsRel then s.mainsSet e else e.setCmp t) := by
  have hwritten (c n : Nat) (hc : e.mainsRel = false → c = t) : FreshEntry t act arg per { e.setCmp c with mNext := n } := by
    subst he
    exact ⟨copiesOut_setCmp { anchor := t, act := act, arg := arg, per := per } c, rfl, rfl, rfl,
      fun h => (Entry.cmp_setCmp { anchor := t, act := act, arg := arg, per := per } c).trans (hc h), rfl, rfl, rfl⟩
  split
  · next h =>
    obtain ⟨c, n, hc⟩ := s.mainsSet_eq e
    rw [hc]
    exact hwritten c n fun h' => nomatch h.symm.trans h'
  · exact hwritten t e.mNext fun _ => rfl

/-- What arming entry `i` leaves (R56). -/
structure ArmedAfresh (i t : Nat) (act arg per : Word) (u : State) : Prop where
  armed : u.armed i = true
  fired : u.mapBit F.FIRED i = false
  late : u.mapBit F.LATE i = false
  votef : u.mapBit F.VOTEF i = false
  entry : FreshEntry t act arg per (u.entry i)
  busy : u.schedBusy = some i

/-- The four bits of a fresh entry. -/
def State.freshBits (s : State) (i : Nat) : State :=
  (((s.setMapBit F.ARMED i true).setMapBit F.FIRED i false).setMapBit F.LATE i false).setMapBit F.VOTEF i false

section
variable (s : State) {i : Nat}

/-- The bits lie in registers of page 0x112. -/
theorem State.reg_freshBits_other {a : Nat} (h : a < 0x112000) : (s.freshBits i).reg a = s.reg a := by
  unfold State.freshBits State.setMapBit State.fputB
  rw [State.reg_fput_other, State.reg_fput_other, State.reg_fput_other, State.reg_fput_other] <;>
    simp only [F.ARMED, F.FIRED, F.LATE, F.VOTEF] <;> omega

theorem State.freshBits_holds : (s.freshBits i).armed i = true ∧ (s.freshBits i).mapBit F.FIRED i = false ∧
    (s.freshBits i).mapBit F.LATE i = false ∧ (s.freshBits i).mapBit F.VOTEF i = false := by
  unfold State.freshBits State.armed
  refine ⟨?_, ?_, ?_, State.mapBit_setMapBit_same _ _ _ _⟩
  · rw [State.mapBit_setMapBit_other, State.mapBit_setMapBit_other, State.mapBit_setMapBit_other, State.mapBit_setMapBit_same] <;>
      simp only [F.ARMED, F.FIRED, F.LATE, F.VOTEF] <;> omega
  · rw [State.mapBit_setMapBit_other, State.mapBit_setMapBit_other, State.mapBit_setMapBit_same] <;>
      simp only [F.FIRED, F.LATE, F.VOTEF] <;> omega
  · rw [State.mapBit_setMapBit_other, State.mapBit_setMapBit_same]
    simp only [F.LATE, F.VOTEF]; omega

end

theorem State.armEntry_holds (s : State) (i t : Nat) (act arg per : Word) :
    ArmedAfresh i t act arg per (s.armEntry i t act arg per) ∧
    (s.armEntry i t act arg per).reg 0x111048 = s.reg 0x111048 ∧ (s.armEntry i t act arg per).comb = s.comb := by
  unfold State.armEntry
  extract_lets e e' free w v u x
  have hw : VoteKept s w := by
    unfold w
    split
    · next j _ => exact (s.joinCmp_holds j).1
    · exact .refl s
  have he : FreshEntry t act arg per (u.entry i) := by
    rw [State.entry_congr (s := w.setEntry i e') (t := u) rfl, State.entry_setEntry_same]
    exact s.freshEntry rfl
  have hreg : u.reg 0x111048 = s.reg 0x111048 := hw.regs _ (by unfold VoteReg; omega)
  have hcomb : u.comb = s.comb := (congrArg State.comb hw.view :)
  have hbusy : u.schedBusy = some i := rfl
  have hx : x = u.freshBits i := rfl
  clear_value x u
  subst hx
  have hk : Keeps (fun y : State => (y.sched, y.schedBusy, y.comb)) (· ≠ 0x11101C) (u.freshBits i)
      ((u.freshBits i).when (decide (free = 511)) (·.evRise 0x111 4)) :=
    .when fun _ => (Keeps.refl _).evRise ⟨fun _ _ => rfl, fun _ _ => rfl⟩ _ _ (by simp)
  generalize ((u.freshBits i).when (decide (free = 511)) (·.evRise 0x111 4)) = y at hk ⊢
  have hbit (f : Nat → Fld) (hf : (f (i / 32)).addr ≠ 0x11101C) := State.mapBit_congr (hk.regs _ hf)
  obtain ⟨harmed, hfired, hlate, hvotef⟩ := u.freshBits_holds (i := i)
  refine ⟨⟨(hbit _ (by simp only [F.ARMED]; omega)).trans harmed, (hbit _ (by simp only [F.FIRED]; omega)).trans hfired,
    (hbit _ (by simp only [F.LATE]; omega)).trans hlate, (hbit _ (by simp only [F.VOTEF]; omega)).trans hvotef, ?_,
    (congrArg (·.2.1) hk.view :).trans hbusy⟩, ?_, (congrArg (·.2.2) hk.view :).trans hcomb⟩
  · rw [State.entry_congr (congrArg Prod.fst hk.view :)]; exact he
  · rw [hk.regs _ (by decide)]; exact (u.reg_freshBits_other (by decide)).trans hreg

-- the commands

section
variable (s : State)

/-- WRITE's check of the action words (R57). -/
def State.wordsBad (s : State) : Bool :=
  decide (s.fget F.E_ACT_ACTION = 0 ∨ 7 ≤ s.fget F.E_ACT_ACTION) || !argOk (s.fget F.E_ACT_ACTION) (s.reg F.E_ARG.addr)

variable {s} in
theorem State.schedWrite_accepted (ha : s.armed (s.fget F.SCHED_IDX_IDX) = false) (hb : s.wordsBad = false) :
    s.schedWrite = (s.fputB F.SCHED_STAT_REFUSED false).armEntry (s.fget F.SCHED_IDX_IDX) (s.get96 F.E_T)
      (s.reg F.E_ACT_ACTION.addr) (s.reg F.E_ARG.addr) (s.reg F.E_PER_UNIT.addr) := by
  unfold State.schedWrite
  exact if_neg (by rw [ha]; exact fun h => h.elim nofun fun h => absurd (h.symm.trans hb) nofun)

variable {s} in
theorem State.schedWrite_refused (h : s.armed (s.fget F.SCHED_IDX_IDX) = true ∨ s.wordsBad = true) :
    s.schedWrite = ((s.fputB F.SCHED_STAT_REFUSED true).when (s.armed (s.fget F.SCHED_IDX_IDX)) (·.fault 0x111 1)).when s.wordsBad
      (·.fault 0x111 0) := by
  unfold State.schedWrite
  exact if_pos h

/-- A refused WRITE reports each of its causes. -/
theorem State.refusal_holds (a b : Bool) {t : State}
    (ht : t = ((s.fputB F.SCHED_STAT_REFUSED true).when a (·.fault 0x111 1)).when b (·.fault 0x111 0)) :
    t.flag F.SCHED_STAT_REFUSED = true ∧ (b = true → t.flag (PG_FAULT 0x111 0) = true) ∧
    (a = true → t.flag (PG_FAULT 0x111 1) = true) ∧ OnlyRegs s t [0x111048, 0x111020] := by
  subst ht
  have hu := s.flag_fputB_same F.SCHED_STAT_REFUSED true (by decide) (by decide)
  have hou : OnlyRegs s (s.fputB F.SCHED_STAT_REFUSED true) [0x111048, 0x111020] := (OnlyRegs.refl s _).fputB _ _ (by simp [F.SCHED_STAT_REFUSED])
  generalize s.fputB F.SCHED_STAT_REFUSED true = u at hu hou
  have hkeep (p : Nat) (b : Bool) (v : State) (f : Fld) (hf : f.addr ≠ 0x111020 ∨ f.lo + f.w ≤ p ∨ p + 1 ≤ f.lo) :
      (v.when b (·.fault 0x111 p)).flag f = v.flag f := by
    unfold State.when State.fault
    split
    · exact State.flag_fputB_other _ _ _ _ (by simp [PG_FAULT]) hf
    · rfl
  have honly (p : Nat) (b : Bool) {v : State} (h : OnlyRegs s v [0x111048, 0x111020]) :
      OnlyRegs s (v.when b (·.fault 0x111 p)) [0x111048, 0x111020] := by
    unfold State.when
    split
    · exact h.fputB _ _ (by simp [PG_FAULT])
    · exact h
  refine ⟨?_, fun h => ?_, fun h => ?_, honly _ _ (honly _ _ hou)⟩
  · rw [hkeep _ _ _ _ (by simp [F.SCHED_STAT_REFUSED]), hkeep _ _ _ _ (by simp [F.SCHED_STAT_REFUSED]), hu]
  · subst h; exact State.flag_fault _ _ (by decide)
  · rw [hkeep _ _ _ _ (by simp [PG_FAULT])]
    subst h; exact State.flag_fault _ _ (by decide)

theorem E_STAT_W_put (w : Word) (v : Nat) : E_STAT_W.put w v = BitVec.ofNat 32 v := by
  have hm : E_STAT_W.mask = BitVec.allOnes 32 := by decide
  unfold Fld.put
  rw [hm, BitVec.and_allOnes]
  simp [E_STAT_W]

/-- The low bit of E_STAT says whether the entry is armed. -/
theorem State.entryStat_mod (i : Nat) : s.entryStat i % 2 = if s.armed i then 1 else 0 := by
  have heven (c : Bool) (n : Nat) : ∃ m, (if c then 2 ^ (n + 1) else 0) = 2 * m :=
    ⟨if c then 2 ^ n else 0, by split <;> ring⟩
  obtain ⟨m1, h1⟩ := heven (s.entry i).entflt 4
  obtain ⟨m2, h2⟩ := heven (s.mapBit F.VOTEF i) 3
  obtain ⟨m3, h3⟩ := heven (s.entry i).hold 2
  obtain ⟨m4, h4⟩ := heven (s.mapBit F.LATE i) 1
  obtain ⟨m5, h5⟩ := heven (s.mapBit F.FIRED i) 0
  unfold State.entryStat
  simp only [h1, h2, h3, h4, h5, pow_zero]
  split <;> omega

variable {s} in
theorem State.entryStat_congr {t : State} (hs : t.sched = s.sched) (hr : ∀ a, 0x112000 ≤ a → t.reg a = s.reg a) (i : Nat) :
    t.entryStat i = s.entryStat i := by
  have hbit (f : Nat → Fld) (hf : 0x112000 ≤ (f (i / 32)).addr) := State.mapBit_congr (hr _ hf)
  unfold State.entryStat State.armed
  rw [State.entry_congr hs, hbit _ (by simp only [F.VOTEF]; omega), hbit _ (by simp only [F.LATE]; omega),
    hbit _ (by simp only [F.FIRED]; omega), hbit _ (by simp only [F.ARMED]; omega)]

/-- E_T holds 96 bits. -/
theorem State.get96_put96_E_T (v : Nat) : (s.put96 F.E_T v).get96 F.E_T = v % 2 ^ 96 := by
  unfold State.get96 State.put96
  rw [State.fget_fput_same _ (F.E_T 2) _ (Nat.le_refl 32), State.fget_fput_other _ (F.E_T 2) (F.E_T 1) _ (Nat.le_refl 32) (by simp [F.E_T]),
    State.fget_fput_same _ (F.E_T 1) _ (Nat.le_refl 32), State.fget_fput_other _ (F.E_T 2) (F.E_T 0) _ (Nat.le_refl 32) (by simp [F.E_T]),
    State.fget_fput_other _ (F.E_T 1) (F.E_T 0) _ (Nat.le_refl 32) (by simp [F.E_T]), State.fget_fput_same _ (F.E_T 0) _ (Nat.le_refl 32)]
  show v / 2 ^ 64 % 2 ^ 32 * 2 ^ 64 + v / 2 ^ 32 % 2 ^ 32 * 2 ^ 32 + v % 2 ^ 32 = v % 2 ^ 96
  omega

variable {s} in
theorem State.get96_congr {t : State} {f : Nat → Fld} (h : ∀ j < 3, t.reg (f j).addr = s.reg (f j).addr) : t.get96 f = s.get96 f := by
  unfold State.get96
  rw [State.fget_congr (h 0 (by decide)), State.fget_congr (h 1 (by decide)), State.fget_congr (h 2 (by decide))]

theorem State.schedRead_holds {i : Nat} (hi : i = s.fget F.SCHED_IDX_IDX) : s.schedRead.get96 F.E_T = (s.entry i).cmp % 2 ^ 96 ∧
    s.schedRead.reg E_STAT_W.addr = BitVec.ofNat 32 (s.entryStat i) ∧
    s.schedRead.reg F.E_ACT_ACTION.addr = (s.entry i).act ∧ s.schedRead.reg F.E_ARG.addr = (s.entry i).arg ∧
    s.schedRead.reg F.E_PER_UNIT.addr = (s.entry i).per ∧ s.schedRead.flag F.E_STAT_ARMED = s.armed i ∧
    OnlyRegs s s.schedRead [0x11104C, 0x111050, 0x111054, 0x111058, 0x11105C, 0x111060, 0x111064] := by
  unfold State.schedRead
  rw [← hi]
  extract_lets j e u
  have hu : OnlyRegs s u [0x11104C, 0x111050, 0x111054, 0x111058, 0x11105C, 0x111060, 0x111064] :=
    (((OnlyRegs.refl s _).fput _ _ (by simp [F.E_T])).fput _ _ (by simp [F.E_T])).fput _ _ (by simp [F.E_T])
  have ht : u.get96 F.E_T = e.cmp % 2 ^ 96 := s.get96_put96_E_T _
  have hstat : u.entryStat i = s.entryStat i :=
    State.entryStat_congr (s := s) (t := u) rfl (fun a ha => hu.2 a (by simp; omega)) i
  clear_value u
  have hw : (((u.setReg F.E_ACT_ACTION.addr e.act).setReg F.E_ARG.addr e.arg).setReg F.E_PER_UNIT.addr e.per).fput E_STAT_W (u.entryStat i) =
      (((u.setReg 0x111058 e.act).setReg 0x11105C e.arg).setReg 0x111060 e.per).setReg 0x111064 (BitVec.ofNat 32 (s.entryStat i)) := by
    rw [hstat]; exact congrArg _ (E_STAT_W_put _ _)
  rw [hw]
  refine ⟨?_, State.reg_setReg_same _ _ _, ?_, ?_, ?_, ?_, (((hu.setReg _ _ (by simp)).setReg _ _ (by simp)).setReg _ _ (by simp)).setReg _ _ (by simp)⟩
  · refine (State.get96_congr fun j hj => ?_).trans ht
    simp only [State.reg_setReg, F.E_T]
    rw [if_neg (by omega), if_neg (by omega), if_neg (by omega), if_neg (by omega)]
  · simp only [State.reg_setReg]; rfl
  · simp only [State.reg_setReg]; rfl
  · simp only [State.reg_setReg]; rfl
  · have hbit : (BitVec.ofNat 32 (s.entryStat i)).toNat / 2 ^ 0 % 2 ^ 1 = if s.armed i then 1 else 0 := by
      rw [← s.entryStat_mod i, BitVec.toNat_ofNat]; omega
    unfold State.flag State.fget F.E_STAT_ARMED
    rw [State.reg_setReg_same, hbit]
    cases s.armed i <;> rfl

end

-- a firing (R58 to R60)

section
variable {s : State} {i : Nat}

/-- A firing that is carried out disarms a one-shot entry and counts it; of a periodic one it writes the entry alone (R60). -/
theorem State.fired_eq (s : State) (i : Nat) : ∃ e', s.fired i true = s.setEntry i e' ∧ (s.entry i).periodic = true ∨
    s.fired i true = (s.setEntry i e').setMapBit F.ARMED i false ∧ e'.fires = satInc 16 (s.entry i).fires := by
  unfold State.fired
  extract_lets e e1
  have he : e1.fires = satInc 16 e.fires := (if_pos rfl : (if true = true then satInc 16 e.fires else e.fires) = _)
  clear_value e1
  split
  · exact ⟨e1, .inr ⟨rfl, he⟩⟩
  · next hp =>
    have hp' : e.periodic = true := not_not.mp hp
    split
    · exact ⟨_, .inl ⟨rfl, hp'⟩⟩
    · exact ⟨_, .inl ⟨rfl, hp'⟩⟩

/-- What a firing that is carried out leaves of the table's bits, and of a one-shot entry. -/
theorem State.fired_holds (hf : s.mapBit F.FIRED i = true) :
    (s.fired i true).mapBit F.FIRED i = true ∧ (s.fired i true).mapBit F.LATE i = s.mapBit F.LATE i ∧
    ((s.entry i).count = 0 → (s.fired i true).armed i = false ∧ ((s.fired i true).entry i).fires = satInc 16 (s.entry i).fires) ∧
    (s.fired i true).comb = s.comb := by
  obtain ⟨e, ⟨heq, hp⟩ | ⟨heq, he⟩⟩ := s.fired_eq i
  · rw [heq]
    exact ⟨hf, rfl, fun h => absurd h (of_decide_eq_true hp), rfl⟩
  · have hARMED (f : Nat → Fld) (hne : (f (i / 32)).addr ≠ (F.ARMED (i / 32)).addr) : (s.fired i true).mapBit f i = s.mapBit f i := by
      rw [heq]; exact State.mapBit_setMapBit_other _ _ hne
    refine ⟨(hARMED _ (by simp only [F.ARMED, F.FIRED]; omega)).trans hf, hARMED _ (by simp only [F.ARMED, F.LATE]; omega), fun _ => ?_, ?_⟩
    · rw [heq, State.entry_congr (State.setMapBit_sched _ _ _ _), State.entry_setEntry_same]
      exact ⟨State.mapBit_setMapBit_same _ _ _ _, he⟩
    · rw [heq]; rfl

/-- The firing of an entry that is due, undisturbed and not late (R59). -/
theorem State.strike_undisturbed (hd : s.entryDue i = true) (hcopies : copiesOut (s.entry i) = 0) (herrs : (s.entry i).errs = 0)
    (hlate : s.late (s.entry i) = false) (hpulse : actionOf (s.entry i) = 2 → (s.entry i).handed = true) :
    s.strike i = ((s.setMapBit F.FIRED i true).fired i true, some (i, s.entry i)) := by
  have hvote : (s.voteEntry i).checkWords i = s := by
    rw [show s.voteEntry i = s from if_pos hcopies]
    exact if_pos herrs
  have harmed : s.armed i = true := by
    unfold State.entryDue at hd
    simp only [Bool.and_eq_true] at hd
    exact hd.1.1.1
  have hskip : (decide (actionOf (s.entry i) = 2) && !(s.entry i).handed) = false := by
    by_cases h : actionOf (s.entry i) = 2
    · simp [hpulse h]
    · simp [h]
  unfold State.strike
  simp only [hvote, harmed, hlate, hskip, not_true_eq_false, if_false, Bool.or_false, Bool.false_eq_true]

/-- An entry that is alone due is carried out on the state its firing leaves. -/
theorem State.fireAll_alone {u : State} {e : Entry} (hl : s.dueList = [i]) (hs : s.strike i = (u, some (i, e))) :
    s.fireAll = u.act i e := by
  unfold State.fireAll
  rw [hl]
  by_cases h : actionOf e = 1 <;> simp [hs, h]

end

/-- Settles O5: WRITE, READ and DISARM by what they write, a firing by its one stroke. -/
theorem scheduleCommandsAct : Obligations.ScheduleCommandsAct := by
  unfold Obligations.ScheduleCommandsAct
  rintro s via i rfl
  have hwrite (h : s.judge via 0x111 0x044 true = .ok) : exec (.schedWrite via) s = .next s.schedWrite :=
    congrArg Host.Outcome.next (State.guarded_ok h _)
  refine ⟨fun h ha h1 h6 harg => .of_exec (hwrite h) ?_, fun h ha hbad => .of_exec (hwrite h) ?_, fun h ha => .of_exec (hwrite h) ?_,
    fun h => .of_exec (congrArg Host.Outcome.next (State.guarded_ok h _)) ?_,
    fun h => .of_exec (congrArg Host.Outcome.next (State.guarded_ok h _)) ?_, fun j hj => ?_, fun k hp hd => ?_⟩
  · have hb : s.wordsBad = false := by
      unfold State.wordsBad
      simp only [harg, Bool.not_true, Bool.or_false, decide_eq_false_iff_not]
      omega
    rw [State.schedWrite_accepted ha hb]
    obtain ⟨⟨harmed, hfired, hlate, hvotef, ⟨hcopies, hfires, hanchor, hin, hcmp, hact, harg, hper⟩, hbusy⟩, hreg, hcomb⟩ :=
      (s.fputB F.SCHED_STAT_REFUSED false).armEntry_holds (s.fget F.SCHED_IDX_IDX) (s.get96 F.E_T) (s.reg F.E_ACT_ACTION.addr)
        (s.reg F.E_ARG.addr) (s.reg F.E_PER_UNIT.addr)
    exact ⟨harmed, hfired, hlate, hvotef, hcopies, hfires, hanchor, hin, hcmp, hact, harg, hper,
      (State.flag_congr hreg).trans (s.flag_fputB_same F.SCHED_STAT_REFUSED false (by decide) (by decide)), hbusy, hcomb⟩
  · have hb : s.wordsBad = true := by
      unfold State.wordsBad
      rcases hbad with h0 | h7 | harg
      · simp [h0]
      · simp [h7]
      · simp [harg]
    obtain ⟨hr, h0, _, ho⟩ := s.refusal_holds _ _ (State.schedWrite_refused (.inr hb))
    exact ⟨hr, h0 hb, ho⟩
  · obtain ⟨hr, _, h1, ho⟩ := s.refusal_holds _ _ (State.schedWrite_refused (.inl ha))
    exact ⟨hr, h1 ha, ho⟩
  · exact s.schedRead_holds rfl
  · exact ⟨State.mapBit_setMapBit_same _ _ _ _, (OnlyRegs.refl s _).fputB _ _ (by simp)⟩
  · obtain ⟨hk, hin, htardy, hcmp, hcopies⟩ := ({ s with schedBusy := none } : State).joinCmp_holds j
    refine .of_exec (t := ({ s with schedBusy := none } : State).joinCmp j) ?_ ⟨?_, hin, htardy, hcmp, hcopies⟩
    · show execSchedArmDone s = _
      unfold execSchedArmDone
      rw [hj]
    · exact (congrArg State.schedBusy hk.view :)
  · have hex : exec (.entryFire k) s = .next s.closeDue.fireAll := congrArg Host.Outcome.next (if_pos ⟨hp, hd⟩)
    refine ⟨hex, fun hc hg he hl hcopies herrs hlate hpulse => ?_⟩
    have hf := State.fired_holds (s := s.setMapBit F.FIRED k true) (State.mapBit_setMapBit_same _ _ _ _)
    refine ⟨(s.setMapBit F.FIRED k true).fired k true, ?_, hf.1, hf.2.1.trans (State.mapBit_setMapBit_other _ _ ?_), hf.2.2.1, hf.2.2.2⟩
    · rw [hex, State.closeDue_idle hc hg he, State.fireAll_alone hl (State.strike_undisturbed hd hcopies herrs hlate hpulse)]
    · simp only [F.LATE, F.FIRED]; omega

end Sys2Proof.Machine
end

section
/-! Votes, domains and the entry to backup (20: R384 to R391; 03: R64). -/

namespace Sys2Proof.Machine

/-- The registers of the power pages, and CB_STAT, which tells the Comb quarters that are on. -/
def PowerReg (a : Nat) : Prop := a / 4096 = 0x004 ∨ a / 4096 = 0x005 ∨ a / 4096 = 0x006 ∨ a = 0x120044

/-- All of a state but its registers, the raises Cicada has yet to take, and the votes. -/
def besidesVotes (s : State) : State := { s with regs := [], cic := {}, pwr := {} }

/-- From `s` to `t` only votes, power registers and raises move. -/
abbrev VotesMove (s t : State) : Prop := Keeps besidesVotes (fun a => ¬ PowerReg a) s t

theorem besidesVotes_blind : Blind besidesVotes := ⟨fun _ _ => rfl, fun _ _ => rfl⟩

namespace VotesMove

variable (s : State) {d : Nat} (hd : d < 64)
include hd

theorem setDom (st : Nat) : VotesMove s (s.setDom d st) := by
  have hstate : PowerReg (F.PW_D_STATE d).addr := by simp only [PowerReg, F.PW_D_STATE]; omega
  have hap : PowerReg (F.PW_D_AP d).addr := by simp only [PowerReg, F.PW_D_AP]; omega
  have hon : PowerReg (pwOn d).addr := by unfold PowerReg pwOn; split <;> simp [F.PW_ON0, F.PW_ON1_D]
  have h : VotesMove s (((s.fput (F.PW_D_STATE d) st).fput (F.PW_D_AP d) 0).fputB (pwOn d) (decide (st = dON ∨ st = dENTRY))) :=
    (((Keeps.refl s).fput besidesVotes_blind _ _ (not_not.mpr hstate)).fput besidesVotes_blind _ _ (not_not.mpr hap)).fputB
      besidesVotes_blind _ _ (not_not.mpr hon)
  unfold State.setDom
  exact .ite (fun _ => h.fputB besidesVotes_blind _ _ (by simp [PowerReg, F.CB_STAT_QON])) fun _ => h

theorem domFollow : VotesMove s (s.domFollow d) := by
  unfold State.domFollow
  exact .ite (fun _ => setDom s hd _) fun _ => .ite (fun _ => setDom s hd _) fun _ => .refl s

theorem castVote (c : Nat) (b : Bool) : VotesMove s (s.castVote d c b) := by
  have hh : PowerReg (F.PW_D_HOLDERS d).addr := by simp only [PowerReg, F.PW_D_HOLDERS]; omega
  unfold State.castVote
  refine .ite (fun _ => .refl s) fun _ => ?_
  exact Keeps.trans (Keeps.fput besidesVotes_blind (s := s) (t := s.setVote d c b) (.of_eq rfl rfl) _ _ (not_not.mpr hh)) (domFollow _ hd)

end VotesMove

-- the entry to backup (R64, R391)

/-- MGMT asleep with HOSTIO on and the link up. A WAKE entry at time 0 is armed, and the running DMA channels name 20477, whose
DMA_CTL would lie at 0x1A005C, the lowest word of the alarm's time. -/
def strayDma : State :=
  { regs := [(0x005044, 0x40010000), (0x005048, 0x40010000), (0x112040, 1), (0x150044, 0x100)],
    pcie := { dma := [20477] }, sched := [(0, { act := 0x600000 })], pwr := { sleeping := true } }

/-- The alarm is copied, the snapshot written, the Warden's vote withdrawn. -/
def strayAsleep : State := { strayDma.alarmCopy.snapshot.castVote 1 WARDEN false with pwr.sleeping := false }

theorem exec_backupEntry_strayDma : exec .backupEntry strayDma = .next strayAsleep.allOff := by
  show Host.Outcome.next _ = _
  rw [if_pos (by decide)]
  exact congrArg Host.Outcome.next (if_pos (by decide +kernel))

/-- When the link goes down the channel's ERR bit is set in the alarm's time. -/
theorem strayAsleep_alarm : strayAsleep.allOff.flag ⟨0x1A005C, 28, 1⟩ = true := by decide +kernel

/-- A time with a bit set in its lowest word is not 0. -/
theorem State.get96_pos {s : State} {f : Nat → Fld} {a b : Nat} (hf : f 2 = ⟨a, 0, 32⟩) (hb : s.flag ⟨a, b, 1⟩ = true) : 0 < s.get96 f := by
  have hw : s.fget ⟨a, b, 1⟩ ≠ 0 := of_decide_eq_true hb
  have hpos : s.fget (f 2) ≠ 0 := by
    intro h0
    rw [hf] at h0
    have hz : (s.reg a).toNat = 0 := by
      have hlt := (s.reg a).isLt
      unfold State.fget at h0
      dsimp only at h0
      omega
    exact hw (by unfold State.fget; simp [hz])
  unfold State.get96
  omega

/-- Refutes O34: the entry to backup. Of the running DMA channels the statement says nothing, and one whose DMA_CTL would be the
lowest word of the alarm sets a bit there when the link goes down with HOSTIO, so the alarm comes after the entry. -/
theorem not_powerVotesMoveDomains : ¬ Obligations.PowerVotesMoveDomains := by
  unfold Obligations.PowerVotesMoveDomains
  intro h
  obtain ⟨_, _, hbackup, _⟩ := h strayDma
  obtain ⟨u, hu, _, _, _, halarm⟩ := hbackup (by decide) rfl (by decide) (by decide)
  obtain ⟨_, hle⟩ := halarm (fun _ _ hj => nomatch hj) 0 { act := 0x600000 } (by decide) (.head _) (by decide) (by decide) (by decide)
  rw [← Host.Outcome.next.inj (exec_backupEntry_strayDma.symm.trans hu)] at hle
  have hcmp : (strayDma.entry 0).cmp = 0 := by decide
  exact absurd (State.get96_pos (f := F.AON_ALM_T) rfl strayAsleep_alarm) (by omega)

end Sys2Proof.Machine
end

section
/-! Resets of device scope, Warden restarts and the SERVICE input (21: R409 to R413; 03: R41, R48). -/

namespace Sys2Proof.Machine

-- a reset of device scope (R409, R411)

/-- The Sky Clock when MGMT powers up (R48). -/
def State.bootSky (s : State) (por : Bool) : SkySt :=
  let t := if s.flag F.SKY_STATE_AONVALID then s.sky.aon % 2 ^ 96 else 0
  { iA := s.sky.iA, aon := s.sky.aon, time := t * 2 ^ 32, anchor := t, prev := t - 1, smp := if por then 0 else s.sky.smp, started := !por && s.sky.started }

/-- What a reset of device scope leaves, its registers of device scope at reset. -/
def State.resetBase (s : State) (por : Bool) : State :=
  { pending := s.pending, cycle := s.cycle, adcN := s.adcN, fresh := s.fresh, regs := Tab.clear (fun a => !isAonReg a) s.regs,
    aon := s.aon, fuses := s.fuses, xspi := { flash := s.xspi.flash }, upd := { formats := s.upd.formats },
    wv := { cores := Tab.clear (fun k => decide (k ≠ 17)) s.wv.cores }, sky := s.bootSky por }

/-- All of a state but its registers and the count of values drawn. -/
def besidesDrawn (s : State) : State := { s with regs := [], cic := {}, fresh := 0 }

theorem besidesDrawn_blind : Blind besidesDrawn := ⟨fun _ _ => rfl, fun _ _ => rfl⟩

/-- The registers a reset of device scope sets itself: causes and counts, the clock's state, Glowworm's load, the challenge. -/
def ResetReg (a : Nat) : Prop := a = 0x002044 ∨ a = 0x002054 ∨ a = 0x110040 ∨ a = 0x1A006C ∨ ∃ i < 8, a = (F.CP_CHAL i).addr

theorem State.newChallenge_keeps (s : State) : Keeps besidesDrawn (fun a => ∀ i < 8, a ≠ (F.CP_CHAL i).addr) s s.newChallenge := by
  unfold State.newChallenge
  refine .foldl _ (fun s i hi => ?_) s
  have hi' := List.mem_range.mp hi
  have h := (Keeps.refl (π := besidesDrawn) (R := fun a => ∀ i < 8, a ≠ (F.CP_CHAL i).addr) s).setReg besidesDrawn_blind (F.CP_CHAL i).addr
    (Config.trng s.fresh) (fun h => h i hi' rfl)
  exact h.trans (.of_eq rfl rfl)

/-- The clock's fields at power-up, and GO of Glowworm's load cleared. -/
def State.resetClock (s : State) : State → State := fun r =>
  ((r.fputB F.SKY_STATE_AONVALID (s.flag F.SKY_STATE_AONVALID)).fput F.SKY_STATE_STATE
    (if s.flag F.SKY_STATE_AONVALID then skHOLDOVER else skUNSTEERED)).fputB F.AON_GWLD_GO false

/-- A reset that is counted (R409, R412): both counts stand, DEVRESET counts it, and the Warden's cause stands. -/
def State.resetCounts (s r : State) : State :=
  (((r.fput F.RST_CNT_WRESTART (s.fget F.RST_CNT_WRESTART)).fput F.RST_CNT_DEVRESET (s.fget F.RST_CNT_DEVRESET)).finc
    F.RST_CNT_DEVRESET).fput F.RST_CAUSE_WCAUSE (s.fget F.RST_CAUSE_WCAUSE)

section
variable (s r : State) (cause : Nat)

theorem State.resetBase_reg (por : Bool) (a : Nat) : (s.resetBase por).reg a = if isAonReg a then s.reg a else regReset a := by
  refine (Tab.get_clear regReset (fun a => !isAonReg a) s.regs a).trans ?_
  cases isAonReg a <;> rfl

theorem State.resetClock_keeps : Keeps besidesDrawn (fun a => ¬ ResetReg a) r (s.resetClock r) := by
  unfold State.resetClock
  exact (((Keeps.refl r).fputB besidesDrawn_blind _ _ (not_not.mpr (by simp [ResetReg, F.SKY_STATE_AONVALID]))).fput besidesDrawn_blind _ _
    (not_not.mpr (by simp [ResetReg, F.SKY_STATE_STATE]))).fputB besidesDrawn_blind _ _ (not_not.mpr (by simp [ResetReg, F.AON_GWLD_GO]))

theorem State.resetCounts_keeps : Keeps besidesDrawn (fun a => a ≠ 0x002044 ∧ a ≠ 0x002054) r (s.resetCounts r) := by
  unfold State.resetCounts
  exact ((((Keeps.refl r).fput besidesDrawn_blind _ _ (by simp [F.RST_CNT_WRESTART])).fput besidesDrawn_blind _ _
    (by simp [F.RST_CNT_DEVRESET])).finc besidesDrawn_blind _ (by simp [F.RST_CNT_DEVRESET])).fput besidesDrawn_blind _ _
    (by simp [F.RST_CAUSE_WCAUSE])

/-- The state of a reset before the new challenge is drawn. -/
def State.resetState : State :=
  let r := (s.resetClock (s.resetBase (decide (cause = 1)))).fput F.RST_CAUSE_CAUSE cause
  if cause = 3 ∨ cause = 4 then s.resetCounts r else r

theorem State.resetState_keeps : Keeps besidesDrawn (fun a => ¬ ResetReg a) (s.resetBase (decide (cause = 1))) (s.resetState cause) := by
  have h := (s.resetClock_keeps (s.resetBase (decide (cause = 1)))).fput besidesDrawn_blind F.RST_CAUSE_CAUSE cause
    (not_not.mpr (by simp [ResetReg, F.RST_CAUSE_CAUSE]))
  unfold State.resetState
  exact .ite (fun _ => h.trans ((s.resetCounts_keeps _).mono fun _ ha => ⟨fun h => ha (.inl h), fun h => ha (.inr (.inl h))⟩)) fun _ => h

theorem State.deviceReset_keeps : Keeps besidesDrawn (fun a => ¬ ResetReg a) (s.resetBase (decide (cause = 1))) (s.deviceReset cause) :=
  (s.resetState_keeps cause).trans ((s.resetState cause).newChallenge_keeps.mono fun _ ha i hi h => ha (.inr (.inr (.inr (.inr ⟨i, hi, h⟩)))))

/-- Below the challenge a reset leaves what stood before it was drawn. -/
theorem State.deviceReset_reg {a : Nat} (h : a < 0x160080) : (s.deviceReset cause).reg a = (s.resetState cause).reg a :=
  (s.resetState cause).newChallenge_keeps.regs a fun i _ => by simp only [F.CP_CHAL]; omega

/-- The cause of a reset is read back (R409). -/
theorem State.deviceReset_cause (h : cause < 8) : (s.deviceReset cause).fget F.RST_CAUSE_CAUSE = cause := by
  rw [State.fget_congr (s.deviceReset_reg cause (by simp [F.RST_CAUSE_CAUSE]))]
  have hput := State.fget_fput_same (s.resetClock (s.resetBase (decide (cause = 1)))) F.RST_CAUSE_CAUSE cause (by decide)
  have hcause : cause % 2 ^ F.RST_CAUSE_CAUSE.w = cause := Nat.mod_eq_of_lt h
  unfold State.resetState
  split
  · unfold State.resetCounts State.finc
    rw [State.fget_fput_other _ F.RST_CAUSE_WCAUSE _ _ (by decide) (by decide), State.fget_fput_other _ F.RST_CNT_DEVRESET _ _ (by decide) (by decide),
      State.fget_fput_other _ F.RST_CNT_DEVRESET _ _ (by decide) (by decide), State.fget_fput_other _ F.RST_CNT_WRESTART _ _ (by decide) (by decide),
      hput, hcause]
  · rw [hput, hcause]

/-- A counted reset keeps the Warden's cause and its count, and is counted (R409, R412). -/
theorem State.deviceReset_counts (h : cause = 3 ∨ cause = 4) :
    (s.deviceReset cause).fget F.RST_CAUSE_WCAUSE = s.fget F.RST_CAUSE_WCAUSE ∧
    (s.deviceReset cause).fget F.RST_CNT_WRESTART = s.fget F.RST_CNT_WRESTART ∧
    (s.deviceReset cause).fget F.RST_CNT_DEVRESET = satInc 16 (s.fget F.RST_CNT_DEVRESET) := by
  have hs : s.resetState cause = s.resetCounts ((s.resetClock (s.resetBase (decide (cause = 1)))).fput F.RST_CAUSE_CAUSE cause) := if_pos h
  have hreg {a : Nat} (ha : a < 0x160080) := s.deviceReset_reg cause ha
  simp only [hs] at hreg
  rw [State.fget_congr (hreg (by simp [F.RST_CAUSE_WCAUSE])), State.fget_congr (hreg (by simp [F.RST_CNT_WRESTART])),
    State.fget_congr (hreg (by simp [F.RST_CNT_DEVRESET]))]
  generalize (s.resetClock (s.resetBase (decide (cause = 1)))).fput F.RST_CAUSE_CAUSE cause = r
  unfold State.resetCounts
  refine ⟨?_, ?_, ?_⟩
  · rw [State.fget_fput_same _ _ _ (by decide)]; exact Nat.mod_eq_of_lt (State.fget_lt s _)
  · unfold State.finc
    rw [State.fget_fput_other _ F.RST_CAUSE_WCAUSE _ _ (by decide) (by decide), State.fget_fput_other _ F.RST_CNT_DEVRESET _ _ (by decide) (by decide),
      State.fget_fput_other _ F.RST_CNT_DEVRESET _ _ (by decide) (by decide), State.fget_fput_same _ _ _ (by decide)]
    exact Nat.mod_eq_of_lt (State.fget_lt s _)
  · rw [State.fget_fput_other _ F.RST_CAUSE_WCAUSE _ _ (by decide) (by decide), State.finc_fget _ _ (by decide), State.fget_fput_same _ _ _ (by decide)]
    exact congrArg (satInc 16) (Nat.mod_eq_of_lt (State.fget_lt s F.RST_CNT_DEVRESET))

theorem State.deviceReset_skyState : (s.deviceReset cause).fget F.SKY_STATE_STATE =
    if s.flag F.SKY_STATE_AONVALID then skHOLDOVER else skUNSTEERED := by
  rw [State.fget_congr (s.deviceReset_reg cause (by simp [F.SKY_STATE_STATE]))]
  have hclock (r : State) : (s.resetClock r).fget F.SKY_STATE_STATE = if s.flag F.SKY_STATE_AONVALID then skHOLDOVER else skUNSTEERED := by
    unfold State.resetClock State.fputB
    rw [State.fget_fput_other _ F.AON_GWLD_GO _ _ (by decide) (by decide), State.fget_fput_same _ _ _ (by decide)]
    split <;> rfl
  have hreg : (s.resetState cause).reg F.SKY_STATE_STATE.addr = (s.resetClock (s.resetBase (decide (cause = 1)))).reg F.SKY_STATE_STATE.addr := by
    have hput (r : State) : (r.fput F.RST_CAUSE_CAUSE cause).reg F.SKY_STATE_STATE.addr = r.reg F.SKY_STATE_STATE.addr :=
      State.reg_fput_other _ _ _ (by decide)
    unfold State.resetState
    split
    · exact ((s.resetCounts_keeps _).regs _ (by decide)).trans (hput _)
    · exact hput _
  rw [State.fget_congr hreg, hclock]

theorem State.bootSky_time (por : Bool) : (s.bootSky por).time / 2 ^ 32 = if s.flag F.SKY_STATE_AONVALID then s.sky.aon % 2 ^ 96 else 0 :=
  Nat.mul_div_cancel _ (Nat.two_pow_pos 32)

/-- The registers a reset of device scope does not return to reset, on its own pages. -/
def resetOwn : List Nat :=
  [F.RST_CAUSE_CAUSE.addr, F.RST_CNT_DEVRESET.addr, F.SKY_STATE_STATE.addr] ++ (List.range 8).map fun i => (F.CP_CHAL i).addr

theorem not_resetReg {a : Nat} (hg : a ≠ F.AON_GWLD_GO.addr) (h : a ∉ resetOwn) : ¬ ResetReg a := by
  rintro (rfl | rfl | rfl | rfl | ⟨i, hi, rfl⟩)
  · exact h (by decide)
  · exact h (by decide)
  · exact h (by decide)
  · exact hg rfl
  · exact h (List.mem_append_right _ (List.mem_map.mpr ⟨i, List.mem_range.mpr hi, rfl⟩))

/-- AON's registers are no register of the pages a reset works on. -/
theorem not_mem_resetOwn {a : Nat} (h : isAonReg a = true) : a ∉ resetOwn := by
  have hall : ∀ b ∈ resetOwn, isAonReg b = false := by decide
  exact fun hm => absurd (h.symm.trans (hall a hm)) nofun

/-- What a reset of device scope with its cause makes of `s` (R409, R411). -/
structure DeviceReset (u : State) : Prop where
  code : u.fget F.RST_CAUSE_CAUSE = cause
  aonRegs : ∀ a, isAonReg a = true → a ≠ F.AON_GWLD_GO.addr → u.reg a = s.reg a
  regs : ∀ a, isAonReg a = false → a ∉ resetOwn → u.reg a = regReset a
  rest : besidesDrawn u = besidesDrawn (s.resetBase (decide (cause = 1)))
  cic : u.cic = {}
  skyState : u.fget F.SKY_STATE_STATE = if s.flag F.SKY_STATE_AONVALID then skHOLDOVER else skUNSTEERED

theorem State.newChallenge_cic (s : State) : s.newChallenge.cic = s.cic := by
  unfold State.newChallenge
  refine (Keeps.foldl (π := State.cic) (R := fun _ => False) _ (fun s i _ => ?_) s).view
  exact ⟨rfl, fun _ h => h.elim⟩

theorem State.resetState_cic : (s.resetState cause).cic = {} := by
  unfold State.resetState
  split <;> rfl

theorem State.deviceReset_cic : (s.deviceReset cause).cic = {} := (s.resetState cause).newChallenge_cic.trans (s.resetState_cic cause)

variable {cause} in
theorem State.deviceReset_holds (h : cause < 8) : DeviceReset s cause (s.deviceReset cause) := by
  have hk := s.deviceReset_keeps cause
  refine ⟨s.deviceReset_cause cause h, fun a ha hg => ?_, fun a ha ho => ?_, hk.view, s.deviceReset_cic cause, s.deviceReset_skyState cause⟩
  · rw [hk.regs a (not_resetReg hg (not_mem_resetOwn ha)), State.resetBase_reg, if_pos ha]
  · have hg : a ≠ F.AON_GWLD_GO.addr := fun h => absurd (ha.symm.trans (h ▸ rfl : isAonReg a = true)) nofun
    rw [hk.regs a (not_resetReg hg ho), State.resetBase_reg, if_neg (ha ▸ nofun)]

end

namespace DeviceReset

variable {s u : State} {cause : Nat} (h : DeviceReset s cause u)
include h

theorem core (i : Nat) : u.core i = if i = 17 then s.core 17 else coreReset i := by
  have hc : u.wv.cores = Tab.clear (fun k => decide (k ≠ 17)) s.wv.cores := (congrArg (fun x : State => x.wv.cores) h.rest :)
  unfold State.core
  rw [hc, Tab.get_clear]
  by_cases hi : i = 17
  · subst hi; rfl
  · simp [hi]

theorem now : u.now = if s.flag F.SKY_STATE_AONVALID then s.sky.aon % 2 ^ 96 else 0 := by
  have hs : u.sky = s.bootSky (decide (cause = 1)) := (congrArg State.sky h.rest :)
  unfold State.now
  rw [hs, State.bootSky_time]

end DeviceReset

-- a Warden restart (R412)

/-- The state is the same but for registers no reset reads. -/
theorem DeviceReset.of_regs {s u : State} {cause : Nat} {l : Tab Word} (h : DeviceReset { s with regs := l } cause u)
    (haon : ∀ a, isAonReg a = true → ({ s with regs := l } : State).reg a = s.reg a)
    (hsky : ({ s with regs := l } : State).reg F.SKY_STATE_AONVALID.addr = s.reg F.SKY_STATE_AONVALID.addr) : DeviceReset s cause u := by
  have hflag : ({ s with regs := l } : State).flag F.SKY_STATE_AONVALID = s.flag F.SKY_STATE_AONVALID := State.flag_congr hsky
  have hboot (por : Bool) : ({ s with regs := l } : State).bootSky por = s.bootSky por := by
    unfold State.bootSky
    rw [hflag]
  refine ⟨h.code, fun a ha hg => (h.aonRegs a ha hg).trans (haon a ha), h.regs, h.rest.trans ?_, h.cic, h.skyState.trans (by rw [hflag])⟩
  unfold State.resetBase
  rw [hboot]
  rfl

theorem Tab.get_map {α : Type} (d : α) (f : α → α) (hf : f d = d) (t : Tab α) (k : Nat) :
    Tab.get (fun _ => d) (t.map fun e => (e.1, f e.2)) k = f (Tab.get (fun _ => d) t k) := by
  induction t with
  | nil => exact hf.symm
  | cons e t ih =>
    obtain ⟨j, v⟩ := e
    simp only [List.map_cons, Tab.get, ih]
    split <;> rfl

theorem Tab.mem_get {α : Type} (d : Nat → α) {l : Tab α} {k : Nat} (h : k ∈ l.map Prod.fst) : (k, Tab.get d l k) ∈ l := by
  induction l with
  | nil => cases h
  | cons e l ih =>
    obtain ⟨j, v⟩ := e
    by_cases hj : j = k
    · subst hj; simp [Tab.get]
    · have hl : k ∈ l.map Prod.fst := by simpa [Ne.symm hj] using h
      simp only [Tab.get, if_neg hj]
      exact List.mem_cons_of_mem _ (ih hl)

theorem Tab.get_of_not_mem {α : Type} (d : Nat → α) {l : Tab α} {k : Nat} (h : k ∉ l.map Prod.fst) (r : Tab α) :
    Tab.get d (l ++ r) k = Tab.get d r k := by
  induction l with
  | nil => rfl
  | cons e l ih =>
    obtain ⟨j, v⟩ := e
    have hj : j ≠ k := fun e => h (by simp [e])
    simp only [List.cons_append, Tab.get, if_neg hj]
    exact ih fun hl => h (List.mem_cons_of_mem _ hl)

theorem Tab.get_of_mem {α : Type} (d : Nat → α) {l : Tab α} {k : Nat} (h : k ∈ l.map Prod.fst) (r : Tab α) :
    Tab.get d (l ++ r) k = Tab.get d l k := by
  induction l with
  | nil => cases h
  | cons e l ih =>
    obtain ⟨j, v⟩ := e
    by_cases hj : j = k
    · subst hj; simp [Tab.get]
    · have hl : k ∈ l.map Prod.fst := by simpa [Ne.symm hj] using h
      simp only [List.cons_append, Tab.get, if_neg hj]
      exact ih hl

theorem mem_zip_range {α : Type} {ws : List α} {k : Nat} {v : α} : (k, v) ∈ (List.range ws.length).zip ws ↔ ws[k]? = some v := by
  rw [List.mem_iff_getElem?]
  constructor
  · rintro ⟨i, hi⟩
    rw [List.getElem?_zip_eq_some] at hi
    obtain ⟨hr, hv⟩ := hi
    have hik : i = k := by
      obtain ⟨_, h⟩ := List.getElem?_eq_some_iff.mp hr
      simpa using h
    rwa [← hik]
  · intro hv
    have hk : k < ws.length := (List.getElem?_eq_some_iff.mp hv).1
    exact ⟨k, by rw [List.getElem?_zip_eq_some]; exact ⟨by simp [hk], hv⟩⟩

/-- Words kept by key, those that are 0 left out, in front of a table that has none of their keys, read back. -/
theorem Tab.get_words {ws : List Half} {l r : Tab Half} {a : Nat} (hl : ∀ v, (a, v) ∈ l ↔ ws[a]? = some v ∧ v ≠ 0)
    (hr : Tab.get (fun _ => (0 : Half)) r a = 0) : Tab.get (fun _ => (0 : Half)) (l ++ r) a = ws.getD a 0 := by
  by_cases h : a ∈ l.map Prod.fst
  · rw [Tab.get_of_mem _ h]
    have hv := ((hl _).mp (Tab.mem_get (fun _ => (0 : Half)) h)).1
    rw [List.getD_eq_getElem?_getD, hv]; rfl
  · rw [Tab.get_of_not_mem _ h, hr, List.getD_eq_getElem?_getD]
    cases hv : ws[a]? with
    | none => rfl
    | some v =>
      have hz : v = 0 := Classical.byContradiction fun hne => h (List.mem_map.mpr ⟨(a, v), (hl v).mpr ⟨hv, hne⟩, rfl⟩)
      exact hz.symm

/-- The code banks of an image, read back. -/
theorem Tab.get_banks (ws : List Half) (l : Tab Half) (n a : Nat) (ha : a < n) :
    Tab.get (fun _ => (0 : Half)) ((((List.range ws.length).zip ws).filter fun x => decide (x.2 ≠ 0 ∧ x.1 < n)) ++
      l.filter fun x => decide (n ≤ x.1)) a = ws.getD a 0 := by
  refine Tab.get_words (fun v => ?_) ?_
  · rw [List.mem_filter, mem_zip_range]
    simp [ha]
  · rw [Tab.get_filter (fun _ => (0 : Half)) (fun k => decide (n ≤ k)), if_neg (by simp [ha])]

/-- The Warden's core as a restart leaves it. -/
structure Restarted (old c : CoreSt) (image : Option Image) : Prop where
  stack : c.stack = []
  f : c.f = 0
  data : c.data = old.data
  rom : image = none → c.k = 3 ∧ c.p = 8
  entry : ∀ i, image = some i → c.k = BitVec.ofNat 2 i.restart.1 ∧ c.p = BitVec.ofNat 16 i.restart.2 ∧
    ∀ a < 3 * 65536, Tab.get (fun _ => 0) c.code a = i.banks.getD a 0

theorem State.core_setCore_same (s : State) (i : Nat) (c : CoreSt) : (s.setCore i c).core i = c := Tab.get_set_same _ _ _ _

theorem State.core_setCore_other (s : State) {i j : Nat} (h : j ≠ i) (c : CoreSt) : (s.setCore i c).core j = s.core j :=
  Tab.get_set_other _ _ h _

/-- Nothing but the cores differs, and of them at most core `i`. -/
structure CoreOnly (i : Nat) (s t : State) : Prop where
  rest : { t with wv := s.wv } = s
  others : ∀ j, j ≠ i → t.core j = s.core j

theorem CoreOnly.setCore {i : Nat} {s t : State} (h : CoreOnly i s t) (c : CoreSt) : CoreOnly i s (t.setCore i c) :=
  ⟨h.rest, fun j hj => (State.core_setCore_other t hj c).trans (h.others j hj)⟩

theorem CoreOnly.refl (i : Nat) (s : State) : CoreOnly i s s := ⟨rfl, fun _ _ => rfl⟩

theorem State.loadBanks_eq (s : State) (ws : List Half) : ∃ code, s.loadBanks ws = s.setCore 16 { s.core 16 with code := code } ∧
    ∀ a < 3 * 65536, Tab.get (fun _ => 0) code a = ws.getD a 0 :=
  ⟨_, rfl, fun _ ha => Tab.get_banks _ _ _ _ ha⟩

theorem State.wardenCore_of_image {s : State} {i : Image} (h : s.upd.image = some i) :
    s.wardenCore = ((s.setCore 16 ((s.core 16).restart 3)).loadBanks i.banks).enterAt i.restart := by
  unfold State.wardenCore; rw [h]

theorem State.wardenCore_of_rom {s : State} (h : s.upd.image = none) : s.wardenCore = s.setCore 16 ((s.core 16).restart 3) := by
  unfold State.wardenCore; rw [h]

theorem State.wardenCore_holds (s : State) : CoreOnly 16 s s.wardenCore ∧ Restarted (s.core 16) (s.wardenCore.core 16) s.upd.image := by
  cases hi : s.upd.image with
  | none =>
    rw [State.wardenCore_of_rom hi]
    refine ⟨(CoreOnly.refl 16 s).setCore _, ?_⟩
    rw [State.core_setCore_same]
    exact ⟨rfl, rfl, rfl, fun _ => ⟨rfl, rfl⟩, nofun⟩
  | some i =>
    obtain ⟨code, hload, hcode⟩ := (s.setCore 16 ((s.core 16).restart 3)).loadBanks_eq i.banks
    rw [State.wardenCore_of_image hi, hload]
    unfold State.enterAt
    refine ⟨(((CoreOnly.refl 16 s).setCore _).setCore _).setCore _, ?_⟩
    rw [State.core_setCore_same, State.core_setCore_same, State.core_setCore_same]
    refine ⟨rfl, rfl, rfl, nofun, fun j hj => ?_⟩
    obtain rfl : i = j := Option.some.inj hj
    exact ⟨rfl, rfl, hcode⟩

/-- A restart with its cause noted and counted. -/
def State.restartNoted (s : State) (cause : Nat) : State := (s.fput F.RST_CAUSE_WCAUSE cause).finc F.RST_CNT_WRESTART

/-- The tenants' commands that were executing are answered, and the watchdog's count begins. -/
def State.restartTold (s : State) : State :=
  { s with boot.restartT := some s.now, boot.wdT := s.now, tn.stalled := none,
           tn.tenants := s.tn.tenants.map fun (e : Nat × Tenant) => (e.1, e.2.interrupted) }

/-- Was there a restart less than 10 s ago? -/
def State.restartsAgain (s : State) : Prop := ∃ t, s.boot.restartT = some t ∧ s.now < t + 10 * sec

section
variable (s : State) (cause bit : Nat)

theorem State.restartNoted_reg {a : Nat} (h : a ≠ 0x002044) (h' : a ≠ 0x002054) : (s.restartNoted cause).reg a = s.reg a :=
  (State.reg_fput_other _ _ _ h').trans (State.reg_fput_other _ _ _ h)

theorem State.restartNoted_wcause : (s.restartNoted cause).fget F.RST_CAUSE_WCAUSE = cause % 2 ^ 8 := by
  unfold State.restartNoted State.finc
  rw [State.fget_fput_other _ _ _ _ (by decide) (by decide), State.fget_fput_same _ _ _ (by decide)]; rfl

theorem State.restartNoted_wrestart : (s.restartNoted cause).fget F.RST_CNT_WRESTART = satInc 16 (s.fget F.RST_CNT_WRESTART) := by
  unfold State.restartNoted
  rw [State.finc_fget _ _ (by decide), State.fget_fput_other _ _ _ _ (by decide) (by decide)]; rfl

theorem State.restartNoted_devreset : (s.restartNoted cause).fget F.RST_CNT_DEVRESET = s.fget F.RST_CNT_DEVRESET := by
  unfold State.restartNoted State.finc
  rw [State.fget_fput_other _ _ _ _ (by decide) (by decide), State.fget_fput_other _ _ _ _ (by decide) (by decide)]

variable {s} in
theorem State.wardenRestart_again (h : s.restartsAgain) : s.wardenRestart cause bit = (s.restartNoted cause).deviceReset 4 := by
  obtain ⟨t, ht, hlt⟩ := h
  unfold State.wardenRestart
  extract_lets s0 again s1
  have hagain : again = true := by
    have ht' : s0.boot.restartT = some t := ht
    unfold again
    rw [ht']
    exact decide_eq_true hlt
  exact if_pos hagain

variable {s} in
theorem State.wardenRestart_first (h : ¬ s.restartsAgain) :
    s.wardenRestart cause bit = (s.restartNoted cause).restartTold.wardenCore.evRise 0x002 bit := by
  unfold State.wardenRestart
  extract_lets s0 again s1
  have hagain : ¬ again = true := by
    unfold again
    split
    · next t ht => exact fun hlt => h ⟨t, ht, of_decide_eq_true hlt⟩
    · nofun
  exact if_neg hagain

end

theorem State.tenant_restartTold (s : State) (k : Nat) : s.restartTold.tenant k = (s.tenant k).interrupted :=
  Tab.get_map ({} : Tenant) Tenant.interrupted rfl s.tn.tenants k

/-- What a Warden restart leaves (R412). -/
structure WardenRestarted (s : State) (cause bit : Nat) (u : State) : Prop where
  wcause : u.fget F.RST_CAUSE_WCAUSE = cause % 2 ^ 8
  wrestart : u.fget F.RST_CNT_WRESTART = satInc 16 (s.fget F.RST_CNT_WRESTART)
  rest : { u with regs := s.regs, cic := s.cic, wv := s.wv } = s.restartTold
  rises : Rises s u 0x002 bit
  others : ∀ i, i ≠ 16 → u.core i = s.core i
  core : Restarted (s.core 16) (u.core 16) s.upd.image

theorem State.wardenRestarted {s : State} (h : ¬ s.restartsAgain) (cause : Nat) {bit : Nat} (hb : bit < 32) :
    WardenRestarted s cause bit (s.wardenRestart cause bit) := by
  rw [State.wardenRestart_first _ _ h]
  obtain ⟨⟨hrest, hothers⟩, hcore⟩ := (s.restartNoted cause).restartTold.wardenCore_holds
  generalize (s.restartNoted cause).restartTold.wardenCore = w at *
  have hregs : w.regs = (s.restartNoted cause).regs := (congrArg State.regs hrest :)
  have hreg (a : Nat) : w.reg a = (s.restartNoted cause).reg a := by unfold State.reg; rw [hregs]
  have hwv : (w.evRise 0x002 bit).wv = w.wv := State.evRise_wv _ _ _
  have hcores (i : Nat) : (w.evRise 0x002 bit).core i = w.core i := by unfold State.core; rw [hwv]
  refine ⟨?_, ?_, ?_, Rises.of_evRise hb ((hreg _).trans (s.restartNoted_reg cause (by decide) (by decide))), fun i hi => ?_, ?_⟩
  · rw [State.fget_evRise_other _ _ _ _ (by decide), State.fget_congr (hreg _), State.restartNoted_wcause]
  · rw [State.fget_evRise_other _ _ _ _ (by decide), State.fget_congr (hreg _), State.restartNoted_wrestart]
  · have hev : { w.evRise 0x002 bit with regs := s.regs, cic := s.cic, wv := s.wv } = { w with regs := s.regs, cic := s.cic, wv := s.wv } :=
      ((Keeps.refl w).evRise (π := fun x : State => { x with regs := s.regs, cic := s.cic, wv := s.wv }) (R := fun _ => False)
        ⟨fun _ _ => rfl, fun _ _ => rfl⟩ 0x002 bit id).view
    exact hev.trans (congrArg (fun x : State => { x with regs := s.regs, cic := s.cic, wv := s.wv }) hrest :)
  · rw [hcores]; exact hothers i hi
  · rw [hcores]; exact hcore

-- the SERVICE input (R413)

theorem State.uart0Monitor_reg {s : State} (h : s.domPowered 2 = true) (a : Nat) :
    s.uart0Monitor.reg a = if a ∈ [0x158040, 0x158044, 0x158048, 0x15804C, 0x158050] then regReset a else s.reg a := by
  unfold State.uart0Monitor
  rw [if_pos h]
  simp only [List.foldl_cons, List.foldl_nil, State.reg_setReg, List.mem_cons, List.not_mem_nil, or_false]
  split_ifs <;> simp_all

theorem State.uart0Monitor_keeps (s : State) : Keeps (fun x : State => { x with regs := [] }) (fun a => a / 4096 ≠ 0x158) s s.uart0Monitor := by
  unfold State.uart0Monitor
  refine .ite (fun _ => .foldl _ (fun s o ho => ?_) s) fun _ => .refl s
  refine ⟨rfl, fun a ha => State.reg_setReg_other s ?_ _⟩
  simp only [List.mem_cons, List.not_mem_nil, or_false] at ho
  omega

/-- A press is counted, and UART0 is a monitor's (R413). -/
theorem servicePress_holds {s : State} (hon : s.svcOn = true) (hstuck : s.flag F.RST_SVC_STUCK = false) (hpress : s.boot.svcPress = true) :
    Completes .servicePress s fun u =>
      u.fget F.RST_SVC_PRESSES = satInc 16 (s.fget F.RST_SVC_PRESSES) ∧ u.boot.svcPress = false ∧
      Rises s u 0x002 0 ∧ (s.domPowered 2 = true → u.uMode 0 = umMONITOR ∧ u.flag (F.U_CTL_EN 0) = true ∧ u.fget (F.U_BAUD_RATE 0) = 115200 ∧
        u.fget (F.U_FMT_DBITS 0) = 8 ∧ u.flag (F.U_FLOW_XREC 0) = true) := by
  have hex : exec .servicePress s = .next (({ s.finc F.RST_SVC_PRESSES with boot.svcPress := false } : State).evRise 0x002 0).uart0Monitor :=
    congrArg Host.Outcome.next (if_pos ⟨hon, by simp [hstuck], hpress⟩)
  have hfinc : ({ s.finc F.RST_SVC_PRESSES with boot.svcPress := false } : State).fget F.RST_SVC_PRESSES = satInc 16 (s.fget F.RST_SVC_PRESSES) :=
    s.finc_fget F.RST_SVC_PRESSES (by decide)
  have hother {a : Nat} (ha : a ≠ 0x002050) : ({ s.finc F.RST_SVC_PRESSES with boot.svcPress := false } : State).reg a = s.reg a :=
    State.reg_fput_other _ _ _ ha
  have hboot : ({ s.finc F.RST_SVC_PRESSES with boot.svcPress := false } : State).boot.svcPress = false := rfl
  refine .of_exec hex ?_
  generalize ({ s.finc F.RST_SVC_PRESSES with boot.svcPress := false } : State) = v at *
  have hk := (v.evRise 0x002 0).uart0Monitor_keeps
  refine ⟨?_, ?_, ?_, fun h2 => ?_⟩
  · rw [hk.fget (by decide), State.fget_evRise_other _ _ _ _ (by decide), hfinc]
  · have hkeep : (v.evRise 0x002 0).uart0Monitor.boot = (v.evRise 0x002 0).boot := (congrArg State.boot hk.view :)
    rw [hkeep, State.evRise_boot, hboot]
  · exact (Rises.of_evRise (by decide) (hother (by decide))).keep (hk.regs _ (by decide)) (congrArg State.cic hk.view :)
  · have hp : (v.evRise 0x002 0).domPowered 2 = true := by
      have hd : (v.evRise 0x002 0).fget (F.PW_D_STATE 2) = s.fget (F.PW_D_STATE 2) := by
        rw [State.fget_evRise_other _ _ _ _ (by decide), State.fget_congr (hother (by decide))]
      unfold State.domPowered State.domState at h2 ⊢
      rwa [hd]
    have hreg := State.uart0Monitor_reg hp
    unfold State.uMode State.flag State.fget
    rw [hreg, hreg, hreg, hreg, hreg, if_pos (by decide), if_pos (by decide), if_pos (by decide), if_pos (by decide), if_pos (by decide)]
    decide

/-- A level is accepted after 20 samples; an accepted release within 60 s of the assertion is a press (R413). -/
theorem svcSample_holds {s : State} (hon : s.svcOn = true) (b : Bool) :
    (s.svcSample b).boot.svcRun = (if b = s.flag F.RST_SVC_LEVEL ∨ 19 ≤ s.boot.svcRun then 0 else s.boot.svcRun + 1) ∧
    ((s.svcSample b).flag F.RST_SVC_LEVEL = if 19 ≤ s.boot.svcRun then b else s.flag F.RST_SVC_LEVEL) ∧
    ((s.svcSample b).boot.svcPress = true ↔ s.boot.svcPress = true ∨ (19 ≤ s.boot.svcRun ∧ b = false ∧ s.flag F.RST_SVC_LEVEL = true ∧
      s.flag F.RST_SVC_STUCK = false ∧ s.now ≤ s.boot.svcT + 60 * sec)) := by
  unfold State.svcSample
  rw [if_neg (not_not.mpr hon)]
  by_cases hb : b = s.flag F.RST_SVC_LEVEL
  · rw [if_pos hb]
    refine ⟨(if_pos (.inl hb)).symm, ?_, ?_⟩
    · show s.flag F.RST_SVC_LEVEL = _
      rw [hb, ite_self]
    · refine ⟨.inl, fun h => h.elim id fun ⟨_, h1, h2, _⟩ => ?_⟩
      exact absurd (h1.symm.trans (hb.trans h2)) nofun
  · rw [if_neg hb]
    by_cases hn : s.boot.svcRun < 19
    · have hn' : ¬ 19 ≤ s.boot.svcRun := by omega
      rw [if_pos hn, if_neg hn', if_neg (fun h => h.elim hb hn')]
      exact ⟨rfl, rfl, .inl, fun h => h.elim id fun h => absurd h.1 hn'⟩
    · have hn' : 19 ≤ s.boot.svcRun := by omega
      rw [if_neg hn, if_pos hn', if_pos (.inr hn')]
      refine ⟨rfl, s.flag_fputB_same F.RST_SVC_LEVEL b (by decide) (by decide), ?_⟩
      have hlevel : b = false → s.flag F.RST_SVC_LEVEL = true := by
        intro h
        cases hl : s.flag F.RST_SVC_LEVEL with
        | true => rfl
        | false => exact absurd (h.trans hl.symm) hb
      show (s.boot.svcPress || (!b && !s.flag F.RST_SVC_STUCK && decide (s.now ≤ s.boot.svcT + 60 * sec))) = true ↔ _
      simp only [Bool.or_eq_true, Bool.and_eq_true, Bool.not_eq_true', decide_eq_true_eq]
      constructor
      · rintro (h | ⟨⟨h1, h2⟩, h3⟩)
        · exact .inl h
        · exact .inr ⟨hn', h1, hlevel h1, h2, h3⟩
      · rintro (h | ⟨_, h1, _, h2, h3⟩)
        · exact .inl h
        · exact .inr ⟨⟨h1, h2⟩, h3⟩

/-- The AON domain at reset (R409): its registers, Glowworm, the holdover counter and the retention RAM. -/
def State.aonLost (s : State) : State :=
  { s with regs := Tab.clear isAonReg s.regs, aon := {},
           wv := { s.wv with cores := Tab.clear (fun k => decide (k = 17)) s.wv.cores, loads := Tab.clear (fun k => decide (k = 17)) s.wv.loads },
           sky := { s.sky with aon := 0, iA := 2 ^ 33 } }

theorem State.aonLost_reg (s : State) (a : Nat) : s.aonLost.reg a = if isAonReg a then regReset a else s.reg a :=
  Tab.get_clear regReset isAonReg s.regs a

theorem State.aonLost_core (s : State) (i : Nat) : s.aonLost.core i = if i = 17 then coreReset i else s.core i := by
  refine (Tab.get_clear coreReset (fun k => decide (k = 17)) s.wv.cores i).trans ?_
  by_cases hi : i = 17 <;> simp [hi, State.core]

theorem vbatPowerOn_holds (s : State) : Completes .vbatPowerOn s fun u =>
    (∀ a, isAonReg a = true → u.reg a = regReset a) ∧ (∀ a, isAonReg a = false → a ≠ F.SKY_STATE_STATE.addr → u.reg a = s.reg a) ∧
    u.flag F.SKY_STATE_AONVALID = false ∧ u.aon = {} ∧ u.core 17 = coreReset 17 ∧ u.sky.aon = 0 ∧ u.sky.time = s.sky.time ∧
    u.comb = s.comb ∧ u.tn = s.tn ∧ u.fuses = s.fuses ∧ u.xspi = s.xspi ∧ ∀ i, i ≠ 17 → u.core i = s.core i := by
  have hex : exec .vbatPowerOn s = .next (s.aonLost.fputB F.SKY_STATE_AONVALID false) := rfl
  have hreg {a : Nat} (ha : a ≠ 0x110040) : (s.aonLost.fputB F.SKY_STATE_AONVALID false).reg a = if isAonReg a then regReset a else s.reg a :=
    (State.reg_fput_other _ _ _ ha).trans (s.aonLost_reg a)
  refine .of_exec hex ⟨fun a ha => ?_, fun a ha hne => ?_, State.flag_fputB_same _ _ _ (by decide) (by decide), rfl, s.aonLost_core 17, rfl,
    rfl, rfl, rfl, rfl, rfl, fun i hi => (s.aonLost_core i).trans (if_neg hi)⟩
  · have hne : a ≠ 0x110040 := fun e => absurd ha (e ▸ by decide)
    rw [hreg hne, if_pos ha]
  · rw [hreg hne, if_neg (by simp [ha])]

/-- PORn clears the counts of restarts (R409). -/
theorem State.por_counts (s : State) {f : Fld} (hf : f = F.RST_CNT_DEVRESET ∨ f = F.RST_CNT_WRESTART) : (s.deviceReset 1).fget f = 0 := by
  have haddr : f.addr = 0x002054 := by rcases hf with rfl | rfl <;> rfl
  have hstate : (s.resetState 1).reg 0x002054 = (s.resetClock (s.resetBase true)).reg 0x002054 := State.reg_fput_other _ F.RST_CAUSE_CAUSE 1 (by decide)
  have hclock : (s.resetClock (s.resetBase true)).reg 0x002054 = (s.resetBase true).reg 0x002054 :=
    (State.reg_fput_other _ F.AON_GWLD_GO _ (by decide)).trans ((State.reg_fput_other _ F.SKY_STATE_STATE _ (by decide)).trans
      (State.reg_fput_other _ F.SKY_STATE_AONVALID _ (by decide)))
  have hreg : (s.deviceReset 1).reg 0x002054 = regReset 0x002054 := by
    rw [s.deviceReset_reg 1 (by decide), hstate, hclock, State.resetBase_reg]
    exact if_neg (by decide)
  unfold State.fget
  rw [haddr, hreg]
  rcases hf with rfl | rfl <;> decide

theorem State.wdDue_iff (s : State) : s.wdDue = true ↔ s.fget F.RST_WDOG_PERIOD ≠ 0 ∧ s.fget F.SYS_BOOT_STATE = 1 ∧
    s.boot.wdT + ms (s.fget F.RST_WDOG_PERIOD) ≤ s.now := decide_eq_true_iff

/-- Settles O56: a reset of device scope by what it leaves, a Warden restart by the state it tells and the core it enters. -/
theorem resetsClearAndKeepWhatTheyName : Obligations.ResetsClearAndKeepWhatTheyName := by
  unfold Obligations.ResetsClearAndKeepWhatTheyName
  intro s via cause key own device warden
  have hdevice {u : State} {n : Nat} (h : DeviceReset s n u) : device u n := by
    have hrest := h.rest
    exact ⟨h.code, h.aonRegs, h.regs, (congrArg State.comb hrest :), (congrArg State.tn hrest :), h.cic, (congrArg State.pwr hrest :),
      (congrArg State.sched hrest :), (congrArg State.hive hrest :), (congrArg State.tio hrest :), (congrArg State.mon hrest :),
      (congrArg State.uarts hrest :), (congrArg State.boot hrest :), (congrArg State.pcie hrest :), (congrArg State.fuses hrest :),
      (congrArg (·.xspi.flash) hrest :), (congrArg (·.aon.ram) hrest :), (congrArg (·.aon.mnCyc) hrest :), (congrArg (·.sky.aon) hrest :),
      (h.core 17).trans (if_pos rfl), fun i hi => (h.core i).trans (if_neg hi), (congrArg State.pending hrest :),
      fun hv => ⟨h.skyState.trans (if_pos hv), h.now.trans (if_pos hv)⟩,
      fun hv => ⟨h.skyState.trans (if_neg (by simp [hv])), h.now.trans (if_neg (by simp [hv]))⟩⟩
  have hwarden {c : Instr} {code bit : Nat} (hc : code < 2 ^ 8) (hb : bit < 32) (hex : exec c s = .next (s.wardenRestart code bit)) :
      warden c code bit := by
    refine ⟨fun hagain => .of_exec (hex.trans (congrArg _ (State.wardenRestart_again code bit hagain))) ?_, fun hfirst => .of_exec hex ?_⟩
    · obtain ⟨hwc, hwr, hdr⟩ := (s.restartNoted code).deviceReset_counts 4 (.inr rfl)
      have haon (a : Nat) (ha : isAonReg a = true) : (s.restartNoted code).reg a = s.reg a :=
        s.restartNoted_reg code (fun e => absurd ha (e ▸ by decide)) (fun e => absurd ha (e ▸ by decide))
      have hreset : DeviceReset s 4 ((s.restartNoted code).deviceReset 4) :=
        DeviceReset.of_regs ((s.restartNoted code).deviceReset_holds (by decide)) haon (s.restartNoted_reg code (by decide) (by decide))
      refine ⟨hdevice hreset, hwc.trans ?_, hdr.trans ?_, hwr.trans (s.restartNoted_wrestart code)⟩
      · rw [State.restartNoted_wcause, Nat.mod_eq_of_lt hc]
      · rw [State.restartNoted_devreset]
    · obtain ⟨hwc, hwr, hrest, hrises, hothers, ⟨hstack, hf, hdata, hrom, hentry⟩⟩ := State.wardenRestarted hfirst code hb
      have htenant (k : Nat) : (s.wardenRestart code bit).tenant k = (s.tenant k).interrupted :=
        (State.tenant_congr (congrArg (·.tn.tenants) hrest :) k).trans (s.tenant_restartTold k)
      refine ⟨hwc.trans (Nat.mod_eq_of_lt hc), hwr, (congrArg (·.boot.restartT) hrest :), (congrArg State.comb hrest :),
        (congrArg State.sky hrest :), (congrArg State.sched hrest :), (congrArg State.hive hrest :), (congrArg (·.tn.queues) hrest :),
        (congrArg State.pwr hrest :), hrises, hothers, hstack, hf, hdata, hrom, hentry, fun k => ?_, fun k op seq hk => ?_⟩
      · rw [htenant]; exact ⟨rfl, rfl, rfl⟩
      · rw [htenant]; unfold Tenant.interrupted; rw [hk]; rfl
  refine ⟨?_, ?_, fun h => ?_, fun hp hdead => ⟨?_, fun hper hst hdue => ?_⟩, fun h => ?_, fun h => ⟨?_, ?_⟩, fun h => ?_, fun h => ?_,
    fun hon hstuck hpress => servicePress_holds hon hstuck hpress, ?_, fun h => ?_, ?_, fun b hon => svcSample_holds hon b⟩
  · exact vbatPowerOn_holds s
  · have hreset := s.deviceReset_holds (cause := 1) (by decide)
    exact .of_exec rfl ⟨hdevice hreset, (congrArg (·.sky.smp) hreset.rest :), s.por_counts (.inl rfl), s.por_counts (.inr rfl)⟩
  · have hreset := s.deviceReset_holds (cause := 3) (by decide)
    obtain ⟨hwc, _, hdr⟩ := s.deviceReset_counts 3 (.inl rfl)
    exact .of_exec (congrArg Host.Outcome.next (State.guarded_ok h _)) ⟨hdevice hreset, (congrArg (·.sky.smp) hreset.rest :), hdr, hwc⟩
  · exact hwarden cause.isLt (by decide) (congrArg Host.Outcome.next (if_pos ⟨hp, by simp [hdead]⟩))
  · exact hwarden (by decide) (by decide)
      (congrArg Host.Outcome.next (if_pos ⟨hp, by simp [hdead], s.wdDue_iff.mpr ⟨hper, hst, hdue⟩⟩))
  · refine congrArg Host.Outcome.next (if_neg fun hc => ?_)
    obtain ⟨_, hst, hdue⟩ := s.wdDue_iff.mp hc.2.2
    exact h.elim (fun hne => hne hst) fun hlt => by omega
  · exact congrArg Host.Outcome.next (if_neg fun hc => h.elim (fun hoff => Bool.false_ne_true (hoff.symm.trans hc.1)) hc.2)
  · exact congrArg Host.Outcome.next (if_neg fun hc => h.elim (fun hoff => Bool.false_ne_true (hoff.symm.trans hc.1)) hc.2.1)
  · exact congrArg Host.Outcome.next (if_neg fun hc => (s.wdDue_iff.mp hc.2.2).1 h)
  · refine congrArg Host.Outcome.next ((State.guarded_ok h _).trans ?_)
    have hkey : key.toNat = 0x5AFE ↔ key = 0x5AFE := ⟨fun e => BitVec.eq_of_toNat_eq e, fun e => e ▸ rfl⟩
    unfold State.wdKick
    simp only [hkey]
  · refine ⟨fun ⟨hon, hstuck, hlevel, hlong⟩ => ?_, fun h => ?_⟩
    · refine .of_exec (congrArg Host.Outcome.next (if_pos ⟨hon, by simp [hstuck], hlevel, hlong⟩)) ⟨?_, ?_, ?_⟩
      · rw [State.flag_evRise_other _ _ _ _ (by decide)]
        exact s.flag_fputB_same F.RST_SVC_STUCK true (by decide) (by decide)
      · rw [State.fget_evRise_other _ _ _ _ (by decide)]
        exact s.fget_fput_other F.RST_SVC_STUCK F.RST_SVC_PRESSES _ (by decide) (by decide)
      · exact Rises.of_evRise (by decide) (State.reg_fput_other _ F.RST_SVC_STUCK _ (by decide))
    · exact congrArg Host.Outcome.next (if_neg fun ⟨hon, hstuck, hlevel, hlong⟩ => h ⟨hon, Bool.eq_false_iff.mpr hstuck, hlevel, hlong⟩)
  · refine congrArg Host.Outcome.next (if_neg fun ⟨hon, hstuck, hpress⟩ => ?_)
    rcases h with h | h | h
    · exact absurd (h.symm.trans hon) nofun
    · exact hstuck h
    · exact absurd (h.symm.trans hpress) nofun
  · refine ⟨fun ⟨hstuck, hlevel, hlong⟩ => ?_, fun h => ?_⟩
    · exact .of_exec (congrArg Host.Outcome.next (if_pos ⟨hstuck, by simp [hlevel], hlong⟩))
        ⟨s.flag_fputB_same F.RST_SVC_STUCK false (by decide) (by decide), (OnlyRegs.refl s _).fputB _ _ (by simp)⟩
    · exact congrArg Host.Outcome.next (if_neg fun ⟨hstuck, hlevel, hlong⟩ => h ⟨hstuck, Bool.eq_false_iff.mpr hlevel, hlong⟩)

end Sys2Proof.Machine
end

section
/-! SUPPORT. Reads of Comb (15: R289 to R293): a read from quarters that are on gives its bytes and leaves all but page COMB, its ECC
and the draws of free values. -/

namespace Sys2Proof.Machine

/-- All of a state but what a read of Comb may change beside page COMB. -/
def besidesReads (s : State) : State := { s with regs := [], cic := {}, fresh := 0, ecc := [] }

theorem besidesReads_blind : Blind besidesReads := ⟨fun _ _ => rfl, fun _ _ => rfl⟩

/-- From `s` to `t` Comb was read. -/
abbrev CombRead (s t : State) : Prop := Keeps besidesReads (fun a => a / 4096 ≠ 0x120) s t

namespace CombRead

variable {s t : State}

theorem combCount (s : State) {m : Nat} (hm : m < 16) : CombRead s (s.combCount m) := by
  have hu : CombRead s { s with fresh := s.fresh + 1 } := .of_eq rfl rfl
  exact (hu.finc besidesReads_blind _ (by simp only [F.CB_ACC]; omega)).fput besidesReads_blind _ _ (by simp only [F.CB_CNF]; omega)

theorem combEcc (s : State) (m : Nat) (ws : List Nat) : CombRead s (s.combEcc m ws).1 := by
  induction ws generalizing s with
  | nil => exact .refl s
  | cons w r ih =>
    unfold State.combEcc
    extract_lets e s1
    have h1 : CombRead s s1 := by
      refine .ite (fun _ => ?_) fun _ => .ite (fun _ => ?_) fun _ => .refl s
      · exact Keeps.finc besidesReads_blind (s := s) (t := { s with ecc := Tab.set (fun _ => 0) s.ecc w 0 }) (.of_eq rfl rfl) _
          (by simp [F.CB_ECC_CORR])
      · exact ((((Keeps.refl s).finc besidesReads_blind _ (by simp [F.CB_ECC_UNCORR])).fput besidesReads_blind _ _
          (by simp [F.CB_ECCADDR_MASTER])).fput besidesReads_blind _ _ (by simp [F.CB_ECCADDR_ADDR])).evRise besidesReads_blind _ _ (by simp)
    exact h1.trans (ih s1)

theorem comb (h : CombRead s t) : t.comb = s.comb := (congrArg State.comb h.view :)

theorem combOn (h : CombRead s t) {q : Nat} (hq : q < 4) : t.combOn q = s.combOn q := by
  have hd (d : Nat) (hd : d ≤ 40) : t.domPowered d = s.domPowered d := by
    have hst : t.domState d = s.domState d := h.fget (by simp only [F.PW_D_STATE]; omega)
    simp only [State.domPowered, hst]
  simp only [State.combOn, hd 1 (by decide), hd (30 + q) (by omega)]

end CombRead

/-- One line of a read of master `m`, behind what has been read. -/
def readLine (m : Nat) (r : List Byte × Bool × State) (x : Nat × Nat) : List Byte × Bool × State :=
  let s := r.2.2
  if s.combOn (combQuarter x.1) then
    let s := s.combCount m
    let (s', bad) := s.combEcc m ((List.range ((x.1 % 4 + x.2 + 3) / 4)).map (· + x.1 / 4))
    (r.1 ++ s.combBytes x.1 x.2, r.2.1 || bad, s')
  else (r.1 ++ List.replicate x.2 0, r.2.1, s.combOff m x.1)

theorem State.combRead_eq (s : State) (m a n : Nat) : s.combRead m a n = (accesses a n).foldl (readLine m) ([], false, s) := rfl

theorem State.combBytes_append (s : State) (a n k : Nat) : s.combBytes a (n + k) = s.combBytes a n ++ s.combBytes (a + n) k := by
  unfold State.combBytes
  rw [List.range_add, List.map_append, List.map_map]
  simp only [Function.comp_def, Nat.add_assoc]

theorem State.combBytes_mod (s : State) (a n : Nat) : s.combBytes (a % 2 ^ 24) n = s.combBytes a n := by
  unfold State.combBytes State.combByte
  simp only [Nat.mod_add_mod]

theorem State.combBytes_length (s : State) (a n : Nat) : (s.combBytes a n).length = n := by simp [State.combBytes]

section
variable {m : Nat} (hm : m < 16)
include hm

theorem readLine_on (r : List Byte × Bool × State) {x : Nat × Nat} (h : r.2.2.combOn (combQuarter x.1) = true) :
    (readLine m r x).1 = r.1 ++ r.2.2.combBytes x.1 x.2 ∧ CombRead r.2.2 (readLine m r x).2.2 := by
  have hc := CombRead.combCount r.2.2 hm
  have hr : readLine m r x = (r.1 ++ (r.2.2.combCount m).combBytes x.1 x.2,
      r.2.1 || ((r.2.2.combCount m).combEcc m ((List.range ((x.1 % 4 + x.2 + 3) / 4)).map (· + x.1 / 4))).2,
      ((r.2.2.combCount m).combEcc m ((List.range ((x.1 % 4 + x.2 + 3) / 4)).map (· + x.1 / 4))).1) := if_pos h
  rw [hr]
  exact ⟨congrArg (r.1 ++ ·) (State.combBytes_congr hc.comb _ _), hc.trans (CombRead.combEcc _ _ _)⟩

theorem readLines_on (k a n : Nat) (r : List Byte × Bool × State) (hk : n = 0 ∨ a % 64 + n ≤ 64 * k)
    (hon : ∀ x ∈ lineParts k a n, r.2.2.combOn (combQuarter x.1) = true) :
    ((lineParts k a n).foldl (readLine m) r).1 = r.1 ++ r.2.2.combBytes a n ∧
    CombRead r.2.2 ((lineParts k a n).foldl (readLine m) r).2.2 := by
  induction k generalizing a n r with
  | zero =>
    obtain rfl : n = 0 := by omega
    exact ⟨(List.append_nil _).symm, .refl _⟩
  | succ k ih =>
    rw [lineParts] at hon ⊢
    obtain ⟨hon0, hons⟩ := List.forall_mem_cons.mp hon
    obtain ⟨hbytes, hread⟩ := readLine_on hm r hon0
    rw [List.foldl_cons]
    obtain ⟨hbytes', hread'⟩ := ih (a + min n (64 - a % 64)) (n - min n (64 - a % 64)) (readLine m r (a % 2 ^ 24, min n (64 - a % 64)))
      (by omega) fun x hx => (hread.combOn (combQuarter_lt x.1)).trans (hons x hx)
    refine ⟨hbytes'.trans ?_, hread.trans hread'⟩
    rw [hbytes, State.combBytes_mod, State.combBytes_congr hread.comb, List.append_assoc, ← State.combBytes_append,
      Nat.add_sub_cancel' (Nat.min_le_left _ _)]

/-- A read whose lines all lie in quarters that are on gives its bytes. -/
theorem State.combRead_on (s : State) (a n : Nat) (hon : ∀ x ∈ accesses a n, s.combOn (combQuarter x.1) = true) :
    (s.combRead m a n).1 = s.combBytes a n ∧ CombRead s (s.combRead m a n).2.2 := by
  rw [State.combRead_eq]
  exact readLines_on hm _ a n ([], false, s) (lines_cover a n) hon

end

-- words of a read

theorem pieces_succ {α : Type} (n f : Nat) {l : List α} (h : l ≠ []) : pieces n (f + 1) l = l.take n :: pieces n f (l.drop n) := by
  cases l with
  | nil => exact absurd rfl h
  | cons a r => rfl

theorem pieces_combBytes (s : State) {k : Nat} (hk : 0 < k) (n a f : Nat) (hf : n ≤ f) :
    pieces k f (s.combBytes a (k * n)) = (List.range n).map fun i => s.combBytes (a + k * i) k := by
  induction n generalizing a f with
  | zero => cases f <;> rfl
  | succ n ih =>
    obtain ⟨f, rfl⟩ : ∃ g, f = g + 1 := ⟨f - 1, by omega⟩
    have hlen := s.combBytes_length a k
    have hne : s.combBytes a k ++ s.combBytes (a + k) (k * n) ≠ [] := by
      intro h
      have := congrArg List.length (List.append_eq_nil_iff.mp h).1
      rw [hlen] at this
      exact absurd this (by simp; omega)
    have hsplit : s.combBytes a (k * (n + 1)) = s.combBytes a k ++ s.combBytes (a + k) (k * n) := by
      rw [← State.combBytes_append, Nat.mul_succ, Nat.add_comm k]
    rw [hsplit, pieces_succ _ _ hne, List.take_left' hlen, List.drop_left' hlen, ih _ _ (by omega),
      List.range_succ_eq_map, List.map_cons, List.map_map]
    simp only [Nat.mul_zero, Nat.add_zero, Function.comp_def, Nat.succ_eq_add_one, Nat.mul_add, Nat.mul_one, Nat.add_assoc, Nat.add_comm k]

theorem chunks_combBytes (s : State) {k : Nat} (hk : 0 < k) (a n : Nat) :
    chunks k (s.combBytes a (k * n)) = (List.range n).map fun i => s.combBytes (a + k * i) k := by
  unfold chunks
  exact pieces_combBytes s hk n a _ (by rw [State.combBytes_length]; exact Nat.le_mul_of_pos_left n hk)

/-- The 16-bit words a read gives. -/
theorem State.combWords_on (s : State) {m : Nat} (hm : m < 16) (a n : Nat) (hon : ∀ q < 4, s.combOn q = true) :
    (s.combWords m a n).1 = ((List.range n).map fun i => BitVec.ofNat 16 (ofLe (s.combBytes (a + 2 * i) 2))) ∧
    CombRead s (s.combWords m a n).2 := by
  obtain ⟨hbytes, hread⟩ := s.combRead_on hm a (2 * n) fun x _ => hon _ (combQuarter_lt _)
  refine ⟨?_, hread⟩
  show (chunks 2 (s.combRead m a (2 * n)).1).map (fun c => BitVec.ofNat 16 (ofLe c)) = _
  rw [hbytes, chunks_combBytes s (by decide), List.map_map]
  rfl

end Sys2Proof.Machine
end

section
/-! The always-on domain (20: R392 to R394; 03: R48; 13: R270; 18: R368). -/

namespace Sys2Proof.Machine

-- bits of a field

/-- A bit of a field is the register's. -/
theorem State.testBit_fget (s : State) (f : Fld) {i : Nat} (h : i < f.w) : (s.fget f).testBit i = (s.reg f.addr).getLsbD (i + f.lo) := by
  unfold State.fget
  rw [Fld.get_bit]
  simp [h]

/-- A bit set in a register is set in the field that holds it. -/
theorem State.testBit_fget_fputB (s : State) (f : Fld) {i : Nat} (h : i < f.w) (hw : f.lo + f.w ≤ 32) :
    ((s.fputB ⟨f.addr, i + f.lo, 1⟩ true).fget f).testBit i = true := by
  rw [State.testBit_fget _ _ h]
  unfold State.fputB State.fput
  rw [State.reg_setReg_same, Fld.put_bit _ _ _ _ (Nat.le_of_ble_eq_true rfl), if_pos (by dsimp only; omega)]
  simp

-- wake events (R270, R393)

section
variable (s : State)

theorem State.ipend_coreLine (i : Nat) {n : Nat} (h : n < 4) : ((s.coreLine i n).core i).ipend.getLsbD n = true := by
  have hbit : ∀ n < 4, (((1 <<< n : Nat) : BitVec 4)).getLsbD n = true := by decide
  unfold State.coreLine
  rw [State.core_setCore_same]
  exact (BitVec.getLsbD_or ..).trans (by rw [hbit n h, Bool.or_true])

/-- A wake event with MGMT on, or without its bit, is Glowworm's line alone. -/
theorem State.wakeEvent_line {b : Nat} (line : Nat) (h : s.domPowered 1 = true ∨ (s.fget F.AON_WAKEEN_EN).testBit b = false) :
    s.wakeEvent b line = s.coreLine 17 line := by
  unfold State.wakeEvent
  extract_lets u
  have hp : u.domPowered 1 = s.domPowered 1 := rfl
  have hb : u.fget F.AON_WAKEEN_EN = s.fget F.AON_WAKEEN_EN := rfl
  split
  · next hbit =>
    rw [hb] at hbit
    have hon : u.domPowered 1 = true := h.elim (hp.trans ·) fun h => absurd (h.symm.trans hbit) nofun
    unfold State.mgmtWake
    exact if_pos hon
  · rfl

/-- MGMT powered up for the event of bit `b`. -/
structure Woken (b : Nat) (u : State) : Prop where
  powered : u.domPowered 1 = true
  cause : u.fget F.RST_CAUSE_CAUSE = 2
  event : (u.fget F.AON_WCAUSE_C).testBit b = true
  backup : u.boot.fromBackup = true

variable {s} in
theorem DeviceReset.domPowered {u : State} {n : Nat} (h : DeviceReset s n u) : u.domPowered 1 = true := by
  have hreg : u.reg (F.PW_D_STATE 1).addr = regReset (F.PW_D_STATE 1).addr := h.regs _ (by decide) (by decide)
  have hst : u.domState 1 = dON := by
    unfold State.domState State.fget
    rw [hreg]
    decide
  unfold State.domPowered
  simp [hst]

/-- What AON raises for MGMT while that is off waits; nothing else moves. -/
theorem State.aonRaise_off (h : s.domPowered 1 = false) (n : Nat) : ∃ l, n ∈ l ∧ s.aonRaise n = { s with aon.late := l } := by
  unfold State.aonRaise
  rw [if_neg (by simp [h])]
  split
  · next hc => exact ⟨s.aon.late, List.contains_iff_mem.mp hc, rfl⟩
  · exact ⟨s.aon.late ++ [n], by simp, rfl⟩

/-- A power-up by AON (R393): a reset of device scope with cause 2, and the cause in AON_WCAUSE. -/
theorem State.mgmtWake_holds (h : s.domPowered 1 = false) {b : Nat} (hb : b < 7) :
    Woken b (s.mgmtWake b) ∧ (s.mgmtWake b).core 17 = s.core 17 ∧
    ∀ a, isAonReg a = true → a ≠ F.AON_GWLD_GO.addr → a ≠ F.AON_WCAUSE_C.addr → (s.mgmtWake b).reg a = s.reg a := by
  obtain ⟨l, _, hlate⟩ := s.aonRaise_off h 2
  have hreset := ({ s with aon.late := l } : State).deviceReset_holds (cause := 2) (by decide)
  have hwake : s.mgmtWake b = { ({ s with aon.late := l } : State).deviceReset 2 with
      regs := ((({ s with aon.late := l } : State).deviceReset 2).fputB ⟨F.AON_WCAUSE_C.addr, b, 1⟩ true).regs, boot.fromBackup := true } := by
    unfold State.mgmtWake
    rw [if_neg (by simp [h]), hlate]
    rfl
  rw [hwake]
  have hp := hreset.domPowered
  have hcause := hreset.code
  have hcore := hreset.core 17
  have haon := hreset.aonRegs
  generalize ({ s with aon.late := l } : State).deviceReset 2 = r at *
  have hreg {a : Nat} (ha : a ≠ F.AON_WCAUSE_C.addr) : (r.fputB ⟨F.AON_WCAUSE_C.addr, b, 1⟩ true).reg a = r.reg a :=
    State.reg_fput_other _ _ _ ha
  refine ⟨⟨?_, ?_, r.testBit_fget_fputB F.AON_WCAUSE_C hb (by decide), rfl⟩, hcore.trans (if_pos rfl), fun a ha hg hw => ?_⟩
  · have hst : (r.fputB ⟨F.AON_WCAUSE_C.addr, b, 1⟩ true).fget (F.PW_D_STATE 1) = r.fget (F.PW_D_STATE 1) := State.fget_congr (hreg (by decide))
    unfold State.domPowered State.domState at hp
    rw [← hst] at hp
    exact hp
  · exact (State.fget_congr (t := r.fputB ⟨F.AON_WCAUSE_C.addr, b, 1⟩ true) (hreg (by decide))).trans hcause
  · exact (hreg hw).trans (haon a ha hg)

/-- A wake event that powers MGMT up. -/
theorem State.wakeEvent_wakes (hp : s.domPowered 1 = false) {b line : Nat} (hbit : (s.fget F.AON_WAKEEN_EN).testBit b = true) (hb : b < 7)
    (hline : line < 4) : ((s.wakeEvent b line).core 17).ipend.getLsbD line = true ∧ Woken b (s.wakeEvent b line) ∧
    ∀ a, isAonReg a = true → a ≠ F.AON_GWLD_GO.addr → a ≠ F.AON_WCAUSE_C.addr → (s.wakeEvent b line).reg a = s.reg a := by
  have hwake : s.wakeEvent b line = (s.coreLine 17 line).mgmtWake b := if_pos hbit
  have hpend := s.ipend_coreLine 17 hline
  obtain ⟨hwoken, hcore, hregs⟩ := (s.coreLine 17 line).mgmtWake_holds hp hb
  rw [hwake]
  exact ⟨by rw [hcore]; exact hpend, hwoken, hregs⟩

/-- What a command may do before its wake event: nothing that the event reads. -/
structure WakeReady (s v : State) : Prop where
  powered : v.domPowered 1 = s.domPowered 1
  enabled : v.fget F.AON_WAKEEN_EN = s.fget F.AON_WAKEEN_EN
  comb : v.comb = s.comb
  late : v.aon.late = s.aon.late

theorem WakeReady.refl : WakeReady s s := ⟨rfl, rfl, rfl, rfl⟩

/-- A register of AON's page or a sleep register written, or a line of Glowworm raised, before the event. -/
theorem WakeReady.of_regs {s v : State} {a : Nat} (hd : a ≠ 0x005044) (he : a ≠ 0x1A004C)
    (hr : ∀ c, c ≠ a → v.reg c = s.reg c) (hc : v.comb = s.comb) (hl : v.aon.late = s.aon.late) : WakeReady s v := by
  have hst : v.domState 1 = s.domState 1 := State.fget_congr (hr _ hd.symm)
  refine ⟨?_, State.fget_congr (hr _ he.symm), hc, hl⟩
  unfold State.domPowered
  rw [hst]

variable {s} in
/-- A command that ends in a wake event of bit `b` on line `line`. -/
theorem event_holds {v : State} {c : Instr} {b line : Nat} (hb : b < 7) (hline : line < 4) (hex : exec c s = .next (v.wakeEvent b line))
    (hv : WakeReady s v) :
    (s.domPowered 1 = true ∨ (s.fget F.AON_WAKEEN_EN).testBit b = false → Completes c s fun u =>
      (u.core 17).ipend.getLsbD line = true ∧ u.domPowered 1 = s.domPowered 1 ∧ u.comb = s.comb ∧ u.aon.late = s.aon.late) ∧
    (s.domPowered 1 = false → (s.fget F.AON_WAKEEN_EN).testBit b = true → Completes c s fun u =>
      (u.core 17).ipend.getLsbD line = true ∧ u.domPowered 1 = true ∧ u.fget F.RST_CAUSE_CAUSE = 2 ∧ (u.fget F.AON_WCAUSE_C).testBit b = true ∧
        u.boot.fromBackup = true) := by
  refine ⟨fun h => .of_exec hex ?_, fun hp hbit => .of_exec hex ?_⟩
  · rw [v.wakeEvent_line line (by rwa [hv.powered, hv.enabled])]
    exact ⟨v.ipend_coreLine 17 hline, hv.powered, hv.comb, hv.late⟩
  · obtain ⟨hpend, ⟨hpow, hcause, hevent, hbackup⟩, _⟩ := v.wakeEvent_wakes (hv.powered.trans hp) (hv.enabled ▸ hbit) hb hline
    exact ⟨hpend, hpow, hcause, hevent, hbackup⟩

end

-- the comparators (R48, R392)

section
variable {s : State} {k : Nat} {level : Bool}

/-- A comparator that is enabled and changes. -/
theorem State.aonChange_eq (hen : (s.fget F.AON_CTL_CEN).testBit k = true) (hl : s.flag (aonLvl k) ≠ level) :
    s.aonChange k level =
      (let s := (s.fputB (aonLvl k) level).coreLine 17 1
       if k = 0 then
         let s := { s with aon.vbatLow := !level }
         if level then s.when (s.domPowered 1 && decide (s.skyState = skSTEERED)) (·.fputB F.SKY_STATE_AONVALID true)
         else (s.fputB F.SKY_STATE_AONVALID false).aonRaise 0
       else if k = 1 then { s with aon.vmainT := if level then some s.now else none,
                                   aon.vmainF := if level then none else some (s.now, s.tioInc) }
       else if k = 3 ∧ level then s.wakeEvent 1 1
       else s) := by
  unfold State.aonChange
  exact if_neg fun h => h.elim (fun hn => hn hen) fun h => hl h.1

theorem State.aonChange_same (h : (s.fget F.AON_CTL_CEN).testBit k = false ∨ s.flag (aonLvl k) = level) (hk : k ≠ 0) :
    s.aonChange k level = s := by
  unfold State.aonChange
  exact if_pos (h.imp (fun h => by simp [h]) fun h => ⟨h, .inl hk⟩)

/-- The comparator's level and line, before what hangs on it. -/
def State.aonLevel (s : State) (k : Nat) (level : Bool) : State := (s.fputB (aonLvl k) level).coreLine 17 1

theorem State.aonLevel_flag (hk : k < 4) : (s.aonLevel k level).flag (aonLvl k) = level :=
  State.flag_fputB_same s (aonLvl k) level (by simp only [aonLvl]; omega) Nat.one_pos

theorem State.aonLevel_reg {a : Nat} (h : a ≠ F.AON_STAT_LVL.addr) : (s.aonLevel k level).reg a = s.reg a :=
  State.reg_fput_other s (aonLvl k) _ h

theorem State.aonLevel_line : ((s.aonLevel k level).core 17).ipend.getLsbD 1 = true := State.ipend_coreLine _ 17 (by decide)

end

-- Glowworm's memories (R288, R394)

/-- Words put at the bottom of a memory read back; the rest stands. -/
theorem Tab.get_putWords (ws : List Half) (t : Tab Half) (a : Nat) :
    Tab.get (fun _ => (0 : Half)) (putWords 0 0 ws t) a = if a < ws.length then ws.getD a 0 else Tab.get (fun _ => 0) t a := by
  have hnone : t.filter (fun x => decide (x.1 < 0)) = [] := List.filter_eq_nil_iff.mpr fun x _ => by simp
  have hnew (v : Half) : (a, v) ∈ ((List.range ws.length).zip ws).filterMap (fun x => if x.2 = 0 then none else some (0 + x.1, x.2)) ↔
      ws[a]? = some v ∧ v ≠ 0 := by
    rw [List.mem_filterMap, ← mem_zip_range]
    constructor
    · rintro ⟨⟨k, w⟩, hx, he⟩
      split at he
      · cases he
      · next hw =>
        simp only [Nat.zero_add, Option.some.injEq, Prod.mk.injEq] at he
        obtain ⟨rfl, rfl⟩ := he
        exact ⟨hx, hw⟩
    · rintro ⟨hx, hv⟩
      exact ⟨(a, v), hx, (if_neg hv).trans (by rw [Nat.zero_add])⟩
  unfold putWords
  extract_lets new
  rw [hnone, List.nil_append]
  split
  · next ha =>
    refine Tab.get_words hnew ?_
    rw [Tab.get_filter (fun _ => (0 : Half)) (fun k => decide (0 + ws.length ≤ k)), if_neg (by simpa using ha)]
  · next ha =>
    rw [Tab.get_of_not_mem, Tab.get_filter (fun _ => (0 : Half)) (fun k => decide (0 + ws.length ≤ k)), if_pos (by simpa using ha)]
    intro hm
    obtain ⟨⟨k, v⟩, hx, rfl⟩ := List.mem_map.mp hm
    exact ha (List.getElem?_eq_some_iff.mp ((hnew v).mp hx).1).1

/-- The part of Glowworm a load fills. -/
def gwMem (data : Bool) (c : CoreSt) : Tab Half := if data then c.data else c.code

theorem gwMem_put (c : CoreSt) (data : Bool) (ws : List Half) :
    gwMem data (if data then { c with data := putWords 0 0 ws c.data } else { c with code := putWords 0 0 ws c.code }) =
      putWords 0 0 ws (gwMem data c) := by
  cases data <;> rfl

/-- Glowworm with the words of a load, which is over. -/
def State.gwLoaded (s : State) (data : Bool) (ws : List Half) : State :=
  let c := s.core 17
  let s := s.setCore 17 (if data then { c with data := putWords 0 0 ws c.data } else { c with code := putWords 0 0 ws c.code })
  { s with wv := { s.wv with loads := Tab.set (fun _ => none) s.wv.loads 17 none } }.fputB F.AON_GWLD_GO false

theorem State.gwLoaded_core (s : State) (data : Bool) (ws : List Half) :
    gwMem data ((s.gwLoaded data ws).core 17) = putWords 0 0 ws (gwMem data (s.core 17)) := by
  have hc : (s.gwLoaded data ws).core 17 =
      if data then { s.core 17 with data := putWords 0 0 ws (s.core 17).data } else { s.core 17 with code := putWords 0 0 ws (s.core 17).code } :=
    s.core_setCore_same 17 _
  rw [hc, gwMem_put]

theorem exec_gwldDone {s : State} {j : LoadJob} (hj : Tab.get (fun _ => none) s.wv.loads 17 = some j) :
    exec .gwldDone s = .next ((s.combWords 14 j.src j.words).2.gwLoaded j.part (s.combWords 14 j.src j.words).1) := by
  show execGwldDone s = _
  unfold execGwldDone
  rw [hj]
  rfl

theorem gwldDone_holds {s : State} {j : LoadJob} (hj : Tab.get (fun _ => none) s.wv.loads 17 = some j) (hon : ∀ q < 4, s.combOn q = true) :
    Completes .gwldDone s fun u =>
      (∀ a, Tab.get (fun _ => 0) (gwMem j.part (u.core 17)) a =
        if a < j.words then BitVec.ofNat 16 (ofLe (s.combBytes (j.src + 2 * a) 2)) else Tab.get (fun _ => 0) (gwMem j.part (s.core 17)) a) ∧
      u.flag F.AON_GWLD_GO = false ∧ Tab.get (fun _ => none) u.wv.loads 17 = none ∧ u.comb = s.comb := by
  obtain ⟨hwords, hread⟩ := s.combWords_on (m := 14) (by decide) j.src j.words hon
  refine .of_exec (exec_gwldDone hj) ?_
  generalize s.combWords 14 j.src j.words = r at *
  have hcore : r.2.core 17 = s.core 17 := by
    have hwv : r.2.wv = s.wv := (congrArg State.wv hread.view :)
    unfold State.core
    rw [hwv]
  have hloads : Tab.get (fun _ => none) (r.2.gwLoaded j.part r.1).wv.loads 17 = none := Tab.get_set_same (fun _ => none) r.2.wv.loads 17 none
  refine ⟨fun a => ?_, State.flag_fputB_same _ _ _ (by decide) (by decide), hloads, hread.comb⟩
  rw [State.gwLoaded_core, Tab.get_putWords, hcore, hwords, List.length_map, List.length_range]
  split
  · next ha => rw [List.getD_eq_getElem?_getD, List.getElem?_map, List.getElem?_range ha]; rfl
  · rfl

theorem State.gwRst_holds (s : State) : s.gwRst.core 17 =
      { code := (s.core 17).code, data := (s.core 17).data, table := (s.core 17).table, micro := (s.core 17).micro } ∧
    s.gwRst.flag F.AON_STAT_GWFAULT = false ∧ s.gwRst.fget F.AON_STAT_GWCAUSE = 0 ∧
    OnlyRegs { s with wv := s.gwRst.wv } s.gwRst [F.AON_STAT_GWFAULT.addr] := by
  have hcore := s.core_setCore_same 17 ((s.core 17).restart 0)
  have hfrom : OnlyRegs { s with wv := (s.setCore 17 ((s.core 17).restart 0)).wv } (s.setCore 17 ((s.core 17).restart 0)) [F.AON_STAT_GWFAULT.addr] :=
    .refl _ _
  unfold State.gwRst
  generalize s.setCore 17 ((s.core 17).restart 0) = v at *
  refine ⟨hcore, ?_, State.fget_fput_same _ F.AON_STAT_GWCAUSE 0 (by decide),
    (hfrom.fputB _ _ (.head _)).fput F.AON_STAT_GWCAUSE 0 (.head _)⟩
  unfold State.flag
  rw [State.fget_fput_other _ _ _ _ (by decide) (by decide)]
  exact State.flag_fputB_same _ F.AON_STAT_GWFAULT false (by decide) (by decide)

/-- The load AON_GWLD orders. -/
def State.gwJob (s : State) : LoadJob :=
  let full := if s.flag F.AON_GWLD_DATA then 1024 else 2048
  let n := s.fget F.AON_GWLD_WORDS
  { core := 17, part := s.flag F.AON_GWLD_DATA, src := 64 * s.fget F.AON_GWSRC_ADDR, first := 0, words := min full (if n = 0 then full else n),
    vals := [] }

theorem State.gwJob_words (s : State) : s.gwJob.words =
    (let full := if s.flag F.AON_GWLD_DATA then 1024 else 2048
     if s.fget F.AON_GWLD_WORDS = 0 then full else min full (s.fget F.AON_GWLD_WORDS)) := by
  unfold State.gwJob
  by_cases h : s.fget F.AON_GWLD_WORDS = 0
  · simp only [h, if_true, Nat.min_self]
  · simp only [h, if_false]

theorem State.gwLoad_eq {s : State} (h : s.flag F.AON_GWLD_GO = false) : s.gwLoad =
    { s.fputB F.AON_GWLD_GO true with wv := { s.wv with loads := Tab.set (fun _ => none) s.wv.loads 17 (some s.gwJob) } } := by
  unfold State.gwLoad
  exact if_neg (by simp [h])

theorem State.gwLoad_starts {s : State} (h : s.flag F.AON_GWLD_GO = false) : s.gwLoad.flag F.AON_GWLD_GO = true ∧ s.gwLoad.core 17 = s.core 17 ∧
    Tab.get (fun _ => none) s.gwLoad.wv.loads 17 = some s.gwJob := by
  have hloads : Tab.get (fun _ => none) (Tab.set (fun _ => none) s.wv.loads 17 (some s.gwJob)) 17 = some s.gwJob := Tab.get_set_same _ _ _ _
  rw [State.gwLoad_eq h]
  exact ⟨s.flag_fputB_same F.AON_GWLD_GO true (by decide) (by decide), rfl, hloads⟩

-- the sleep receivers (R368)

section
variable {s : State} {u : Fin 4} {line : List Bool}

theorem exec_uartSleepWake_idle (h : (u.val = 0 ∨ u.val = 3) → s.domPowered 2 = false →
    s.fget (F.U_SLEEP_SLMODE u.val) ≠ 2 ∧ (s.fget (F.U_SLEEP_SLMODE u.val) = 1 →
      ∀ c, sleepChar (s.flag (F.U_SLEEP_SLRATE u.val)) line = some c → c.testBit 8 = false)) :
    exec (.uartSleepWake u line) s = .next s := by
  show execUartSleepWake u line s = _
  unfold execUartSleepWake
  extract_lets n a ad w hit
  refine congrArg Host.Outcome.next (if_neg ?_)
  rintro ⟨hn, hoff, hmode⟩
  obtain ⟨h2, h1⟩ := h hn (Bool.eq_false_iff.mpr hoff)
  rcases hmode with ⟨ha, hhit⟩ | ha
  · obtain ⟨c, hc, hb⟩ := (Option.any_eq_true _ _).mp hhit
    rw [Bool.and_eq_true] at hb
    exact Bool.false_ne_true ((h1 ha c hc).symm.trans hb.1)
  · exact h2 ha

theorem exec_uartSleepWake_wakes (hu : u.val = 0 ∨ u.val = 3) (hoff : s.domPowered 2 = false)
    (hm : s.fget (F.U_SLEEP_SLMODE u.val) = 2 ∨ (s.fget (F.U_SLEEP_SLMODE u.val) = 1 ∧ Tab.get (fun _ => false) s.pwr.retOk 2 = true ∧
      ∃ c, sleepChar (s.flag (F.U_SLEEP_SLRATE u.val)) line = some c ∧ c.testBit 8 = true ∧
        addrMatch ((Tab.get regReset s.pwr.ret (F.U_ADDR_ADDR u.val).addr).toNat % 256)
          ((Tab.get regReset s.pwr.ret (F.U_ADDR_ADDR u.val).addr).toNat / 256 % 256)
          ((Tab.get regReset s.pwr.ret (F.U_ADDR_ADDR u.val).addr).getLsbD 16) (c % 256) = true)) :
    exec (.uartSleepWake u line) s = .next ((s.finc (F.U_SLEEP_WAKES u.val)).wakeEvent (if u.val = 0 then 3 else 4) 3) := by
  show execUartSleepWake u line s = _
  unfold execUartSleepWake
  extract_lets n a ad w hit
  refine congrArg Host.Outcome.next (if_pos ⟨hu, by simp [hoff], ?_⟩)
  rcases hm with h2 | ⟨h1, hret, c, hc, hbit, hmatch⟩
  · exact .inr h2
  · have hw : w = Tab.get regReset s.pwr.ret (F.U_ADDR_ADDR u.val).addr := if_pos hret
    refine .inl ⟨h1, (Option.any_eq_true _ _).mpr ⟨c, hc, ?_⟩⟩
    rw [hw, hbit, hmatch]; rfl

end

section
variable {s : State}

/-- VBAT falls below its threshold (R48, R392). -/
theorem vbatLow_holds (hen : (s.fget F.AON_CTL_CEN).testBit 0 = true) (hl : s.flag (aonLvl 0) = true) :
    Completes (.aonComparatorChange .vbat false) s fun u =>
      u.flag (aonLvl 0) = false ∧ u.flag F.SKY_STATE_AONVALID = false ∧ (u.core 17).ipend.getLsbD 1 = true ∧
      (s.domPowered 1 = true → Rises s u 0x1A0 0) ∧ (s.domPowered 1 = false → 0 ∈ u.aon.late) := by
  have hex : exec (.aonComparatorChange .vbat false) s =
      .next ((({ s.aonLevel 0 false with aon.vbatLow := true } : State).fputB F.SKY_STATE_AONVALID false).aonRaise 0) :=
    congrArg Host.Outcome.next (State.aonChange_eq hen (by simp [hl]))
  have hreg {a : Nat} (h : a ≠ F.AON_STAT_LVL.addr) (h' : a ≠ F.SKY_STATE_AONVALID.addr) :
      (({ s.aonLevel 0 false with aon.vbatLow := true } : State).fputB F.SKY_STATE_AONVALID false).reg a = s.reg a :=
    (State.reg_fput_other _ _ _ h').trans (s.aonLevel_reg h)
  have hlvl : (({ s.aonLevel 0 false with aon.vbatLow := true } : State).fputB F.SKY_STATE_AONVALID false).flag (aonLvl 0) = false :=
    (State.flag_fputB_other _ F.SKY_STATE_AONVALID (aonLvl 0) _ (by decide) (by decide)).trans (s.aonLevel_flag (k := 0) (by decide))
  have hvalid : (({ s.aonLevel 0 false with aon.vbatLow := true } : State).fputB F.SKY_STATE_AONVALID false).flag F.SKY_STATE_AONVALID = false :=
    State.flag_fputB_same _ _ _ (by decide) (by decide)
  have hline : ((({ s.aonLevel 0 false with aon.vbatLow := true } : State).fputB F.SKY_STATE_AONVALID false).core 17).ipend.getLsbD 1 = true :=
    State.aonLevel_line (s := s) (k := 0) (level := false)
  refine .of_exec hex ?_
  generalize (({ s.aonLevel 0 false with aon.vbatLow := true } : State).fputB F.SKY_STATE_AONVALID false) = v at *
  have hp : v.domPowered 1 = s.domPowered 1 := by
    have hst : v.domState 1 = s.domState 1 := State.fget_congr (hreg (by decide) (by decide))
    unfold State.domPowered
    rw [hst]
  cases hs : s.domPowered 1 with
  | true =>
    have hraise : v.aonRaise 0 = v.evRise 0x1A0 0 := if_pos (hp.trans hs)
    rw [hraise]
    refine ⟨(State.flag_evRise_other _ _ _ _ (by decide)).trans hlvl, (State.flag_evRise_other _ _ _ _ (by decide)).trans hvalid, ?_,
      fun _ => Rises.of_evRise (by decide) (hreg (by decide) (by decide)), nofun⟩
    unfold State.core at hline ⊢
    rwa [State.evRise_wv]
  | false =>
    obtain ⟨l, hmem, hraise⟩ := v.aonRaise_off (hp.trans hs) 0
    rw [hraise]
    exact ⟨hlvl, hvalid, hline, nofun, fun _ => hmem⟩

/-- VBAT is back above its threshold while the clock is STEERED (R48). -/
theorem vbatBack_holds (hen : (s.fget F.AON_CTL_CEN).testBit 0 = true) (hl : s.flag (aonLvl 0) = false) (hp : s.domPowered 1 = true)
    (hst : s.skyState = skSTEERED) : Completes (.aonComparatorChange .vbat true) s fun u =>
      u.flag (aonLvl 0) = true ∧ u.flag F.SKY_STATE_AONVALID = true := by
  have hex : exec (.aonComparatorChange .vbat true) s =
      .next (({ s.aonLevel 0 true with aon.vbatLow := false } : State).when
        (({ s.aonLevel 0 true with aon.vbatLow := false } : State).domPowered 1 &&
          decide (({ s.aonLevel 0 true with aon.vbatLow := false } : State).skyState = skSTEERED))
        (·.fputB F.SKY_STATE_AONVALID true)) :=
    congrArg Host.Outcome.next (State.aonChange_eq (level := true) hen fun e => Bool.false_ne_true (hl.symm.trans e))
  have hlvl : ({ s.aonLevel 0 true with aon.vbatLow := false } : State).flag (aonLvl 0) = true := s.aonLevel_flag (k := 0) (by decide)
  have hpow : ({ s.aonLevel 0 true with aon.vbatLow := false } : State).domPowered 1 = true :=
    .trans (congrArg (fun d => decide (d = dON ∨ d = dENTRY)) (State.fget_congr (f := F.PW_D_STATE 1) (s.aonLevel_reg (by decide)))) hp
  have hsky : ({ s.aonLevel 0 true with aon.vbatLow := false } : State).skyState = skSTEERED :=
    .trans (State.fget_congr (f := F.SKY_STATE_STATE) (s.aonLevel_reg (by decide))) hst
  generalize ({ s.aonLevel 0 true with aon.vbatLow := false } : State) = v at *
  rw [hpow, hsky] at hex
  refine .of_exec (t := v.fputB F.SKY_STATE_AONVALID true) hex ⟨?_, ?_⟩
  · exact (State.flag_fputB_other v F.SKY_STATE_AONVALID (aonLvl 0) true (by decide) (by decide)).trans hlvl
  · exact State.flag_fputB_same v F.SKY_STATE_AONVALID true (by decide) (by decide)

/-- The other comparators (R392). -/
theorem vmainChange_holds (level : Bool) (hen : (s.fget F.AON_CTL_CEN).testBit 1 = true) (hl : s.flag (aonLvl 1) ≠ level) :
    Completes (.aonComparatorChange .vmain level) s fun u =>
      u.flag (aonLvl 1) = level ∧ (u.core 17).ipend.getLsbD 1 = true ∧ u.aon.vmainT = (if level then some s.now else none) :=
  .of_exec (congrArg Host.Outcome.next (State.aonChange_eq hen hl))
    ⟨s.aonLevel_flag (k := 1) (by decide), State.aonLevel_line (s := s) (k := 1) (level := level), rfl⟩

theorem mainsChange_holds (level : Bool) (hen : (s.fget F.AON_CTL_CEN).testBit 2 = true) (hl : s.flag (aonLvl 2) ≠ level) :
    Completes (.aonComparatorChange .mains level) s fun u =>
      u.flag (aonLvl 2) = level ∧ (u.core 17).ipend.getLsbD 1 = true ∧ OnlyRegs { s with wv := u.wv } u [F.AON_STAT_LVL.addr] :=
  .of_exec (t := s.aonLevel 2 level) (congrArg Host.Outcome.next (State.aonChange_eq hen hl))
    ⟨s.aonLevel_flag (k := 2) (by decide), State.aonLevel_line (s := s) (k := 2) (level := level), rfl,
      fun _ ha => s.aonLevel_reg fun e => ha (List.mem_singleton.mpr e)⟩

/-- A sleep wake is counted, whatever power it brings (R368). -/
theorem State.sleepWakes (s : State) {u : Fin 4} (hu : u.val = 0 ∨ u.val = 3) {b : Nat} (hb : b < 7) :
    ((s.finc (F.U_SLEEP_WAKES u.val)).wakeEvent b 3).fget (F.U_SLEEP_WAKES u.val) =
      satInc (F.U_SLEEP_WAKES u.val).w (s.fget (F.U_SLEEP_WAKES u.val)) := by
  have hcount := s.finc_fget (F.U_SLEEP_WAKES u.val) (Nat.le_of_ble_eq_true rfl)
  generalize s.finc (F.U_SLEEP_WAKES u.val) = v at *
  have haon : isAonReg (F.U_SLEEP_WAKES u.val).addr = true := by rcases hu with h | h <;> rw [h] <;> decide
  by_cases h : v.domPowered 1 = true ∨ (v.fget F.AON_WAKEEN_EN).testBit b = false
  · rw [v.wakeEvent_line 3 h]; exact hcount
  · rw [not_or, Bool.not_eq_true, Bool.not_eq_false] at h
    obtain ⟨_, _, hregs⟩ := v.wakeEvent_wakes h.1 h.2 hb (line := 3) (by decide)
    have hne : (F.U_SLEEP_WAKES u.val).addr ≠ F.AON_GWLD_GO.addr ∧ (F.U_SLEEP_WAKES u.val).addr ≠ F.AON_WCAUSE_C.addr := by
      simp only [F.U_SLEEP_WAKES, F.AON_GWLD_GO, F.AON_WCAUSE_C]; omega
    rw [State.fget_congr (hregs _ haon hne.1 hne.2), hcount]

end

/-- Settles O36: the wake events by one lemma on what they read and leave, the rest clause by clause. -/
theorem alwaysOnDomainWatchesAndWakes : Obligations.AlwaysOnDomainWatchesAndWakes := by
  unfold Obligations.AlwaysOnDomainWatchesAndWakes
  intro s woken event
  have hlevel {k : Nat} {level : Bool} : WakeReady s (s.aonLevel k level) :=
    WakeReady.of_regs (a := F.AON_STAT_LVL.addr) (by decide) (by decide) (fun c hc => s.aonLevel_reg hc) rfl rfl
  refine ⟨fun hen hdue => ?_, fun h => ?_, fun hen hl => ⟨?_, ?_⟩, fun h => ?_, fun hen hl => ?_, fun hen hl hp hst => ?_, fun level hen hl => ?_,
    fun level hen hl => ?_, fun hp => ?_, fun hp => ?_, fun via => ⟨fun h => ?_, fun h hgo => ?_, fun h hgo => ?_⟩, fun j hj hon => gwldDone_holds hj hon,
    fun h => ?_, fun u line hu => ⟨fun h => ?_, fun h1 hc => ?_, fun hoff hm => ⟨?_, ?_⟩⟩⟩
  · exact event_holds (by decide) (by decide) (congrArg Host.Outcome.next (if_pos ⟨hen, hdue⟩)) (.refl s)
  · exact congrArg Host.Outcome.next (if_neg fun hc => h.elim (fun h => Bool.false_ne_true (h.symm.trans hc.1)) fun h => by omega)
  · refine event_holds (v := s.aonLevel 3 true) (by decide) (by decide) ?_ hlevel
    exact congrArg Host.Outcome.next (State.aonChange_eq hen (by simp [hl]))
  · refine event_holds (v := s.aonLevel 3 true) (by decide) (by decide) ?_ hlevel
    exact congrArg Host.Outcome.next (State.aonChange_eq hen (by simp [hl]))
  · exact congrArg Host.Outcome.next (State.aonChange_same h (by decide))
  · exact vbatLow_holds hen hl
  · exact vbatBack_holds hen hl hp hst
  · exact vmainChange_holds level hen hl
  · exact mainsChange_holds level hen hl
  · exact congrArg Host.Outcome.next (if_pos hp)
  · obtain ⟨⟨hpow, hcause, hevent, hbackup⟩, _⟩ := s.mgmtWake_holds hp (b := 5) (by decide)
    exact .of_exec rfl ⟨hpow, hcause, hevent, hbackup⟩
  · obtain ⟨hcore, hfault, hcause, honly⟩ := s.gwRst_holds
    exact .of_exec (congrArg Host.Outcome.next (State.guarded_ok h _)) ⟨hcore, by rw [hcore], hfault, hcause, honly⟩
  · exact congrArg Host.Outcome.next ((State.guarded_ok h _).trans (if_pos hgo))
  · obtain ⟨hset, hcore, hjob⟩ := State.gwLoad_starts hgo
    exact .of_exec (congrArg Host.Outcome.next (State.guarded_ok h _)) ⟨hset, hcore, s.gwJob, hjob, rfl, rfl, s.gwJob_words⟩
  · show execGwldDone s = _
    unfold execGwldDone
    rw [h]
  · refine exec_uartSleepWake_idle fun _ hoff => ?_
    obtain hon | ⟨h1, h2⟩ := h
    · exact absurd (hoff.symm.trans hon) nofun
    · exact ⟨h2, fun h => absurd h h1⟩
  · exact exec_uartSleepWake_idle fun _ _ => ⟨fun h2 => absurd (h1.symm.trans h2) (by decide), fun _ => hc⟩
  · have hready : WakeReady s (s.finc (F.U_SLEEP_WAKES u.val)) :=
      WakeReady.of_regs (a := (F.U_SLEEP_WAKES u.val).addr) (by simp only [F.U_SLEEP_WAKES]; omega) (by simp only [F.U_SLEEP_WAKES]; omega)
        (fun c hc => State.reg_fput_other _ _ _ hc) rfl rfl
    exact event_holds (by split <;> decide) (by decide) (exec_uartSleepWake_wakes hu hoff hm) hready
  · exact .of_exec (exec_uartSleepWake_wakes hu hoff hm) (s.sleepWakes hu (by split <;> decide))

end Sys2Proof.Machine
end

section
/-! SUPPORT. The cleanup of a tenant (16: R301 to R303): it closes that tenant, and leaves the state, port, client and last number of every other.
So do jobs and searches. -/

namespace Sys2Proof.Machine

/-- The state, port, client and last number of a tenant. -/
def Tenant.party (x : Tenant) : TnState × Port × Nat × Option Nat := (x.state, x.port, x.client, x.lastSeq)

/-- The parties of all tenants, Penholt, and the number of the next search. -/
def partyView (s : State) : (Nat → TnState × Port × Nat × Option Nat) × PenSt × Nat :=
  (fun k => (s.tenant k).party, s.pen, s.dfly.nextSearch)

theorem partyView_blind : Blind partyView := ⟨fun _ _ => rfl, fun _ _ => rfl⟩

/-- From `s` to `t` every tenant's party and Penholt stand. -/
abbrev PartiesKept (s t : State) : Prop := Keeps partyView anyReg s t

namespace PartiesKept

variable {s t : State}

theorem party (h : PartiesKept s t) (k : Nat) : (t.tenant k).party = (s.tenant k).party := congrFun (congrArg Prod.fst h.view) k

theorem pen (h : PartiesKept s t) : t.pen = s.pen := congrArg (·.2.1) h.view

theorem nextSearch (h : PartiesKept s t) : t.dfly.nextSearch = s.dfly.nextSearch := congrArg (·.2.2) h.view

theorem lastSeq (h : PartiesKept s t) (k : Nat) : (t.tenant k).lastSeq = (s.tenant k).lastSeq := congrArg (·.2.2.2) (h.party k)

theorem of_same (ht : t.tn.tenants = s.tn.tenants) (hp : t.pen = s.pen) (hn : t.dfly.nextSearch = s.dfly.nextSearch) : PartiesKept s t := by
  refine ⟨Prod.ext (funext fun k => ?_) (Prod.ext hp hn), fun _ h => h.elim⟩
  exact congrArg Tenant.party (State.tenant_congr ht k)

theorem of_work (h : QueueWork s t) (ht : t.tn.tenants = s.tn.tenants) : PartiesKept s t := 
  of_same ht (congrArg State.pen h.rest :) (congrArg (fun x : State => x.dfly.nextSearch) h.rest :)

variable (s)

/-- A context changed elsewhere than in its party. -/
theorem updTenant (k : Nat) (f : Tenant → Tenant) (h : ∀ x, (f x).party = x.party) : PartiesKept s (s.updTenant k f) := by
  refine ⟨Prod.ext (funext fun j => ?_) rfl, fun _ h => h.elim⟩
  refine (congrArg Tenant.party (Tab.get_set (fun _ => ({} : Tenant)) s.tn.tenants k j (f (s.tenant k)))).trans ?_
  split
  · next e => rw [e]; exact h _
  · rfl

theorem fput (f : Fld) (v : Nat) : PartiesKept s (s.fput f v) := (Keeps.refl s).fput partyView_blind f v id

theorem setMapBit (f : Nat → Fld) (i : Nat) (b : Bool) : PartiesKept s (s.setMapBit f i b) := fput s _ _

theorem evRise (p b : Nat) : PartiesKept s (s.evRise p b) := (Keeps.refl s).evRise partyView_blind p b id

-- votes and loads

theorem setDom (d st : Nat) : PartiesKept s (s.setDom d st) := by
  unfold State.setDom
  have h : PartiesKept s (((s.fput (F.PW_D_STATE d) st).fput (F.PW_D_AP d) 0).fputB (pwOn d) (decide (st = dON ∨ st = dENTRY))) :=
    ((fput s _ _).trans (fput _ _ _)).trans (fput _ _ _)
  exact .ite (fun _ => h.trans (fput _ _ _)) fun _ => h

theorem domFollow (d : Nat) : PartiesKept s (s.domFollow d) := by
  unfold State.domFollow
  exact .ite (fun _ => setDom s d _) fun _ => .ite (fun _ => setDom s d _) fun _ => .refl s

theorem castVote (d c : Nat) (b : Bool) : PartiesKept s (s.castVote d c b) := by
  unfold State.castVote
  refine .ite (fun _ => .refl s) fun _ => ?_
  have h : PartiesKept s (s.setVote d c b) := .of_eq rfl rfl
  exact (h.trans (fput _ _ _)).trans (domFollow _ d)

theorem allocVotes : PartiesKept s s.allocVotes := by
  unfold State.allocVotes
  exact (Keeps.foldl allocDomains (fun s _ _ => castVote s _ _ _) s).trans (.foldl _ (fun s _ _ => castVote s _ _ _) _)

theorem setLoad (ch u : Nat) (on : Bool) : PartiesKept s (s.setLoad ch u on) := by
  unfold State.setLoad
  exact ((((fput s _ _).trans (fput _ _ _)).trans (setMapBit _ _ _ _)).trans (fput _ _ _)).trans (allocVotes _)

-- channels

theorem setChan (ch : Nat) (c : ChanSt) : PartiesKept s (s.setChan ch c) := .of_eq rfl rfl

theorem chStop (ch : Nat) : PartiesKept s (s.chStop ch) := by
  unfold State.chStop
  refine .ite (fun _ => .refl s) fun _ => ?_
  refine (((setMapBit s _ _ _).trans (setLoad _ _ _ _)).trans (fput _ _ _)).trans (setChan _ _ _)

theorem setReg (a : Nat) (v : Word) : PartiesKept s (s.setReg a v) := (Keeps.refl s).setReg partyView_blind a v id

theorem put96 (f : Nat → Fld) (v : Nat) : PartiesKept s (s.put96 f v) := (Keeps.refl s).put96 partyView_blind f v fun _ _ => id

theorem put64 (hi lo : Fld) (v : Nat) : PartiesKept s (s.put64 hi lo v) := (fput s _ _).trans (fput _ _ _)

theorem chStart (ch : Nat) : PartiesKept s (s.chStart ch) := by
  unfold State.chStart
  split
  · exact (fput s _ _).trans (fput _ _ _)
  · extract_lets ctl strm u c
    exact (((setChan s ch c).trans (setLoad _ _ _ _)).trans (fput _ _ _)).trans (.foldl _ (fun s _ _ => setReg s _ _) _)


-- Comb

variable {s} in
theorem of_read (h : CombRead s t) : PartiesKept s t :=
  of_same (congrArg (fun x : State => x.tn.tenants) h.view :) (congrArg State.pen h.view :)
    (congrArg (fun x : State => x.dfly.nextSearch) h.view :)

theorem combOff (m a : Nat) : PartiesKept s (s.combOff m a) := (((fput s _ _).trans (fput _ _ _)).trans (fput _ _ _)).trans (evRise _ _ _)

theorem combRead {m : Nat} (hm : m < 16) (a n : Nat) : PartiesKept s (s.combRead m a n).2.2 := by
  rw [State.combRead_eq]
  suffices h : ∀ (l : List (Nat × Nat)) (r : List Byte × Bool × State), PartiesKept r.2.2 (l.foldl (readLine m) r).2.2 from h _ ([], false, s)
  intro l
  induction l with
  | nil => exact fun r => .refl r.2.2
  | cons x l ih =>
    intro r
    refine Keeps.trans ?_ (ih (readLine m r x))
    by_cases hon : r.2.2.combOn (combQuarter x.1) = true
    · exact of_read (readLine_on hm r hon).2
    · have hoff : (readLine m r x).2.2 = r.2.2.combOff m x.1 := congrArg (fun p : List Byte × Bool × State => p.2.2) (if_neg hon)
      rw [hoff]
      exact combOff _ _ _

theorem combWrite (m a : Nat) (bs : List Byte) : PartiesKept s (s.combWrite m a bs) := by
  rw [State.combWrite_eq]
  refine Keeps.foldlSnd _ (fun r x _ => ?_) (bs, s)
  unfold combLine
  refine .ite (fun _ => ?_) fun _ => ?_
  · have hr := (r.2.combCount m).combPut_rest x.1 (r.1.take x.2)
    exact ⟨(congrArg partyView hr :), fun _ h => h.elim⟩
  · exact combOff _ _ _

-- codes and starts

theorem storeCode (h a : Nat) (bs : List Byte) : PartiesKept s (s.storeCode h a bs) := by
  induction bs generalizing s a with
  | nil => exact .refl s
  | cons b r ih =>
    refine Keeps.trans ?_ (ih (if a < 2 ^ 18 then { s with hive.store := Tab.set (fun _ => 0) s.hive.store (2 ^ 18 * h + a) b } else s) (a + 1))
    exact .ite (fun _ => .of_eq rfl rfl) fun _ => .refl s

theorem loadUnits (h u m a : Nat) : PartiesKept s (s.loadUnits h u m a) := by
  have hload := (combRead s (m := 1) (by decide) a (256 * m)).trans (storeCode _ h (256 * u) (s.combRead 1 a (256 * m)).1)
  exact ⟨hload.view, hload.regs⟩

theorem placeCode (h want m : Nat) (runs : List (Nat × Nat)) : PartiesKept s (s.placeCode h want m runs).2 := by
  unfold State.placeCode
  extract_lets here
  split
  · exact .refl s
  · split
    · exact loadUnits s _ _ _ _
    · exact .refl s

theorem placeCodes (h : Nat) (sig : Word) : PartiesKept s (s.placeCodes h sig).2 := by
  unfold State.placeCodes
  extract_lets n m pilot both
  split
  next trk u hu =>
  have hsu : PartiesKept s u := by
    split at hu
    · cases hu; exact .refl s
    · have := placeCode s h (tablePrimary n pilot (sgPRN sig)) m []
      rwa [hu] at this
  split
  next dat v hv =>
  have huv : PartiesKept u v := by
    split at hv
    · have := placeCode u h (tablePrimary n false (sgPRN sig)) m [(trk, m)]
      rwa [hv] at this
    · cases hv; exact .refl u
  split
  next sec w hw =>
  have hvw : PartiesKept v w := by
    split at hw
    · have := placeCode v h (tableSecondary n (sgPRN sig)) 1 [(trk, m), (dat, if both then m else 0)]
      rwa [hw] at this
    · cases hw; exact .refl v
  exact (hsu.trans huv).trans hvw

theorem copySlot (a b : Nat) : PartiesKept s (s.copySlot a b) := by
  unfold State.copySlot
  extract_lets c t u v
  have hu : PartiesKept s u := .foldl _ (fun s _ _ => setReg s _ _) s
  have hv : PartiesKept u v := setReg _ _ _
  have hcodes := placeCodes v (b / 64) (v.reg (chReg a 4).addr)
  split
  next code w hw =>
  rw [hw] at hcodes
  extract_lets x
  have hx : PartiesKept s x := ((hu.trans hv).trans hcodes).trans (setReg _ _ _)
  refine .ite (fun _ => hx) fun _ => hx.trans ?_
  exact (((((put96 _ _ _).trans (put64 _ _ _ _)).trans (put64 _ _ _ _)).trans (setReg _ _ _)).trans (setReg _ _ _)).trans (setReg _ _ _)

theorem moveChan (ch : Nat) : PartiesKept s (s.moveChan ch) := by
  unfold State.moveChan
  split
  · exact .refl s
  next b _ =>
  extract_lets u follow turn
  have hu : PartiesKept s u := .ite (fun _ => .refl s) fun _ => ((copySlot s ch b).trans (chStop _ ch)).trans (chStart _ b)
  refine hu.trans ⟨Prod.ext (funext fun k => ?_) rfl, fun _ h => h.elim⟩
  exact (congrArg Tenant.party (Tab.get_map ({} : Tenant) (fun x => { x with subs := x.subs.map follow }) rfl u.tn.tenants k) :)

-- votes withdrawn

theorem allocLeave (d : Nat) : PartiesKept s (s.allocLeave d) := by
  unfold State.allocLeave
  refine .ite (fun _ => .ite (fun _ => ?_) fun _ => .refl s) fun _ => .refl s
  exact (Keeps.foldl _ (fun s ch _ => moveChan s ch) s).trans (castVote _ _ _ _)

theorem withdraw (d c : Nat) : PartiesKept s (s.withdraw d c) := by
  unfold State.withdraw
  exact (castVote s d c false).trans (.ite (fun _ => allocLeave _ d) fun _ => .refl _)

-- queues

theorem when {b : Bool} {f : State → State} (h : PartiesKept s (f s)) : PartiesKept s (s.when b f) := Keeps.when fun _ => h

theorem putQueue (i : Nat) (q : Queue) : PartiesKept s (s.putQueue i q) := .of_eq rfl rfl

theorem tenantMsix (t b a : Nat) : PartiesKept s (s.tenantMsix t b a) :=
  of_work ((QueueWork.refl s).tenantMsix t b a) (congrArg TnSt.tenants (s.tenantMsix_tn t b a))

theorem grantQ (i : Nat) : PartiesKept s (s.grantQ i) := by
  unfold State.grantQ
  extract_lets q held want own got u
  refine .ite (fun _ => ?_) fun _ => .refl s
  have hu : PartiesKept s u := (putQueue s i _).trans (when _ (evRise _ _ _))
  exact .ite (fun _ => hu.trans (tenantMsix _ _ _ _)) fun _ => hu

theorem regrant : PartiesKept s s.regrant := .foldl _ (fun s i _ => grantQ s i) s

theorem freshQueues (t : Nat) : PartiesKept s (s.freshQueues t) := by
  unfold State.freshQueues
  exact ((((putQueue s _ _).trans (putQueue _ _ _)).trans (grantQ _ _)).trans (grantQ _ _)).trans (regrant _)

theorem sendFrame (t cls : Nat) (payload : List Byte) : PartiesKept s (s.sendFrame t cls payload) := by
  unfold State.sendFrame
  extract_lets x m
  refine .ite (fun _ => .refl s) fun _ => .ite (fun _ => updTenant s t _ fun _ => rfl) fun _ => ?_
  exact (of_work (s.pushMsg_work _ _) (s.pushMsg_tenants _ _)).trans (updTenant _ t _ fun _ => rfl)

-- jobs and searches

theorem setSearch (i : Nat) (x : Option Search) : PartiesKept s (s.setSearch i x) := .of_eq rfl rfl

theorem setJob (n : Nat) (j : Option Job) : PartiesKept s (s.setJob n j) := .of_eq rfl rfl

theorem searchPart (i flags slot status tsnap : Nat) (mean : Word) (inv blk : Nat) (ps : List Peak) :
    PartiesKept s (s.searchPart i flags slot status tsnap mean inv blk ps) := by
  unfold State.searchPart
  split
  · exact .refl s
  · exact .ite (fun _ => setSearch s _ _) fun _ => .ite (fun _ => .of_eq rfl rfl) fun _ => (setSearch s _ _).trans (sendFrame _ _ _ _)

theorem dfStat : PartiesKept s s.dfStat := by
  unfold State.dfStat
  extract_lets st cnt used u v busy
  have hu : PartiesKept s u := ((fput s _ _).trans (fput _ _ _)).trans (fput _ _ _)
  have hv : PartiesKept u v := by
    unfold v
    split
    · exact (fput _ _ _).trans (fput _ _ _)
    · exact fput _ _ _
  exact ((hu.trans hv).trans (when _ (castVote _ _ _ _))).trans (castVote _ _ _ _)

theorem jobArm (n : Nat) (j : Job) : PartiesKept s (s.jobArm n j) := by
  unfold State.jobArm
  extract_lets bs u
  have hu : PartiesKept s u := .foldl _ (fun s b _ => setMapBit s _ _ _) s
  exact (hu.trans (setJob _ _ _)).trans (fput _ _ _)

theorem jobRam (fuel : Nat) : PartiesKept s (s.jobRam fuel) := by
  induction fuel generalizing s with
  | zero => exact .refl s
  | succ fuel ih =>
    unfold State.jobRam
    extract_lets wait
    split
    · exact .ite (fun _ => (jobArm s _ _).trans (ih _)) fun _ => .refl s
    · exact .refl s

theorem jobSelect : PartiesKept s s.jobSelect := by
  unfold State.jobSelect
  extract_lets can
  refine .ite (fun _ => .refl s) fun _ => ?_
  split
  · exact fput s _ _
  · exact .refl s

theorem jobRet (code slot : Nat) : PartiesKept s (s.jobRet code slot) := ((fput s _ _).trans (fput _ _ _)).trans (fput _ _ _)

theorem jobEnd (n status : Nat) (mean : Word) (ps : List Peak) : PartiesKept s (s.jobEnd n status mean ps) := by
  unfold State.jobEnd
  split
  · exact .refl s
  next j _ =>
  extract_lets begun flags ts s1 s2 s3 s4 s5 s6 _ s7
  have h1 : PartiesKept s s1 := combWrite s _ _ _
  have h2 : PartiesKept s1 s2 := .foldl _ (fun s b _ => setMapBit s _ _ _) s1
  have h3 : PartiesKept s2 s3 := (fput _ _ _).trans (setMapBit _ _ _ _)
  have h4 : PartiesKept s3 s4 := (setJob _ _ _).trans (fput _ _ _)
  have h5 : PartiesKept s4 s5 := put64 _ _ _ _
  have h6 : PartiesKept s5 s6 := evRise _ _ _
  have h7 : PartiesKept s6 s7 := by
    unfold s7
    split
    · exact .of_eq rfl rfl
    · split
      · exact searchPart _ _ _ _ _ _ _ _ _ _
      · exact .refl _
  exact (((((((h1.trans h2).trans h3).trans h4).trans h5).trans h6).trans h7).trans (jobRam _ _)).trans ((jobSelect _).trans (dfStat _))

theorem jobAbort (n : Nat) : PartiesKept s (s.jobAbort n) := by
  unfold State.jobAbort
  refine .ite (fun _ => jobRet s _ _) fun _ => .ite (fun _ => jobRet s _ _) fun _ => Keeps.trans ?_ (jobRet _ _ _)
  have hdraw : PartiesKept s (s.draw 32).2 := .of_eq rfl rfl
  exact hdraw.trans (jobEnd _ _ _ _ _)

theorem jobTake (d : List Word) (search : Option Nat) : PartiesKept s (s.jobTake d search).2 := by
  unfold State.jobTake
  extract_lets n j _ u v w
  have hu : PartiesKept s u := .of_eq rfl rfl
  have hv : PartiesKept u v := ((setReg _ _ _).trans (fput _ _ _)).trans (fput _ _ _)
  have hw : PartiesKept v w := .ite (fun _ => jobArm _ _ _) fun _ => ((setJob _ _ _).trans (fput _ _ _)).trans (evRise _ _ _)
  exact ((hu.trans hv).trans hw).trans (dfStat w)

theorem jobSubmit (d : List Word) (search : Option Nat) : PartiesKept s (s.jobSubmit d search) := by
  unfold State.jobSubmit
  extract_lets c u
  have hu : PartiesKept s u := fput s _ _
  exact .ite (fun _ => (jobRet s _ _).trans (fput _ _ _)) fun _ => (hu.trans (jobTake u d search)).trans (jobRet _ _ _)

theorem serveRequests (fuel : Nat) : PartiesKept s (s.serveRequests fuel) := by
  induction fuel generalizing s with
  | zero => exact .refl s
  | succ fuel ih =>
    unfold State.serveRequests
    split
    · next r _ =>
      refine .ite (fun _ => .refl s) fun _ => ?_
      extract_lets _ u v w
      have hu : PartiesKept s u := .of_eq rfl rfl
      have hv : PartiesKept u v := jobSubmit u _ _
      have hw : PartiesKept v w := by
        unfold w
        split
        · exact .refl v
        · split
          · exact searchPart v _ _ _ _ _ _ _ _ _
          · exact .refl v
      exact ((hu.trans hv).trans hw).trans (ih w)
    · exact .refl s

-- the cleanup

theorem unown (t : Nat) : PartiesKept s (s.unown t) :=
  .foldl _ (fun s _ _ => .ite (fun _ => (fput s _ _).trans (fput _ _ _)) fun _ => .refl s) s

theorem dropJobs (t : Nat) : PartiesKept s (s.dropJobs t) := by
  unfold State.dropJobs
  extract_lets _ u
  have hu : PartiesKept s u := .of_eq rfl rfl
  exact hu.trans (.foldl _ (fun s n _ => jobAbort s n) u)

theorem gapNow (m cause : Nat) : PartiesKept s (s.gapNow m cause) := .ite (fun _ => .refl s) fun _ => .of_eq rfl rfl

theorem subsGone (old : State) : PartiesKept s (s.subsGone old) := by
  unfold State.subsGone
  extract_lets needs u v
  have hu : PartiesKept s u := .foldl _ (fun s ch _ => .ite (fun _ => .refl s) fun _ => chStop s ch) s
  have hv : PartiesKept u v := .foldl _ (fun s m _ => .ite (fun _ => gapNow s m _) fun _ => .refl s) u
  exact (hu.trans hv).trans (allocVotes v)

end PartiesKept

/-- The context a cleanup leaves to tenant `t` (R302, R303). -/
def Tenant.cleaned (x : Tenant) (st : TnState) (seq : Option Nat) : Tenant :=
  { x with state := st, q := false, cause := 0, lastSeq := seq, outSeq := 0, cache := [], subs := [], running := [], ferrT := [] }

/-- The cleanup, but for the context itself, leaves every party. -/
theorem State.cleanup_parties (s : State) (t : Nat) (st : TnState) (seq : Option Nat) :
    PartiesKept (s.updTenant t fun x => x.cleaned st seq) (s.cleanup t st seq) := by
  unfold State.cleanup
  extract_lets old u _ v w x y
  have huv : PartiesKept u v := .of_eq rfl rfl
  have hvw : PartiesKept v w := (PartiesKept.freshQueues v t).trans (PartiesKept.subsGone _ old)
  have hwx : PartiesKept w x := .foldl _ (fun s d _ => PartiesKept.withdraw s d t) w
  have hxy : PartiesKept x y := (PartiesKept.unown x t).trans (PartiesKept.dropJobs _ t)
  exact (((huv.trans hvw).trans hwx).trans hxy).trans (.foldl _ (fun s i _ => PartiesKept.setMapBit s _ _ _) y)

-- tenants that close (R301)

/-- From `s` to `t` tenants closed, and nothing else befell a party. -/
structure Closing (s t : State) : Prop where
  pen : t.pen = s.pen
  bound : ∀ k, (t.tenant k).port = (s.tenant k).port ∧ (t.tenant k).client = (s.tenant k).client
  state : ∀ k, (t.tenant k).state = (s.tenant k).state ∨ (t.tenant k).state = .closing

namespace Closing

variable {s t u : State}

theorem refl (s : State) : Closing s s := ⟨rfl, fun _ => ⟨rfl, rfl⟩, fun _ => .inl rfl⟩

theorem trans (h : Closing s t) (h' : Closing t u) : Closing s u := by
  refine ⟨h'.pen.trans h.pen, fun k => ⟨(h'.bound k).1.trans (h.bound k).1, (h'.bound k).2.trans (h.bound k).2⟩, fun k => ?_⟩
  rcases h'.state k with e | e
  · rw [e]; exact h.state k
  · exact .inr e

theorem closed (h : Closing s t) {k : Nat} (hk : (s.tenant k).state = .closing) : (t.tenant k).state = .closing :=
  (h.state k).elim (·.trans hk) id

end Closing

theorem PartiesKept.closing {s t : State} (h : PartiesKept s t) : Closing s t := by
  have hstate k : (t.tenant k).state = (s.tenant k).state := congrArg Prod.fst (h.party k)
  have hport k : (t.tenant k).port = (s.tenant k).port := congrArg (·.2.1) (h.party k)
  have hclient k : (t.tenant k).client = (s.tenant k).client := congrArg (·.2.2.1) (h.party k)
  exact ⟨h.pen, fun k => ⟨hport k, hclient k⟩, fun k => .inl (hstate k)⟩

section
variable (s : State)

/-- The context of a tenant that closes. -/
theorem State.cleaned_closing (t : Nat) : Closing s (s.updTenant t fun x => x.cleaned .closing none) := by
  have hget (k : Nat) : (s.updTenant t fun x => x.cleaned .closing none).tenant k =
      if k = t then (s.tenant t).cleaned .closing none else s.tenant k :=
    Tab.get_set (fun _ => ({} : Tenant)) s.tn.tenants t k ((s.tenant t).cleaned .closing none)
  refine ⟨rfl, fun k => ?_, fun k => ?_⟩ <;> rw [hget k] <;> split
  · next e => rw [e]; exact ⟨rfl, rfl⟩
  · exact ⟨rfl, rfl⟩
  · exact .inr rfl
  · exact .inl rfl

theorem State.closeTenant_closing (t : Nat) : Closing s (s.closeTenant t) := by
  unfold State.closeTenant
  split
  · exact (s.cleaned_closing t).trans (s.cleanup_parties t .closing none).closing
  · exact .refl s

theorem State.closeTenant_closed {t : Nat} (h : (s.tenant t).live = true) : ((s.closeTenant t).tenant t).state = .closing := by
  have hclose : s.closeTenant t = s.cleanup t .closing none := if_pos h
  rw [hclose]
  refine (s.cleanup_parties t .closing none).closing.closed ?_
  exact congrArg Tenant.state (State.tenant_updTenant_same s t _)

/-- Every live tenant of a list is closed by a fold over it. -/
theorem State.closeAll (l : List Nat) : Closing s (l.foldl State.closeTenant s) ∧
    ∀ k ∈ l, (s.tenant k).live = true → ((l.foldl State.closeTenant s).tenant k).state = .closing := by
  induction l generalizing s with
  | nil => exact ⟨.refl s, nofun⟩
  | cons t l ih =>
    have hstep := s.closeTenant_closing t
    obtain ⟨hrest, hmem⟩ := ih (s.closeTenant t)
    refine ⟨hstep.trans hrest, fun k hk hl => ?_⟩
    by_cases he : k = t
    · rw [he] at hl ⊢
      exact hrest.closed (s.closeTenant_closed hl)
    · have hk' := (List.mem_cons.mp hk).resolve_left he
      rcases hstep.state k with e | e
      · refine hmem k hk' ?_
        unfold Tenant.live at hl ⊢
        rwa [e]
      · exact hrest.closed e

theorem State.live_mem_openTenants {k : Nat} (h : (s.tenant k).live = true) : k ∈ s.openTenants := by
  have hkey : k ∈ s.tn.tenants.map Prod.fst := by
    by_contra hn
    have hget : s.tenant k = ({} : Tenant) := by
      have := Tab.get_of_not_mem (fun _ => ({} : Tenant)) hn []
      rwa [List.append_nil] at this
    rw [hget] at h
    exact absurd h (by decide)
  have hmem : (k, s.tenant k) ∈ s.tn.tenants := Tab.mem_get (fun _ => ({} : Tenant)) hkey
  refine List.mem_map.mpr ⟨_, List.mem_filter.mpr ⟨hmem, decide_eq_true fun (e : (s.tenant k).state = .free) => ?_⟩, rfl⟩
  rcases of_decide_eq_true h with e' | e' <;> exact TnState.noConfusion (e'.symm.trans e)

/-- The loss of a client closes every live tenant bound to it (R301). -/
theorem State.clientLost_holds (port : Port) (client : Nat) : Closing s (s.clientLost port client) ∧
    ∀ k, (s.tenant k).live = true → (s.tenant k).port = port → (s.tenant k).client = client →
      ((s.clientLost port client).tenant k).state = .closing := by
  unfold State.clientLost
  obtain ⟨hclosing, hmem⟩ := s.closeAll (s.openTenants.filter fun t => decide ((s.tenant t).port = port ∧ (s.tenant t).client = client))
  refine ⟨hclosing, fun k hl hp hc => hmem k (List.mem_filter.mpr ⟨s.live_mem_openTenants hl, decide_eq_true ⟨hp, hc⟩⟩) hl⟩

end

end Sys2Proof.Machine
end

section
/-! SUPPORT. What follows a change of Penholt's links, master or role (24: R443, R448, R449): the streams, the solution's state and the
vector core, on pages of their own; and the list of devices present. -/

namespace Sys2Proof.Machine

-- updates that carry rises along

/-- From `s` to `t` the view `π` and the registers that satisfy `R` stand, and what had risen still has. -/
structure Carries {α : Type} (π : State → α) (R : Nat → Prop) (s t : State) : Prop where
  keeps : Keeps π R s t
  rises : ∀ r p b, b < 32 → Rises r s p b → Rises r t p b

namespace Carries

variable {α : Type} {π : State → α} {R : Nat → Prop} {s t u : State}

theorem refl (s : State) : Carries π R s s := ⟨.refl s, fun _ _ _ _ h => h⟩

theorem trans (h : Carries π R s t) (h' : Carries π R t u) : Carries π R s u :=
  ⟨h.keeps.trans h'.keeps, fun r p b hb hr => h'.rises r p b hb (h.rises r p b hb hr)⟩

theorem of_eq (hv : π t = π s) (hr : t.regs = s.regs) (hc : t.cic = s.cic) : Carries π R s t :=
  ⟨.of_eq hv hr, fun _ _ _ _ h => h.keep (by unfold State.reg; rw [hr]) hc⟩

theorem ite {c : Prop} [Decidable c] (h : c → Carries π R s t) (h' : ¬ c → Carries π R s u) : Carries π R s (if c then t else u) := by
  split
  · next hc => exact h hc
  · next hc => exact h' hc

theorem when {b : Bool} {f : State → State} (h : b = true → Carries π R s (f s)) : Carries π R s (s.when b f) := ite h fun _ => refl s

theorem fget (h : Carries π R s t) {f : Fld} (hf : R f.addr) : t.fget f = s.fget f := h.keeps.fget hf

theorem flag (h : Carries π R s t) {f : Fld} (hf : R f.addr) : t.flag f = s.flag f := h.keeps.flag hf

section
variable (hπ : Blind π)
include hπ

theorem fput (f : Fld) (v : Nat) (hf : ¬ R f.addr) (hp : f.addr % 4096 ≠ 0x01C) (s : State) : Carries π R s (s.fput f v) := by
  refine ⟨(Keeps.refl s).fput hπ f v hf, fun r p b _ h => h.keep (State.reg_fput_other _ _ _ fun e => hp ?_) rfl⟩
  rw [← e]
  omega

theorem evRise (p b : Nat) (hp : ¬ R (p * 4096 + 0x01C)) (s : State) : Carries π R s (s.evRise p b) :=
  ⟨(Keeps.refl s).evRise hπ p b hp, fun _ _ _ hb h => h.evRise p b hb⟩

end

end Carries

-- streams, solution and vector core

/-- Penholt and the Sky Clock. -/
def penSky (s : State) : PenSt × SkySt := (s.pen, s.sky)

theorem penSky_blind : Blind penSky := ⟨fun _ _ => rfl, fun _ _ => rfl⟩

/-- No register of the streams, the solution or the vector core. -/
def PenAside (a : Nat) : Prop := a / 4096 ≠ 0x038 ∧ a / 4096 ≠ 0x101 ∧ a / 4096 ≠ 0x102

/-- From `s` to `t` the streams, the solution's state and the vector core follow. -/
abbrev Follows (s t : State) : Prop := Carries penSky PenAside s t

section
variable (s : State)

theorem State.streamsUpdate_follows : Follows s s.streamsUpdate := by
  have hpage {a : Nat} (h : a / 4096 = 0x038) : ¬ PenAside a := fun hp => hp.1 h
  unfold State.streamsUpdate
  extract_lets run inv was bits u
  have hu : Follows s u := (Carries.fput penSky_blind F.SX_RUN_S _ (hpage (by decide)) (by decide) s).trans
    (.fput penSky_blind F.SX_INV_S _ (hpage (by decide)) (by decide) _)
  exact hu.trans (.when fun _ => .evRise penSky_blind 0x038 2 (hpage (by decide)) u)

theorem State.setV_follows (v : Nat) : Follows s (s.setV v) := by
  have hpage {a : Nat} (h : a / 4096 = 0x102) : ¬ PenAside a := fun hp => hp.2.2 h
  unfold State.setV
  exact .ite (fun _ => .refl s) fun _ => (Carries.fput penSky_blind F.VC_STAT_VSTATE _ (hpage (by decide)) (by decide) s).trans
    (.evRise penSky_blind 0x102 3 (hpage (by decide)) _)

theorem State.fixedNow_follows (was : Bool) : Follows s (s.fixedNow was) := by
  unfold State.fixedNow
  extract_lets _ u
  have hu : Follows s u := .ite (fun _ => .refl s) fun _ => .of_eq rfl rfl rfl
  exact hu.trans (.ite (fun _ => u.setV_follows _) fun _ => .refl u)

theorem State.setF_follows (v : Nat) : Follows s (s.setF v) := by
  have hpage {a : Nat} (h : a / 4096 = 0x101) : ¬ PenAside a := fun hp => hp.2.1 h
  unfold State.setF
  refine .ite (fun _ => .refl s) fun _ => ?_
  exact ((Carries.fput penSky_blind F.SC_STAT_FSTATE _ (hpage (by decide)) (by decide) s).trans
    (.evRise penSky_blind 0x101 0 (hpage (by decide)) _)).trans (State.fixedNow_follows _ _)

/-- A port's state, and what follows it. -/
theorem State.setPort_holds {w st : Nat} (hw : w < 2) (hst : st < 4) : (s.setPort w st).penState w = st ∧
    (∀ a, PenAside a → a ≠ (F.PP_STAT_STATE w).addr → a ≠ 0x18001C → (s.setPort w st).reg a = s.reg a) ∧
    ∀ r p b, b < 32 → Rises r s p b → Rises r (s.setPort w st) p b := by
  unfold State.setPort
  split
  · next h => exact ⟨h, fun _ _ _ _ => rfl, fun _ _ _ _ h => h⟩
  have haside : PenAside (F.PP_STAT_STATE w).addr := by simp only [PenAside, F.PP_STAT_STATE]; omega
  have hput := s.fget_fput_same (F.PP_STAT_STATE w) st (show 0 + 2 ≤ 32 by decide)
  have hreg {a : Nat} (h : a ≠ (F.PP_STAT_STATE w).addr) : (s.fput (F.PP_STAT_STATE w) st).reg a = s.reg a := State.reg_fput_other _ _ _ h
  have hrise (r p b) (h : Rises r s p b) : Rises r (s.fput (F.PP_STAT_STATE w) st) p b :=
    h.keep (hreg (by simp only [F.PP_STAT_STATE]; omega)) rfl
  generalize s.fput (F.PP_STAT_STATE w) st = t at *
  have hfollow := ((t.updPen w fun x => { x with fails := 0 }).evRise phPage 0).streamsUpdate_follows
  have hev {a : Nat} (h : a ≠ 0x18001C) : ((t.updPen w fun x => { x with fails := 0 }).evRise phPage 0).reg a = t.reg a :=
    State.reg_evRise_other _ _ _ h
  refine ⟨?_, fun a ha h1 h2 => (hfollow.keeps.regs a ha).trans ((hev h2).trans (hreg h1)), fun r p b hb h => ?_⟩
  · refine (hfollow.fget haside).trans ((State.fget_congr (hev (by simp only [F.PP_STAT_STATE]; omega))).trans ?_)
    exact hput.trans (Nat.mod_eq_of_lt hst)
  · exact hfollow.rises r p b hb (Rises.evRise (t := t.updPen w fun x => { x with fails := 0 })
      ((hrise r p b h).keep rfl rfl) phPage 0 hb)

end

-- the devices present

/-- The sum over the numbers below `n` that satisfy `p`. -/
theorem sumBits_lt (p : Nat → Bool) (n : Nat) : ((List.range n).filter p).foldl (fun a d => a + 2 ^ d) 0 < 2 ^ n := by
  induction n with
  | zero => exact Nat.one_pos
  | succ n ih =>
    rw [List.range_succ, List.filter_append, List.foldl_append, Nat.pow_succ]
    cases h : p n <;> simp [h] <;> omega

theorem testBit_sumBits (p : Nat → Bool) (n k : Nat) (hk : k < n) :
    (((List.range n).filter p).foldl (fun a d => a + 2 ^ d) 0).testBit k = p k := by
  induction n with
  | zero => omega
  | succ n ih =>
    have hlt := sumBits_lt p n
    rw [List.range_succ, List.filter_append, List.foldl_append]
    rcases Nat.lt_succ_iff_lt_or_eq.mp hk with hk | rfl
    · cases h : p n
      · simpa [h] using ih hk
      · simpa [h, Nat.add_comm _ (2 ^ n), Nat.testBit_two_pow_add_gt hk] using ih hk
    · cases h : p k
      · simpa [h] using Nat.testBit_lt_two_pow hlt
      · simp [h, Nat.add_comm _ (2 ^ k), Nat.testBit_two_pow_add_eq, Nat.testBit_lt_two_pow hlt]

/-- Is device `d` known to either port, or this one (R448)? -/
def State.present (s : State) (d : Nat) : Bool :=
  decide (d = devAddr s) || ((s.penPort 0).hops.map Prod.fst).contains d || ((s.penPort 1).hops.map Prod.fst).contains d

theorem State.topo_pres (s : State) {d : Nat} (hd : d < 8) : (s.topo.fget F.PH_TOPO_PRES).testBit d = s.present d := by
  unfold State.topo
  extract_lets e w all u
  have hput : (u.fputB F.PH_STAT_RING (e.any fun d => decide (d ≠ devAddr u) && w.contains d)).fget F.PH_TOPO_PRES = u.fget F.PH_TOPO_PRES :=
    State.fget_fput_other _ _ _ _ (by decide) (by decide)
  have hall : all = (List.range 8).filter s.present := rfl
  rw [hput, State.fget_fput_same _ _ _ (by decide), hall]
  exact (congrArg (Nat.testBit · d) (Nat.mod_eq_of_lt (sumBits_lt s.present 8))).trans (testBit_sumBits s.present 8 d hd)

theorem State.topo_reg (s : State) {a : Nat} (h1 : a ≠ 0x180044) (h2 : a ≠ 0x180048) : s.topo.reg a = s.reg a :=
  (State.reg_fput_other _ F.PH_STAT_RING _ h1).trans (State.reg_fput_other _ F.PH_TOPO_PRES _ h2)

/-- The topology leaves a field of PH_STAT other than RING. -/
theorem State.topo_stat (s : State) (f : Fld) (ha : f.addr = 0x180044) (hf : f.lo + f.w ≤ 4 ∨ 5 ≤ f.lo) : s.topo.fget f = s.fget f := by
  unfold State.topo
  extract_lets e w all u
  refine (State.fget_fput_other u F.PH_STAT_RING f _ (by decide) (.inr hf)).trans ?_
  exact State.fget_congr (State.reg_fput_other _ _ _ (by rw [ha]; decide))

theorem State.topo_pen (s : State) : s.topo.pen = s.pen := rfl

end Sys2Proof.Machine
end

section
/-! Penholt's neighbours and master: HELLO, PEER_LOST, MASTER_CLAIM, SYNC_PULSE and MASTER_LOSS (24: R445, R448, R449, R452; 16: R301;
03: R43). -/

namespace Sys2Proof.Machine

-- ports

section
variable (s : State)

theorem State.penPort_updPen (w p : Nat) (f : PenPort → PenPort) :
    (s.updPen w f).penPort p = if p = w then f (s.penPort w) else s.penPort p :=
  Tab.get_set (fun _ => ({} : PenPort)) s.pen.ports w p (f (s.penPort w))

theorem State.penPort_updPen_same (w : Nat) (f : PenPort → PenPort) : (s.updPen w f).penPort w = f (s.penPort w) :=
  (s.penPort_updPen w w f).trans (if_pos rfl)

variable {s} in
theorem State.penPort_congr {t : State} (h : t.pen = s.pen) (w : Nat) : t.penPort w = s.penPort w := by
  unfold State.penPort; rw [h]

variable {s} in
/-- The way to a device hangs on the hops of both ports alone. -/
theorem State.penHops_congr {t : State} (h : ∀ p, (t.penPort p).hops = (s.penPort p).hops) (w d : Nat) : t.penHops w d = s.penHops w d := by
  unfold State.penHops; rw [h]

variable {s} in
theorem State.penRoute_congr {t : State} (h : ∀ p, (t.penPort p).hops = (s.penPort p).hops) (d : Nat) : t.penRoute d = s.penRoute d := by
  unfold State.penRoute; rw [State.penHops_congr h, State.penHops_congr h]

theorem State.penHops_pos {w d n : Nat} (h : s.penHops w d = some n) : 1 ≤ n := by
  unfold State.penHops at h
  obtain ⟨x, _, rfl⟩ := Option.map_eq_some_iff.mp h
  omega

/-- A device heard on a port directly is one hop away (R448). -/
theorem State.penHops_neighbour {w d : Nat} (hw : w < 2) (h : (s.penPort w).hops.head? = some (d, 0)) :
    s.penHops (s.penRoute d) d = some 1 := by
  have hhere : s.penHops w d = some 1 := by
    obtain ⟨l, hl⟩ := List.head?_eq_some_iff.mp h
    unfold State.penHops
    rw [hl, List.find?_cons_of_pos (by simp)]
    rfl
  obtain rfl | rfl : w = 0 ∨ w = 1 := by omega
  · have hroute : s.penRoute d = 0 := by
      unfold State.penRoute
      rw [hhere]
      cases h1 : s.penHops 1 d with
      | none => rfl
      | some b => exact if_neg (by have := s.penHops_pos h1; omega)
    rw [hroute, hhere]
  · cases h0 : s.penHops 0 d with
    | none =>
      have hroute : s.penRoute d = 1 := by unfold State.penRoute; rw [h0, hhere]
      rw [hroute, hhere]
    | some a =>
      have hpos := s.penHops_pos h0
      have hroute : s.penRoute d = if 1 < a then 1 else 0 := by unfold State.penRoute; rw [h0, hhere]
      rw [hroute]
      split
      · exact hhere
      · rw [h0]; congr; omega

-- the master

/-- PH_STAT's HOPS follows the master; the rest of it and of the registers stands. -/
theorem State.masterHops_holds : let t := s.masterHops
    t.fget F.PH_STAT_HOPS =
      (if s.penRole = rlMASTER then 0 else (s.penHops (s.penRoute (s.fget F.PH_STAT_MASTER)) (s.fget F.PH_STAT_MASTER)).getD 0) % 8 ∧
    t.penRole = s.penRole ∧ t.fget F.PH_STAT_MASTER = s.fget F.PH_STAT_MASTER ∧ (∀ a, a ≠ 0x180044 → t.reg a = s.reg a) ∧
    t.pen = s.pen ∧ t.sky = s.sky ∧ t.cic = s.cic :=
  ⟨State.fget_fput_same _ F.PH_STAT_HOPS _ (by decide), State.fget_fput_other _ F.PH_STAT_HOPS F.PH_STAT_ROLE _ (by decide) (by decide),
    State.fget_fput_other _ F.PH_STAT_HOPS F.PH_STAT_MASTER _ (by decide) (by decide),
    fun _ ha => State.reg_fput_other _ F.PH_STAT_HOPS _ ha, rfl, rfl, rfl⟩

/-- The master is device `d` in role `r`, before anything follows (R449). -/
def State.appoint (s : State) (d r : Nat) : State :=
  ((({ s with pen.elect := false } : State).fput F.PH_STAT_MASTER d).fput F.PH_STAT_ROLE r).masterHops

/-- Does the master or this device's part in the group change? -/
def State.newMaster (s : State) (d r : Nat) : Bool :=
  decide (s.fget F.PH_STAT_MASTER ≠ d) || (decide (s.penRole = rlMASTER) != decide (r = rlMASTER)) || decide (s.penRole = rlNONE)

theorem State.setMaster_eq (d r : Nat) : s.setMaster d r =
    ((s.appoint d r).when (s.newMaster d r) (·.evRise 0x180 1)).when
      (((s.appoint d r).when (s.newMaster d r) (·.evRise 0x180 1)).follower && ((s.appoint d r).when (s.newMaster d r) (·.evRise 0x180 1)).scOn)
      (·.setF fsNOFIX) := rfl

/-- What the choice of device `d` for the master in role `r` leaves. -/
structure Mastered (d r : Nat) (s t : State) : Prop where
  role : t.penRole = r
  master : t.fget F.PH_STAT_MASTER = d
  hops : t.fget F.PH_STAT_HOPS = (if r = rlMASTER then 0 else (s.penHops (s.penRoute d) d).getD 0) % 8
  regs : ∀ a, PenAside a → a ≠ 0x180044 → a ≠ 0x18001C → t.reg a = s.reg a
  ports : t.pen.ports = s.pen.ports
  sky : t.sky = s.sky

theorem State.appoint_mastered {d r : Nat} (hd : d < 8) (hr : r < 4) : Mastered d r s (s.appoint d r) := by
  have hmaster : ((({ s with pen.elect := false } : State).fput F.PH_STAT_MASTER d).fput F.PH_STAT_ROLE r).fget F.PH_STAT_MASTER = d := by
    rw [State.fget_fput_other _ _ _ _ (by decide) (by decide), State.fget_fput_same _ _ _ (by decide)]
    exact Nat.mod_eq_of_lt hd
  have hrole : ((({ s with pen.elect := false } : State).fput F.PH_STAT_MASTER d).fput F.PH_STAT_ROLE r).penRole = r :=
    (State.fget_fput_same _ F.PH_STAT_ROLE _ (by decide)).trans (Nat.mod_eq_of_lt hr)
  have hreg {a : Nat} (h : a ≠ 0x180044) :
      ((({ s with pen.elect := false } : State).fput F.PH_STAT_MASTER d).fput F.PH_STAT_ROLE r).reg a = s.reg a :=
    (State.reg_fput_other _ F.PH_STAT_ROLE _ h).trans (State.reg_fput_other { s with pen.elect := false } F.PH_STAT_MASTER _ h)
  have hports : ((({ s with pen.elect := false } : State).fput F.PH_STAT_MASTER d).fput F.PH_STAT_ROLE r).pen.ports = s.pen.ports := rfl
  have hsky : ((({ s with pen.elect := false } : State).fput F.PH_STAT_MASTER d).fput F.PH_STAT_ROLE r).sky = s.sky := rfl
  unfold State.appoint
  generalize (({ s with pen.elect := false } : State).fput F.PH_STAT_MASTER d).fput F.PH_STAT_ROLE r = v at *
  have hhops (p : Nat) : (v.penPort p).hops = (s.penPort p).hops := by unfold State.penPort; rw [hports]
  obtain ⟨hh, hro, hma, hre, hpe, hsk, -⟩ := v.masterHops_holds
  refine ⟨hro.trans hrole, hma.trans hmaster, ?_, fun a _ ha _ => (hre a ha).trans (hreg ha), (congrArg PenSt.ports hpe).trans hports, hsk.trans hsky⟩
  rw [hh, hrole, hmaster, State.penHops_congr hhops, State.penRoute_congr hhops]

variable {s} in
/-- What follows a choice of master leaves it. -/
theorem Mastered.follows {d r : Nat} {t u : State} (h : Mastered d r s t) (h' : Follows t u) : Mastered d r s u := by
  have hstat : PenAside 0x180044 := by unfold PenAside; decide
  refine ⟨(h'.fget hstat).trans h.role, (h'.fget hstat).trans h.master, (h'.fget hstat).trans h.hops,
    fun a ha h1 h2 => (h'.keeps.regs a ha).trans (h.regs a ha h1 h2), ?_, ?_⟩
  · exact (congrArg (fun x : PenSt × SkySt => x.1.ports) h'.keeps.view :).trans h.ports
  · exact (congrArg Prod.snd h'.keeps.view :).trans h.sky

variable {s} in
theorem Mastered.rise {d r : Nat} {t : State} (h : Mastered d r s t) : Mastered d r s (t.evRise 0x180 1) := by
  have hreg {a : Nat} (ha : a ≠ 0x18001C) : (t.evRise 0x180 1).reg a = t.reg a := State.reg_evRise_other _ _ _ ha
  refine ⟨(State.fget_congr (hreg (by decide))).trans h.role, (State.fget_congr (hreg (by decide))).trans h.master,
    (State.fget_congr (hreg (by decide))).trans h.hops, fun a ha h1 h2 => (hreg h2).trans (h.regs a ha h1 h2), ?_, ?_⟩
  · exact (congrArg PenSt.ports (t.evRise_pen _ _)).trans h.ports
  · exact (t.evRise_sky _ _).trans h.sky

theorem State.setMaster_holds {d r : Nat} (hd : d < 8) (hr : r < 4) : Mastered d r s (s.setMaster d r) ∧
    (s.newMaster d r = true → Rises s (s.setMaster d r) 0x180 1) := by
  have hmade := s.appoint_mastered hd hr
  rw [s.setMaster_eq]
  generalize s.appoint d r = t at *
  have hrose : Mastered d r s (t.when (s.newMaster d r) (·.evRise 0x180 1)) ∧
      (s.newMaster d r = true → Rises s (t.when (s.newMaster d r) (·.evRise 0x180 1)) 0x180 1) := by
    unfold State.when
    split
    · exact ⟨hmade.rise, fun _ => .of_evRise (by decide) (hmade.regs _ (by unfold PenAside; decide) (by decide) (by decide))⟩
    · next h => exact ⟨hmade, fun h' => absurd h' h⟩
  generalize t.when (s.newMaster d r) (·.evRise 0x180 1) = u at *
  have hfollow : Follows u (u.when (u.follower && u.scOn) (·.setF fsNOFIX)) := .when fun _ => u.setF_follows fsNOFIX
  exact ⟨hrose.1.follows hfollow, fun h => hfollow.rises _ _ _ (by decide) (hrose.2 h)⟩

end

-- HELLO (R448, R449)

section
variable (s : State)

/-- The neighbour at `addr` is known behind port `w`, with the devices it hears (R448). -/
def State.greet (s : State) (w addr : Nat) (hops : List (Nat × Nat)) : State :=
  (((s.updPen w fun x => { x with hops := (addr, 0) :: hops.filter fun h => decide (h.1 ≠ addr ∧ h.1 ≠ devAddr s) }).fputB
    (F.PP_STAT_NBRV w) true).fput (F.PP_STAT_NBR w) addr).topo

variable {s} in
theorem State.hello_eq {addr : Nat} (h : addr ≠ devAddr s) (w role : Nat) (hops : List (Nat × Nat)) : s.hello w addr role hops =
    if role = rlMASTER ∧ (s.greet w addr hops).follows addr then (s.greet w addr hops).setMaster addr rlFOLLOWER
    else (s.greet w addr hops).masterHops := if_neg h

/-- What a HELLO leaves before the master is judged. -/
structure Greeted (w addr : Nat) (s t : State) : Prop where
  valid : t.flag (F.PP_STAT_NBRV w) = true
  neighbour : t.fget (F.PP_STAT_NBR w) = addr
  present : (t.fget F.PH_TOPO_PRES).testBit addr = true
  self : (t.fget F.PH_TOPO_PRES).testBit (devAddr s) = true
  head : (t.penPort w).hops.head? = some (addr, 0)

/-- What a HELLO leaves of the rest. -/
structure GreetKept (w : Nat) (s t : State) : Prop where
  role : t.penRole = s.penRole
  master : t.fget F.PH_STAT_MASTER = s.fget F.PH_STAT_MASTER
  regs : ∀ a, a ≠ (F.PP_STAT_NBR w).addr → a ≠ 0x180044 → a ≠ 0x180048 → t.reg a = s.reg a
  elect : t.pen.elect = s.pen.elect
  syncT : t.pen.syncT = s.pen.syncT
  sky : t.sky = s.sky

theorem State.devAddr_lt : devAddr s < 8 := s.fget_lt F.SYS_STRAP_DEVADDR

variable {s} in
theorem State.devAddr_congr {t : State} (h : t.reg 0x00104C = s.reg 0x00104C) : devAddr t = devAddr s := State.fget_congr h

theorem PP_STAT_NBRV_addr (w : Nat) : (F.PP_STAT_NBRV w).addr = (F.PP_STAT_NBR w).addr := by simp only [F.PP_STAT_NBRV, F.PP_STAT_NBR]

theorem State.greet_holds {w addr : Nat} (hw : w < 2) (ha : addr < 8) (hops : List (Nat × Nat)) :
    Greeted w addr s (s.greet w addr hops) ∧ GreetKept w s (s.greet w addr hops) := by
  have hhead : ((s.updPen w fun x => { x with hops := (addr, 0) :: hops.filter fun h => decide (h.1 ≠ addr ∧ h.1 ≠ devAddr s) }).penPort
      w).hops.head? = some (addr, 0) := by rw [State.penPort_updPen_same]; rfl
  unfold State.greet
  generalize hu : s.updPen w (fun x => { x with hops := (addr, 0) :: hops.filter fun h => decide (h.1 ≠ addr ∧ h.1 ≠ devAddr s) }) = u at *
  have hreg (a : Nat) : u.reg a = s.reg a := by rw [← hu]; rfl
  have hpen : u.pen.elect = s.pen.elect ∧ u.pen.syncT = s.pen.syncT ∧ u.sky = s.sky := by rw [← hu]; exact ⟨rfl, rfl, rfl⟩
  have hv : ((u.fputB (F.PP_STAT_NBRV w) true).fput (F.PP_STAT_NBR w) addr).flag (F.PP_STAT_NBRV w) = true := by
    unfold State.flag
    rw [State.fget_fput_other _ _ _ _ (show 3 ≤ 32 by decide) (.inr (.inr (show 4 + 3 ≤ 7 by decide)))]
    exact State.flag_fputB_same u _ true (show 7 + 1 ≤ 32 by decide) (show 0 < 1 by decide)
  have hn : ((u.fputB (F.PP_STAT_NBRV w) true).fput (F.PP_STAT_NBR w) addr).fget (F.PP_STAT_NBR w) = addr :=
    (State.fget_fput_same _ _ _ (show 4 + 3 ≤ 32 by decide)).trans (Nat.mod_eq_of_lt ha)
  have hother {a : Nat} (h : a ≠ (F.PP_STAT_NBR w).addr) : ((u.fputB (F.PP_STAT_NBRV w) true).fput (F.PP_STAT_NBR w) addr).reg a = s.reg a :=
    ((State.reg_fput_other _ (F.PP_STAT_NBR w) _ h).trans (State.reg_fput_other _ (F.PP_STAT_NBRV w) _ (by rwa [PP_STAT_NBRV_addr]))).trans (hreg a)
  have hpens : ((u.fputB (F.PP_STAT_NBRV w) true).fput (F.PP_STAT_NBR w) addr).pen = u.pen := rfl
  have hskys : ((u.fputB (F.PP_STAT_NBRV w) true).fput (F.PP_STAT_NBR w) addr).sky = u.sky := rfl
  generalize (u.fputB (F.PP_STAT_NBRV w) true).fput (F.PP_STAT_NBR w) addr = v at *
  have hdev : devAddr v = devAddr s := State.devAddr_congr (hother (by simp only [F.PP_STAT_NBR]; omega))
  have hport : (v.penPort w).hops.head? = some (addr, 0) := by rw [State.penPort_congr hpens]; exact hhead
  have hstat {f : Fld} (h : f.addr = (F.PP_STAT_NBR w).addr) : v.topo.fget f = v.fget f :=
    State.fget_congr (v.topo_reg (by rw [h]; simp only [F.PP_STAT_NBR]; omega) (by rw [h]; simp only [F.PP_STAT_NBR]; omega))
  have hpstat {f : Fld} (h : f.addr = 0x180044) (hf : f.lo + f.w ≤ 4 ∨ 5 ≤ f.lo) : v.topo.fget f = s.fget f :=
    (v.topo_stat f h hf).trans (State.fget_congr (hother (by rw [h]; simp only [F.PP_STAT_NBR]; omega)))
  refine ⟨⟨?_, (hstat rfl).trans hn, ?_, ?_, by rw [State.penPort_congr v.topo_pen]; exact hport⟩, ?_, ?_, ?_, (congrArg PenSt.elect hpens).trans hpen.1,
    (congrArg PenSt.syncT hpens).trans hpen.2.1, hskys.trans hpen.2.2⟩
  · unfold State.flag at hv ⊢
    rwa [hstat (PP_STAT_NBRV_addr w)]
  · rw [v.topo_pres ha]
    have hmem : addr ∈ (v.penPort w).hops.map Prod.fst := by
      obtain ⟨l, hl⟩ := List.head?_eq_some_iff.mp hport
      rw [hl]; exact .head _
    unfold State.present
    obtain rfl | rfl : w = 0 ∨ w = 1 := by omega
    · rw [List.contains_iff_mem.mpr hmem]; simp
    · rw [List.contains_iff_mem.mpr hmem]; simp
  · rw [v.topo_pres s.devAddr_lt]
    unfold State.present
    rw [hdev]; simp
  · exact hpstat rfl (.inl (by decide))
  · exact hpstat rfl (.inr (by decide))
  · exact fun a h1 h2 h3 => (v.topo_reg h2 h3).trans (hother h1)

variable {s} in
/-- Choosing a master, or its hops, leaves what a HELLO says of the neighbour. -/
theorem Greeted.of_kept {w addr : Nat} (hw : w < 2) {t u : State} (h : Greeted w addr s t)
    (hreg : ∀ a, PenAside a → a ≠ 0x180044 → a ≠ 0x18001C → u.reg a = t.reg a) (hports : u.pen.ports = t.pen.ports) : Greeted w addr s u := by
  have hstat : u.reg (F.PP_STAT_NBR w).addr = t.reg (F.PP_STAT_NBR w).addr :=
    hreg _ (by simp only [PenAside, F.PP_STAT_NBR]; omega) (by simp only [F.PP_STAT_NBR]; omega) (by simp only [F.PP_STAT_NBR]; omega)
  have htopo : u.fget F.PH_TOPO_PRES = t.fget F.PH_TOPO_PRES := State.fget_congr (hreg _ (by unfold PenAside; decide) (by decide) (by decide))
  refine ⟨(State.flag_congr (by rwa [PP_STAT_NBRV_addr])).trans h.valid, (State.fget_congr hstat).trans h.neighbour, ?_, ?_, ?_⟩
  · rw [htopo]; exact h.present
  · rw [htopo]; exact h.self
  · unfold State.penPort
    rw [hports]
    exact h.head

end

section
variable {s : State}

theorem State.now_congr {t : State} (h : t.sky = s.sky) : t.now = s.now := by unfold State.now; rw [h]

/-- When a device takes one that says it serves for its master (R449). -/
theorem State.follows_iff (addr : Nat) : s.follows addr = true ↔ (if s.penRole = rlMASTER then addr < devAddr s
    else s.penRole = rlNONE ∨ s.fget F.PH_STAT_MASTER = addr ∨ s.pen.elect = true ∨ s.pen.syncT.getD 0 + 2 * sec ≤ s.now) := by
  unfold State.follows State.syncSilent
  split
  · exact decide_eq_true_iff
  · simp [or_assoc]

theorem GreetKept.follows {w : Nat} (hw : w < 2) {t : State} (h : GreetKept w s t) (addr : Nat) : t.follows addr = s.follows addr := by
  have hdev : devAddr t = devAddr s :=
    State.devAddr_congr (h.regs _ (by simp only [F.PP_STAT_NBR]; omega) (by decide) (by decide))
  unfold State.follows State.syncSilent
  rw [h.role, h.master, h.elect, h.syncT, hdev, State.now_congr h.sky]

/-- HELLO from the own address (R448). -/
theorem State.hello_own {w : Nat} (hw : w < 2) {addr : Nat} (h : addr = devAddr s) (role : Nat) (hops : List (Nat × Nat)) :
    let u := s.hello w addr role hops
    u.flag (PG_FAULT 0x180 0) = true ∧ Rises s u 0x180 2 ∧ u.penState w = ptDOWN ∧ u.penRole = s.penRole := by
  have heq : s.hello w addr role hops = ((s.fault phPage 0).evRise phPage 2).setPort w ptDOWN := if_pos h
  rw [heq]
  have hfault : ((s.fault phPage 0).evRise phPage 2).flag (PG_FAULT 0x180 0) = true :=
    (State.flag_evRise_other _ _ _ _ (by decide)).trans (s.flag_fault 0x180 (by decide))
  have hrise : Rises s ((s.fault phPage 0).evRise phPage 2) 0x180 2 := .of_evRise (by decide) (State.reg_fput_other _ _ _ (by decide))
  have hrole : ((s.fault phPage 0).evRise phPage 2).penRole = s.penRole :=
    State.fget_congr ((State.reg_evRise_other _ _ _ (by decide)).trans (State.reg_fput_other _ _ _ (by decide)))
  generalize (s.fault phPage 0).evRise phPage 2 = t at *
  obtain ⟨hstate, hregs, hrises⟩ := t.setPort_holds hw (st := ptDOWN) (by decide)
  have hreg {a : Nat} (ha : a / 4096 = 0x180) (hne : a ≠ 0x18001C) : (t.setPort w ptDOWN).reg a = t.reg a :=
    hregs a (by unfold PenAside; omega) (by simp only [F.PP_STAT_STATE]; omega) hne
  exact ⟨(State.flag_congr (hreg (by decide) (by decide))).trans hfault, hrises s _ _ (by decide) hrise, hstate,
    (State.fget_congr (hreg (by decide) (by decide))).trans hrole⟩

/-- HELLO from another device (R448, R449). -/
theorem State.hello_other {w : Nat} (hw : w < 2) {addr : Nat} (ha : addr < 8) (h : addr ≠ devAddr s) (role : Nat) (hops : List (Nat × Nat)) :
    let u := s.hello w addr role hops
    Greeted w addr s u ∧
    (role = rlMASTER → s.follows addr = true → u.penRole = rlFOLLOWER ∧ u.fget F.PH_STAT_MASTER = addr ∧ u.fget F.PH_STAT_HOPS = 1 ∧
      (s.penRole = rlNONE ∨ s.penRole = rlMASTER ∨ s.fget F.PH_STAT_MASTER ≠ addr → Rises s u 0x180 1)) ∧
    (role ≠ rlMASTER ∨ s.follows addr ≠ true → u.penRole = s.penRole ∧ u.fget F.PH_STAT_MASTER = s.fget F.PH_STAT_MASTER) := by
  obtain ⟨hgreet, hkept⟩ := s.greet_holds hw ha hops
  rw [State.hello_eq h, hkept.follows hw]
  generalize s.greet w addr hops = t at *
  dsimp only
  split
  · next hm =>
    obtain ⟨hmade, hrose⟩ := t.setMaster_holds (d := addr) (r := rlFOLLOWER) ha (by decide)
    refine ⟨hgreet.of_kept hw hmade.regs hmade.ports, fun _ _ => ⟨hmade.role, hmade.master, ?_, fun hc => ?_⟩, fun hn => ?_⟩
    · refine hmade.hops.trans ?_
      rw [if_neg (by decide), t.penHops_neighbour hw hgreet.head]
      rfl
    · have heven : t.reg (0x180 * 4096 + 0x018) = s.reg (0x180 * 4096 + 0x018) :=
        hkept.regs _ (by simp only [F.PP_STAT_NBR]; omega) (by decide) (by decide)
      have hnew : t.newMaster addr rlFOLLOWER = true := by
        unfold State.newMaster
        rw [hkept.role, hkept.master]
        rcases hc with hc | hc | hc <;> simp [hc, rlNONE, rlMASTER, rlFOLLOWER]
      intro he
      exact hrose hnew ((State.flag_congr (f := PG_EVEN 0x180 1) heven).trans he)
    · exact (hn.elim (· hm.1) (· hm.2)).elim
  · next hm =>
    obtain ⟨-, hrole, hmaster, hregs, hpen, -, -⟩ := t.masterHops_holds
    refine ⟨hgreet.of_kept hw (fun a _ h1 _ => hregs a h1) (congrArg PenSt.ports hpen), fun hr hf => absurd ⟨hr, hf⟩ hm, fun _ => ?_⟩
    exact ⟨hrole.trans hkept.role, hmaster.trans hkept.master⟩

-- a peer lost (R301, R445)

/-- The hops by way of `d` go from port `w`. -/
def State.dropPeer (s : State) (d w : Nat) : State :=
  let s := s.updPen w fun x => { x with hops := x.hops.filter fun h => decide (h.1 ≠ d) }
  if s.fget (F.PP_STAT_NBR w) = d then s.fputB (F.PP_STAT_NBRV w) false else s

theorem State.peerLost_eq (s : State) (d : Nat) :
    s.peerLost d = ((((s.dropPeer d 0).dropPeer d 1).topo).clientLost .penEast d).clientLost .penWest d := rfl

theorem State.dropPeer_holds (s : State) (d w : Nat) : (s.dropPeer d w).tn = s.tn ∧
    ∀ p, ((s.dropPeer d w).penPort p).hops =
      if p = w then (s.penPort p).hops.filter (fun h => decide (h.1 ≠ d)) else (s.penPort p).hops := by
  have hport (p : Nat) : ((s.updPen w fun x => { x with hops := x.hops.filter fun h => decide (h.1 ≠ d) }).penPort p).hops =
      if p = w then (s.penPort p).hops.filter (fun h => decide (h.1 ≠ d)) else (s.penPort p).hops := by
    rw [State.penPort_updPen]
    split
    · next e => rw [e]
    · rfl
  unfold State.dropPeer
  extract_lets t
  split
  · exact ⟨rfl, hport⟩
  · exact ⟨rfl, hport⟩

theorem State.peerLost_holds (s : State) (d : Nat) : (∀ p < 2, ∀ h ∈ ((s.peerLost d).penPort p).hops, h.1 ≠ d) ∧
    ∀ k, (s.tenant k).live = true → (s.tenant k).port = .penEast ∨ (s.tenant k).port = .penWest → (s.tenant k).client = d →
      ((s.peerLost d).tenant k).state = .closing := by
  obtain ⟨htn0, hports0⟩ := s.dropPeer_holds d 0
  obtain ⟨htn1, hports1⟩ := (s.dropPeer d 0).dropPeer_holds d 1
  have htn : (((s.dropPeer d 0).dropPeer d 1).topo).tn = s.tn := htn1.trans htn0
  have hpen := ((s.dropPeer d 0).dropPeer d 1).topo_pen
  rw [State.peerLost_eq]
  generalize (s.dropPeer d 0).dropPeer d 1 = u at *
  obtain ⟨heast, hclosedE⟩ := u.topo.clientLost_holds .penEast d
  obtain ⟨hwest, hclosedW⟩ := (u.topo.clientLost .penEast d).clientLost_holds .penWest d
  have htenant (k : Nat) : u.topo.tenant k = s.tenant k := State.tenant_congr (congrArg TnSt.tenants htn) k
  refine ⟨fun p hp h hh => ?_, fun k hl hp hc => ?_⟩
  · rw [State.penPort_congr ((hwest.pen.trans heast.pen).trans hpen), hports1, hports0] at hh
    obtain rfl | rfl : p = 0 ∨ p = 1 := by omega
    · exact of_decide_eq_true (List.mem_filter.mp hh).2
    · exact of_decide_eq_true (List.mem_filter.mp hh).2
  · rw [← htenant k] at hl hp hc
    rcases hp with hp | hp
    · exact hwest.closed (hclosedE k hl hp hc)
    · rcases heast.state k with e | e
      · refine hclosedW k ?_ ((heast.bound k).1.trans hp) ((heast.bound k).2.trans hc)
        unfold Tenant.live at hl ⊢
        rwa [e]
      · exact hwest.closed e

-- the claim and the loss of the master (R43, R449, R452)

theorem exec_masterClaim (h1 : s.penOn = true) (h2 : s.flag F.PH_CTL_MASTEREN = true) (h3 : s.penRole ≠ rlMASTER)
    (h4 : s.pen.syncT.getD 0 + ms (2000 + 100 * devAddr s) ≤ s.now) : exec .masterClaim s =
    .next ((if s.skyState = skFOLLOW then s.skyEnter skHOLDOVER else s).setMaster
      (devAddr (if s.skyState = skFOLLOW then s.skyEnter skHOLDOVER else s)) rlMASTER) :=
  congrArg Host.Outcome.next (if_pos ⟨h1, h2, h3, h4⟩)

/-- A device that claims the master's part, from a state in which it may already coast. -/
theorem State.claim_holds {t : State} (hregs : ∀ a, a / 4096 ≠ 0x110 → t.reg a = s.reg a) (hrole : s.penRole ≠ rlMASTER) :
    let u := t.setMaster (devAddr t) rlMASTER
    u.penRole = rlMASTER ∧ u.fget F.PH_STAT_MASTER = devAddr s ∧ u.fget F.PH_STAT_HOPS = 0 ∧ Rises s u 0x180 1 ∧ u.skyState = t.skyState := by
  have hdev : devAddr t = devAddr s := State.devAddr_congr (hregs _ (by decide))
  have hrole' : t.penRole = s.penRole := State.fget_congr (hregs _ (by decide))
  obtain ⟨hmade, hrose⟩ := t.setMaster_holds (d := devAddr t) (r := rlMASTER) t.devAddr_lt (by decide)
  have hnew : t.newMaster (devAddr t) rlMASTER = true := by
    unfold State.newMaster
    rw [hrole']
    simp [hrole]
  refine ⟨hmade.role, hmade.master.trans hdev, hmade.hops, fun he => hrose hnew ?_, ?_⟩
  · exact (State.flag_congr (f := PG_EVEN 0x180 1) (hregs _ (by decide))).trans he
  · exact State.fget_congr (hmade.regs _ (by unfold PenAside; decide) (by decide) (by decide))

theorem masterClaim_holds (h1 : s.penOn = true) (h2 : s.flag F.PH_CTL_MASTEREN = true) (h3 : s.penRole ≠ rlMASTER)
    (h4 : s.pen.syncT.getD 0 + ms (2000 + 100 * devAddr s) ≤ s.now) : Completes .masterClaim s fun u =>
      u.penRole = rlMASTER ∧ u.fget F.PH_STAT_MASTER = devAddr s ∧ u.fget F.PH_STAT_HOPS = 0 ∧ Rises s u 0x180 1 ∧
      (s.skyState = skFOLLOW → u.skyState = skHOLDOVER) ∧ (s.skyState ≠ skFOLLOW → u.skyState = s.skyState) := by
  refine .of_exec (exec_masterClaim h1 h2 h3 h4) ?_
  by_cases hf : s.skyState = skFOLLOW
  · rw [if_pos hf]
    obtain ⟨hstate, -, -, -, -, -, -, hregs⟩ := State.skyEnter_heldOver (s := s) (by rw [hf]; decide)
    obtain ⟨hrole, hmaster, hhops, hrise, hsky⟩ := State.claim_holds (s := s) (t := s.skyEnter skHOLDOVER)
      (fun a ha => hregs a (by simp only [List.mem_cons, List.not_mem_nil, or_false]; omega)) h3
    exact ⟨hrole, hmaster, hhops, hrise, fun _ => hsky.trans hstate, fun hn => absurd hf hn⟩
  · rw [if_neg hf]
    obtain ⟨hrole, hmaster, hhops, hrise, hsky⟩ := State.claim_holds (s := s) (t := s) (fun _ _ => rfl) h3
    exact ⟨hrole, hmaster, hhops, hrise, fun h => absurd h hf, fun _ => hsky⟩

/-- Has a time been silent for `n`? -/
theorem silent_iff (o : Option Nat) (n m : Nat) : (o.all fun t => decide (t + n ≤ m)) = true ↔ ∀ t, o = some t → t + n ≤ m := by
  cases o <;> simp

theorem State.masterSilent_iff : s.masterSilent = true ↔
    (s.penOn = true → ∀ p < 2, ∀ t, (s.penPort p).timeT = some t → t + ms 10 ≤ s.now) := by
  unfold State.masterSilent
  generalize ms 10 = n
  rw [List.all_eq_true]
  refine ⟨fun h hon p hp => (silent_iff _ n _).mp ?_, fun h p hp => ?_⟩
  · have hmem : p ∈ [0, 1] := by simp only [List.mem_cons, List.not_mem_nil, or_false]; omega
    have := h p hmem
    rwa [hon] at this
  · cases hon : s.penOn
    · rfl
    · exact (silent_iff _ n _).mpr (h hon p (by simp only [List.mem_cons, List.not_mem_nil, or_false] at hp; omega))

end

end Sys2Proof.Machine
end

section
/-! Penholt's time: TIME words and the delay exchange (24: R445, R450, R451; 03: R43, R45, R47). -/

namespace Sys2Proof.Machine

section
variable (s : State)

/-- What the correction of an offset leaves: the state, and all registers outside page SKY. -/
structure Corrected (s t : State) : Prop where
  state : t.skyState = s.skyState
  regs : ∀ a, a / 4096 ≠ 0x110 → t.reg a = s.reg a

theorem Corrected.trans {s t u : State} (h : Corrected s t) (h' : Corrected t u) : Corrected s u :=
  ⟨h'.state.trans h.state, fun a ha => (h'.regs a ha).trans (h.regs a ha)⟩

theorem Corrected.setSky {s t : State} (h : Corrected s t) (x : SkySt) : Corrected s { t with sky := x } := ⟨h.state, h.regs⟩

theorem State.setOfs_corrected (b : Bool) : Corrected s (s.setOfs b) :=
  ⟨State.fget_fput_other _ F.SKY_STATE_TIMEERR F.SKY_STATE_STATE _ (by decide) (by decide),
    fun _ ha => State.reg_fput_other _ F.SKY_STATE_TIMEERR _ fun e => ha (by rw [e]; decide)⟩

theorem State.steerInc_corrected (i : Int) : Corrected s (s.steerInc i) := by
  have h := s.steerInc_steered i
  refine ⟨h.state, fun a ha => h.regs a ?_⟩
  simp only [steerRegs, List.mem_cons, List.not_mem_nil, or_false]
  omega

theorem State.skyStepBy_corrected (d : Int) : Corrected s (s.skyStepBy d) := by
  obtain ⟨w, ht, hregs, -⟩ := s.skyStepBy_eq d
  have hreg (a : Nat) : w.reg a = s.reg a := by unfold State.reg; rw [hregs]
  have hother {a : Nat} (h : a ≠ 0x110094) (h' : a ≠ 0x11001C) : ((w.finc F.DISC_STEPS).evRise 0x110 1).reg a = s.reg a :=
    ((State.reg_evRise_other _ _ _ h').trans (State.reg_fput_other _ F.DISC_STEPS _ h)).trans (hreg a)
  rw [ht]
  refine Corrected.trans ⟨State.fget_congr (hother (by decide) (by decide)), fun a ha => hother ?_ ?_⟩ (State.setOfs_corrected _ _)
  · omega
  · omega

theorem State.slew_corrected (off : Int) : Corrected s (s.slew off) := by
  unfold State.slew
  extract_lets lim rate t
  exact Corrected.setSky (t := t) (s.steerInc_corrected _) _

end

section
variable {s : State}

/-- The registers of FOLLOW, entered from any state. -/
theorem State.skyEnter_follow : (s.skyEnter skFOLLOW).skyState = skFOLLOW ∧
    ∀ a, a ≠ F.SKY_STATE_STATE.addr → a ≠ 0x11001C → (s.skyEnter skFOLLOW).reg a = s.reg a := by
  by_cases h : s.skyState = skFOLLOW
  · have heq : s.skyEnter skFOLLOW = s := if_pos h
    rw [heq]
    exact ⟨h, fun _ _ _ => rfl⟩
  · have heq : s.skyEnter skFOLLOW = (s.fput F.SKY_STATE_STATE skFOLLOW).evRise 0x110 0 := if_neg h
    rw [heq]
    exact ⟨(State.fget_evRise_other _ _ _ _ (by decide)).trans (State.fget_fput_same _ _ _ (by decide)),
      fun a h1 h2 => (State.reg_evRise_other _ _ _ h2).trans (State.reg_fput_other _ _ _ h1)⟩

/-- Master time leaves STEERED alone (R43). -/
theorem State.timeInput_steered (h : s.skyState = skSTEERED) (off base : Int) (unc : Nat) : s.timeInput true off base unc = s := if_pos h

/-- Held over with an offset above STEPTHR and no AUTOSTEP, the clock stays so, with OFS (R45, R474). -/
theorem State.timeInput_refused (h : s.skyState = skHOLDOVER) {off : Int} (hbig : s.stepThr < off.natAbs)
    (hauto : s.flag F.SKY_CTL_AUTOSTEP = false) (base : Int) (unc : Nat) :
    s.timeInput true off base unc = (s.setOfs true).evRise 0x110 3 := by
  have hst : ¬ s.skyState = (if (true : Bool) = true then skSTEERED else skFOLLOW) := by rw [h]; decide
  have hc : s.skyState = skHOLDOVER ∧ decide (s.stepThr < off.natAbs) = true ∧ ¬ s.flag F.SKY_CTL_AUTOSTEP = true :=
    ⟨h, decide_eq_true hbig, by rw [hauto]; exact Bool.false_ne_true⟩
  exact (if_neg hst).trans (if_pos hc)

/-- The clock after the correction of an offset at the rate `base` (R45). -/
def State.correct (s : State) (off base : Int) : State :=
  let big := decide (s.stepThr < off.natAbs)
  let u := if big then s else s.setOfs false
  let u := { u with sky.base := base.toNat }
  if s.skyState = skUNSTEERED ∨ (s.skyState = skHOLDOVER ∧ big) then { (u.steerInc base).skyStepBy (-off) with sky.slewLeft := 0 }
  else u.slew off

theorem State.correct_corrected (s : State) (off base : Int) : Corrected s (s.correct off base) := by
  unfold State.correct
  extract_lets big u _ v x y
  have hu : Corrected s u := by
    unfold u
    split
    · exact ⟨rfl, fun _ _ => rfl⟩
    · exact s.setOfs_corrected false
  have hv : Corrected s v := hu.setSky _
  split
  · exact ((hv.trans (v.steerInc_corrected base)).trans (State.skyStepBy_corrected _ _)).setSky _
  · exact hv.trans (v.slew_corrected off)

/-- Otherwise the clock is corrected and follows (R45, R47). -/
theorem State.timeInput_follow (hst : s.skyState ≠ skSTEERED) {off : Int}
    (h : s.skyState ≠ skHOLDOVER ∨ off.natAbs ≤ s.stepThr ∨ s.flag F.SKY_CTL_AUTOSTEP = true) (base : Int) (unc : Nat) :
    s.timeInput true off base unc = ((s.correct off base).fput F.UNC (min unc 0xFFFFFFFF)).skyEnter skFOLLOW := by
  have hc : ¬ (s.skyState = skHOLDOVER ∧ decide (s.stepThr < off.natAbs) = true ∧ ¬ s.flag F.SKY_CTL_AUTOSTEP = true) := by
    rintro ⟨h1, h2, h3⟩
    rcases h with h | h | h
    · exact h h1
    · have := of_decide_eq_true h2; omega
    · exact h3 h
  have hne : ¬ s.skyState = (if (true : Bool) = true then skSTEERED else skFOLLOW) := hst
  exact (if_neg hne).trans (if_neg hc)

theorem State.timeInput_follows (hst : s.skyState ≠ skSTEERED) {off : Int}
    (h : s.skyState ≠ skHOLDOVER ∨ off.natAbs ≤ s.stepThr ∨ s.flag F.SKY_CTL_AUTOSTEP = true) (base : Int) {unc : Nat} (hu : unc < 2 ^ 32) :
    let t := s.timeInput true off base unc
    t.skyState = skFOLLOW ∧ t.fget F.UNC = unc ∧ ∀ a, a / 4096 ≠ 0x110 → t.reg a = s.reg a := by
  rw [State.timeInput_follow hst h]
  have hcorr := s.correct_corrected off base
  generalize s.correct off base = t at *
  obtain ⟨hstate, hregs⟩ := (t.fput F.UNC (min unc 0xFFFFFFFF)).skyEnter_follow
  refine ⟨hstate, ?_, fun a ha => ?_⟩
  · rw [State.fget_congr (hregs _ (by decide) (by decide)), State.fget_fput_same _ _ _ (by decide)]
    simp only [F.UNC]
    omega
  · have ha' : a ≠ 0x110040 ∧ a ≠ 0x11001C ∧ a ≠ 0x110068 := by omega
    exact ((hregs a ha'.1 ha'.2.1).trans (State.reg_fput_other _ F.UNC _ ha'.2.2)).trans (hcorr.regs a ha)

-- TIME words (R451)

/-- A device that hears master time follows the master. -/
def State.enslave (s : State) : State :=
  if s.follower then s else ((s.fput F.PH_STAT_ROLE rlFOLLOWER).masterHops).when s.scOn (·.setF fsNOFIX)

theorem State.enslave_holds (s : State) : s.enslave.penRole = rlFOLLOWER ∧ s.enslave.sky = s.sky ∧
    ∀ a, PenAside a → a ≠ 0x180044 → s.enslave.reg a = s.reg a := by
  unfold State.enslave
  split
  · next h => exact ⟨of_decide_eq_true h, rfl, fun _ _ _ => rfl⟩
  have hrole : (s.fput F.PH_STAT_ROLE rlFOLLOWER).penRole = rlFOLLOWER := State.fget_fput_same _ F.PH_STAT_ROLE _ (by decide)
  have hreg {a : Nat} (h : a ≠ 0x180044) : (s.fput F.PH_STAT_ROLE rlFOLLOWER).reg a = s.reg a := State.reg_fput_other _ F.PH_STAT_ROLE _ h
  have hsky : (s.fput F.PH_STAT_ROLE rlFOLLOWER).sky = s.sky := rfl
  generalize s.fput F.PH_STAT_ROLE rlFOLLOWER = t at *
  obtain ⟨-, hrole', -, hreg', -, hsky', -⟩ := t.masterHops_holds
  have hfollow : Follows t.masterHops (t.masterHops.when s.scOn (·.setF fsNOFIX)) := .when fun _ => State.setF_follows _ _
  refine ⟨?_, (congrArg Prod.snd hfollow.keeps.view :).trans (hsky'.trans hsky),
    fun a ha h => (hfollow.keeps.regs a ha).trans ((hreg' a h).trans (hreg h))⟩
  exact (hfollow.fget (f := F.PH_STAT_ROLE) (by unfold PenAside; decide)).trans (hrole'.trans hrole)

/-- The offset that the master time `t` of a word on port `w` gives (R450, R451). -/
def State.wordOffset (s : State) (w t : Nat) : Int := (s.now : Int) - ((t : Int) + ofPs (s.fget (F.PP_DELAY_PS w)))

/-- The state before the Sky Clock takes an offset. -/
def State.offsetShown (s : State) (off : Int) : State := s.enslave.fput F.PH_OFS (unsigned 32 (psOf off))

/-- The clock after the master time `t` of a word on port `w`. -/
def State.takeTime (s : State) (w t : Nat) : State :=
  let off := s.wordOffset w t
  let m := ((t : Int) + ofPs (s.fget (F.PP_DELAY_PS w))).toNat * 2 ^ 32
  let u := s.offsetShown off
  let v := u.timeInput true off (u.masterBase m) ((40 * u.fget F.PH_STAT_HOPS + 999) / 1000)
  { v with sky.master := some (m, v.sky.smp) }

/-- Port `w` has just had a TIME word. -/
def State.heardTime (s : State) (w : Nat) : State := s.updPen w fun x => { x with timeT := some s.now }

theorem State.timeWord_other {w : Nat} (t : Nat) (h : s.penRole = rlMASTER ∨ ¬ (s.heardTime w).timePort w = true) :
    s.timeWord w t = s.heardTime w := if_pos h

theorem State.timeWord_taken {w : Nat} (t : Nat) (hr : s.penRole ≠ rlMASTER) (hp : (s.heardTime w).timePort w = true) :
    s.timeWord w t = (s.heardTime w).takeTime w t := by
  have hc : ¬ ((s.heardTime w).penRole = rlMASTER ∨ ¬ (s.heardTime w).timePort w = true) := fun h => h.elim hr (· hp)
  exact if_neg hc

theorem unsigned_lt (w : Nat) (v : Int) : unsigned w v < 2 ^ w := by
  unfold unsigned
  have hp : (0 : Int) < 2 ^ w := Int.pow_pos (by decide)
  have h1 := Int.emod_nonneg v hp.ne'
  have h2 := Int.emod_lt_of_pos v hp
  rw [Int.toNat_lt h1]
  exact_mod_cast h2

/-- What a device shows before its clock takes an offset. -/
theorem State.offsetShown_holds (s : State) (off : Int) : let u := s.offsetShown off
    u.fget F.PH_OFS = unsigned 32 (psOf off) ∧ u.penRole = rlFOLLOWER ∧ u.sky = s.sky ∧
    ∀ a, PenAside a → a ≠ 0x180044 → a ≠ 0x18004C → u.reg a = s.reg a := by
  obtain ⟨hrole, hsky, hregs⟩ := s.enslave_holds
  unfold State.offsetShown
  generalize s.enslave = t at *
  exact ⟨(State.fget_fput_same _ F.PH_OFS _ (by decide)).trans (Nat.mod_eq_of_lt (unsigned_lt 32 _)),
    (State.fget_fput_other _ F.PH_OFS F.PH_STAT_ROLE _ (by decide) (by decide)).trans hrole, hsky,
    fun a ha h1 h2 => (State.reg_fput_other _ F.PH_OFS _ h2).trans (hregs a ha h1)⟩

/-- What the clock does with a master time leaves what Penholt shows. -/
theorem State.timeInput_regs (off base : Int) {unc : Nat} (hu : unc < 2 ^ 32) (a : Nat) (ha : a / 4096 ≠ 0x110) :
    (s.timeInput true off base unc).reg a = s.reg a := by
  by_cases hst : s.skyState = skSTEERED
  · rw [State.timeInput_steered hst]
  by_cases h : s.skyState ≠ skHOLDOVER ∨ off.natAbs ≤ s.stepThr ∨ s.flag F.SKY_CTL_AUTOSTEP = true
  · exact (State.timeInput_follows hst h base hu).2.2 a ha
  · obtain ⟨h1, h2, h3⟩ : s.skyState = skHOLDOVER ∧ s.stepThr < off.natAbs ∧ s.flag F.SKY_CTL_AUTOSTEP = false := by
      simp only [not_or, not_not, Bool.not_eq_true, not_le] at h
      exact h
    rw [State.timeInput_refused h1 h2 h3]
    exact (State.reg_evRise_other _ _ _ (by omega)).trans ((s.setOfs_corrected true).regs a ha)

/-- What the clock of `s` is in `t` after an offset of master time (R43, R45, R47). -/
structure TimeTaken (off : Int) (s t : State) : Prop where
  steered : s.skyState = skSTEERED → t.skyState = skSTEERED ∧ t.sky.time = s.sky.time
  follows : s.skyState ≠ skSTEERED → s.skyState ≠ skHOLDOVER ∨ off.natAbs ≤ s.stepThr ∨ s.flag F.SKY_CTL_AUTOSTEP = true →
    t.skyState = skFOLLOW ∧ t.fget F.UNC = (40 * t.fget F.PH_STAT_HOPS + 999) / 1000
  refused : s.skyState = skHOLDOVER → s.stepThr < off.natAbs → s.flag F.SKY_CTL_AUTOSTEP = false →
    t.skyState = skHOLDOVER ∧ t.sky.time = s.sky.time

theorem State.timeInput_taken (s : State) (off base : Int) :
    TimeTaken off s (s.timeInput true off base ((40 * s.fget F.PH_STAT_HOPS + 999) / 1000)) ∧
    ∀ a, a / 4096 ≠ 0x110 → (s.timeInput true off base ((40 * s.fget F.PH_STAT_HOPS + 999) / 1000)).reg a = s.reg a := by
  have hhops := s.fget_lt F.PH_STAT_HOPS
  have hunc : (40 * s.fget F.PH_STAT_HOPS + 999) / 1000 < 2 ^ 32 := by
    change s.fget F.PH_STAT_HOPS < 2 ^ 3 at hhops
    omega
  refine ⟨⟨fun h => ?_, fun hne h => ?_, fun h h1 h2 => ?_⟩, State.timeInput_regs off base hunc⟩
  · rw [State.timeInput_steered h]
    exact ⟨h, rfl⟩
  · obtain ⟨hstate, hu, hregs⟩ := State.timeInput_follows hne h base hunc
    exact ⟨hstate, hu.trans (by rw [State.fget_congr (hregs F.PH_STAT_HOPS.addr (by decide))])⟩
  · rw [State.timeInput_refused h h1 h2]
    refine ⟨?_, (congrArg SkySt.time (State.evRise_sky (s.setOfs true) 0x110 3) :)⟩
    exact (State.fget_evRise_other _ _ _ _ (by decide)).trans ((s.setOfs_corrected true).state.trans h)

/-- A master time taken (R43, R45, R47, R451). -/
theorem State.takeTime_holds (s : State) (w t : Nat) : (s.takeTime w t).fget F.PH_OFS = unsigned 32 (psOf (s.wordOffset w t)) ∧
    (s.takeTime w t).penRole = rlFOLLOWER ∧ TimeTaken (s.wordOffset w t) s (s.takeTime w t) := by
  unfold State.takeTime
  extract_lets off m v u
  obtain ⟨hofs, hrole, hsky, hregs⟩ := s.offsetShown_holds off
  obtain ⟨htaken, hkept⟩ := v.timeInput_taken off (v.masterBase m)
  have hstate : v.skyState = s.skyState := State.fget_congr (hregs _ (by unfold PenAside; decide) (by decide) (by decide))
  have hthr : v.stepThr = s.stepThr := by
    unfold State.stepThr
    rw [State.fget_congr (hregs F.SKY_CTL_STEPTHR.addr (by unfold PenAside; decide) (by decide) (by decide))]
  have hauto : v.flag F.SKY_CTL_AUTOSTEP = s.flag F.SKY_CTL_AUTOSTEP :=
    State.flag_congr (hregs _ (by unfold PenAside; decide) (by decide) (by decide))
  have hv : TimeTaken off s u := by
    refine ⟨?_, ?_, ?_⟩
    · rw [← hstate, ← hsky]; exact htaken.steered
    · rw [← hstate, ← hthr, ← hauto]; exact htaken.follows
    · rw [← hstate, ← hthr, ← hauto, ← hsky]; exact htaken.refused
  exact ⟨(State.fget_congr (hkept _ (by decide))).trans hofs, (State.fget_congr (hkept _ (by decide))).trans hrole,
    hv.steered, hv.follows, hv.refused⟩

/-- TIME words complete (R451). -/
theorem State.penUp_on {w : Nat} (h : (s.penOn && decide (s.penState w = ptUP)) = true) (f : State → State) : s.penUp w f = f s := by
  rw [Bool.and_eq_true, decide_eq_true_eq] at h
  exact if_pos h

theorem State.heardTime_hops (s : State) (w p : Nat) : ((s.heardTime w).penPort p).hops = (s.penPort p).hops := by
  unfold State.heardTime
  rw [State.penPort_updPen]
  split
  · next e => rw [e]
  · rfl

/-- Which port TIME words are taken from does not change with one on port `w` itself. -/
theorem State.heardTime_timePort (s : State) {w : Nat} (hw : w < 2) : (s.heardTime w).timePort w = s.timePort w := by
  have hother : (s.heardTime w).penPort (1 - w) = s.penPort (1 - w) := (s.penPort_updPen w (1 - w) _).trans (if_neg (by omega))
  have hroute := State.penRoute_congr (s := s) (t := s.heardTime w) (s.heardTime_hops w)
  unfold State.timePort
  dsimp only
  rw [hother, hroute]
  rfl

theorem time_other {west : Bool} {t : BitVec 96} (hup : (s.penOn && decide (s.penState (penIdx west) = ptUP)) = true)
    (h : s.penRole = rlMASTER ∨ s.timePort (penIdx west) = false) : Completes (.time west t) s fun u =>
      (u.penPort (penIdx west)).timeT = some s.now ∧ u.sky = s.sky ∧ u.regs = s.regs := by
  have hw : penIdx west < 2 := by unfold penIdx; split <;> decide
  have hother : s.timeWord (penIdx west) t.toNat = s.heardTime (penIdx west) := by
    refine State.timeWord_other _ (h.imp id fun h => ?_)
    rw [s.heardTime_timePort hw, h]
    exact Bool.false_ne_true
  refine .of_exec (congrArg Host.Outcome.next (State.penUp_on hup _)) ?_
  rw [hother]
  exact ⟨congrArg PenPort.timeT (s.penPort_updPen_same _ _), rfl, rfl⟩

theorem time_taken {west : Bool} {t : BitVec 96} (hup : (s.penOn && decide (s.penState (penIdx west) = ptUP)) = true)
    (hr : s.penRole ≠ rlMASTER) (hp : s.penRoute (s.fget F.PH_STAT_MASTER) = penIdx west) : Completes (.time west t) s fun u =>
      u.fget F.PH_OFS = unsigned 32 (psOf (s.wordOffset (penIdx west) t.toNat)) ∧ u.penRole = rlFOLLOWER ∧
      TimeTaken (s.wordOffset (penIdx west) t.toNat) s u := by
  have hw : penIdx west < 2 := by unfold penIdx; split <;> decide
  have hport : (s.heardTime (penIdx west)).timePort (penIdx west) = true := by
    rw [s.heardTime_timePort hw]
    unfold State.timePort
    dsimp only
    rw [decide_eq_true hp, Bool.true_or]
  refine .of_exec (congrArg Host.Outcome.next (State.penUp_on hup _)) ?_
  rw [State.timeWord_taken _ hr hport]
  obtain ⟨hofs, hrole, htaken⟩ := (s.heardTime (penIdx west)).takeTime_holds (penIdx west) t.toNat
  exact ⟨hofs, hrole, htaken.steered, htaken.follows, htaken.refused⟩

-- the delay exchange (R445, R450)

/-- A port that has sent a REQ. -/
def PenPort.asked (x : PenPort) : PenPort :=
  { x with dseq := (x.dseq + 1) % 65536, dwait := true, sent := x.sent ++ [(3, [0, (x.dseq + 1) % 65536])] }

theorem State.delayReq_holds (s : State) (w : Nat) : (s.delayReq w).regs = s.regs ∧ ∀ p, (s.delayReq w).penPort p =
    if p = w ∧ s.penOn = true ∧ s.penState w = ptUP then (s.penPort w).asked else s.penPort p := by
  unfold State.delayReq
  split
  · next h =>
    have hsend : (s.updPen w fun x => { x with dseq := ((s.penPort w).dseq + 1) % 65536, dwait := true }).penSend w 3
        [0, ((s.penPort w).dseq + 1) % 65536] =
        (s.updPen w fun x => { x with dseq := ((s.penPort w).dseq + 1) % 65536, dwait := true }).updPen w
          fun x => putPen x 3 [0, ((s.penPort w).dseq + 1) % 65536] := if_pos h.2
    dsimp only
    rw [hsend]
    refine ⟨rfl, fun p => ?_⟩
    rw [State.penPort_updPen, State.penPort_updPen_same, State.penPort_updPen]
    by_cases hp : p = w
    · rw [if_pos hp, if_pos ⟨hp, h⟩]
      rfl
    · rw [if_neg hp, if_neg hp, if_neg fun e => hp e.1]
  · next h => exact ⟨rfl, fun p => (if_neg fun e => h e.2).symm⟩

theorem delayReqTimer_holds : Completes .delayReqTimer s fun u => ∀ p < 2,
    u.penPort p = if s.penOn = true ∧ s.penState p = ptUP then (s.penPort p).asked else s.penPort p := by
  refine .of_exec rfl fun p hp => ?_
  obtain ⟨hregs0, hport0⟩ := s.delayReq_holds 0
  obtain ⟨-, hport1⟩ := (s.delayReq 0).delayReq_holds 1
  have hreg (a : Nat) : (s.delayReq 0).reg a = s.reg a := by unfold State.reg; rw [hregs0]
  have hon : (s.delayReq 0).penOn = s.penOn := by
    unfold State.penOn State.domPowered State.domState
    rw [State.fget_congr (hreg _), State.flag_congr (hreg _)]
  have hst : (s.delayReq 0).penState 1 = s.penState 1 := State.fget_congr (hreg _)
  simp only [hport1, hport0, hon, hst]
  obtain rfl | rfl : p = 0 ∨ p = 1 := by omega
  · simp
  · simp

theorem delayReq_holds {west : Bool} {q : Half} {t2 t3 : BitVec 96} (hup : (s.penOn && decide (s.penState (penIdx west) = ptUP)) = true) :
    Completes (.delayReq west q t2 t3) s fun u => (u.penPort (penIdx west)).sent = (s.penPort (penIdx west)).sent ++
      [(3, [1, q.toNat, unsigned 32 (psOf ((t3.toNat : Int) - t2.toNat))])] ∧ u.regs = s.regs := by
  have hst : s.penState (penIdx west) = ptUP := by
    rw [Bool.and_eq_true, decide_eq_true_eq] at hup
    exact hup.2
  refine .of_exec (congrArg Host.Outcome.next ((State.penUp_on hup _).trans (if_pos hst))) ⟨?_, rfl⟩
  exact congrArg PenPort.sent (s.penPort_updPen_same _ _)

theorem delayRsp_holds {west : Bool} {q : Half} {t1 t4 : BitVec 96} {turn : Int}
    (hup : (s.penOn && decide (s.penState (penIdx west) = ptUP)) = true) :
    let x := s.penPort (penIdx west)
    let l := ((psOf ((t4.toNat : Int) - t1.toNat) - turn) / 2 :: x.delays).take 64
    (x.dwait = true → x.dseq = q.toNat → Completes (.delayRsp west q t1 t4 turn) s fun u =>
      (u.penPort (penIdx west)).delays = l ∧ (u.penPort (penIdx west)).dwait = false ∧
        u.fget (F.PP_DELAY_PS (penIdx west)) = unsigned 24 (roundDiv l.sum l.length)) ∧
    (x.dwait = false ∨ x.dseq ≠ q.toNat → exec (.delayRsp west q t1 t4 turn) s = .next s) := by
  intro x l
  have hex : exec (.delayRsp west q t1 t4 turn) s = .next (s.delayRsp (penIdx west) q.toNat t1.toNat t4.toNat turn) :=
    congrArg Host.Outcome.next (State.penUp_on hup _)
  refine ⟨fun hd hq => .of_exec (hex.trans (congrArg Host.Outcome.next (if_pos ⟨hd, hq⟩))) ⟨?_, ?_, ?_⟩,
    fun h => hex.trans (congrArg Host.Outcome.next (if_neg fun hc => ?_))⟩
  · exact congrArg PenPort.delays (Tab.get_set_same (fun _ => ({} : PenPort)) s.pen.ports (penIdx west) { x with dwait := false, delays := l })
  · exact congrArg PenPort.dwait (Tab.get_set_same (fun _ => ({} : PenPort)) s.pen.ports (penIdx west) { x with dwait := false, delays := l })
  · exact (State.fget_fput_same _ (F.PP_DELAY_PS (penIdx west)) _ (show 0 + 24 ≤ 32 by decide)).trans (Nat.mod_eq_of_lt (unsigned_lt 24 _))
  · exact h.elim (fun h => Bool.false_ne_true (h.symm.trans hc.1)) fun h => h hc.2

end

/-- Settles O45: a clause per command, PEER_LOST by what a cleanup keeps of every other tenant. -/
theorem penholtSharesTimeAndTopology : Obligations.PenholtSharesTimeAndTopology := by
  unfold Obligations.PenholtSharesTimeAndTopology
  intro s west w dev up master
  have hw : w < 2 := by unfold w penIdx; split <;> decide
  refine ⟨?_, fun d => ⟨fun h => congrArg Host.Outcome.next (if_neg (by rw [h]; exact Bool.false_ne_true)), fun h => ?_⟩, ?_, fun h => congrArg Host.Outcome.next (if_pos h), fun h => congrArg Host.Outcome.next (if_neg (by rw [h]; exact Bool.false_ne_true)), ?_⟩
  · intro addr men role hops c takes
    refine ⟨fun h => congrArg Host.Outcome.next (if_neg (by rw [h]; exact Bool.false_ne_true)),
      fun h ha => .of_exec (congrArg Host.Outcome.next (if_pos h)) (State.hello_own hw ha role.val _),
      fun h ha => .of_exec (congrArg Host.Outcome.next (if_pos h)) ?_⟩
    obtain ⟨⟨hv, hn, hp, hs, hh⟩, hfollow, hstay⟩ := State.hello_other hw addr.isLt ha role.val (hops.map fun h => (h.1.val, h.2.val))
    refine ⟨hv, hn, hp, hs, hh, fun hr ht => hfollow hr ((State.follows_iff _).mpr ht), fun hn => hstay (hn.imp_right fun hn hf => ?_)⟩
    exact hn ((State.follows_iff _).mp hf)
  · obtain ⟨hhops, hclosed⟩ := s.peerLost_holds d.val
    exact .of_exec (congrArg Host.Outcome.next (if_pos h)) ⟨hhops, fun k _ => hclosed k⟩
  · intro due
    refine ⟨fun h1 h2 h3 h4 => masterClaim_holds h1 h2 h3 h4, fun h => congrArg Host.Outcome.next (if_neg fun hc => ?_)⟩
    obtain ⟨h1, h2, h3, h4⟩ := hc
    rcases h with h | h | h | h
    · exact Bool.false_ne_true (h.symm.trans h1)
    · exact Bool.false_ne_true (h.symm.trans h2)
    · exact h3 h
    · exact Nat.not_le_of_lt h h4
  · intro silent
    refine ⟨fun h => congrArg Host.Outcome.next (if_neg fun hc => ?_), fun hf hs => ?_, fun t hup => ⟨fun h => time_other hup h, fun hr hp => ?_⟩,
      ?_, fun q t2 t3 hup => delayReq_holds hup, fun q t1 t4 turn hup => delayRsp_holds hup⟩
    · exact h.elim (· hc.1) fun h => h (State.masterSilent_iff.mp hc.2)
    · obtain ⟨hstate, -, -, htime, hrise, -⟩ := State.skyEnter_heldOver (s := s) (by rw [hf]; decide)
      exact .of_exec (congrArg Host.Outcome.next (if_pos ⟨hf, State.masterSilent_iff.mpr hs⟩)) ⟨hstate, htime, hrise⟩
    · obtain ⟨u, hex, hofs, hrole, htaken⟩ := time_taken (t := t) hup hr hp
      exact ⟨u, hex, hofs, hrole, htaken.steered, htaken.follows, htaken.refused⟩
    · obtain ⟨u, hex, hports⟩ := delayReqTimer_holds (s := s)
      refine ⟨u, hex, fun p hp => ?_⟩
      have hport := hports p hp
      split at hport
      · next hc => rw [if_pos hc]; exact hport
      · next hc => rw [if_neg hc]; exact hport

end Sys2Proof.Machine
end

section
/-! Schedule orders of tenants: SCHED and UNSCHED (03: R56, R63; 16: R320, R322). -/

namespace Sys2Proof.Machine

-- what a reply leaves

section
variable {s : State} {k op seq code : Nat} {res : List Byte}

theorem State.reply_armed {i : Nat} (hi : i < 512) : (s.reply k op seq code res).armed i = s.armed i := by
  refine State.mapBit_congr (f := F.ARMED) (s.reply_reg k op seq code res fun h => ?_)
  have ha : (F.ARMED (i / 32)).addr = 0x112040 + 4 * (i / 32) := rfl
  omega

theorem State.reply_sched : (s.reply k op seq code res).sched = s.sched := (congrArg State.sched (s.reply_work k op seq code res).rest :)

theorem State.reply_fired {i : Nat} (hi : i < 512) : (s.reply k op seq code res).mapBit F.FIRED i = s.mapBit F.FIRED i := by
  refine State.mapBit_congr (f := F.FIRED) (s.reply_reg k op seq code res fun h => ?_)
  have ha : (F.FIRED (i / 32)).addr = 0x112080 + 4 * (i / 32) := rfl
  omega

/-- A command refused before anything is done. -/
theorem Answers.refused {c : Instr} (h : s.accepts k seq) {f : State → Done × State} {P : State → Prop}
    (hc : exec c s = .next (s.command k op seq f)) (hf : f (s.taken k seq) = (.reply code res, s.taken k seq))
    (hP : P ((s.taken k seq).reply k op seq code res)) : Answers c s k op seq code res P :=
  .of_reply h hc hf (by rw [State.taken_tenant]) hP

end

-- the staging registers (R56)

/-- E_ACT, E_ARG and E_PER. -/
def eActReg : RegDef := ⟨0x058, 1, 4, [⟨20, 4, .RW, 0⟩, ⟨16, 1, .RW, 0⟩, ⟨0, 12, .RW, 0⟩]⟩
def eArgReg : RegDef := ⟨0x05C, 1, 4, [⟨0, 32, .RW, 0⟩]⟩
def ePerReg : RegDef := ⟨0x060, 1, 4, [⟨31, 1, .RW, 0⟩, ⟨0, 31, .RW, 0⟩]⟩

section
variable (s : State) (v : Word)

theorem State.store_eAct : s.store 0x111 0x058 v = s.setReg 0x111058 (eActReg.write (s.reg 0x111058) v) := by
  obtain ⟨-, r, i, j, n, hr, hd⟩ := regKind_block (show regKind 0x111 0x058 = some (.block eActReg) by decide)
  exact State.store_block v s hr hd

theorem State.store_eArg : s.store 0x111 0x05C v = s.setReg 0x11105C (eArgReg.write (s.reg 0x11105C) v) := by
  obtain ⟨-, r, i, j, n, hr, hd⟩ := regKind_block (show regKind 0x111 0x05C = some (.block eArgReg) by decide)
  exact State.store_block v s hr hd

theorem State.store_ePer : s.store 0x111 0x060 v = s.setReg 0x111060 (ePerReg.write (s.reg 0x111060) v) := by
  obtain ⟨-, r, i, j, n, hr, hd⟩ := regKind_block (show regKind 0x111 0x060 = some (.block ePerReg) by decide)
  exact State.store_block v s hr hd

/-- The whole of E_ARG is written. -/
theorem eArgReg_write (old : Word) : eArgReg.write old v = v := by
  have h := RegDef.write_rw_field (d := eArgReg) (lo := 0) (w := 32) (by decide) (by decide) (by decide) old v
  simp only [Nat.pow_zero, Nat.div_one] at h
  rw [Nat.mod_eq_of_lt (eArgReg.write old v).isLt, Nat.mod_eq_of_lt v.isLt] at h
  exact BitVec.eq_of_toNat_eq h

theorem eActReg_write_owner (old : Word) : (eActReg.write old v).toNat % 4096 = v.toNat % 4096 := by
  have h := RegDef.write_rw_field (d := eActReg) (lo := 0) (w := 12) (by decide) (by decide) (by decide) old v
  simpa using h

theorem eActReg_write_action (old : Word) : (eActReg.write old v).toNat / 2 ^ 20 % 16 = v.toNat / 2 ^ 20 % 16 :=
  RegDef.write_rw_field (d := eActReg) (lo := 20) (w := 4) (by decide) (by decide) (by decide) old v

end

/-- The action word of an order: the tenant is its owner (R320). -/
def orderAct (act : Word) (k : Nat) : Word := BitVec.ofNat 32 (act.toNat / 4096 * 4096 + k)

theorem orderAct_toNat (act : Word) {k : Nat} (hk : k < 4096) : (orderAct act k).toNat = act.toNat / 4096 * 4096 + k := by
  have := act.isLt
  exact Nat.mod_eq_of_lt (by omega)

/-- An order for entry `i` in the staging registers. -/
def State.stageOrder (s : State) (i k : Nat) (t2 t1 t0 act arg per : Word) : State :=
  let s := ((s.fput F.SCHED_IDX_IDX i).setReg (F.E_T 0).addr t2).setReg (F.E_T 1).addr t1
  let s := s.setReg (F.E_T 2).addr t0
  let s := (s.store 0x111 0x058 (orderAct act k)).store 0x111 0x05C arg
  s.store 0x111 0x060 per

theorem State.stageOrder_tn (s : State) (i k : Nat) (t2 t1 t0 act arg per : Word) : (s.stageOrder i k t2 t1 t0 act arg per).tn = s.tn := by
  unfold State.stageOrder
  dsimp only
  rw [State.store_eAct, State.store_eArg, State.store_ePer]
  simp only [State.setReg_tn, State.fput_tn]

/-- What the staging registers hold then. -/
structure Staged (i k t : Nat) (act arg : Word) (u : State) : Prop where
  idx : u.fget F.SCHED_IDX_IDX = i
  time : u.get96 F.E_T = t
  action : u.fget F.E_ACT_ACTION = act.toNat / 2 ^ 20 % 16
  owner : (u.reg F.E_ACT_ACTION.addr).toNat % 4096 = k
  arg : u.reg F.E_ARG.addr = arg

theorem State.stageOrder_holds (s : State) {i k : Nat} (hi : i < 512) (hk : k < 4096) (t2 t1 t0 act arg per : Word) :
    Staged i k (t2.toNat * 2 ^ 64 + t1.toNat * 2 ^ 32 + t0.toNat) act arg (s.stageOrder i k t2 t1 t0 act arg per) ∧
    OnlyRegs s (s.stageOrder i k t2 t1 t0 act arg per) [0x111040, 0x11104C, 0x111050, 0x111054, 0x111058, 0x11105C, 0x111060] := by
  unfold State.stageOrder
  extract_lets u v w
  have hv : OnlyRegs s v [0x111040, 0x11104C, 0x111050, 0x111054, 0x111058, 0x11105C, 0x111060] :=
    ((((OnlyRegs.refl s _).fput F.SCHED_IDX_IDX i (by decide)).setReg _ t2 (by decide)).setReg _ t1 (by decide)).setReg _ t0 (by decide)
  have hidx : v.fget F.SCHED_IDX_IDX = i := by
    have hreg : v.reg 0x111040 = (s.fput F.SCHED_IDX_IDX i).reg 0x111040 := by
      simp only [v, u, State.reg_setReg]
      rfl
    exact (State.fget_congr hreg).trans ((s.fget_fput_same F.SCHED_IDX_IDX i (by decide)).trans (Nat.mod_eq_of_lt hi))
  have htime : v.reg (F.E_T 0).addr = t2 ∧ v.reg (F.E_T 1).addr = t1 ∧ v.reg (F.E_T 2).addr = t0 := by
    simp only [v, u, State.reg_setReg]
    exact ⟨rfl, rfl, rfl⟩
  have hw : w = (v.setReg 0x111058 (eActReg.write (v.reg 0x111058) (orderAct act k))).setReg 0x11105C arg := by
    unfold w
    rw [State.store_eAct, State.store_eArg, eArgReg_write]
  clear_value v
  have hother {a : Nat} (h1 : a ≠ 0x111058) (h2 : a ≠ 0x11105C) (h3 : a ≠ 0x111060) : (w.store 0x111 0x060 per).reg a = v.reg a := by
    rw [State.store_ePer, State.reg_setReg_other _ h3, hw, State.reg_setReg_other _ h2, State.reg_setReg_other _ h1]
  have hact : (w.store 0x111 0x060 per).reg 0x111058 = eActReg.write (v.reg 0x111058) (orderAct act k) := by
    rw [State.store_ePer, State.reg_setReg_other _ (by decide), hw, State.reg_setReg_other _ (by decide), State.reg_setReg_same]
  have harg : (w.store 0x111 0x060 per).reg 0x11105C = arg := by
    rw [State.store_ePer, State.reg_setReg_other _ (by decide), hw, State.reg_setReg_same]
  have honly : OnlyRegs s (w.store 0x111 0x060 per) [0x111040, 0x11104C, 0x111050, 0x111054, 0x111058, 0x11105C, 0x111060] := by
    rw [State.store_ePer, hw]
    exact ((hv.setReg _ _ (by decide)).setReg _ _ (by decide)).setReg _ _ (by decide)
  have hval := orderAct_toNat act hk
  generalize w.store 0x111 0x060 per = x at *
  refine ⟨⟨(State.fget_congr (hother (by decide) (by decide) (by decide))).trans hidx, ?_, ?_, ?_, harg⟩, honly⟩
  · have hword (f : Fld) (hf : f.lo = 0 ∧ f.w = 32) {t : Word} (h : x.reg f.addr = t) : x.fget f = t.toNat := by
      unfold State.fget
      rw [h, hf.1, hf.2, Nat.pow_zero, Nat.div_one, Nat.mod_eq_of_lt t.isLt]
    unfold State.get96
    rw [hword (F.E_T 0) ⟨rfl, rfl⟩ ((hother (by decide) (by decide) (by decide)).trans htime.1),
      hword (F.E_T 1) ⟨rfl, rfl⟩ ((hother (by decide) (by decide) (by decide)).trans htime.2.1),
      hword (F.E_T 2) ⟨rfl, rfl⟩ ((hother (by decide) (by decide) (by decide)).trans htime.2.2)]
  · refine (congrArg (fun r : Word => r.toNat / 2 ^ 20 % 16) hact).trans ((eActReg_write_action _ _).trans ?_)
    rw [hval]
    omega
  · refine (congrArg (fun r : Word => r.toNat % 4096) hact).trans ((eActReg_write_owner _ _).trans ?_)
    rw [hval]
    omega

-- arming leaves the tenants

theorem State.armEntry_tn (s : State) (i t : Nat) (act arg per : Word) : (s.armEntry i t act arg per).tn = s.tn := by
  have hb : Blind fun x : State => x.tn := ⟨fun _ _ => rfl, fun _ _ => rfl⟩
  unfold State.armEntry
  extract_lets e e' free w v u x
  have hw : w.tn = s.tn := by
    unfold w
    split
    · next j _ => exact (congrArg State.tn (s.joinCmp_holds j).1.view :)
    · rfl
  have hu : u.tn = s.tn := hw
  have hx : x = u.freshBits i := rfl
  clear_value u x
  subst hx
  have hk : Keeps (fun y : State => y.tn) anyReg (u.freshBits i) ((u.freshBits i).when (decide (free = 511)) (·.evRise 0x111 4)) :=
    .when fun _ => (Keeps.refl _).evRise hb _ _ id
  exact hk.view.trans hu

theorem State.schedWrite_tn (s : State) : s.schedWrite.tn = s.tn := by
  by_cases h : s.armed (s.fget F.SCHED_IDX_IDX) = true ∨ s.wordsBad = true
  · exact (congrArg State.tn (s.refusal_holds _ _ (State.schedWrite_refused h)).2.2.2.1 :)
  · rw [not_or, Bool.not_eq_true, Bool.not_eq_true] at h
    rw [State.schedWrite_accepted h.1 h.2]
    exact State.armEntry_tn _ _ _ _ _ _

-- SCHED

section
variable {s : State} {k i : Nat} {t2 t1 t0 act arg per : Word}

/-- What SCHED does once its order has been written. -/
def State.ordered (v : State) (i : Nat) : Done × State :=
  if v.flag F.SCHED_STAT_REFUSED then (.reply cREFUSED (leBytes 2 1), v) else (.reply cOK (leBytes 2 i), v)

theorem State.schedule_words : s.schedule k [t2, t1, t0, act, arg, per] =
    if ¬ s.schedRight k (act.toNat / 2 ^ 20 % 16) arg.toNat = true then done cRIGHTS s
    else match s.freeEntry with
      | none => done cSCHEDFULL s
      | some i => (s.stageOrder i k t2 t1 t0 act arg per).schedWrite.ordered i := by
  have hact : argWord [t2, t1, t0, act, arg, per] 3 = act.toNat := rfl
  have harg : argWord [t2, t1, t0, act, arg, per] 4 = arg.toNat := rfl
  unfold State.schedule
  dsimp only
  rw [hact, harg]
  generalize s.schedRight k (act.toNat / 2 ^ 20 % 16) arg.toNat = right
  generalize s.freeEntry = free
  cases right with
  | false => rw [if_pos (by decide), if_pos (by decide)]
  | true =>
    rw [if_neg (by decide), if_neg (by decide)]
    cases free with
    | none => rfl
    | some i => rfl

theorem State.schedule_rights (h : s.schedRight k (act.toNat / 2 ^ 20 % 16) arg.toNat = false) :
    s.schedule k [t2, t1, t0, act, arg, per] = (.reply cRIGHTS [], s) := by
  have hc : ¬ s.schedRight k (act.toNat / 2 ^ 20 % 16) arg.toNat = true := by rw [h]; exact Bool.false_ne_true
  rw [State.schedule_words, if_pos hc]
  rfl

theorem State.schedule_full (hr : s.schedRight k (act.toNat / 2 ^ 20 % 16) arg.toNat = true) (h : ∀ i < 512, s.armed i = true) :
    s.schedule k [t2, t1, t0, act, arg, per] = (.reply cSCHEDFULL [], s) := by
  have hfree : s.freeEntry = none := List.find?_eq_none.mpr fun i hi => by rw [h i (List.mem_range.mp hi)]; decide
  rw [State.schedule_words, if_neg (not_not_intro hr), hfree]
  rfl

theorem State.schedule_free (hr : s.schedRight k (act.toNat / 2 ^ 20 % 16) arg.toNat = true) (hi : i < 512) (hf : s.armed i = false)
    (hl : ∀ j < i, s.armed j = true) : s.schedule k [t2, t1, t0, act, arg, per] = (s.stageOrder i k t2 t1 t0 act arg per).schedWrite.ordered i := by
  have hfree : s.freeEntry = some i := by
    refine List.find?_range_eq_some.mpr ⟨by rw [hf]; rfl, List.mem_range.mpr hi, fun j hj => ?_⟩
    rw [hl j hj]; rfl
  rw [State.schedule_words, if_neg (not_not_intro hr), hfree]

theorem State.stageOrder_armed (hi : i < 512) (hk : k < 4096) {j : Nat} (_ : j < 512) : (s.stageOrder i k t2 t1 t0 act arg per).armed j = s.armed j := by
  obtain ⟨-, honly⟩ := s.stageOrder_holds hi hk t2 t1 t0 act arg per
  refine State.mapBit_congr (f := F.ARMED) (honly.2 _ ?_)
  have ha : (F.ARMED (j / 32)).addr = 0x112040 + 4 * (j / 32) := rfl
  simp only [List.mem_cons, List.not_mem_nil, or_false]
  omega

variable (hi : i < 512) (hk : k < 4096) (hf : s.armed i = false)
include hi hk hf

/-- An order with a reserved action is refused, and arms nothing (R57). -/
theorem State.order_refused (h : act.toNat / 2 ^ 20 % 16 = 0 ∨ 7 ≤ act.toNat / 2 ^ 20 % 16) :
    let v := (s.stageOrder i k t2 t1 t0 act arg per).schedWrite
    v.ordered i = (.reply cREFUSED (leBytes 2 1), v) ∧ v.armed i = false := by
  obtain ⟨hstaged, -⟩ := s.stageOrder_holds hi hk t2 t1 t0 act arg per
  have harmed := State.stageOrder_armed (s := s) (t2 := t2) (t1 := t1) (t0 := t0) (act := act) (arg := arg) (per := per) hi hk hi
  generalize s.stageOrder i k t2 t1 t0 act arg per = u at *
  have hbad : u.wordsBad = true := by
    unfold State.wordsBad
    rw [hstaged.action, decide_eq_true h, Bool.true_or]
  obtain ⟨hrefused, -, -, honly⟩ := u.refusal_holds _ _ (State.schedWrite_refused (.inr hbad))
  refine ⟨if_pos hrefused, (State.mapBit_congr (f := F.ARMED) (honly.2 _ ?_)).trans (harmed.trans hf)⟩
  have ha : (F.ARMED (i / 32)).addr = 0x112040 + 4 * (i / 32) := rfl
  simp only [List.mem_cons, List.not_mem_nil, or_false]
  omega

/-- An order for a free entry, its words passing their check, arms it for the tenant (R56, R63). -/
theorem State.order_accepted (h1 : 1 ≤ act.toNat / 2 ^ 20 % 16) (h6 : act.toNat / 2 ^ 20 % 16 ≤ 6)
    (hok : argOk (act.toNat / 2 ^ 20 % 16) arg = true) :
    let v := (s.stageOrder i k t2 t1 t0 act arg per).schedWrite
    v.ordered i = (.reply cOK (leBytes 2 i), v) ∧ ∃ w per', ArmedAfresh i (t2.toNat * 2 ^ 64 + t1.toNat * 2 ^ 32 + t0.toNat) w arg per' v ∧
      w.toNat % 4096 = k ∧ w.toNat / 2 ^ 20 % 16 = act.toNat / 2 ^ 20 % 16 := by
  obtain ⟨⟨hidx, htime, haction, howner, harg⟩, -⟩ := s.stageOrder_holds hi hk t2 t1 t0 act arg per
  have harmed := State.stageOrder_armed (s := s) (t2 := t2) (t1 := t1) (t0 := t0) (act := act) (arg := arg) (per := per) hi hk hi
  generalize s.stageOrder i k t2 t1 t0 act arg per = u at *
  have hgood : u.wordsBad = false := by
    unfold State.wordsBad
    rw [haction, harg, hok, decide_eq_false (by omega)]
    rfl
  have hwrite := State.schedWrite_accepted (s := u) (by rw [hidx, harmed, hf]) hgood
  rw [hidx, htime, harg] at hwrite
  obtain ⟨hafresh, hstat, -⟩ := (u.fputB F.SCHED_STAT_REFUSED false).armEntry_holds i (t2.toNat * 2 ^ 64 + t1.toNat * 2 ^ 32 + t0.toNat)
    (u.reg F.E_ACT_ACTION.addr) arg (u.reg F.E_PER_UNIT.addr)
  have hflag : u.schedWrite.flag F.SCHED_STAT_REFUSED = false := by
    rw [hwrite]
    exact (State.flag_congr hstat).trans (State.flag_fputB_same _ _ _ (by decide) (by decide))
  refine ⟨if_neg (by rw [hflag]; exact Bool.false_ne_true), u.reg F.E_ACT_ACTION.addr, u.reg F.E_PER_UNIT.addr, ?_, howner, haction⟩
  rw [hwrite]
  exact hafresh

end

-- DISARM

theorem State.armed_disarm_same (s : State) (i : Nat) : (s.disarm i).armed i = false := State.mapBit_setMapBit_same s F.ARMED i false

theorem State.armed_disarm_other (s : State) {i j : Nat} (h : j ≠ i) : (s.disarm i).armed j = s.armed j := by
  by_cases hr : j / 32 = i / 32
  · unfold State.armed State.disarm State.mapBit State.setMapBit State.fputB State.fput
    rw [hr, State.reg_setReg_same, Fld.put_bit _ _ _ _ (Nat.le_of_ble_eq_true rfl), if_neg (by dsimp only; omega)]
  · exact State.mapBit_setMapBit_other s (f := F.ARMED) (g := F.ARMED) false (by simp only [F.ARMED]; omega)

-- the commands

section
variable {s : State} {n : Fin 4096} {seq arg0 : Half} {t2 t1 t0 act arg per : Word}

theorem exec_sched : exec (.sched n seq arg0 [t2, t1, t0, act, arg, per]) s =
    .next (s.command n.val 0x0030 seq.toNat fun s => s.schedule n.val [t2, t1, t0, act, arg, per]) := rfl

/-- What UNSCHED does (R320). -/
def State.unschedule (s : State) (t i : Nat) : Done × State :=
  if 512 ≤ i ∨ ¬ s.armed i = true then done cBADARG s
  else if t ≠ 0 ∧ ownerOf (s.entry i) ≠ t then done cRIGHTS s
  else done cOK ((s.fput F.SCHED_IDX_IDX i).disarm i)

theorem exec_unsched : exec (.unsched n seq arg0) s = .next (s.command n.val 0x0031 seq.toNat (·.unschedule n.val arg0.toNat)) := rfl

/-- An order leaves the number of the command that gave it. -/
theorem order_lastSeq (i : Nat) : (((s.taken n.val seq.toNat).stageOrder i n.val t2 t1 t0 act arg per).schedWrite.tenant n.val).lastSeq =
    some seq.toNat := by
  have htn := (State.schedWrite_tn _).trans ((s.taken n.val seq.toNat).stageOrder_tn i n.val t2 t1 t0 act arg per)
  rw [State.tenant_congr (congrArg TnSt.tenants htn), State.taken_tenant]

variable (h : s.accepts n.val seq.toNat)
include h

theorem sched_rights (hr : s.schedRight n.val (act.toNat / 2 ^ 20 % 16) arg.toNat = false) :
    Answers (.sched n seq arg0 [t2, t1, t0, act, arg, per]) s n.val 0x30 seq.toNat cRIGHTS [] fun u => ∀ i < 512, u.armed i = s.armed i :=
  .refused h exec_sched (State.schedule_rights hr) fun _ hi => State.reply_armed hi

theorem sched_full (hr : s.schedRight n.val (act.toNat / 2 ^ 20 % 16) arg.toNat = true) (hf : ∀ i < 512, s.armed i = true) :
    Answers (.sched n seq arg0 [t2, t1, t0, act, arg, per]) s n.val 0x30 seq.toNat cSCHEDFULL [] fun u => ∀ i < 512, u.armed i = s.armed i :=
  .refused h exec_sched (State.schedule_full hr hf) fun _ hi => State.reply_armed hi

section
variable {i : Nat} (hr : s.schedRight n.val (act.toNat / 2 ^ 20 % 16) arg.toNat = true) (hi : i < 512) (hf : s.armed i = false)
  (hl : ∀ j < i, s.armed j = true)
include hr hi hf hl

theorem sched_refused (ha : act.toNat / 2 ^ 20 % 16 = 0 ∨ 7 ≤ act.toNat / 2 ^ 20 % 16) :
    Answers (.sched n seq arg0 [t2, t1, t0, act, arg, per]) s n.val 0x30 seq.toNat cREFUSED (leBytes 2 1) fun u => u.armed i = false := by
  have horder := State.order_refused (s := s.taken n.val seq.toNat) (t2 := t2) (t1 := t1) (t0 := t0) (act := act) (arg := arg) (per := per)
    hi n.isLt hf ha
  exact .of_reply h exec_sched ((State.schedule_free (s := s.taken n.val seq.toNat) hr hi hf hl).trans horder.1) (order_lastSeq i)
    ((State.reply_armed hi).trans horder.2)

theorem sched_accepted (h1 : 1 ≤ act.toNat / 2 ^ 20 % 16) (h6 : act.toNat / 2 ^ 20 % 16 ≤ 6)
    (hok : argOk (act.toNat / 2 ^ 20 % 16) arg = true) :
    Answers (.sched n seq arg0 [t2, t1, t0, act, arg, per]) s n.val 0x30 seq.toNat cOK (leBytes 2 i) fun u =>
      u.armed i = true ∧ ownerOf (u.entry i) = n.val ∧ actionOf (u.entry i) = act.toNat / 2 ^ 20 % 16 ∧ (u.entry i).arg = arg ∧
      u.mapBit F.FIRED i = false ∧ ((u.entry i).mainsRel = false → (u.entry i).cmp = t2.toNat * 2 ^ 64 + t1.toNat * 2 ^ 32 + t0.toNat) := by
  obtain ⟨hdo, w, per', hafresh, howner, haction⟩ := State.order_accepted (s := s.taken n.val seq.toNat) (t2 := t2) (t1 := t1) (t0 := t0)
    (per := per) hi n.isLt hf h1 h6 hok
  refine .of_reply h exec_sched ((State.schedule_free (s := s.taken n.val seq.toNat) hr hi hf hl).trans hdo) (order_lastSeq i) ?_
  rw [State.reply_armed hi, State.entry_congr State.reply_sched, State.reply_fired hi]
  have hact := hafresh.entry.act
  refine ⟨hafresh.armed, ?_, ?_, hafresh.entry.arg, hafresh.fired, hafresh.entry.cmp⟩
  · unfold ownerOf
    rw [hact, howner]
  · unfold actionOf
    rw [hact, haction]

end

-- UNSCHED

theorem unsched_badarg (ha : 512 ≤ arg0.toNat ∨ s.armed arg0.toNat = false) :
    Answers (.unsched n seq arg0) s n.val 0x31 seq.toNat cBADARG [] fun u => ∀ i < 512, u.armed i = s.armed i := by
  have hc : 512 ≤ arg0.toNat ∨ ¬ s.armed arg0.toNat = true := ha.imp_right fun h => by rw [h]; exact Bool.false_ne_true
  exact .refused h exec_unsched (if_pos hc) fun _ hi => State.reply_armed hi

section
variable (hi : arg0.toNat < 512) (ha : s.armed arg0.toNat = true)
include hi ha

theorem unsched_rights (hk : n.val ≠ 0) (ho : ownerOf (s.entry arg0.toNat) ≠ n.val) :
    Answers (.unsched n seq arg0) s n.val 0x31 seq.toNat cRIGHTS [] fun u => u.armed arg0.toNat = true := by
  have hc : ¬ (512 ≤ arg0.toNat ∨ ¬ s.armed arg0.toNat = true) := fun h => h.elim (by omega) (· ha)
  exact .refused h exec_unsched ((if_neg hc).trans (if_pos ⟨hk, ho⟩)) ((State.reply_armed hi).trans ha)

theorem unsched_done (ho : n.val = 0 ∨ ownerOf (s.entry arg0.toNat) = n.val) :
    Answers (.unsched n seq arg0) s n.val 0x31 seq.toNat cOK [] fun u => u.armed arg0.toNat = false ∧
      ∀ i < 512, i ≠ arg0.toNat → u.armed i = s.armed i := by
  have hc : ¬ (512 ≤ arg0.toNat ∨ ¬ s.armed arg0.toNat = true) := fun h => h.elim (by omega) (· ha)
  have hown : ¬ (n.val ≠ 0 ∧ ownerOf (s.entry arg0.toNat) ≠ n.val) := fun h => ho.elim h.1 h.2
  refine .of_reply h exec_unsched ((if_neg hc).trans (if_neg hown)) ?_ ⟨?_, fun i hi' hne => ?_⟩
  · exact congrArg Tenant.lastSeq (s.taken_tenant n.val seq.toNat)
  · exact (State.reply_armed hi).trans (State.armed_disarm_same _ _)
  · refine (State.reply_armed hi').trans ((State.armed_disarm_other _ hne).trans (State.mapBit_congr (f := F.ARMED) ?_))
    exact State.reg_fput_other _ F.SCHED_IDX_IDX _ (by simp only [F.ARMED, F.SCHED_IDX_IDX]; omega)

end

end

end Sys2Proof.Machine
end

section
/-! Orders of tenants to Dragonfly and Sieve: SEARCH and SPECTRUM (06: R110; 08: R147, R149; 16: R320). -/

namespace Sys2Proof.Machine

-- what a vote leaves of the domains

section
variable (s : State) {d : Nat}

/-- A vote for domain `d` writes its own state, the words that tell which domains are on, and those of Comb's quarters. -/
theorem State.castVote_regs (d c : Nat) (b : Bool) {a : Nat} (h : a ≠ 0x005040 + 4 * d) (h0 : a ≠ 0x004048) (h1 : a ≠ 0x00404C)
    (h2 : a ≠ 0x120044) : (s.castVote d c b).reg a = s.reg a := by
  have hb : Blind fun _ : State => () := ⟨fun _ _ => rfl, fun _ _ => rfl⟩
  have hset (t : State) (st : Nat) : Keeps (fun _ => ()) (· = a) t (t.setDom d st) := by
    have hon : (pwOn d).addr ≠ a := by unfold pwOn; split <;> [exact h0.symm; exact h1.symm]
    have hput : Keeps (fun _ => ()) (· = a) t (((t.fput (F.PW_D_STATE d) st).fput (F.PW_D_AP d) 0).fputB (pwOn d) (decide (st = dON ∨ st = dENTRY))) :=
      (((Keeps.refl t).fput hb _ _ h.symm).fput hb _ _ h.symm).fputB hb _ _ hon
    unfold State.setDom
    exact .ite (fun _ => hput.fputB hb _ _ h2.symm) fun _ => hput
  have hfollow (t : State) : Keeps (fun _ => ()) (· = a) t (t.domFollow d) := by
    unfold State.domFollow
    exact .ite (fun _ => hset t _) fun _ => .ite (fun _ => hset t _) fun _ => .refl t
  have hcast : Keeps (fun _ => ()) (· = a) s (s.castVote d c b) := by
    unfold State.castVote
    have hvote : Keeps (fun _ => ()) (· = a) s (s.setVote d c b) := .of_eq rfl rfl
    exact .ite (fun _ => .refl s) fun _ => (hvote.fput hb _ _ h.symm).trans (hfollow _)
  exact hcast.regs a rfl

theorem State.setDom_state (hd : d ≤ 40) {st : Nat} (hst : st < 8) : (s.setDom d st).domState d = st := by
  have hput : (((s.fput (F.PW_D_STATE d) st).fput (F.PW_D_AP d) 0).fputB (pwOn d) (decide (st = dON ∨ st = dENTRY))).domState d = st := by
    have hon : (F.PW_D_STATE d).addr ≠ (pwOn d).addr := by
      unfold pwOn; split <;> simp only [F.PW_D_STATE, F.PW_ON0, F.PW_ON1_D] <;> omega
    refine (State.fget_congr (State.reg_fput_other _ _ _ hon)).trans ?_
    refine (State.fget_fput_other _ (F.PW_D_AP d) (F.PW_D_STATE d) _ (show 2 ≤ 32 by decide) (.inr (.inr (show 0 + 2 ≤ 29 by decide)))).trans ?_
    exact (s.fget_fput_same (F.PW_D_STATE d) st (show 29 + 3 ≤ 32 by decide)).trans (Nat.mod_eq_of_lt hst)
  unfold State.setDom
  dsimp only
  split
  · exact (State.fget_congr (State.reg_fput_other _ _ _ (by simp only [F.PW_D_STATE, F.CB_STAT_QON]; omega))).trans hput
  · exact hput

/-- No vote turns a domain on at once: it wakes first (R385). -/
theorem State.castVote_not_on (hd : d ≤ 40) (h : s.domState d ≠ dON) (c : Nat) (b : Bool) : (s.castVote d c b).domState d ≠ dON := by
  have hcount (n : Nat) : ((s.setVote d c b).fput (F.PW_D_HOLDERS d) n).domState d = s.domState d :=
    State.fget_fput_other _ (F.PW_D_HOLDERS d) (F.PW_D_STATE d) n (show 13 ≤ 32 by decide) (.inr (.inr (show 16 + 13 ≤ 29 by decide)))
  unfold State.castVote
  split
  · exact h
  · generalize hn : (if b = true then s.holders d + 1 else s.holders d - 1) = n
    have hv := hcount n
    generalize (s.setVote d c b).fput (F.PW_D_HOLDERS d) n = v at *
    unfold State.domFollow
    split
    · rw [State.setDom_state _ hd (by decide)]; decide
    · next =>
      rw [if_neg fun hc => h (hv.symm.trans hc.1), hv]
      exact h

end

-- Dragonfly's status and the requests that wait

section
variable (s : State)

/-- DF_STAT and the votes that follow it leave the jobs and searches. -/
theorem State.dfStat_dfly : s.dfStat.dfly = s.dfly := by
  have hb : Blind fun x : State => x.dfly := ⟨fun _ _ => rfl, fun _ _ => rfl⟩
  have hvote (t : State) {d : Nat} (hd : d < 64) (c : Nat) (b : Bool) : Keeps (fun x : State => x.dfly) anyReg t (t.castVote d c b) :=
    ((VotesMove.castVote t hd c b).map (fun x : State => x.dfly)).mono fun _ h => h.elim
  have h : Keeps (fun x : State => x.dfly) anyReg s s.dfStat := by
    unfold State.dfStat
    extract_lets st cnt used u v busy
    have hu : Keeps (fun x : State => x.dfly) anyReg s u := (((Keeps.refl s).fput hb _ _ id).fput hb _ _ id).fput hb _ _ id
    have hv : Keeps (fun x : State => x.dfly) anyReg u v := by
      unfold v
      split
      · exact ((Keeps.refl u).fput hb _ _ id).fput hb _ _ id
      · exact (Keeps.refl u).fput hb _ _ id
    exact ((hu.trans hv).trans (.when fun _ => hvote v (by decide) _ _)).trans (hvote _ (by decide) _ _)
  exact h.view

theorem State.dfStat_not_on (h : s.domState 12 ≠ dON) : s.dfStat.domState 12 ≠ dON := by
  have hb : Blind fun _ : State => () := ⟨fun _ _ => rfl, fun _ _ => rfl⟩
  unfold State.dfStat
  extract_lets st cnt used u v busy
  have hu : Keeps (fun _ => ()) (· = 0x005070) s u :=
    (((Keeps.refl s).fput hb _ _ (by decide)).fput hb _ _ (by decide)).fput hb _ _ (by decide)
  have hv : Keeps (fun _ => ()) (· = 0x005070) u v := by
    unfold v
    split
    · exact ((Keeps.refl u).fput hb _ _ (by decide)).fput hb _ _ (by decide)
    · exact (Keeps.refl u).fput hb _ _ (by decide)
  refine State.castVote_not_on _ (by decide) ?_ _ _
  have hvote : (v.when busy (·.castVote 33 4096 true)).reg 0x005070 = v.reg 0x005070 := by
    unfold State.when
    split
    · exact State.castVote_regs v 33 4096 true (by decide) (by decide) (by decide) (by decide)
    · rfl
  have hst : (v.when busy (·.castVote 33 4096 true)).domState 12 = s.domState 12 :=
    State.fget_congr (hvote.trans (((hu.trans hv).regs _ rfl)))
  rw [hst]
  exact h

/-- While Dragonfly is off, requests wait. -/
theorem State.serveRequests_off (h : s.domState 12 ≠ dON) (fuel : Nat) : s.serveRequests fuel = s := by
  cases fuel with
  | zero => rfl
  | succ fuel =>
    unfold State.serveRequests
    split
    · exact if_pos (.inr h)
    · rfl

end

-- SEARCH

theorem State.reply_dfly {s : State} {k op seq code : Nat} {res : List Byte} : (s.reply k op seq code res).dfly = s.dfly :=
  (congrArg State.dfly (s.reply_work k op seq code res).rest :)

section
variable {s : State} {n : Fin 4096} {seq arg0 : Half} {ws : List Word}

theorem exec_search : exec (.search n seq arg0 ws) s =
    .next (s.command n.val 0x0028 seq.toNat fun s => if ws.length ≠ 10 then done cBADCMD s else s.search n.val ws) := rfl

/-- The jobs a request asks for. -/
def State.requestJobs (s : State) (t : Nat) (ws : List Word) : List (List Word) :=
  searchJobs t (searchPrio t (jdBits ws 1 20 2)) s.dfly.nextSearch ws

theorem State.search_toobig {t : Nat} (h : ∃ d ∈ s.requestJobs t ws, 128 < jdBlocks d) : s.search t ws = (.reply cTOOBIG [], s) := by
  refine if_pos (List.any_eq_true.mpr ?_)
  obtain ⟨d, hd, hb⟩ := h
  exact ⟨d, hd, decide_eq_true hb⟩

theorem State.search_taken {t : Nat} (h : ∀ d ∈ s.requestJobs t ws, jdBlocks d ≤ 128) : s.search t ws =
    (.reply cOK (leBytes 4 s.dfly.nextSearch),
      (s.openSearch t (searchPrio t (jdBits ws 1 20 2)) ws none).dfStat.serveRequests 64) := by
  refine if_neg fun hc => ?_
  obtain ⟨d, hd, hb⟩ := List.any_eq_true.mp hc
  exact Nat.not_lt.mpr (h d hd) (of_decide_eq_true hb)

variable (h : s.accepts n.val seq.toNat) (hw : ws.length = 10)
include h hw

theorem search_toobig (hbig : ∃ d ∈ s.requestJobs n.val ws, 128 < jdBlocks d) :
    Answers (.search n seq arg0 ws) s n.val 0x28 seq.toNat cTOOBIG [] fun u => u.dfly = s.dfly :=
  .refused h exec_search ((if_neg (not_not_intro hw)).trans (State.search_toobig hbig))
    State.reply_dfly

theorem search_taken (hfit : ∀ d ∈ s.requestJobs n.val ws, jdBlocks d ≤ 128) :
    Answers (.search n seq arg0 ws) s n.val 0x28 seq.toNat cOK (leBytes 4 s.dfly.nextSearch) fun u =>
      u.dfly.nextSearch = s.dfly.nextSearch % (2 ^ 32 - 1) + 1 ∧
      (s.domState 12 ≠ dON → u.dfly.waiting = s.dfly.waiting ++ (s.requestJobs n.val ws).map (fun d => ⟨n.val, some s.dfly.nextSearch, d⟩)) := by
  have hdo := State.search_taken (s := s.taken n.val seq.toNat) hfit
  have hopen : ((s.taken n.val seq.toNat).openSearch n.val (searchPrio n.val (jdBits ws 1 20 2)) ws none).dfly.nextSearch =
      s.dfly.nextSearch % (2 ^ 32 - 1) + 1 := rfl
  have hwait : ((s.taken n.val seq.toNat).openSearch n.val (searchPrio n.val (jdBits ws 1 20 2)) ws none).dfly.waiting =
      s.dfly.waiting ++ (s.requestJobs n.val ws).map (fun d => ⟨n.val, some s.dfly.nextSearch, d⟩) := rfl
  have hlast : (((s.taken n.val seq.toNat).openSearch n.val (searchPrio n.val (jdBits ws 1 20 2)) ws none).tenant n.val).lastSeq =
      some seq.toNat := congrArg Tenant.lastSeq (s.taken_tenant n.val seq.toNat)
  have hstate : ((s.taken n.val seq.toNat).openSearch n.val (searchPrio n.val (jdBits ws 1 20 2)) ws none).domState 12 = s.domState 12 := rfl
  generalize (s.taken n.val seq.toNat).openSearch n.val (searchPrio n.val (jdBits ws 1 20 2)) ws none = v at *
  have hkept : PartiesKept v (v.dfStat.serveRequests 64) := (PartiesKept.dfStat v).trans (PartiesKept.serveRequests v.dfStat 64)
  refine .of_reply h exec_search ((if_neg (not_not_intro hw)).trans hdo) ((PartiesKept.lastSeq hkept _).trans hlast) ?_
  rw [State.reply_dfly]
  refine ⟨(PartiesKept.nextSearch hkept).trans hopen, fun hoff => ?_⟩
  rw [State.serveRequests_off _ (v.dfStat_not_on (by rw [hstate]; exact hoff)), State.dfStat_dfly]
  exact hwait

end

-- commands that wait for their hardware (R320)

theorem State.command_pending {s : State} {k op seq : Nat} (h : s.accepts k seq) {f : State → Done × State} {t : State}
    (hf : f (s.taken k seq) = (.pending, t)) : s.command k op seq f = t.updTenant k fun x => { x with running := x.running ++ [(op, seq)] } := by
  have hlive := h.live
  obtain ⟨ho, ha, hr⟩ := h
  have hin : ¬ (¬ (s.tenant k).live = true ∨ (s.tenant k).state = .fault ∧ ¬ keptInFault op = true) := by
    rw [hlive, ho]; simp
  have hfree : ¬ ((s.tenant k).running ≠ [] ∧ ¬ neverHeld op = true) := fun h => h.1 hr
  unfold State.taken at hf
  simp only [State.command, if_neg hin, ha, if_neg hfree, hf]

/-- A command left waiting is the only one of its tenant, and its number the last accepted. -/
theorem State.pending_tenant {s t : State} {k op seq : Nat} (h : s.accepts k seq) (ht : t.tn = (s.taken k seq).tn) :
    let u := t.updTenant k fun x => { x with running := x.running ++ [(op, seq)] }
    (u.tenant k).running = [(op, seq)] ∧ (u.tenant k).lastSeq = some seq := by
  have htenant : t.tenant k = { s.tenant k with lastSeq := some seq } :=
    (State.tenant_congr (congrArg TnSt.tenants ht) k).trans (s.taken_tenant k seq)
  have hget := t.tenant_updTenant_same k fun x => { x with running := x.running ++ [(op, seq)] }
  rw [htenant] at hget
  refine ⟨(congrArg Tenant.running hget).trans ?_, congrArg Tenant.lastSeq hget⟩
  change (s.tenant k).running ++ [(op, seq)] = [(op, seq)]
  rw [h.2.2]
  rfl

/-- A refused tenant waits for nothing. -/
theorem State.refused_running {s : State} {k op seq code : Nat} {res : List Byte} (h : s.accepts k seq) :
    (((s.taken k seq).reply k op seq code res).tenant k).running = [] := by
  obtain ⟨m, hm⟩ := (s.taken k seq).reply_tenant k op seq code res
  rw [hm]
  exact (congrArg Tenant.running (s.taken_tenant k seq)).trans h.2.2

-- SPECTRUM

theorem VotesMove.tn {s t : State} (h : VotesMove s t) : t.tn = s.tn := (congrArg State.tn h.view :)

theorem VotesMove.comb {s t : State} (h : VotesMove s t) : t.comb = s.comb := (congrArg State.comb h.view :)

theorem State.allocVotes_moves (s : State) : VotesMove s s.allocVotes := by
  have hdom : ∀ d ∈ allocDomains, d < 64 := by decide
  unfold State.allocVotes
  refine (Keeps.foldl allocDomains (fun s d hd => VotesMove.castVote s (hdom d hd) _ _) s).trans (.foldl _ (fun s h hh => ?_) _)
  exact VotesMove.castVote s (by have := List.mem_range.mp hh; omega) _ _

/-- A readout started by a command (R110, R320). -/
def State.orderSpectrum (s : State) (a : Nat) : State :=
  ((((s.fput F.SM_CTL_PATH (a % 8)).fput F.SM_CTL_TAP (a / 16 % 2)).fput F.SM_CTL_AVG (a / 256 % 16)).fputB F.SM_CTL_CONT false)

theorem State.orderSpectrum_holds (s : State) (a : Nat) : let u := s.orderSpectrum a
    u.fget F.SM_CTL_PATH = a % 8 ∧ u.fget F.SM_CTL_TAP = a / 16 % 2 ∧ u.fget F.SM_CTL_AVG = a / 256 % 16 ∧
    (∀ b, b ≠ 0x039040 → u.reg b = s.reg b) ∧ u.tn = s.tn ∧ u.comb = s.comb := by
  unfold State.orderSpectrum State.fputB
  refine ⟨?_, ?_, ?_, fun b hb => ?_, rfl, rfl⟩
  · simp (disch := decide) only [State.fget_fput_other, State.fget_fput_same]
    exact Nat.mod_mod _ _
  · simp (disch := decide) only [State.fget_fput_other, State.fget_fput_same]
    exact Nat.mod_mod _ _
  · simp (disch := decide) only [State.fget_fput_other, State.fget_fput_same]
    exact Nat.mod_mod _ _
  · rw [State.reg_fput_other _ _ _ hb, State.reg_fput_other _ _ _ hb, State.reg_fput_other _ _ _ hb, State.reg_fput_other _ _ _ hb]

/-- A readout that begins. -/
theorem State.readoutStart_holds (s : State) : s.readoutStart.flag F.SM_STAT_BUSY = true ∧
    (∀ b, b ≠ 0x039048 → s.readoutStart.reg b = s.reg b) ∧ s.readoutStart.tn = s.tn ∧ s.readoutStart.comb = s.comb := by
  have hbusy : ((s.fputB F.SM_STAT_BUSY true).fput F.SM_STAT_DISC 0).flag F.SM_STAT_BUSY = true := by
    unfold State.flag
    rw [State.fget_fput_other _ _ _ _ (by decide) (by decide)]
    exact State.flag_fputB_same s F.SM_STAT_BUSY true (by decide) (by decide)
  exact ⟨hbusy, fun b hb => (State.reg_fput_other _ F.SM_STAT_DISC _ hb).trans (State.reg_fput_other _ F.SM_STAT_BUSY _ hb), rfl, rfl⟩

section
variable {s : State} {n : Fin 4096} {seq arg0 : Half} (h : s.accepts n.val seq.toNat)
include h

theorem spectrum_off (hoff : s.domState 11 ≠ dON) :
    Answers (.spectrum n seq arg0) s n.val 0x29 seq.toNat cREFUSED (leBytes 2 0) fun u => (u.tenant n.val).running = [] :=
  .refused h rfl (if_pos hoff) (State.refused_running h)

theorem spectrum_busy (hon : s.domState 11 = dON) (hb : s.flag F.SM_STAT_BUSY = true) :
    Answers (.spectrum n seq arg0) s n.val 0x29 seq.toNat cREFUSED (leBytes 2 1) fun u => (u.tenant n.val).running = [] :=
  .refused h rfl ((if_neg (not_not_intro hon)).trans (if_pos hb)) (State.refused_running h)

/-- An order taken starts the readout and waits for it. -/
theorem exec_spectrum_starts (hon : s.domState 11 = dON) (hb : s.flag F.SM_STAT_BUSY = false) :
    exec (.spectrum n seq arg0) s = .next ((((s.taken n.val seq.toNat).orderSpectrum arg0.toNat).spectrumStart.allocVotes).updTenant
      n.val fun x => { x with running := x.running ++ [(0x29, seq.toNat)] }) := by
  have hidle : ¬ s.flag F.SM_STAT_BUSY = true := by rw [hb]; exact Bool.false_ne_true
  exact congrArg Host.Outcome.next (State.command_pending h ((if_neg (not_not_intro hon)).trans (if_neg hidle)))

omit h in
/-- What a readout started in `v` leaves. -/
theorem State.spectrumStart_holds (v : State) (hb : v.flag F.SM_STAT_BUSY = false) :
    v.spectrumStart.allocVotes.flag F.SM_STAT_BUSY = true ∧
    (∀ f : Fld, f.addr = 0x039040 → v.spectrumStart.allocVotes.fget f = v.fget f) ∧
    v.spectrumStart.allocVotes.tn = v.tn ∧ v.spectrumStart.allocVotes.comb = v.comb := by
  have hstart : v.spectrumStart = v.readoutStart := if_neg (by rw [hb]; exact Bool.false_ne_true)
  obtain ⟨hset, hkeep, htn, hcomb⟩ := v.readoutStart_holds
  rw [hstart]
  generalize v.readoutStart = w at *
  have hmoves := w.allocVotes_moves
  have hreg {f : Fld} (ha : f.addr / 4096 = 0x039) : w.allocVotes.fget f = w.fget f :=
    hmoves.fget (by unfold PowerReg; omega)
  have hctl (f : Fld) (ha : f.addr = 0x039040) : w.allocVotes.fget f = v.fget f :=
    (hreg (by rw [ha])).trans (State.fget_congr (hkeep _ (by rw [ha]; decide)))
  have hflag : w.allocVotes.flag F.SM_STAT_BUSY = true := by
    unfold State.flag at hset ⊢
    exact (congrArg (fun x => decide (x ≠ 0)) (hreg rfl)).trans hset
  exact ⟨hflag, hctl, hmoves.tn.trans htn, hmoves.comb.trans hcomb⟩

theorem spectrum_starts (hon : s.domState 11 = dON) (hb : s.flag F.SM_STAT_BUSY = false) : Completes (.spectrum n seq arg0) s fun u =>
    u.flag F.SM_STAT_BUSY = true ∧ u.fget F.SM_CTL_PATH = arg0.toNat % 8 ∧ u.fget F.SM_CTL_TAP = arg0.toNat / 16 % 2 ∧
    u.fget F.SM_CTL_AVG = arg0.toNat / 256 % 16 ∧ (u.tenant n.val).running = [(0x29, seq.toNat)] ∧
    (u.tenant n.val).lastSeq = some seq.toNat ∧ u.comb = s.comb := by
  obtain ⟨hpath, htap, havg, hother, htn, hcomb⟩ := (s.taken n.val seq.toNat).orderSpectrum_holds arg0.toNat
  have hex := exec_spectrum_starts (arg0 := arg0) h hon hb
  have hbusy : ((s.taken n.val seq.toNat).orderSpectrum arg0.toNat).flag F.SM_STAT_BUSY = false :=
    (State.flag_congr (hother _ (by decide))).trans hb
  generalize (s.taken n.val seq.toNat).orderSpectrum arg0.toNat = v at *
  obtain ⟨hset, hctl, htn', hcomb'⟩ := v.spectrumStart_holds hbusy
  generalize v.spectrumStart.allocVotes = w at *
  obtain ⟨hrunning, hlast⟩ := State.pending_tenant (op := 0x29) h (htn'.trans htn)
  exact .of_exec hex ⟨hset, (hctl _ rfl).trans hpath, (hctl _ rfl).trans htap, (hctl _ rfl).trans havg, hrunning, hlast, hcomb'.trans hcomb⟩

end

end Sys2Proof.Machine
end

section
/-! Orders of tenant 0: a table for Scarab and decode entries for the loader (10: R188; 14: R287; 16: R320). -/

namespace Sys2Proof.Machine

-- what a reply leaves of the cores

section
variable (s : State) (i : Nat)

theorem State.touch_wv : (s.touch i).wv = s.wv := by
  obtain ⟨t, l, ht, h⟩ := s.touch_eq i
  rw [h]
  rcases ht with rfl | rfl | rfl <;> rfl

theorem State.popItem_wv : (s.popItem i).2.wv = s.wv := by
  unfold State.popItem
  split
  · exact State.touch_wv _ i
  · exact s.touch_wv i

theorem State.unstall_wv : (s.unstall i).wv = s.wv := by
  have hclear : (if s.tn.stalled = some i then { s with tn.stalled := none } else s).wv = s.wv := by
    split <;> rfl
  unfold State.unstall
  split
  · dsimp only
    split
    · exact (State.popItem_wv _ i).trans hclear
    · exact hclear
  · rfl

theorem State.pushMsg_wv (m : List Item) : (s.pushMsg i m).wv = s.wv := by
  rw [s.pushMsg_eq, State.unstall_wv]
  exact (congrArg State.wv (State.tenantMsix_rest _ _ _ _) :).trans (State.touch_wv _ i)

theorem State.sendReply_wv (k : Nat) (payload : List Byte) : (s.sendReply k payload).wv = s.wv := by
  unfold State.sendReply
  dsimp only
  split
  · rfl
  · split
    · rfl
    · exact s.pushMsg_wv _ _

theorem State.reply_wv (k op seq code : Nat) (res : List Byte) : (s.reply k op seq code res).wv = s.wv := by
  rw [s.reply_eq]
  exact State.sendReply_wv _ k _

end

-- words as bytes

theorem ofLe_leBytes (n v : Nat) : ofLe (leBytes n v) = v % 256 ^ n := by
  induction n generalizing v with
  | zero => rw [Nat.pow_zero, Nat.mod_one]; rfl
  | succ n ih =>
    have hb : (BitVec.ofNat 8 v).toNat = v % 256 := BitVec.toNat_ofNat v 8
    rw [leBytes, ofLe, ih, hb, Nat.pow_succ', Nat.mod_mul]

theorem wordBytes_cons (w : Word) (ws : List Word) : wordBytes (w :: ws) = leBytes 4 w.toNat ++ wordBytes ws := rfl

theorem wordBytes_length (ws : List Word) : (wordBytes ws).length = 4 * ws.length := by
  induction ws with
  | nil => rfl
  | cons w ws ih => rw [wordBytes_cons, List.length_append, leBytes_length, ih, List.length_cons]; omega

/-- The bytes of words fall into the words again. -/
theorem chunks_wordBytes (ws : List Word) : chunks 4 (wordBytes ws) = ws.map fun w => leBytes 4 w.toNat := by
  have h (f : Nat) (hf : ws.length ≤ f) : pieces 4 f (wordBytes ws) = ws.map fun w => leBytes 4 w.toNat := by
    induction ws generalizing f with
    | nil => cases f <;> rfl
    | cons w ws ih =>
      obtain ⟨f, rfl⟩ : ∃ g, f = g + 1 := ⟨f - 1, by rw [List.length_cons] at hf; omega⟩
      have hlen := leBytes_length 4 w.toNat
      have hne : leBytes 4 w.toNat ++ wordBytes ws ≠ [] := List.cons_ne_nil _ _
      rw [wordBytes_cons, pieces_succ _ _ hne, List.take_left' hlen,
        List.drop_left' hlen, ih f (Nat.le_of_succ_le_succ hf), List.map_cons]
  exact h _ (by rw [wordBytes_length]; omega)

theorem ofLe_word (w : Word) : ofLe (leBytes 4 w.toNat) = w.toNat := (ofLe_leBytes 4 _).trans (Nat.mod_eq_of_lt w.isLt)

theorem bytesWords_wordBytes (ws : List Word) : bytesWords (wordBytes ws) = ws := by
  have hid : (fun c => BitVec.ofNat 32 (ofLe c)) ∘ (fun w : Word => leBytes 4 w.toNat) = id :=
    funext fun w => by rw [Function.comp_apply, ofLe_word, BitVec.ofNat_toNat, BitVec.setWidth_eq]; rfl
  rw [bytesWords, chunks_wordBytes, List.map_map, hid, List.map_id]

theorem crcBits_lt (n : Nat) {r : Nat} (h : r < 2 ^ 32) : crcBits 0x82F63B78 n r < 2 ^ 32 := by
  induction n generalizing r with
  | zero => exact h
  | succ n ih =>
    rw [crcBits]
    refine ih ?_
    split
    · exact Nat.xor_lt_two_pow (by omega) (by decide)
    · omega

theorem crc32c_lt (bs : List Byte) : crc32c bs < 2 ^ 32 := by
  have h (r : Nat) (hr : r < 2 ^ 32) : bs.foldl (fun r b => crcBits 0x82F63B78 8 (r ^^^ b.toNat)) r < 2 ^ 32 := by
    induction bs generalizing r with
    | nil => exact hr
    | cons b bs ih => exact ih _ (crcBits_lt 8 (Nat.xor_lt_two_pow hr (by have := b.isLt; omega)))
  exact Nat.xor_lt_two_pow (h _ (by decide)) (by decide)

-- bytes staged in Comb

/-- Every line of an access within one quarter lies in that quarter. -/
theorem State.combOn_within {s : State} {q a n : Nat} (hq : q < 4) (hon : s.combOn q = true) (ha : q * 2 ^ 22 ≤ a)
    (hn : a + n < (q + 1) * 2 ^ 22) : ∀ x ∈ accesses a n, s.combOn (combQuarter x.1) = true := by
  intro x hx
  obtain ⟨i, hi, hx1⟩ := mem_lineParts hx
  have hx : combQuarter x.1 = q := by rw [combQuarter, hx1]; omega
  rw [hx, hon]

theorem State.combOn_fput (s : State) {f : Fld} (hf : f.addr / 4096 ≠ 0x005) (v : Nat) {q : Nat} (hq : q < 4) :
    (s.fput f v).combOn q = s.combOn q := by
  have hd (d : Nat) (hd : d ≤ 40) : (s.fput f v).domPowered d = s.domPowered d := by
    have hst : (s.fput f v).domState d = s.domState d :=
      State.fget_congr (State.reg_fput_other _ _ _ (by simp only [F.PW_D_STATE]; omega))
    simp only [State.domPowered, hst]
  simp only [State.combOn, hd 1 (by decide), hd (30 + q) (by omega)]

theorem CombWork.wv {s t : State} (h : CombWork s t) : t.wv = s.wv := (congrArg State.wv h.rest :)

theorem CombWork.tn {s t : State} (h : CombWork s t) : t.tn = s.tn := (congrArg State.tn h.rest :)

theorem CombWork.flag {s t : State} (h : CombWork s t) {f : Fld} (hf : f.addr / 4096 ≠ 0x120) : t.flag f = s.flag f :=
  State.flag_congr (h.regs _ hf)

theorem CombRead.wv {s t : State} (h : CombRead s t) : t.wv = s.wv := (congrArg State.wv h.view :)

theorem CombRead.tn {s t : State} (h : CombRead s t) : t.tn = s.tn := (congrArg State.tn h.view :)

/-- Bytes the Warden puts into a quarter that is on stand there. -/
theorem State.combWrite_within (s : State) {q a : Nat} (bs : List Byte) (hq : q < 4) (hon : s.combOn q = true) (ha : q * 2 ^ 22 ≤ a)
    (hn : a + bs.length < (q + 1) * 2 ^ 22) : CombWork s (s.combWrite 0 a bs) ∧ (s.combWrite 0 a bs).combBytes a bs.length = bs := by
  obtain ⟨hw, hcomb⟩ := s.combWrite_on (m := 0) (by decide) a bs (State.combOn_within hq hon ha hn)
  exact ⟨hw, (State.combBytes_congr hcomb a _).trans (State.combBytes_combPut s a bs (by omega))⟩

-- MODEL

/-- A load begins: the table stands in Scarab and its check runs. -/
theorem State.modelLoad_holds (v : State) {q a : Nat} (hp : v.flag F.SC_MRES_PENDING = false) (hb : v.flag F.SC_MRES_BUSY = false)
    (hq : q < 4) (hon : v.combOn q = true) (haddr : v.fget F.SC_MTAB_ADDR * 64 = a) (ha : q * 2 ^ 22 ≤ a) (hn : a + 132 < (q + 1) * 2 ^ 22) :
    v.modelLoad.scarab.check = some (bytesWords (v.combBytes a 132)) ∧ v.modelLoad.flag F.SC_MRES_BUSY = true ∧
    v.modelLoad.comb = v.comb ∧ v.modelLoad.tn = v.tn := by
  obtain ⟨hbytes, hread⟩ := v.combRead_on (m := 3) (by decide) a 132 (State.combOn_within hq hon ha hn)
  have hload : v.modelLoad = { (v.combRead 3 a 132).2.2.fputB F.SC_MRES_BUSY true with
      scarab.check := some (bytesWords (v.combRead 3 a 132).1) } := by
    unfold State.modelLoad
    rw [hp, hb, haddr]
    rfl
  rw [hload, hbytes]
  exact ⟨rfl, State.flag_fputB_same _ F.SC_MRES_BUSY true (by decide) (by decide), hread.comb, hread.tn⟩

/-- The table of an order in Comb, its address in SC_MTAB. -/
def State.stageModel (s : State) (ws : List Word) : State := (s.combWrite 0 0x594000 (wordBytes ws)).fput F.SC_MTAB_ADDR (0x594000 / 64)

section
variable {s : State} {n : Fin 4096} {seq arg0 : Half} {ws : List Word} (h : s.accepts n.val seq.toNat)
include h

theorem model_rights (hk : n.val ≠ 0) :
    Answers (.model n seq arg0 ws) s n.val 0x38 seq.toNat cRIGHTS [] fun u => u.scarab = s.scarab :=
  .refused h rfl (if_neg hk) (congrArg State.scarab (State.reply_work _ _ _ _ _ _).rest :)

theorem exec_model (hk : n.val = 0) (hw : ws.length = 33) (hon : s.domState 29 = dON) (hp : s.flag F.SC_MRES_PENDING = false)
    (hb : s.flag F.SC_MRES_BUSY = false) : exec (.model n seq arg0 ws) s =
      .next (((s.taken n.val seq.toNat).stageModel ws).modelLoad.updTenant n.val fun x => { x with running := x.running ++ [(0x38, seq.toNat)] }) := by
  have hidle : ¬ (s.domState 29 ≠ dON ∨ s.flag F.SC_MRES_PENDING = true ∨ s.flag F.SC_MRES_BUSY = true) := by
    rw [hp, hb]; simp [hon]
  exact congrArg Host.Outcome.next (State.command_pending h ((if_pos hk).trans ((if_neg (not_not_intro hw)).trans (if_neg hidle))))

theorem model_starts (hk : n.val = 0) (hw : ws.length = 33) (hon : s.domState 29 = dON) (hp : s.flag F.SC_MRES_PENDING = false)
    (hb : s.flag F.SC_MRES_BUSY = false) (hcomb : s.combOn 1 = true) : Completes (.model n seq arg0 ws) s fun u =>
      u.scarab.check = some ws ∧ u.flag F.SC_MRES_BUSY = true ∧ (u.tenant 0).running = [(0x38, seq.toNat)] ∧
      u.combBytes 0x594000 132 = wordBytes ws := by
  have hex := exec_model (arg0 := arg0) h hk hw hon hp hb
  have hlen : (wordBytes ws).length = 132 := by rw [wordBytes_length, hw]
  obtain ⟨hwork, hbytes⟩ := (s.taken n.val seq.toNat).combWrite_within (q := 1) (a := 0x594000) (wordBytes ws) (by decide) hcomb (by decide)
    (by rw [hlen]; decide)
  rw [hlen] at hbytes
  unfold State.stageModel at hex
  generalize (s.taken n.val seq.toNat).combWrite 0 0x594000 (wordBytes ws) = w at hex hwork hbytes
  have hflag (f : Fld) (hf : f.addr = 0x101050) : (w.fput F.SC_MTAB_ADDR (0x594000 / 64)).flag f = s.flag f :=
    (State.flag_congr (State.reg_fput_other _ _ _ (by rw [hf]; decide))).trans (hwork.flag (by rw [hf]; decide))
  have haddr : (w.fput F.SC_MTAB_ADDR (0x594000 / 64)).fget F.SC_MTAB_ADDR * 64 = 0x594000 := by
    rw [State.fget_fput_same _ F.SC_MTAB_ADDR _ (by decide)]; rfl
  have hq : (w.fput F.SC_MTAB_ADDR (0x594000 / 64)).combOn 1 = true :=
    (State.combOn_fput w (by decide) _ (by decide)).trans ((hwork.combOn (by decide)).trans hcomb)
  have htn : (w.fput F.SC_MTAB_ADDR (0x594000 / 64)).tn = (s.taken n.val seq.toNat).tn := hwork.tn
  have hput : (w.fput F.SC_MTAB_ADDR (0x594000 / 64)).combBytes 0x594000 132 = wordBytes ws := hbytes
  have hpend := (hflag F.SC_MRES_PENDING rfl).trans hp
  have hbusy := (hflag F.SC_MRES_BUSY rfl).trans hb
  generalize w.fput F.SC_MTAB_ADDR (0x594000 / 64) = v at *
  obtain ⟨hcheck, hset, hkeep, htn'⟩ := v.modelLoad_holds (q := 1) hpend hbusy (by decide) hq haddr (by decide) (by decide)
  generalize v.modelLoad = u at *
  obtain ⟨hrunning, -⟩ := State.pending_tenant (op := 0x38) h (htn'.trans htn)
  rw [hk] at hrunning hex
  refine .of_exec hex ⟨?_, hset, hrunning, (State.combBytes_congr hkeep _ _).trans hput⟩
  rw [hput, bytesWords_wordBytes] at hcheck
  exact hcheck

end

-- UCLOAD

/-- Words of an order in Comb, and the loader's registers set for them. -/
def State.stageLoad (s : State) (core : Nat) (part : Bool) (count first : Nat) (b : List Byte) : State :=
  let s := (s.combWrite 0 0x0F0000 b).fput F.UC_SRC_V (0x0F0000 / 64)
  let s := ((s.fput F.UC_CTL_CORE core).fputB F.UC_CTL_PART part).fput F.UC_DST_COUNT count
  (s.fput F.UC_DST_FIRST first).fput F.UC_CRC (crc32c b)

/-- What they say then: decode entries for `core`, the bytes `b` standing in Comb. -/
structure LoadStaged (s u : State) (core count first : Nat) (b : List Byte) : Prop where
  core : u.fget F.UC_CTL_CORE = core
  part : u.flag F.UC_CTL_PART = true
  count : u.fget F.UC_DST_COUNT = count
  first : u.fget F.UC_DST_FIRST = first
  src : u.fget F.UC_SRC_V = 0x0F0000 / 64
  crc : u.fget F.UC_CRC = crc32c b
  bytes : u.combBytes 0x0F0000 b.length = b
  regs : ∀ a, a / 4096 ≠ 0x120 → a / 16 ≠ 0x19010 → u.reg a = s.reg a
  wv : u.wv = s.wv
  tn : u.tn = s.tn

theorem State.stageLoad_holds (s : State) {core count first : Nat} {b : List Byte} (hcore : core < 32) (hcount : count < 2048)
    (hfirst : first < 1024) (hb : b.length ≤ 0x10000) (hon : s.combOn 0 = true) :
    LoadStaged s (s.stageLoad core true count first b) core count first b := by
  obtain ⟨hwork, hbytes⟩ := s.combWrite_within (q := 0) (a := 0x0F0000) b (by decide) hon (by decide) (by omega)
  have hcrc := crc32c_lt b
  unfold State.stageLoad State.fputB
  generalize s.combWrite 0 0x0F0000 b = w at *
  generalize hc : crc32c b = c at *
  refine ⟨?_, ?_, ?_, ?_, ?_, ?_, (State.combBytes_congr ?_ _ _).trans hbytes, fun a ha hp => ?_, ?_, ?_⟩
  · simp (disch := decide) only [State.fget_fput_other, State.fget_fput_same]
    exact Nat.mod_eq_of_lt hcore
  · unfold State.flag
    simp (disch := decide) only [State.fget_fput_other, State.fget_fput_same]
    rfl
  · simp (disch := decide) only [State.fget_fput_other, State.fget_fput_same]
    exact Nat.mod_eq_of_lt hcount
  · simp (disch := decide) only [State.fget_fput_other, State.fget_fput_same]
    exact Nat.mod_eq_of_lt hfirst
  · simp (disch := decide) only [State.fget_fput_other, State.fget_fput_same]
    rfl
  · rw [State.fget_fput_same _ F.UC_CRC _ (by decide), hc]
    exact Nat.mod_eq_of_lt hcrc
  · simp only [State.fput_comb]
  · have hne (f : Fld) (hf : f.addr / 16 = 0x19010) : a ≠ f.addr := fun e => hp (e ▸ hf)
    rw [State.reg_fput_other _ _ _ (hne F.UC_CRC rfl), State.reg_fput_other _ _ _ (hne F.UC_DST_FIRST rfl),
      State.reg_fput_other _ _ _ (hne F.UC_DST_COUNT rfl), State.reg_fput_other _ _ _ (hne F.UC_CTL_PART rfl),
      State.reg_fput_other _ _ _ (hne F.UC_CTL_CORE rfl), State.reg_fput_other _ _ _ (hne F.UC_SRC_V rfl)]
    exact hwork.regs a ha
  · simp only [State.fput_wv]
    exact hwork.wv
  · simp only [State.fput_tn]
    exact hwork.tn

/-- What GO checks and loads: the words standing at UC_SRC (R287). -/
theorem State.ucGo_eq {v r : State} {b : List Byte} (hb : v.flag F.UC_STAT_BUSY = false) (hp : v.flag F.UC_CTL_PART = true)
    (hread : (v.combRead 0 (64 * v.fget F.UC_SRC_V) (4 * v.fget F.UC_DST_COUNT)).1 = b)
    (hr : (v.combRead 0 (64 * v.fget F.UC_SRC_V) (4 * v.fget F.UC_DST_COUNT)).2.2 = r) :
    let ws := (chunks 4 b).map fun c => BitVec.ofNat 64 (ofLe c)
    let code := r.ucCheck (v.fget F.UC_CTL_CORE) (v.fget F.UC_DST_FIRST) (v.fget F.UC_DST_COUNT) true (decide (crc32c b = r.fget F.UC_CRC)) ws
    v.ucGo = if code ≠ 0 then r.fput F.UC_STAT_RESULT code else
      { (r.fput F.UC_STAT_RESULT code).fputB F.UC_STAT_BUSY true with
        wv.uc := some { core := v.fget F.UC_CTL_CORE, part := true, src := 0, first := v.fget F.UC_DST_FIRST,
                        words := v.fget F.UC_DST_COUNT, vals := ws } } := by
  subst hread hr
  unfold State.ucGo
  rw [if_neg (by rw [hb]; exact Bool.false_ne_true), hp]
  rfl

/-- The words of an order, as the loader takes them. -/
theorem loadWords (vals : List Word) :
    ((chunks 4 (wordBytes vals)).map fun c => BitVec.ofNat 64 (ofLe c)) = vals.map fun (v : Word) => v.setWidth 64 := by
  rw [chunks_wordBytes, List.map_map]
  refine List.map_congr_left fun w _ => ?_
  rw [Function.comp_apply, ofLe_word, BitVec.ofNat_toNat]

section
variable {s u : State} {core first : Nat} {vals : List Word} (hs : LoadStaged s u core vals.length first (wordBytes vals))
include hs

/-- GO on a staged order: its condition, and what it leaves. -/
theorem LoadStaged.go (hb : s.flag F.UC_STAT_BUSY = false) (hon : s.combOn 0 = true) (hlen : vals.length ≤ 16) :
    ∃ r : State, (∀ a, a / 4096 ≠ 0x120 → a / 16 ≠ 0x19010 → r.reg a = s.reg a) ∧ r.wv = s.wv ∧ r.tn = s.tn ∧
      ∀ code, r.ucCheck core first vals.length true true (vals.map fun (v : Word) => v.setWidth 64) = code → u.ucGo = if code ≠ 0 then r.fput F.UC_STAT_RESULT code else
        { (r.fput F.UC_STAT_RESULT code).fputB F.UC_STAT_BUSY true with
          wv.uc := some { core := core, part := true, src := 0, first := first, words := vals.length,
                          vals := vals.map fun (v : Word) => v.setWidth 64 } } := by
  obtain ⟨hcore, hpart, hcount, hfirst, hsrc, hcrc, hbytes, hregs, hwv, htn⟩ := hs
  have hbusy : u.flag F.UC_STAT_BUSY = false := (State.flag_congr (hregs _ (by decide) (by decide))).trans hb
  have hq : u.combOn 0 = true := by
    have hst : u.domState 1 = s.domState 1 := State.fget_congr (hregs _ (by decide) (by decide))
    have hpow : u.domPowered 1 = s.domPowered 1 := by unfold State.domPowered; rw [hst]
    exact hpow.trans hon
  obtain ⟨hread, hkeep⟩ := u.combRead_on (m := 0) (by decide) 0x0F0000 (4 * vals.length)
    (State.combOn_within (q := 0) (by decide) hq (by decide) (by omega))
  rw [wordBytes_length] at hbytes
  rw [hbytes] at hread
  have hgo := State.ucGo_eq (v := u) (b := wordBytes vals) hbusy hpart (by rw [hsrc, hcount]; exact hread) rfl
  rw [hsrc, hcount, hcore, hfirst, loadWords] at hgo
  refine ⟨(u.combRead 0 0x0F0000 (4 * vals.length)).2.2, fun a ha hp => (hkeep.regs a ha).trans (hregs a ha hp),
    hkeep.wv.trans hwv, hkeep.tn.trans htn, ?_⟩
  have hsum : (u.combRead 0 0x0F0000 (4 * vals.length)).2.2.fget F.UC_CRC = crc32c (wordBytes vals) :=
    (hkeep.fget (by decide)).trans hcrc
  rw [show 64 * (0x0F0000 / 64) = 0x0F0000 by decide, hsum, decide_eq_true rfl] at hgo
  rintro code rfl
  exact hgo

end

section
variable {r : State} {core first : Nat} {vals : List Word}

/-- A sealed core refuses every load (R288). -/
theorem State.ucCheck_sealed {count : Nat} {ws : List (BitVec 64)} (hcore : core ≤ 16) (hs : r.flag ⟨F.UC_SEAL_V.addr, core, 1⟩ = true) :
    r.ucCheck core first count true true ws = 1 :=
  (if_neg (Nat.not_lt.mpr hcore)).trans (if_pos hs)

/-- A load none of the conditions of R287 stops. -/
theorem State.ucCheck_passes {count : Nat} {ws : List (BitVec 64)} (hcore : core ≤ 16) (hs : r.flag ⟨F.UC_SEAL_V.addr, core, 1⟩ = false)
    (hrun : core < 16 → r.flag (F.WV_CTL_RUN core) = false) (hcount : count ≠ 0) (hfit : first + count ≤ 16)
    (hgood : ∀ w ∈ ws, entryBad w = false) : r.ucCheck core first count true true ws = 0 := by
  have hsealed : ¬ r.flag ⟨F.UC_SEAL_V.addr, core, 1⟩ = true := by rw [hs]; exact Bool.false_ne_true
  have hidle : ¬ (core < 16 ∧ r.flag (F.WV_CTL_RUN core) = true) := fun ⟨hc, hr⟩ => Bool.false_ne_true ((hrun hc).symm.trans hr)
  have hroom : ¬ (count = 0 ∨ 16 < first + count) := by omega
  have hbad : ¬ ws.any entryBad = true := by
    rw [List.any_eq_true]
    exact fun ⟨w, hw, hb⟩ => Bool.false_ne_true ((hgood w hw).symm.trans hb)
  unfold State.ucCheck
  rw [if_neg (Nat.not_lt.mpr hcore), if_neg hsealed, if_neg hidle]
  exact (if_neg hroom).trans ((if_neg (not_not_intro rfl)).trans (if_neg hbad))

end

section
variable {s : State} {n : Fin 4096} {seq arg0 : Half} (h : s.accepts n.val seq.toNat)
include h

theorem ucload_rights {ws : List Word} (hk : n.val ≠ 0) :
    Answers (.ucload n seq arg0 ws) s n.val 0x39 seq.toNat cRIGHTS [] fun u => u.wv = s.wv :=
  .refused h rfl (if_neg hk) (State.reply_wv _ _ _ _ _ _)

variable {first : Word} {vals : List Word} (hk : n.val = 0) (hpart : arg0.getLsbD 8 = true) (hb : s.flag F.UC_STAT_BUSY = false)
  (hon : s.domPowered 1 = true) (hne : vals ≠ []) (hfit : first.toNat + vals.length ≤ 16)
include hk hpart hb hon hne hfit

/-- An order of decode entries stages its words and gives GO; the reply tells UC_STAT.RESULT. -/
theorem ucload_goes {code : Nat} {P : State → Prop}
    (hgo : ∀ u, LoadStaged (s.taken n.val seq.toNat) u (arg0.toNat % 32) vals.length first.toNat (wordBytes vals) →
      u.ucGo.fget F.UC_STAT_RESULT = code ∧ u.ucGo.tn = (s.taken n.val seq.toNat).tn ∧
      P (u.ucGo.reply n.val 0x39 seq.toNat (if code = 0 then cOK else cREFUSED) (leBytes 2 code))) :
    Answers (.ucload n seq arg0 (first :: vals)) s n.val 0x39 seq.toNat (if code = 0 then cOK else cREFUSED) (leBytes 2 code) P := by
  have hlen : 0 < vals.length := List.length_pos_of_ne_nil hne
  have hstaged := (s.taken n.val seq.toNat).stageLoad_holds (core := arg0.toNat % 32) (count := vals.length) (first := first.toNat)
    (b := wordBytes vals) (Nat.mod_lt _ (by decide)) (by omega) (by omega) (by rw [wordBytes_length]; omega) hon
  obtain ⟨hresult, htn, hP⟩ := hgo _ hstaged
  have hwell : ¬ ((first :: vals).length < 2 ∨ (¬ arg0.getLsbD 8 = true ∧ vals.length % 2 = 1) ∨
      2047 < if arg0.getLsbD 8 then vals.length else vals.length / 2) := by
    rw [if_pos hpart, List.length_cons]
    rintro (hc | ⟨hc, -⟩ | hc)
    · omega
    · exact hc hpart
    · omega
  have hidle : ¬ (s.taken n.val seq.toNat).flag F.UC_STAT_BUSY = true := by
    rw [show (s.taken n.val seq.toNat).flag F.UC_STAT_BUSY = s.flag F.UC_STAT_BUSY from rfl, hb]; exact Bool.false_ne_true
  have hlow : first.toNat < 1024 := by omega
  refine .of_reply h rfl ((if_pos hk).trans ((if_neg hwell).trans ((if_neg hidle).trans ?_))) ?_ hP
  · rw [← hresult]
    simp only [hpart, if_true, List.drop_succ_cons, List.drop_zero]
    rw [if_pos (show argWord (first :: vals) 0 < 1024 from hlow)]
    rfl
  · rw [State.tenant_congr (congrArg TnSt.tenants htn), State.taken_tenant]

theorem ucload_sealed (hcore : arg0.toNat % 32 ≤ 16) (hs : s.flag ⟨F.UC_SEAL_V.addr, arg0.toNat % 32, 1⟩ = true) :
    Answers (.ucload n seq arg0 (first :: vals)) s n.val 0x39 seq.toNat cREFUSED (leBytes 2 1) fun u => u.wv = s.wv := by
  refine ucload_goes h hk hpart hb hon hne hfit (code := 1) fun u hu => ?_
  obtain ⟨r, hregs, hwv, htn, hgo⟩ := hu.go hb hon (by omega)
  have hseal : r.flag ⟨F.UC_SEAL_V.addr, arg0.toNat % 32, 1⟩ = true := (State.flag_congr (hregs 0x190114 (by decide) (by decide))).trans hs
  rw [hgo 1 (State.ucCheck_sealed hcore hseal), if_pos (by decide)]
  exact ⟨State.fget_fput_same r F.UC_STAT_RESULT 1 (by decide), htn, (State.reply_wv _ _ _ _ _ _).trans hwv⟩

theorem ucload_taken (hcore : arg0.toNat % 32 ≤ 16) (hs : s.flag ⟨F.UC_SEAL_V.addr, arg0.toNat % 32, 1⟩ = false)
    (hrun : arg0.toNat % 32 < 16 → s.flag (F.WV_CTL_RUN (arg0.toNat % 32)) = false)
    (hgood : ∀ v ∈ vals, entryBad (v.setWidth 64) = false) :
    Answers (.ucload n seq arg0 (first :: vals)) s n.val 0x39 seq.toNat cOK (leBytes 2 0) fun u => u.flag F.UC_STAT_BUSY = true ∧
      u.wv.uc = some { core := arg0.toNat % 32, part := true, src := 0, first := first.toNat, words := vals.length,
                       vals := vals.map fun (v : Word) => v.setWidth 64 } := by
  refine ucload_goes h hk hpart hb hon hne hfit (code := 0) fun u hu => ?_
  obtain ⟨r, hregs, -, htn, hgo⟩ := hu.go hb hon (by omega)
  have hseal : r.flag ⟨F.UC_SEAL_V.addr, arg0.toNat % 32, 1⟩ = false := (State.flag_congr (hregs 0x190114 (by decide) (by decide))).trans hs
  have hstop : arg0.toNat % 32 < 16 → r.flag (F.WV_CTL_RUN (arg0.toNat % 32)) = false := fun hc =>
    (State.flag_congr (hregs _ (by simp only [F.WV_CTL_RUN]; omega) (by simp only [F.WV_CTL_RUN]; omega))).trans (hrun hc)
  have hcode := State.ucCheck_passes hcore hseal hstop (List.length_pos_of_ne_nil hne).ne' hfit (List.forall_mem_map.mpr hgood)
  rw [hgo 0 hcode, if_neg (not_not_intro rfl)]
  have hbusy := State.flag_fputB_same (r.fput F.UC_STAT_RESULT 0) F.UC_STAT_BUSY true (by decide) (by decide)
  have hresult : ((r.fput F.UC_STAT_RESULT 0).fputB F.UC_STAT_BUSY true).fget F.UC_STAT_RESULT = 0 :=
    (State.fget_fput_other _ F.UC_STAT_BUSY F.UC_STAT_RESULT _ (by decide) (by decide)).trans
      (State.fget_fput_same r F.UC_STAT_RESULT 0 (by decide))
  have htn' : ((r.fput F.UC_STAT_RESULT 0).fputB F.UC_STAT_BUSY true).tn = r.tn := rfl
  generalize (r.fput F.UC_STAT_RESULT 0).fputB F.UC_STAT_BUSY true = w at *
  refine ⟨hresult, htn'.trans htn, ?_, ?_⟩
  · exact (State.flag_congr (State.reply_reg _ _ _ _ _ _ (by decide))).trans hbusy
  · rw [State.reply_wv]

end

end Sys2Proof.Machine
end

section
/-! The orders of tenants together: SEARCH, SPECTRUM, SCHED, UNSCHED, MODEL and UCLOAD (16: R320, R322). -/

namespace Sys2Proof.Machine

/-- Settles O33, a clause at a time: what each order leaves is stated with it above. -/
theorem tenantsOrderSearchesSpectraAndSchedules : Obligations.TenantsOrderSearchesSpectraAndSchedules := by
  unfold Obligations.TenantsOrderSearchesSpectraAndSchedules
  intro s n seq arg0 h
  refine ⟨?_, ?_, ?_, ?_, ?_, ?_, ?_, ?_, ?_, ?_, ?_⟩
  · intro ws hw
    exact ⟨search_toobig h hw, search_taken h hw⟩
  · exact spectrum_off h
  · exact spectrum_busy h
  · exact spectrum_starts h
  · intro t2 t1 t0 act arg per
    refine ⟨sched_rights h, sched_full h, fun i hi hr hf hl => ⟨sched_refused h hr hi hf hl, sched_accepted h hr hi hf hl⟩⟩
  · exact unsched_badarg h
  · exact unsched_rights h
  · exact unsched_done h
  · exact fun _ hk => ⟨model_rights h hk, ucload_rights h hk⟩
  · exact fun _ hk => model_starts h hk
  · intro first vals hk hpart hb hon hcore hne hfit
    exact ⟨ucload_sealed h hk hpart hb hon hne hfit hcore, ucload_taken h hk hpart hb hon hne hfit hcore⟩

end Sys2Proof.Machine
end

section
/-! SUPPORT. Frames of registers and events (02: R31): one after the other, and along a fold; single-bit fields. -/

namespace Sys2Proof.Machine

section
variable {s t u : State} {as ps : List Nat}

theorem OnlyRegs.foldl {α : Type} {f : State → α → State} (l : List α) (h : ∀ t, ∀ x ∈ l, OnlyRegs s t as → OnlyRegs s (f t x) as)
    (ht : OnlyRegs s t as) : OnlyRegs s (l.foldl f t) as :=
  List.foldlRecOn l f ht fun u hu x hx => h u x hx hu

theorem OnlyRegs.cic (h : OnlyRegs s t as) : t.cic = s.cic := (congrArg State.cic h.1 :)

theorem OnlyRegsEvents.refl (s : State) (as ps : List Nat) : OnlyRegsEvents s s as ps := ⟨rfl, fun _ _ _ => rfl⟩

theorem OnlyRegsEvents.trans (h : OnlyRegsEvents s t as ps) (h' : OnlyRegsEvents t u as ps) : OnlyRegsEvents s u as ps :=
  ⟨Eq.trans (congrArg (fun x : State => { x with regs := s.regs, cic := s.cic }) h'.1 :) h.1,
    fun a ha hp => (h'.2 a ha hp).trans (h.2 a ha hp)⟩

theorem OnlyRegsEvents.mono {bs : List Nat} (h : OnlyRegsEvents s t as ps) (hs : ∀ a ∈ as, a ∈ bs) : OnlyRegsEvents s t bs ps :=
  ⟨h.1, fun a ha hp => h.2 a (fun hm => ha (hs a hm)) hp⟩

theorem OnlyRegsEvents.when {b : Bool} {f : State → State} (h : OnlyRegsEvents s t as ps) (hf : OnlyRegsEvents s (f t) as ps) :
    OnlyRegsEvents s (t.when b f) as ps := by
  unfold State.when
  split
  · exact hf
  · exact h

theorem State.reg_when_evRise (s : State) (b : Bool) (p k : Nat) {a : Nat} (h : a ≠ p * 4096 + 0x01C) :
    (s.when b (·.evRise p k)).reg a = s.reg a := by
  unfold State.when
  split
  · exact s.reg_evRise_other p k h
  · rfl

/-- A rise since `s` is one since any state with the same enables. -/
theorem Rises.since {p b : Nat} (h : Rises t u p b) (he : t.reg (p * 4096 + 0x018) = s.reg (p * 4096 + 0x018)) : Rises s u p b :=
  fun hs => h ((State.flag_congr he).trans hs)

theorem Rises.when (b : Bool) {p k p' k' : Nat} (hk : k < 32) (h : Rises s t p k) : Rises s (t.when b (·.evRise p' k')) p k := by
  unfold State.when
  split
  · exact h.evRise p' k' hk
  · exact h

end

/-- A flag of one bit is that bit of its register. -/
theorem State.flag_bit (s : State) (a b : Nat) : s.flag ⟨a, b, 1⟩ = (s.reg a).getLsbD b := by
  have hbit := Fld.get_bit b 1 (s.reg a) 0
  simp only [Nat.zero_lt_one, decide_true, Bool.true_and, Nat.zero_add, Nat.testBit_zero] at hbit
  rw [← hbit]
  unfold State.flag State.fget
  dsimp only
  exact decide_eq_decide.mpr (by omega)

end Sys2Proof.Machine
end

section
/-! Antenna bias and coexistence (04: R83 to R86). -/

namespace Sys2Proof.Machine

-- ANTFLT (R84)

/-- RF_STAT of each path. -/
def rfStats : List Nat := paths.map fun p => (0x020 + p) * 4096 + 0x044

theorem rfStat_mem {p : Nat} (hp : p ∈ paths) : (F.RF_STAT_ANTFLT p).addr ∈ rfStats :=
  List.mem_map.mpr ⟨p, hp, by simp only [F.RF_STAT_ANTFLT]; omega⟩

theorem not_rfStat {a : Nat} (h : a / 4096 < 0x020 ∨ 0x028 ≤ a / 4096) : a ∉ rfStats := by
  intro ha
  obtain ⟨p, hp, rfl⟩ := List.mem_map.mp ha
  have := List.mem_range.mp hp
  omega

/-- Output `n` shows a fault, and feeds path `p`. -/
def State.biasFaults (s : State) (p n : Nat) : Bool :=
  (s.flag (antb F.ANTB_STAT_OPEN n) || s.flag (antb F.ANTB_STAT_SHORT n) || s.flag (antb F.ANTB_STAT_TRIP n)) &&
    (s.fget (F.ANTB_CTL_PATHS n)).testBit p

/-- Every powered path reads ANTFLT exactly when an output that feeds it shows a fault. -/
def State.AntFltShown (s : State) : Prop :=
  ∀ p : Fin 8, s.powered (rfPage p.val) = true → s.flag (F.RF_STAT_ANTFLT p.val) = (List.range 4).any (s.biasFaults p.val)

/-- One step of the pass, the outputs' faults taken from `s`. -/
def State.antFltStep (s t : State) (p : Nat) : State :=
  let bad := (List.range 4).filter fun n =>
    s.flag (antb F.ANTB_STAT_OPEN n) || s.flag (antb F.ANTB_STAT_SHORT n) || s.flag (antb F.ANTB_STAT_TRIP n)
  if t.powered (rfPage p) then t.fputB (F.RF_STAT_ANTFLT p) (bad.any fun n => (t.fget (F.ANTB_CTL_PATHS n)).testBit p) else t

theorem State.antFlt_eq (s : State) : s.antFlt = paths.foldl s.antFltStep s := rfl

theorem OnlyRegs.antFltStep {s t : State} (h : OnlyRegs s t rfStats) {p : Nat} (hp : p ∈ paths) : OnlyRegs s (s.antFltStep t p) rfStats := by
  unfold State.antFltStep
  split
  · exact h.fputB _ _ (rfStat_mem hp)
  · exact h

section
variable (s : State)

theorem State.onlyRegs_antFlt : OnlyRegs s s.antFlt rfStats :=
  s.antFlt_eq ▸ (OnlyRegs.refl s _).foldl _ fun _ _ hp ht => ht.antFltStep hp

theorem State.reg_antFlt {a : Nat} (h : a / 4096 < 0x020 ∨ 0x028 ≤ a / 4096) : s.antFlt.reg a = s.reg a :=
  s.onlyRegs_antFlt.2 a (not_rfStat h)

end

section
variable {s t : State} (h : OnlyRegs s t rfStats)
include h

/-- RF_STAT has no part in the power of a page, or in the faults of an output. -/
theorem OnlyRegs.powered_rfStats (p : Nat) : t.powered p = s.powered p :=
  State.powered_congr fun a ha => h.2 a fun hm => by
    obtain ⟨q, hq, rfl⟩ := List.mem_map.mp hm
    have := List.mem_range.mp hq
    simp only [FabricReg, F.PCIE_LINK_UP, F.USB_STAT_VBUS, F.SPI_WT_T] at ha
    omega

theorem OnlyRegs.fget_antbPaths (n : Nat) : t.fget (F.ANTB_CTL_PATHS n) = s.fget (F.ANTB_CTL_PATHS n) :=
  State.fget_congr (h.2 _ (not_rfStat (by simp only [F.ANTB_CTL_PATHS]; omega)))

theorem OnlyRegs.biasFaults_rfStats (p : Nat) : t.biasFaults p = s.biasFaults p := by
  have hstat : t.reg 0x028068 = s.reg 0x028068 := h.2 _ (not_rfStat (by decide))
  funext n
  unfold State.biasFaults
  rw [h.fget_antbPaths n, State.flag_congr (t := t) (s := s) (f := antb F.ANTB_STAT_OPEN n) hstat,
    State.flag_congr (t := t) (s := s) (f := antb F.ANTB_STAT_SHORT n) hstat,
    State.flag_congr (t := t) (s := s) (f := antb F.ANTB_STAT_TRIP n) hstat]

theorem OnlyRegs.flag_antFltStep_same {p : Nat} (hp : s.powered (rfPage p) = true) :
    (s.antFltStep t p).flag (F.RF_STAT_ANTFLT p) = (List.range 4).any (s.biasFaults p) := by
  unfold State.antFltStep
  extract_lets bad
  rw [if_pos ((h.powered_rfStats _).trans hp), State.flag_fputB_same _ _ _ (Nat.le_of_ble_eq_true rfl) Nat.zero_lt_one, List.any_filter]
  exact congrArg (List.range 4).any (funext fun n => by rw [h.fget_antbPaths n]; rfl)

end

theorem State.flag_antFltStep_other (s t : State) {p q : Nat} (hpq : q ≠ p) :
    (s.antFltStep t q).flag (F.RF_STAT_ANTFLT p) = t.flag (F.RF_STAT_ANTFLT p) := by
  have hother : (F.RF_STAT_ANTFLT p).addr ≠ (F.RF_STAT_ANTFLT q).addr := by simp only [F.RF_STAT_ANTFLT]; omega
  unfold State.antFltStep
  split
  · exact State.flag_fputB_other _ _ _ _ (Nat.le_of_ble_eq_true rfl) (.inl hother)
  · rfl

theorem State.antFlt_shown (s : State) : s.antFlt.AntFltShown := by
  intro p hp
  rw [s.onlyRegs_antFlt.powered_rfStats] at hp
  rw [s.onlyRegs_antFlt.biasFaults_rfStats, s.antFlt_eq]
  have hmem : p.val ∈ paths := List.mem_range.mpr p.isLt
  refine foldl_brings (f := s.antFltStep) (I := fun t => OnlyRegs s t rfStats)
    (Q := fun t => t.flag (F.RF_STAT_ANTFLT p.val) = (List.range 4).any (s.biasFaults p.val))
    (fun q hq t ht => ht.antFltStep hq) (fun q _ t ht h => ?_) hmem (fun t ht => ht.flag_antFltStep_same hp) (OnlyRegs.refl s _)
  by_cases hqp : q = p.val
  · subst hqp
    exact ht.flag_antFltStep_same hp
  · exact (s.flag_antFltStep_other t hqp).trans h

-- OPEN and SHORT (R84)

section
variable (s : State) {f g : Fld} {n m : Nat} (b : Bool)

theorem State.flag_fputB_antb_same (h : f.lo + n < 32) : (s.fputB (antb f n) b).flag (antb f n) = b :=
  State.flag_fputB_same _ _ _ h Nat.zero_lt_one

theorem State.flag_fputB_antb_other (h : f.lo + n ≠ g.lo + m) : (s.fputB (antb f n) b).flag (antb g m) = s.flag (antb g m) :=
  State.flag_fputB_other _ _ _ _ (Nat.le_of_ble_eq_true rfl) (by simp only [antb]; omega)

end

/-- From `s` to `t` OPEN and SHORT of output `n` have taken the values `o` and `h`. -/
structure BiasSet (s t : State) (n : Nat) (o h : Bool) : Prop where
  openFlag : t.flag (antb F.ANTB_STAT_OPEN n) = o
  shortFlag : t.flag (antb F.ANTB_STAT_SHORT n) = h
  trip : t.flag (antb F.ANTB_STAT_TRIP n) = s.flag (antb F.ANTB_STAT_TRIP n)
  blank : t.flag (antb F.ANTB_STAT_BLANK n) = s.flag (antb F.ANTB_STAT_BLANK n)
  openRise : s.flag (antb F.ANTB_STAT_OPEN n) ≠ o → Rises s t 0x028 n
  shortRise : s.flag (antb F.ANTB_STAT_SHORT n) ≠ h → Rises s t 0x028 (4 + n)
  shown : t.AntFltShown
  only : OnlyRegsEvents s t (0x028068 :: rfStats) [0x028]

section
variable (s : State) {n : Nat} (hn : n < 4) (o h : Bool)
include hn

theorem State.antbSet_holds : BiasSet s (s.antbSet n o h) n o h := by
  unfold State.antbSet
  extract_lets co cs
  generalize hu : (s.fputB (antb F.ANTB_STAT_OPEN n) o).fputB (antb F.ANTB_STAT_SHORT n) h = u
  generalize hv : u.when (decide co) (·.evRise 0x028 n) = v
  generalize hw : v.when (decide cs) (·.evRise 0x028 (4 + n)) = w
  have hput : OnlyRegs s u (0x028068 :: rfStats) := by
    rw [← hu]
    exact ((OnlyRegs.refl s _).fputB _ _ (.head _)).fputB _ _ (.head _)
  have heven : u.reg 0x028018 = s.reg 0x028018 := hput.2 _ (by decide)
  have hstat : w.antFlt.reg 0x028068 = u.reg 0x028068 := by
    rw [w.reg_antFlt (by decide), ← hw, v.reg_when_evRise _ _ _ (by decide), ← hv, u.reg_when_evRise _ _ _ (by decide)]
  have hkeep {k : Nat} (hr : Rises s w 0x028 k) : Rises s w.antFlt 0x028 k :=
    hr.keep (w.reg_antFlt (by decide)) w.onlyRegs_antFlt.cic
  refine ⟨(State.flag_congr hstat).trans ?_, (State.flag_congr hstat).trans ?_, (State.flag_congr hstat).trans ?_,
    (State.flag_congr hstat).trans ?_, fun hc => hkeep ?_, fun hc => hkeep ?_, w.antFlt_shown, ?_⟩
  · rw [← hu, State.flag_fputB_antb_other _ _ (by simp only [F.ANTB_STAT_SHORT, F.ANTB_STAT_OPEN]; omega)]
    exact State.flag_fputB_antb_same _ _ (by simp only [F.ANTB_STAT_OPEN]; omega)
  · rw [← hu]
    exact State.flag_fputB_antb_same _ _ (by simp only [F.ANTB_STAT_SHORT]; omega)
  · rw [← hu, State.flag_fputB_antb_other _ _ (by simp only [F.ANTB_STAT_SHORT, F.ANTB_STAT_TRIP]; omega),
      State.flag_fputB_antb_other _ _ (by simp only [F.ANTB_STAT_OPEN, F.ANTB_STAT_TRIP]; omega)]
  · rw [← hu, State.flag_fputB_antb_other _ _ (by simp only [F.ANTB_STAT_SHORT, F.ANTB_STAT_BLANK]; omega),
      State.flag_fputB_antb_other _ _ (by simp only [F.ANTB_STAT_OPEN, F.ANTB_STAT_BLANK]; omega)]
  · have hco : v = u.evRise 0x028 n := by rw [← hv]; exact if_pos (decide_eq_true hc)
    rw [← hw]
    exact .when _ (by omega) (hco ▸ .of_evRise (by omega) heven)
  · have hcs : w = v.evRise 0x028 (4 + n) := by rw [← hw]; exact if_pos (decide_eq_true hc)
    rw [hcs]
    refine .of_evRise (by omega) (Eq.trans ?_ heven)
    rw [← hv]
    exact u.reg_when_evRise _ _ _ (by decide)
  · have hw' : OnlyRegsEvents s w (0x028068 :: rfStats) [0x028] := by
      rw [← hw, ← hv]
      have hev := hput.events (ps := [0x028])
      have hev' := hev.when (b := decide co) (hev.evRise 0x028 n (.head _))
      exact hev'.when (hev'.evRise 0x028 (4 + n) (.head _))
    exact hw'.trans (w.onlyRegs_antFlt.events.mono (fun _ => .tail _))

end

-- the samples (R84, R85)

/-- The state of the outputs, their readings, and RF_STAT of each path. -/
def biasStats : List Nat := 0x028068 :: 0x02806C :: 0x028070 :: rfStats

section
variable {s t u : State} {n : Nat} {o k : Bool}

theorem OnlyRegs.antbRead (h : OnlyRegs s t biasStats) (n ua : Nat) : OnlyRegs s (t.antbRead n ua) biasStats := by
  unfold State.antbRead
  refine h.fput _ _ ?_
  match n with
  | 0 | 1 => exact .tail _ (.head _)
  | 2 | 3 => exact .tail _ (.tail _ (.head _))
  | n + 4 => exact .tail _ (.head _)

theorem State.antbRead_stat (s : State) (n ua : Nat) : (s.antbRead n ua).reg 0x028068 = s.reg 0x028068 := by
  unfold State.antbRead
  match n with
  | 0 | 1 | 2 | 3 => exact State.reg_fput_other _ _ _ (by decide)
  | n + 4 => exact State.reg_fput_other _ F.ANTB_I01_I_LO _ (by decide)

/-- OPEN and SHORT set after updates that leave them. -/
theorem BiasSet.since (h : BiasSet u t n o k) (hu : OnlyRegs s u biasStats)
    (ho : u.flag (antb F.ANTB_STAT_OPEN n) = s.flag (antb F.ANTB_STAT_OPEN n))
    (hs : u.flag (antb F.ANTB_STAT_SHORT n) = s.flag (antb F.ANTB_STAT_SHORT n)) :
    t.AntFltShown ∧ (s.flag (antb F.ANTB_STAT_OPEN n) ≠ o → Rises s t 0x028 n) ∧
      (s.flag (antb F.ANTB_STAT_SHORT n) ≠ k → Rises s t 0x028 (4 + n)) ∧ OnlyRegsEvents s t biasStats [0x028] := by
  have heven : u.reg 0x028018 = s.reg 0x028018 := hu.2 _ (by decide)
  refine ⟨h.shown, fun hc => (h.openRise (ho ▸ hc)).since heven, fun hc => (h.shortRise (hs ▸ hc)).since heven, ?_⟩
  exact hu.events.trans (h.only.mono fun a ha => by
    rcases List.mem_cons.mp ha with rfl | ha
    · exact .head _
    · exact .tail _ (.tail _ (.tail _ ha)))

end

section
variable {s : State} {n : Fin 4} (ua mv : Nat)

theorem antbBlankEnd_holds (hb : s.flag (antb F.ANTB_STAT_BLANK n.val) = true) : Completes (.antbBlankEnd n ua mv) s fun t =>
    t.flag (antb F.ANTB_STAT_BLANK n.val) = false ∧ t.flag (antb F.ANTB_STAT_OPEN n.val) = s.antbOpen n.val ua ∧
    t.flag (antb F.ANTB_STAT_SHORT n.val) = s.antbShort n.val mv ∧ t.AntFltShown ∧
    (s.flag (antb F.ANTB_STAT_OPEN n.val) ≠ s.antbOpen n.val ua → Rises s t 0x028 n.val) ∧
    (s.flag (antb F.ANTB_STAT_SHORT n.val) ≠ s.antbShort n.val mv → Rises s t 0x028 (4 + n.val)) ∧
    OnlyRegsEvents s t biasStats [0x028] := by
  have hn := n.isLt
  refine .of_exec (congrArg Host.Outcome.next (if_pos hb)) ?_
  generalize hx : s.fputB (antb F.ANTB_STAT_BLANK n.val) false = x
  have hstat := x.antbRead_stat n.val ua
  have hset := (x.antbRead n.val ua).antbSet_holds hn (s.antbOpen n.val ua) (s.antbShort n.val mv)
  have honly : OnlyRegs s x biasStats := hx ▸ (OnlyRegs.refl s _).fputB _ _ (.head _)
  refine ⟨?_, hset.openFlag, hset.shortFlag, hset.since (honly.antbRead n.val ua) ?_ ?_⟩
  · rw [hset.blank, State.flag_congr hstat, ← hx]
    exact State.flag_fputB_antb_same _ _ (by simp only [F.ANTB_STAT_BLANK]; omega)
  · rw [State.flag_congr hstat, ← hx]
    exact State.flag_fputB_antb_other _ _ (by simp only [F.ANTB_STAT_BLANK, F.ANTB_STAT_OPEN]; omega)
  · rw [State.flag_congr hstat, ← hx]
    exact State.flag_fputB_antb_other _ _ (by simp only [F.ANTB_STAT_BLANK, F.ANTB_STAT_SHORT]; omega)

theorem antbFaultDetect_holds (he : s.flag (F.ANTB_CTL_EN n.val) = true) (hb : s.flag (antb F.ANTB_STAT_BLANK n.val) = false) :
    Completes (.antbFaultDetect n ua mv) s fun t =>
      t.flag (antb F.ANTB_STAT_OPEN n.val) = s.antbOpen n.val ua ∧ t.flag (antb F.ANTB_STAT_SHORT n.val) = s.antbShort n.val mv ∧
      t.flag (antb F.ANTB_STAT_TRIP n.val) = s.flag (antb F.ANTB_STAT_TRIP n.val) ∧ t.AntFltShown ∧
      (s.flag (antb F.ANTB_STAT_OPEN n.val) ≠ s.antbOpen n.val ua → Rises s t 0x028 n.val) ∧
      (s.flag (antb F.ANTB_STAT_SHORT n.val) ≠ s.antbShort n.val mv → Rises s t 0x028 (4 + n.val)) ∧
      OnlyRegsEvents s t biasStats [0x028] := by
  refine .of_exec (congrArg Host.Outcome.next (if_pos ⟨he, Bool.eq_false_iff.mp hb⟩)) ?_
  have hstat := s.antbRead_stat n.val ua
  have hset := (s.antbRead n.val ua).antbSet_holds n.isLt (s.antbOpen n.val ua) (s.antbShort n.val mv)
  exact ⟨hset.openFlag, hset.shortFlag, hset.trip.trans (State.flag_congr hstat),
    hset.since ((OnlyRegs.refl s _).antbRead n.val ua) (State.flag_congr hstat) (State.flag_congr hstat)⟩

theorem antbTrip_holds (he : s.flag (F.ANTB_CTL_EN n.val) = true) (ht : s.flag (antb F.ANTB_STAT_TRIP n.val) = false)
    (hi : (s.fget (F.ANTB_CTL_ILIM n.val) + 1) * 25000 < ua) : Completes (.antbTrip n ua) s fun t =>
      t.flag (antb F.ANTB_STAT_TRIP n.val) = true ∧ Rises s t 0x028 (8 + n.val) ∧
      t.flag (antb F.ANTB_STAT_BLANK n.val) = s.flag (antb F.ANTB_STAT_BLANK n.val) ∧ t.AntFltShown ∧ OnlyRegsEvents s t biasStats [0x028] := by
  have hn := n.isLt
  refine .of_exec (congrArg Host.Outcome.next (if_pos ⟨he, Bool.eq_false_iff.mp ht, hi⟩)) ?_
  generalize hx : (s.antbRead n.val ua).fputB (antb F.ANTB_STAT_TRIP n.val) true = x
  have honly : OnlyRegs s x biasStats := hx ▸ ((OnlyRegs.refl s _).antbRead n.val ua).fputB _ _ (.head _)
  have hstat : (x.evRise 0x028 (8 + n.val)).antFlt.reg 0x028068 = x.reg 0x028068 :=
    ((x.evRise 0x028 (8 + n.val)).reg_antFlt (by decide)).trans (x.reg_evRise_other _ _ (by decide))
  refine ⟨(State.flag_congr hstat).trans ?_, ?_, (State.flag_congr hstat).trans ?_, State.antFlt_shown _, ?_⟩
  · rw [← hx]
    exact State.flag_fputB_antb_same _ _ (by simp only [F.ANTB_STAT_TRIP]; omega)
  · have hr : Rises s (x.evRise 0x028 (8 + n.val)) 0x028 (8 + n.val) := .of_evRise (by omega) (honly.2 _ (by decide))
    exact hr.keep (State.reg_antFlt _ (by decide)) (State.onlyRegs_antFlt _).cic
  · rw [← hx, State.flag_fputB_antb_other _ _ (by simp only [F.ANTB_STAT_TRIP, F.ANTB_STAT_BLANK]; omega)]
    exact State.flag_congr (s.antbRead_stat n.val ua)
  · exact (honly.events.evRise _ _ (.head _)).trans ((State.onlyRegs_antFlt _).events.mono fun a ha => .tail _ (.tail _ (.tail _ ha)))

end

-- a write of ANTBn_CTL (R83, R84)

/-- ANTBn_CTL. -/
def antbCtlReg : RegDef := ⟨0x058, 4, 4, [⟨16, 8, .RW, 0⟩, ⟨12, 4, .RW, 5⟩, ⟨8, 4, .RW, 5⟩, ⟨1, 1, .RW, 0⟩, ⟨0, 1, .RW, 0⟩]⟩

theorem antbCtlReg_write (old v : Word) : antbCtlReg.write old v &&& 0x00FFFF03 = v &&& 0x00FFFF03 := by
  have hbits : antbCtlReg.bits .RW = 0x00FFFF03 := by decide
  refine BitVec.eq_of_getLsbD_eq fun i _ => ?_
  rw [BitVec.getLsbD_and, BitVec.getLsbD_and]
  cases hi : (0x00FFFF03 : Word).getLsbD i with
  | false => rw [Bool.and_false, Bool.and_false]
  | true =>
    have hc : antbCtlReg.bits .W1C = 0 := by decide
    have hs : antbCtlReg.bits .W1S = 0 := by decide
    rw [RegDef.write_rw_bit (hbits ▸ hi) (by simp [hc]) (by simp [hs])]

theorem State.store_antbCtl (s : State) {n : Nat} (hn : n < 4) (v : Word) :
    s.store 0x028 (0x058 + 4 * n) v = s.setReg (0x028058 + 4 * n) (antbCtlReg.write (s.reg (0x028058 + 4 * n)) v) := by
  obtain ⟨r, i, j, hp, hr, -⟩ := shadowPage_rfcom.row
  have hreg : ∀ n : Fin 4, findReg regsRFCOM (0x058 + 4 * n.val) = some (antbCtlReg, n.val) := by decide
  rw [State.store_block v s hp (hr ▸ hreg ⟨n, hn⟩), ← Nat.add_assoc]

/-- What ANTB_STAT and the events make of a write of ANTBn_CTL over `s`: EN, V50 and the other bits of `v` are stored. -/
structure BiasWritten (s x : State) (n : Nat) (v : Word) : Prop where
  word : x.reg (0x028058 + 4 * n) &&& 0x00FFFF03 = v &&& 0x00FFFF03
  turnedOn : s.flag (F.ANTB_CTL_EN n) = false → v.getLsbD 0 = true →
    x.flag (antb F.ANTB_STAT_TRIP n) = false ∧ x.flag (antb F.ANTB_STAT_BLANK n) = true ∧
    x.flag (antb F.ANTB_STAT_OPEN n) = s.flag (antb F.ANTB_STAT_OPEN n) ∧ x.flag (antb F.ANTB_STAT_SHORT n) = s.flag (antb F.ANTB_STAT_SHORT n)
  off : v.getLsbD 0 = false → x.flag (antb F.ANTB_STAT_BLANK n) = false ∧ x.flag (antb F.ANTB_STAT_OPEN n) = false ∧
    x.flag (antb F.ANTB_STAT_SHORT n) = false ∧ x.flag (antb F.ANTB_STAT_TRIP n) = s.flag (antb F.ANTB_STAT_TRIP n) ∧
    (s.flag (antb F.ANTB_STAT_OPEN n) = true → Rises s x 0x028 n)
  ramped : s.flag (F.ANTB_CTL_EN n) = true → v.getLsbD 0 = true → v.getLsbD 1 ≠ s.flag (F.ANTB_CTL_V50 n) →
    x.flag (antb F.ANTB_STAT_BLANK n) = (s.flag (antb F.ANTB_STAT_BLANK n) || !s.flag (antb F.ANTB_STAT_TRIP n)) ∧
    x.flag (antb F.ANTB_STAT_TRIP n) = s.flag (antb F.ANTB_STAT_TRIP n) ∧
    x.flag (antb F.ANTB_STAT_OPEN n) = s.flag (antb F.ANTB_STAT_OPEN n) ∧ x.flag (antb F.ANTB_STAT_SHORT n) = s.flag (antb F.ANTB_STAT_SHORT n)

section
variable {s x : State} {n : Nat} {v : Word}

/-- ANTFLT follows on pages of its own. -/
theorem BiasWritten.antFlt (h : BiasWritten s x n v) (hn : n < 4) : BiasWritten s x.antFlt n v := by
  have hctl : x.antFlt.reg (0x028058 + 4 * n) = x.reg (0x028058 + 4 * n) := x.reg_antFlt (by omega)
  have hstat : x.antFlt.reg 0x028068 = x.reg 0x028068 := x.reg_antFlt (by decide)
  have hflag (f : Fld) (hf : f.addr = 0x028068) : x.antFlt.flag (antb f n) = x.flag (antb f n) := State.flag_congr (f := antb f n) (hf ▸ hstat)
  have hpend : x.antFlt.reg (0x028 * 4096 + 0x01C) = x.reg (0x028 * 4096 + 0x01C) := x.reg_antFlt (by decide)
  obtain ⟨hw, h1, h2, h3⟩ := h
  refine ⟨hctl ▸ hw, ?_, ?_, ?_⟩
  · rwa [hflag _ rfl, hflag _ rfl, hflag _ rfl, hflag _ rfl]
  · rw [hflag _ rfl, hflag _ rfl, hflag _ rfl, hflag _ rfl]
    intro hv
    obtain ⟨hb, ho, hs, ht, hr⟩ := h2 hv
    exact ⟨hb, ho, hs, ht, fun h0 => (hr h0).keep hpend x.onlyRegs_antFlt.cic⟩
  · rwa [hflag _ rfl, hflag _ rfl, hflag _ rfl, hflag _ rfl]

/-- ANTBn_CTL of `u` is written with `v`, and the rest of its registers stands. -/
structure BiasStored (s u : State) (n : Nat) (v : Word) : Prop where
  word : u.reg (0x028058 + 4 * n) &&& 0x00FFFF03 = v &&& 0x00FFFF03
  others : OnlyRegs s u [0x028058 + 4 * n]

theorem State.store_biasStored (s : State) (hn : n < 4) (v : Word) : BiasStored s (s.store 0x028 (0x058 + 4 * n) v) n v := by
  rw [s.store_antbCtl hn]
  exact ⟨(congrArg (· &&& 0x00FFFF03) (s.reg_setReg_same _ _)).trans (antbCtlReg_write _ _), (OnlyRegs.refl s _).setReg _ _ (.head _)⟩

section
variable {u : State} (hu : BiasStored s u n v) (hn : n < 4)
include hu

theorem BiasStored.bit {i : Nat} (hi : (0x00FFFF03 : Word).getLsbD i = true) : (u.reg (0x028058 + 4 * n)).getLsbD i = v.getLsbD i := by
  have hbit := congrArg (BitVec.getLsbD · i) hu.word
  simpa only [BitVec.getLsbD_and, hi, Bool.and_true] using hbit

theorem BiasStored.en : u.flag (F.ANTB_CTL_EN n) = v.getLsbD 0 := (u.flag_bit _ _).trans (hu.bit (by decide))

theorem BiasStored.v50 : u.flag (F.ANTB_CTL_V50 n) = v.getLsbD 1 := (u.flag_bit _ _).trans (hu.bit (by decide))

include hn

theorem BiasStored.stat {f : Fld} (hf : f.addr = 0x028068) : u.flag (antb f n) = s.flag (antb f n) :=
  State.flag_congr (hu.others.2 _ (by simp only [antb, hf, List.mem_singleton]; omega))

theorem BiasStored.turnedOn (he : s.flag (F.ANTB_CTL_EN n) = false) (hv : v.getLsbD 0 = true) :
    BiasWritten s ((u.fputB (antb F.ANTB_STAT_TRIP n) false).fputB (antb F.ANTB_STAT_BLANK n) true) n v := by
  have hctl : 0x028058 + 4 * n ≠ 0x028068 := by omega
  refine ⟨?_, fun _ _ => ⟨?_, ?_, ?_, ?_⟩, fun hoff => absurd (hoff.symm.trans hv) Bool.false_ne_true, fun hon => absurd (he.symm.trans hon) Bool.false_ne_true⟩
  · rw [State.fputB, State.reg_fput_other _ _ _ hctl, State.fputB, State.reg_fput_other _ _ _ hctl, hu.word]
  · rw [State.flag_fputB_antb_other _ _ (by simp only [F.ANTB_STAT_BLANK, F.ANTB_STAT_TRIP]; omega)]
    exact State.flag_fputB_antb_same _ _ (by simp only [F.ANTB_STAT_TRIP]; omega)
  · exact State.flag_fputB_antb_same _ _ (by simp only [F.ANTB_STAT_BLANK]; omega)
  · rw [State.flag_fputB_antb_other _ _ (by simp only [F.ANTB_STAT_BLANK, F.ANTB_STAT_OPEN]; omega),
      State.flag_fputB_antb_other _ _ (by simp only [F.ANTB_STAT_TRIP, F.ANTB_STAT_OPEN]; omega), hu.stat hn rfl]
  · rw [State.flag_fputB_antb_other _ _ (by simp only [F.ANTB_STAT_BLANK, F.ANTB_STAT_SHORT]; omega),
      State.flag_fputB_antb_other _ _ (by simp only [F.ANTB_STAT_TRIP, F.ANTB_STAT_SHORT]; omega), hu.stat hn rfl]

theorem BiasStored.turnedOff (hv : v.getLsbD 0 = false) :
    BiasWritten s ((u.fputB (antb F.ANTB_STAT_BLANK n) false).antbSet n false false) n v := by
  have hctl : 0x028058 + 4 * n ≠ 0x028068 := by omega
  generalize hy : u.fputB (antb F.ANTB_STAT_BLANK n) false = y
  have honly : OnlyRegs s y [0x028058 + 4 * n, 0x028068] := by
    rw [← hy]
    exact OnlyRegs.fputB ⟨hu.others.1, fun a ha => hu.others.2 a fun hm => ha (List.mem_singleton.mp hm ▸ .head _)⟩ _ _ (.tail _ (.head _))
  have hset := y.antbSet_holds hn false false
  have hopen : y.flag (antb F.ANTB_STAT_OPEN n) = s.flag (antb F.ANTB_STAT_OPEN n) := by
    rw [← hy, State.flag_fputB_antb_other _ _ (by simp only [F.ANTB_STAT_BLANK, F.ANTB_STAT_OPEN]; omega), hu.stat hn rfl]
  refine ⟨?_, fun _ hon => absurd (hv.symm.trans hon) Bool.false_ne_true, fun _ => ⟨?_, hset.openFlag, hset.shortFlag, ?_, fun ho => ?_⟩,
    fun _ hon => absurd (hv.symm.trans hon) Bool.false_ne_true⟩
  · have hfar : 0x028058 + 4 * n ∉ 0x028068 :: rfStats := fun hm => (List.mem_cons.mp hm).elim hctl (not_rfStat (by omega))
    rw [hset.only.2 _ hfar (by simp; omega), ← hy, State.fputB, State.reg_fput_other _ _ _ hctl, hu.word]
  · rw [hset.blank, ← hy]
    exact State.flag_fputB_antb_same _ _ (by simp only [F.ANTB_STAT_BLANK]; omega)
  · rw [hset.trip, ← hy, State.flag_fputB_antb_other _ _ (by simp only [F.ANTB_STAT_BLANK, F.ANTB_STAT_TRIP]; omega), hu.stat hn rfl]
  · refine (hset.openRise (by rw [hopen, ho]; decide)).since (honly.2 _ ?_)
    simp
    omega

theorem BiasStored.kept (he : s.flag (F.ANTB_CTL_EN n) = true) (hv : v.getLsbD 0 = true) :
    BiasWritten s (if s.flag (F.ANTB_CTL_V50 n) ≠ u.flag (F.ANTB_CTL_V50 n) ∧ ¬ u.flag (antb F.ANTB_STAT_TRIP n) = true then
      u.fputB (antb F.ANTB_STAT_BLANK n) true else u) n v := by
  have hctl : 0x028058 + 4 * n ≠ 0x028068 := by omega
  rw [hu.v50, hu.stat hn (f := F.ANTB_STAT_TRIP) rfl]
  split
  · next hc =>
    refine ⟨?_, fun h => absurd (h.symm.trans he) Bool.false_ne_true, fun hoff => absurd (hoff.symm.trans hv) Bool.false_ne_true,
      fun _ _ _ => ⟨?_, ?_, ?_, ?_⟩⟩
    · rw [State.fputB, State.reg_fput_other _ _ _ hctl, hu.word]
    · rw [Bool.eq_false_iff.mpr hc.2, Bool.not_false, Bool.or_true]
      exact State.flag_fputB_antb_same _ _ (by simp only [F.ANTB_STAT_BLANK]; omega)
    · rw [State.flag_fputB_antb_other _ _ (by simp only [F.ANTB_STAT_BLANK, F.ANTB_STAT_TRIP]; omega), hu.stat hn rfl]
    · rw [State.flag_fputB_antb_other _ _ (by simp only [F.ANTB_STAT_BLANK, F.ANTB_STAT_OPEN]; omega), hu.stat hn rfl]
    · rw [State.flag_fputB_antb_other _ _ (by simp only [F.ANTB_STAT_BLANK, F.ANTB_STAT_SHORT]; omega), hu.stat hn rfl]
  · next hc =>
    refine ⟨hu.word, fun h => absurd (h.symm.trans he) Bool.false_ne_true, fun hoff => absurd (hoff.symm.trans hv) Bool.false_ne_true,
      fun _ _ hne => ⟨?_, hu.stat hn rfl, hu.stat hn rfl, hu.stat hn rfl⟩⟩
    have htrip : s.flag (antb F.ANTB_STAT_TRIP n) = true := by
      by_contra h
      exact hc ⟨hne.symm, h⟩
    rw [hu.stat hn rfl, htrip, Bool.not_true, Bool.or_false]

end

theorem State.antbWrite_holds (s : State) (hn : n < 4) (v : Word) : BiasWritten s (s.antbWrite n v) n v ∧ (s.antbWrite n v).AntFltShown := by
  have hu := s.store_biasStored hn v
  unfold State.antbWrite
  extract_lets en0 v0 u en1 x
  refine ⟨BiasWritten.antFlt ?_ hn, x.antFlt_shown⟩
  have hen : en1 = v.getLsbD 0 := hu.en
  cases hv : v.getLsbD 0 with
  | false =>
    have hx : x = (u.fputB (antb F.ANTB_STAT_BLANK n) false).antbSet n false false := by
      show ite _ _ _ = _
      rw [hen, hv, if_neg (fun h => Bool.false_ne_true h.2), if_pos Bool.false_ne_true]
    exact hx ▸ hu.turnedOff hn hv
  | true =>
    cases he : en0 with
    | false =>
      have hx : x = (u.fputB (antb F.ANTB_STAT_TRIP n) false).fputB (antb F.ANTB_STAT_BLANK n) true := by
        show ite _ _ _ = _
        rw [hen, hv, he, if_pos ⟨Bool.false_ne_true, rfl⟩]
      exact hx ▸ hu.turnedOn hn he hv
    | true =>
      have hx : x = if v0 ≠ u.flag (F.ANTB_CTL_V50 n) ∧ ¬ u.flag (antb F.ANTB_STAT_TRIP n) = true then
          u.fputB (antb F.ANTB_STAT_BLANK n) true else u := by
        show ite _ _ _ = _
        rw [hen, hv, he, if_neg (fun h => h.1 rfl), if_neg (not_not_intro rfl)]
      exact hx ▸ hu.kept hn he hv

theorem exec_antbCtlWrite {via : Via} {n : Fin 4} {v : Word} (hj : s.judge via 0x028 (0x058 + 4 * n.val) true = .ok) :
    exec (.antbCtlWrite via n v) s = .next (s.antbWrite n.val v) := congrArg Host.Outcome.next (State.guarded_ok hj _)

end

-- coexistence (R86)

/-- COEX_TXACT asserted: counted, raised, its tail over. -/
def State.txactRisen (s : State) : State := { (s.finc F.COEX_CNT).evRise 0x028 14 with rf.txact := true, rf.tail := false }

section
variable (s : State)

theorem State.txactRisen_mask : s.txactRisen.fget F.COEX_TXMASK = s.fget F.COEX_TXMASK :=
  ((s.finc F.COEX_CNT).fget_evRise_other 0x028 14 _ (by decide)).trans (s.fget_fput_other _ _ _ (by decide) (by decide))

theorem State.txactRisen_reg {a : Nat} (h : a ∉ [0x028050, 0x02801C]) : s.txactRisen.reg a = s.reg a := by
  simp only [List.mem_cons, List.not_mem_nil, or_false, not_or] at h
  exact ((s.finc F.COEX_CNT).reg_evRise_other 0x028 14 h.2).trans (s.reg_fput_other _ _ h.1)

/-- An asserting edge: the open calibration block takes the blanking besides. -/
theorem State.txactFollow_rise (h : s.rf.txact = false) (hw : s.rf.txWire = !s.flag F.COEX_TXPOL) :
    s.txactFollow = { s.txactRisen with
      rf.calBlank := s.txactRisen.rf.calBlank || (maskPaths s.txactRisen.rf.calMask).any s.txactRisen.blanked } := by
  unfold State.txactFollow
  dsimp only
  rw [hw, Bool.not_xor_self, h, if_neg (Bool.false_ne_true ·.symm), if_pos rfl]
  rfl

theorem State.txactFollow_fall (h : s.rf.txact = true) (hw : s.rf.txWire = s.flag F.COEX_TXPOL) :
    s.txactFollow = { s with rf.txact := false, rf.tail := decide (s.fget F.COEX_TXTAIL ≠ 0) } := by
  unfold State.txactFollow
  dsimp only
  rw [hw, Bool.xor_self, h, if_neg Bool.false_ne_true, if_neg Bool.false_ne_true]

theorem State.txactFollow_asserted (h : s.rf.txact = false) (hw : s.rf.txWire = !s.flag F.COEX_TXPOL) :
    s.txactFollow.fget F.COEX_CNT = satInc 32 (s.fget F.COEX_CNT) ∧ Rises s s.txactFollow 0x028 14 ∧
    (∀ p : Fin 8, s.txactFollow.blanked p.val = (s.fget F.COEX_TXMASK).testBit p.val) ∧
    ∀ a, a ∉ [0x028050, 0x02801C] → s.txactFollow.reg a = s.reg a := by
  rw [s.txactFollow_rise h hw]
  refine ⟨?_, ?_, fun p => ?_, fun a ha => s.txactRisen_reg ha⟩
  · exact ((s.finc F.COEX_CNT).fget_evRise_other 0x028 14 F.COEX_CNT (by decide)).trans (s.finc_fget F.COEX_CNT (by decide))
  · exact (Rises.of_evRise (s := s) (t := s.finc F.COEX_CNT) (p := 0x028) (b := 14) (by decide) (s.reg_fput_other _ _ (by decide)) :)
  · exact congrArg (fun m : Nat => true && m.testBit p.val) s.txactRisen_mask

end

section
variable {s : State}

theorem coexTxactAssert_holds (h : s.rf.txact = false) : Completes .coexTxactAssert s fun t =>
    t.fget F.COEX_CNT = satInc 32 (s.fget F.COEX_CNT) ∧ Rises s t 0x028 14 ∧
    (∀ p : Fin 8, t.blanked p.val = (s.fget F.COEX_TXMASK).testBit p.val) ∧ ∀ a, a ∉ [0x028050, 0x02801C] → t.reg a = s.reg a :=
  .of_exec rfl (State.txactFollow_asserted { s with rf.txWire := !s.flag F.COEX_TXPOL } h rfl)

theorem coexTxactRelease_holds (h : s.rf.txact = true) : Completes .coexTxactRelease s fun t =>
    t.rf.txact = false ∧ t.rf.tail = decide (s.fget F.COEX_TXTAIL ≠ 0) ∧ t.regs = s.regs :=
  .of_exec (congrArg Host.Outcome.next (State.txactFollow_fall { s with rf.txWire := s.flag F.COEX_TXPOL } h rfl)) ⟨rfl, rfl, rfl⟩

theorem blankTailEnd_holds (h : s.rf.txact = false) : Completes .blankTailEnd s fun t =>
    (∀ p : Fin 8, t.blanked p.val = false) ∧ { t with rf.tail := s.rf.tail } = s :=
  .of_exec rfl ⟨fun p => by unfold State.blanked; rw [h]; rfl, rfl⟩

end

/-- Settles O9: a write of ANTBn_CTL by what it makes of ANTB_STAT, the samples by OPEN and SHORT set, TXACT by its edges. -/
theorem biasAndCoexistenceAct : Obligations.BiasAndCoexistenceAct := by
  unfold Obligations.BiasAndCoexistenceAct
  intro op sh tr bl faulted cur stats s n
  refine ⟨fun via v hj => ?_, fun ua mv => antbBlankEnd_holds ua mv, fun ua mv => antbFaultDetect_holds ua mv, fun ua => antbTrip_holds ua,
    coexTxactAssert_holds, coexTxactRelease_holds, blankTailEnd_holds⟩
  obtain ⟨⟨hword, hon, hoff, hramp⟩, hshown⟩ := s.antbWrite_holds n.isLt v
  exact .of_exec (exec_antbCtlWrite hj) ⟨hword, hshown, hon, hoff, hramp⟩

end Sys2Proof.Machine
end

section
/-! SUPPORT. RF paths (04: R66, R75, R76, R79 to R81): what a path's state and its group read from, and paths sent on together. -/

namespace Sys2Proof.Machine

theorem mem_maskPaths {m p : Nat} : p ∈ maskPaths m ↔ p < 8 ∧ m.testBit p = true := by
  unfold maskPaths paths
  rw [List.mem_filter, List.mem_range]

theorem maskPaths_ne_nil {m : Byte} (h : m ≠ 0) : maskPaths m.toNat ≠ [] := by
  intro hnil
  refine h (BitVec.eq_of_getLsbD_eq fun i hi => ?_)
  have hnot : i ∉ maskPaths m.toNat := by rw [hnil]; exact List.not_mem_nil
  rw [mem_maskPaths, BitVec.testBit_toNat, not_and, Bool.not_eq_true] at hnot
  exact (hnot hi).trans BitVec.getLsbD_zero.symm

-- groups (R81)

section
variable {s t : State} (h : SameActive s t)
include h

theorem SameActive.groupMask (g : Nat) : t.groupMask g = s.groupMask g := by
  unfold State.groupMask
  rw [h.flag F.ARRAY_AG0EN.act (.inr (by decide)), h.flag F.ARRAY_AG1EN.act (.inr (by decide)),
    h.fget F.ARRAY_AG0MASK.act (.inr (by decide)), h.fget F.ARRAY_AG1MASK.act (.inr (by decide))]

theorem SameActive.groupOf (p : Nat) : t.groupOf p = s.groupOf p := by unfold State.groupOf; rw [h.groupMask]

theorem SameActive.loMaster (p : Nat) : t.loMaster p = s.loMaster p := by unfold State.loMaster; rw [h.groupOf]

theorem SameActive.loN (p : Nat) : t.loN p = s.loN p := by
  unfold State.loN
  rw [h.loMaster, h.fget _ (.inr (by simp only [Fld.act, F.RF_LO_N]; omega))]

/-- Whether the injector's carrier fits a path's band (R78) rests on the active values and INJ. -/
theorem SameActive.badInj (hi : t.reg 0x028040 = s.reg 0x028040) (p : Nat) : t.badInj p = s.badInj p := by
  unfold State.badInj
  rw [h.loN, State.fget_congr (t := t) (s := s) (f := F.INJ_INJN) hi, h.fget (F.RF_BB_BW p).act (.inr (by simp only [Fld.act, F.RF_BB_BW]; omega))]

end

-- the state of a path

section
variable (s : State) (p q : Nat) (x : RfSt)

@[simp] theorem State.rfp_setRfp_same : (s.setRfp p x).rfp p = x := Tab.get_set_same _ _ _ _

theorem State.rfp_setRfp_other {p q : Nat} (h : q ≠ p) : (s.setRfp p x).rfp q = s.rfp q := Tab.get_set_other _ _ h _

end

theorem State.rfp_congr {s t : State} (h : t.rf = s.rf) (p : Nat) : t.rfp p = s.rfp p := by unfold State.rfp; rw [h]

/-- Nothing but the states of paths differs. -/
def PathsOnly (s t : State) : Prop := { t with rf.paths := s.rf.paths } = s

namespace PathsOnly

variable {s t u : State}

theorem refl (s : State) : PathsOnly s s := rfl

theorem setRfp (h : PathsOnly s t) (p : Nat) (x : RfSt) : PathsOnly s (t.setRfp p x) := h

theorem rfMove (h : PathsOnly s t) (p : Nat) (m : RfMove) : PathsOnly s (t.rfMove p m) := h

theorem regs (h : PathsOnly s t) : t.regs = s.regs := (congrArg State.regs h :)

theorem reg (h : PathsOnly s t) (a : Nat) : t.reg a = s.reg a := by unfold State.reg; rw [h.regs]

theorem cic (h : PathsOnly s t) : t.cic = s.cic := (congrArg State.cic h :)

theorem rfState (h : PathsOnly s t) (p : Nat) : t.rfState p = s.rfState p := State.fget_congr (h.reg _)

end PathsOnly

/-- Path `p`, in state `k` with no transition in progress, begins the transition `m`. -/
def State.send (k : Nat) (m : RfMove) (s : State) (p : Nat) : State :=
  if s.rfState p = k ∧ (s.rfp p).move = .idle then s.rfMove p m else s

theorem State.calRelease_eq (s : State) : s.calRelease = (maskPaths s.rf.calMask).foldl (State.send rfTRANSMIT .fromTransmit) s := rfl

theorem State.calMove_eq (s : State) :
    s.calMove = ((maskPaths s.rf.calMask).foldl (State.send rfRECEIVE .toTransmit) { s with rf.cal := .moving }).calMoved := rfl

section
variable {s t : State} {k : Nat} {m : RfMove} {p : Nat}

theorem PathsOnly.send (h : PathsOnly s t) (q : Nat) : PathsOnly s (t.send k m q) := by
  unfold State.send
  split
  · exact h.rfMove q m
  · exact h

theorem PathsOnly.sendAll (s : State) (l : List Nat) : PathsOnly s (l.foldl (State.send k m) s) :=
  List.foldlRecOn l _ (PathsOnly.refl s) fun _ ht q _ => ht.send q

theorem State.move_send_same (hs : t.rfState p = k) (hi : (t.rfp p).move = .idle ∨ (t.rfp p).move = m) :
    ((t.send k m p).rfp p).move = m := by
  unfold State.send
  split
  · exact congrArg RfSt.move (t.rfp_setRfp_same p _)
  · next hn => exact hi.resolve_left fun h => hn ⟨hs, h⟩

theorem State.rfp_send_other {q : Nat} (h : p ≠ q) : (t.send k m q).rfp p = t.rfp p := by
  unfold State.send
  split
  · exact t.rfp_setRfp_other _ h
  · rfl

/-- A path of the list in state `k`, on no transition, is on the transition `m` after. -/
theorem State.move_sendAll {l : List Nat} (hp : p ∈ l) (hs : s.rfState p = k) (hi : (s.rfp p).move = .idle) :
    ((l.foldl (State.send k m) s).rfp p).move = m := by
  refine foldl_brings (I := fun t => PathsOnly s t ∧ ((t.rfp p).move = .idle ∨ (t.rfp p).move = m))
    (Q := fun t => (t.rfp p).move = m) (fun q _ t ht => ⟨ht.1.send q, ?_⟩) (fun q _ t ht hm => ?_) hp
    (fun t ht => State.move_send_same ((ht.1.rfState p).trans hs) ht.2) ⟨.refl s, .inl hi⟩
  · by_cases hq : p = q
    · subst hq
      exact .inr (State.move_send_same ((ht.1.rfState p).trans hs) ht.2)
    · rw [State.rfp_send_other hq]
      exact ht.2
  · by_cases hq : p = q
    · subst hq
      exact State.move_send_same ((ht.1.rfState p).trans hs) ht.2
    · rwa [State.rfp_send_other hq]

end

end Sys2Proof.Machine
end

section
/-! Calibration (04: R78 to R82, R87): its start and refusals, the grant, the blocks, its end, and the calibration of a retuned group. -/

namespace Sys2Proof.Machine

-- how a calibration ends (R79, R80)

/-- From `s` to `t` a calibration has ended with RESULT and DONE; CAL_STAT apart, registers and raises stand. -/
structure CalEnded (s t : State) (result done : Nat) : Prop where
  result : t.fget F.CAL_STAT_RESULT = result % 8
  busy : t.flag F.CAL_STAT_BUSY = false
  done : t.fget F.CAL_STAT_DONE = done % 256
  disc : t.fget F.CAL_STAT_DISC = s.fget F.CAL_STAT_DISC
  regs : ∀ a, a ≠ 0x028048 → t.reg a = s.reg a
  cic : t.cic = s.cic

section
variable (s : State) (result done : Nat)

theorem State.calEnd_ended : CalEnded s (s.calEnd result done) result done := by
  generalize hx : s.fputB F.CAL_STAT_BUSY false = x
  generalize hy : x.fput F.CAL_STAT_RESULT result = y
  have hend : s.calEnd result done = { y.fput F.CAL_STAT_DONE done with rf.cal := .idle } := by rw [← hy, ← hx]; rfl
  have hbusy : y.flag F.CAL_STAT_BUSY = false := by
    rw [← hy, State.flag, State.fget_fput_other _ _ _ _ (by decide) (by decide), ← hx]
    exact s.flag_fputB_same F.CAL_STAT_BUSY false (by decide) (by decide)
  have hresult : y.fget F.CAL_STAT_RESULT = result % 8 := hy ▸ x.fget_fput_same F.CAL_STAT_RESULT result (by decide)
  have hdisc : y.fget F.CAL_STAT_DISC = s.fget F.CAL_STAT_DISC := by
    rw [← hy, State.fget_fput_other _ _ _ _ (by decide) (by decide), ← hx, State.fputB, State.fget_fput_other _ _ _ _ (by decide) (by decide)]
  have hregs (a : Nat) (ha : a ≠ 0x028048) : y.reg a = s.reg a := by
    rw [← hy, State.reg_fput_other _ _ _ ha, ← hx, State.fputB, State.reg_fput_other _ _ _ ha]
  have hcic : y.cic = s.cic := by rw [← hy, ← hx]; rfl
  rw [hend]
  exact ⟨(y.fget_fput_other F.CAL_STAT_DONE F.CAL_STAT_RESULT done (by decide) (by decide)).trans hresult,
    (congrArg (fun n : Nat => decide (n ≠ 0)) (y.fget_fput_other F.CAL_STAT_DONE F.CAL_STAT_BUSY done (by decide) (by decide))).trans hbusy,
    y.fget_fput_same F.CAL_STAT_DONE done (by decide),
    (y.fget_fput_other F.CAL_STAT_DONE F.CAL_STAT_DISC done (by decide) (by decide)).trans hdisc,
    fun a ha => (y.reg_fput_other F.CAL_STAT_DONE done ha).trans (hregs a ha), hcic⟩

/-- A change of the paths' states leaves how a calibration ended. -/
theorem CalEnded.paths {s t u : State} {result done : Nat} (h : CalEnded s t result done) (hp : PathsOnly t u) : CalEnded s u result done where
  result := (State.fget_congr (hp.reg _)).trans h.result
  busy := (State.flag_congr (hp.reg _)).trans h.busy
  done := (State.fget_congr (hp.reg _)).trans h.done
  disc := (State.fget_congr (hp.reg _)).trans h.disc
  regs a ha := (hp.reg a).trans (h.regs a ha)
  cic := hp.cic.trans h.cic

/-- A failed calibration: its RESULT, CALFAIL raised, and the masked paths in TRANSMIT on their way back. -/
theorem State.calFail_holds (hr : result < 8) :
    (s.calFail result).fget F.CAL_STAT_RESULT = result ∧ (s.calFail result).flag F.CAL_STAT_BUSY = false ∧
    Rises s (s.calFail result) 0x028 13 ∧ (s.calFail result).fget F.CAL_STAT_DISC = s.fget F.CAL_STAT_DISC ∧
    (∀ p ∈ maskPaths s.rf.calMask, s.rfState p = rfTRANSMIT → (s.rfp p).move = .idle → ((s.calFail result).rfp p).move = .fromTransmit) ∧
    ∀ a, a ∉ [0x028048, 0x02801C] → (s.calFail result).reg a = s.reg a := by
  have hend := (s.calEnd_ended result 0).paths (PathsOnly.sendAll (k := rfTRANSMIT) (m := .fromTransmit) _ (maskPaths (s.calEnd result 0).rf.calMask))
  have hmove {p : Nat} (hp : p ∈ maskPaths s.rf.calMask) (hs : s.rfState p = rfTRANSMIT) (hi : (s.rfp p).move = .idle) :
      ((s.calEnd result 0).calRelease.rfp p).move = .fromTransmit :=
    State.move_sendAll (s := s.calEnd result 0) hp
      ((State.fget_congr ((s.calEnd_ended result 0).regs _ (by simp only [F.RF_STAT_STATE]; omega))).trans hs) hi
  rw [← State.calRelease_eq] at hend
  unfold State.calFail
  generalize (s.calEnd result 0).calRelease = x at *
  refine ⟨?_, ?_, .of_evRise (by decide) (hend.regs _ (by decide)), ?_, fun p hp hs hi => ?_, fun a ha => ?_⟩
  · exact (x.fget_evRise_other _ _ _ (by decide)).trans (hend.result.trans (Nat.mod_eq_of_lt hr))
  · exact (x.flag_evRise_other _ _ _ (by decide)).trans hend.busy
  · exact (x.fget_evRise_other _ _ _ (by decide)).trans hend.disc
  · rw [State.rfp_congr (x.evRise_rf _ _)]
    exact hmove hp hs hi
  · simp only [List.mem_cons, List.not_mem_nil, or_false, not_or] at ha
    exact (x.reg_evRise_other _ _ ha.2).trans (hend.regs a ha.1)

end

-- how a calibration starts (R79)

/-- A calibration of `mask` is under way: BUSY set, DISC cleared, the grant not yet there. -/
def State.calBegun (s : State) (mask : Nat) : State :=
  { ((s.fputB F.CAL_STAT_BUSY true).fput F.CAL_STAT_DISC 0) with rf.calMask := mask, rf.cal := .waitGnt }

section
variable (s : State) (mask : Nat)

theorem State.calBegun_flag : (s.calBegun mask).flag F.CAL_STAT_BUSY = true ∧ (s.calBegun mask).fget F.CAL_STAT_DISC = 0 := by
  have hbusy := s.flag_fputB_same F.CAL_STAT_BUSY true (by decide) (by decide)
  exact ⟨(congrArg (fun n : Nat => decide (n ≠ 0)) (State.fget_fput_other _ F.CAL_STAT_DISC F.CAL_STAT_BUSY 0 (by decide) (by decide))).trans hbusy,
    State.fget_fput_same _ F.CAL_STAT_DISC 0 (by decide)⟩

theorem State.calBegun_reg {a : Nat} (ha : a ≠ 0x028048) : (s.calBegun mask).reg a = s.reg a :=
  (State.reg_fput_other _ F.CAL_STAT_DISC 0 ha).trans (s.reg_fput_other F.CAL_STAT_BUSY _ ha)

theorem State.calBegun_coexGnt : (s.calBegun mask).coexGnt = s.coexGnt := by
  unfold State.coexGnt
  rw [State.flag_congr (f := F.COEX_GNTPOL) (s.calBegun_reg mask (by decide))]
  rfl

end

/-- Every path of the mask is in RECEIVE, on no transition. -/
def State.CalReady (s : State) (mask : Nat) : Prop := ∀ p ∈ maskPaths mask, s.rfState p = rfRECEIVE ∧ (s.rfp p).move = .idle

/-- The paths of the mask are on their way to TRANSMIT; the registers and raises stand. -/
structure CalMoving (s t : State) (mask : Nat) : Prop where
  cal : t.rf.cal = .moving
  moves : ∀ p ∈ maskPaths mask, (t.rfp p).move = .toTransmit
  regs : t.regs = s.regs
  cic : t.cic = s.cic

section
variable {s t : State} {mask : Nat}

theorem State.CalReady.not_any (hr : s.CalReady mask) :
    ¬ ((maskPaths mask).any fun p => s.rfState p ≠ rfRECEIVE ∨ (s.rfp p).move ≠ .idle) = true := by
  intro h
  obtain ⟨p, hp, hne⟩ := List.any_eq_true.mp h
  exact (of_decide_eq_true hne).elim (· (hr p hp).1) (· (hr p hp).2)

theorem State.CalReady.congr (hr : s.CalReady mask) (hregs : ∀ p < 8, t.reg (F.RF_STAT_STATE p).addr = s.reg (F.RF_STAT_STATE p).addr)
    (hrf : t.rf.paths = s.rf.paths) : t.CalReady mask := fun p hp => by
  unfold State.rfState State.rfp
  rw [State.fget_congr (hregs p (mem_maskPaths.mp hp).1), hrf]
  exact hr p hp

theorem State.calMove_moving (hne : maskPaths s.rf.calMask ≠ []) (hr : s.CalReady s.rf.calMask) : CalMoving s s.calMove s.rf.calMask := by
  have hpaths := PathsOnly.sendAll (k := rfRECEIVE) (m := .toTransmit) { s with rf.cal := .moving } (maskPaths s.rf.calMask)
  have hmove {p : Nat} (hp : p ∈ maskPaths s.rf.calMask) :=
    State.move_sendAll (s := { s with rf.cal := .moving }) (m := .toTransmit) hp (hr p hp).1 (hr p hp).2
  rw [State.calMove_eq]
  generalize (maskPaths s.rf.calMask).foldl (State.send rfRECEIVE .toTransmit) { s with rf.cal := .moving } = x at *
  have hmask : x.rf.calMask = s.rf.calMask := (congrArg (·.rf.calMask) hpaths :)
  have hstay : x.calMoved = x := by
    obtain ⟨p, hp⟩ := List.exists_mem_of_ne_nil _ hne
    refine if_neg fun hall => ?_
    have htx := of_decide_eq_true (List.all_eq_true.mp hall.2 p (hmask ▸ hp))
    exact absurd ((hpaths.rfState p).symm.trans htx) (by rw [show State.rfState { s with rf.cal := .moving } p = rfRECEIVE from (hr p hp).1]; decide)
  rw [hstay]
  exact ⟨(congrArg (·.rf.cal) hpaths :), fun p hp => hmove hp, hpaths.regs, hpaths.cic⟩

section
variable (hb : s.flag F.CAL_STAT_BUSY = false)
include hb

theorem State.calStart_notRx (h : ∃ p ∈ maskPaths mask, s.rfState p ≠ rfRECEIVE ∨ (s.rfp p).move ≠ .idle) :
    s.calStart mask = (s.calEnd 1 0).evRise 0x028 13 := by
  obtain ⟨p, hp, hne⟩ := h
  unfold State.calStart
  rw [hb, if_neg Bool.false_ne_true, if_pos (List.any_eq_true.mpr ⟨p, hp, decide_eq_true hne⟩)]

variable (hr : s.CalReady mask)
include hr

theorem State.calStart_badInj (h : ∃ p ∈ maskPaths mask, s.badInj p = true) :
    s.calStart mask = ((s.calEnd 4 0).fault 0x028 0).evRise 0x028 13 := by
  unfold State.calStart
  rw [hb, if_neg Bool.false_ne_true, if_neg hr.not_any, if_pos (List.any_eq_true.mpr h)]

theorem State.calStart_begun (h : ∀ p ∈ maskPaths mask, s.badInj p = false) : s.calStart mask =
    if (s.calBegun mask).flag F.COEX_REQCAL ∧ (s.calBegun mask).fget F.COEX_GNTWAIT ≠ 0 ∧ ¬ (s.calBegun mask).coexGnt then s.calBegun mask
    else (s.calBegun mask).calMove := by
  have hfit : ¬ (maskPaths mask).any s.badInj = true := fun hany => by
    obtain ⟨p, hp, hbad⟩ := List.any_eq_true.mp hany
    exact absurd (hbad.symm.trans (h p hp)) Bool.false_ne_true.symm
  unfold State.calStart
  rw [hb, if_neg Bool.false_ne_true, if_neg hr.not_any, if_neg hfit]
  rfl

/-- With all in RECEIVE, a carrier that fits and REQCAL, the calibration waits for the grant. -/
theorem State.calStart_waits (hfit : ∀ p ∈ maskPaths mask, s.badInj p = false) (hq : s.flag F.COEX_REQCAL = true)
    (hw : s.fget F.COEX_GNTWAIT ≠ 0) (hg : s.coexGnt = false) : s.calStart mask = s.calBegun mask := by
  rw [State.calStart_begun hb hr hfit, if_pos]
  rw [State.flag_congr (f := F.COEX_REQCAL) (s.calBegun_reg mask (by decide)), State.fget_congr (f := F.COEX_GNTWAIT) (s.calBegun_reg mask (by decide)),
    s.calBegun_coexGnt, hg]
  exact ⟨hq, hw, Bool.false_ne_true⟩

/-- With the grant already there the paths move at once. -/
theorem State.calStart_moving (hfit : ∀ p ∈ maskPaths mask, s.badInj p = false) (hne : maskPaths mask ≠ []) (hg : s.coexGnt = true) :
    CalMoving (s.calBegun mask) (s.calStart mask) mask := by
  have hready : (s.calBegun mask).CalReady mask := hr.congr (fun p _ => s.calBegun_reg mask (by simp only [F.RF_STAT_STATE]; omega)) rfl
  rw [State.calStart_begun hb hr hfit, if_neg (fun h => h.2.2 ((s.calBegun_coexGnt mask).trans hg))]
  exact State.calMove_moving (s := s.calBegun mask) hne hready

end

end

-- CAL_GO

/-- The mask of CAL_CMD is stored. -/
def State.calAsked (s : State) (m : Byte) : State := s.fput F.CAL_CMD_MASK m.toNat

section
variable (s : State) (m : Byte)

theorem State.calAsked_reg {a : Nat} (ha : a ≠ 0x028044) : (s.calAsked m).reg a = s.reg a :=
  s.reg_fput_other F.CAL_CMD_MASK _ ha

theorem State.calAsked_mask : (s.calAsked m).fget F.CAL_CMD_MASK = m.toNat :=
  (s.fget_fput_same F.CAL_CMD_MASK _ (by decide)).trans (Nat.mod_eq_of_lt m.isLt)

theorem State.calAsked_flag {f : Fld} (hf : f.addr ≠ 0x028044) : (s.calAsked m).flag f = s.flag f :=
  State.flag_congr (s.calAsked_reg m hf)

theorem State.calAsked_badInj (p : Nat) : (s.calAsked m).badInj p = s.badInj p :=
  have hact : SameActive s (s.calAsked m) := fun a ha => s.calAsked_reg m (by unfold CommitKept at ha; omega)
  hact.badInj (s.calAsked_reg m (by decide)) p

theorem State.calAsked_rfState {p : Nat} (hp : p < 8) : (s.calAsked m).rfState p = s.rfState p :=
  State.fget_congr (f := F.RF_STAT_STATE p) (s.calAsked_reg m (by simp only [F.RF_STAT_STATE]; omega))

variable {s} in
theorem State.CalReady.asked {mask : Nat} (h : s.CalReady mask) : (s.calAsked m).CalReady mask :=
  h.congr (fun p hp => s.calAsked_reg m (by simp only [F.RF_STAT_STATE]; omega)) rfl

theorem State.calAsked_coexGnt : (s.calAsked m).coexGnt = s.coexGnt := by
  unfold State.coexGnt
  rw [s.calAsked_flag m (by decide)]
  rfl

end

section
variable {s : State} {via : Via} {m : Byte} (hj : s.judge via 0x028 0x044 true = .ok) (hb : s.flag F.CAL_STAT_BUSY = false)

include hj

theorem exec_calGo : exec (.calGo via m) s = .next ((s.calAsked m).calStart m.toNat) := congrArg Host.Outcome.next (State.guarded_ok hj _)

include hb

theorem calGo_notRx (h : ∃ p ∈ maskPaths m.toNat, s.rfState p ≠ rfRECEIVE) : Completes (.calGo via m) s fun t =>
    t.fget F.CAL_STAT_RESULT = 1 ∧ t.flag F.CAL_STAT_BUSY = false ∧ Rises s t 0x028 13 ∧ t.fget F.CAL_CMD_MASK = m.toNat ∧
    t.comb = s.comb ∧ ∀ a, a ∉ [0x028044, 0x028048, 0x02801C] → t.reg a = s.reg a := by
  obtain ⟨p, hp, hne⟩ := h
  have hne' : (s.calAsked m).rfState p ≠ rfRECEIVE := (s.calAsked_rfState m (mem_maskPaths.mp hp).1).symm ▸ hne
  refine .of_exec ((exec_calGo hj).trans (congrArg Host.Outcome.next (State.calStart_notRx ((s.calAsked_flag m (f := F.CAL_STAT_BUSY) (by decide)).trans hb) ⟨p, hp, .inl hne'⟩))) ?_
  have hend := (s.calAsked m).calEnd_ended 1 0
  have hmask := s.calAsked_mask m
  have hcomb : ((s.calAsked m).calEnd 1 0).comb = s.comb := by
    simp only [State.calEnd, State.calAsked, State.fput_comb, State.fputB_comb]
  have hkeep (a : Nat) (ha : a ≠ 0x028044) := s.calAsked_reg m ha
  generalize s.calAsked m = u at *
  generalize u.calEnd 1 0 = x at *
  refine ⟨?_, ?_, .of_evRise (by decide) ((hend.regs _ (by decide)).trans (hkeep _ (by decide))), ?_, ?_, fun a ha => ?_⟩
  · exact (x.fget_evRise_other _ _ _ (by decide)).trans hend.result
  · exact (x.flag_evRise_other _ _ _ (by decide)).trans hend.busy
  · exact (x.fget_evRise_other _ _ _ (by decide)).trans ((State.fget_congr (hend.regs _ (by decide))).trans hmask)
  · exact (x.evRise_comb _ _).trans hcomb
  · simp only [List.mem_cons, List.not_mem_nil, or_false, not_or] at ha
    exact (x.reg_evRise_other _ _ ha.2.2).trans ((hend.regs a ha.2.1).trans (hkeep a ha.1))

theorem calGo_waits (hr : s.CalReady m.toNat) (hfit : ∀ p ∈ maskPaths m.toNat, s.badInj p = false) (hq : s.flag F.COEX_REQCAL = true)
    (hw : s.fget F.COEX_GNTWAIT ≠ 0) (hg : s.coexGnt = false) : Completes (.calGo via m) s fun t =>
    t.flag F.CAL_STAT_BUSY = true ∧ t.fget F.CAL_STAT_DISC = 0 ∧ t.rf.cal = .waitGnt ∧ t.rf.calMask = m.toNat ∧
    t.coexReq = true ∧ ∀ a, a ∉ [0x028044, 0x028048] → t.reg a = s.reg a := by
  have hwait := State.calStart_waits ((s.calAsked_flag m (f := F.CAL_STAT_BUSY) (by decide)).trans hb) (hr.asked m)
    (fun p hp => (s.calAsked_badInj m p).trans (hfit p hp)) ((s.calAsked_flag m (f := F.COEX_REQCAL) (by decide)).trans hq)
    ((State.fget_congr (f := F.COEX_GNTWAIT) (s.calAsked_reg m (by decide))).symm ▸ hw) ((s.calAsked_coexGnt m).trans hg)
  refine .of_exec ((exec_calGo hj).trans (congrArg Host.Outcome.next hwait)) ?_
  have hflag := (s.calAsked m).calBegun_flag m.toNat
  refine ⟨hflag.1, hflag.2, rfl, rfl, ?_, fun a ha => ?_⟩
  · have hreq : ((s.calAsked m).calBegun m.toNat).flag F.COEX_REQCAL = true :=
      (State.flag_congr ((s.calAsked m).calBegun_reg m.toNat (by decide))).trans ((s.calAsked_flag m (f := F.COEX_REQCAL) (by decide)).trans hq)
    unfold State.coexReq
    rw [hreq]
    exact Bool.or_true _
  · simp only [List.mem_cons, List.not_mem_nil, or_false, not_or] at ha
    exact ((s.calAsked m).calBegun_reg m.toNat ha.2).trans (s.calAsked_reg m ha.1)

theorem calGo_moves (hr : s.CalReady m.toNat) (hfit : ∀ p ∈ maskPaths m.toNat, s.badInj p = false) (hm : m ≠ 0) (hg : s.coexGnt = true) :
    Completes (.calGo via m) s fun t => t.flag F.CAL_STAT_BUSY = true ∧ t.rf.cal = .moving ∧
      ∀ p ∈ maskPaths m.toNat, (t.rfp p).move = .toTransmit := by
  have hmoving := State.calStart_moving ((s.calAsked_flag m (f := F.CAL_STAT_BUSY) (by decide)).trans hb) (hr.asked m)
    (fun p hp => (s.calAsked_badInj m p).trans (hfit p hp)) (maskPaths_ne_nil hm) ((s.calAsked_coexGnt m).trans hg)
  refine .of_exec (exec_calGo hj) ⟨?_, hmoving.cal, hmoving.moves⟩
  exact (State.flag_congr (by unfold State.reg; rw [hmoving.regs])).trans ((s.calAsked m).calBegun_flag m.toNat).1

theorem calGo_badInj (hr : s.CalReady m.toNat) (hbad : ∃ p ∈ maskPaths m.toNat, s.badInj p = true) : Completes (.calGo via m) s fun t =>
    t.fget F.CAL_STAT_RESULT = 4 ∧ t.flag (PG_FAULT 0x028 0) = true ∧ Rises s t 0x028 13 := by
  obtain ⟨p, hp, hp'⟩ := hbad
  have hstart := State.calStart_badInj ((s.calAsked_flag m (f := F.CAL_STAT_BUSY) (by decide)).trans hb) (hr.asked m)
    ⟨p, hp, (s.calAsked_badInj m p).trans hp'⟩
  refine .of_exec ((exec_calGo hj).trans (congrArg Host.Outcome.next hstart)) ?_
  have hend := (s.calAsked m).calEnd_ended 4 0
  have heven := s.calAsked_reg m (a := 0x028018) (by decide)
  generalize s.calAsked m = u at *
  generalize u.calEnd 4 0 = x at *
  refine ⟨?_, ?_, .of_evRise (by decide) ?_⟩
  · exact ((x.fault 0x028 0).fget_evRise_other _ _ _ (by decide)).trans ((x.fget_fault_other _ _ _ (by decide)).trans hend.result)
  · exact ((x.fault 0x028 0).flag_evRise_other _ _ _ (by decide)).trans (x.flag_fault 0x028 (by decide))
  · exact ((x.onlyRegs_fault 0x028 0).2 _ (by decide)).trans ((hend.regs _ (by decide)).trans heven)

end

-- the grant (R79, R87)

section
variable {s : State} (hc : s.rf.cal = .waitGnt)

theorem coexGnt_released {level : Bool} (hl : (level ^^ s.flag F.COEX_GNTPOL) = false) : Completes (.coexGnt level) s fun t =>
    t.rf.gntWire = level ∧ { t with rf.gntWire := s.rf.gntWire } = s := by
  have hno : ¬ (s.rf.cal = .waitGnt ∧ State.coexGnt { s with rf.gntWire := level } = true) := fun h => Bool.false_ne_true (hl.symm.trans h.2)
  exact .of_exec (congrArg Host.Outcome.next (if_neg hno)) ⟨rfl, rfl⟩

variable (hne : maskPaths s.rf.calMask ≠ []) (hr : s.CalReady s.rf.calMask)
include hc hne hr

theorem coexGnt_asserted {level : Bool} (hl : (level ^^ s.flag F.COEX_GNTPOL) = true) : Completes (.coexGnt level) s fun t =>
    t.rf.cal = .moving ∧ (∀ p ∈ maskPaths s.rf.calMask, (t.rfp p).move = .toTransmit) ∧ t.regs = s.regs := by
  have hmoving := State.calMove_moving (s := { s with rf.gntWire := level }) hne hr
  exact .of_exec (congrArg Host.Outcome.next (if_pos ⟨hc, hl⟩)) ⟨hmoving.cal, hmoving.moves, hmoving.regs⟩

theorem gntwaitTimeout_moves : Completes .gntwaitTimeout s fun t =>
    t.rf.cal = .moving ∧ (∀ p ∈ maskPaths s.rf.calMask, (t.rfp p).move = .toTransmit) ∧ Rises s t 0x028 15 ∧
    ∀ a, a ≠ 0x02801C → t.reg a = s.reg a := by
  refine .of_exec (congrArg Host.Outcome.next (if_pos hc)) ?_
  have hrf : (s.evRise 0x028 15).rf = s.rf := s.evRise_rf _ _
  have hrise := s.rises_evRise 0x028 15 (by decide)
  have hkeep (a : Nat) (ha : a ≠ 0x02801C) := s.reg_evRise_other 0x028 15 ha
  generalize s.evRise 0x028 15 = x at *
  have hready : x.CalReady x.rf.calMask := hrf ▸ hr.congr (fun p _ => hkeep _ (by simp only [F.RF_STAT_STATE]; omega)) (congrArg (·.paths) hrf)
  have hmoving := State.calMove_moving (s := x) (hrf ▸ hne) hready
  have hreg (a : Nat) : x.calMove.reg a = x.reg a := by unfold State.reg; rw [hmoving.regs]
  exact ⟨hmoving.cal, hrf ▸ hmoving.moves, hrise.keep (hreg _) hmoving.cic, fun a ha => (hreg a).trans (hkeep a ha)⟩

end

-- the blocks (R79, R80)

section
variable {s : State} (hc : s.rf.cal = .blocks) (hk : s.rf.calOk < 10)
include hc hk

theorem calBlock_accepted (hb : s.rf.calBlank = false) : Completes .calBlock s fun t =>
    t.rf.calOk = s.rf.calOk + 1 ∧ t.rf.calBad = 0 ∧ t.regs = s.regs := by
  refine .of_exec (congrArg Host.Outcome.next ((if_neg ?_).trans (if_neg (Bool.eq_false_iff.mp hb)))) ⟨rfl, rfl, rfl⟩
  exact fun h => h.elim (· hc) (by omega)

variable (hb : s.rf.calBlank = true)
include hb

theorem exec_calBlock_blanked : exec .calBlock s = .next (if s.rf.calBad = 2 then (s.finc F.CAL_STAT_DISC).calFail 2 else
    { s.finc F.CAL_STAT_DISC with rf.calBad := s.rf.calBad + 1, rf.calBlank := (maskPaths s.rf.calMask).any s.blanked }) := by
  refine congrArg Host.Outcome.next ((if_neg ?_).trans (if_pos hb))
  exact fun h => h.elim (· hc) (by omega)

theorem calBlock_discarded (h2 : s.rf.calBad < 2) : Completes .calBlock s fun t =>
    t.rf.calBad = s.rf.calBad + 1 ∧ t.rf.calOk = s.rf.calOk ∧ t.fget F.CAL_STAT_DISC = satInc 8 (s.fget F.CAL_STAT_DISC) ∧
    ∀ a, a ≠ 0x028048 → t.reg a = s.reg a := by
  rw [Completes, exec_calBlock_blanked hc hk hb, if_neg (by omega)]
  exact ⟨_, rfl, rfl, rfl, s.finc_fget F.CAL_STAT_DISC (by decide), fun a ha => s.reg_fput_other F.CAL_STAT_DISC _ ha⟩

theorem calBlock_fails (h2 : s.rf.calBad = 2) : Completes .calBlock s fun t =>
    t.fget F.CAL_STAT_RESULT = 2 ∧ t.flag F.CAL_STAT_BUSY = false ∧ Rises s t 0x028 13 ∧
    t.fget F.CAL_STAT_DISC = satInc 8 (s.fget F.CAL_STAT_DISC) ∧
    (∀ p ∈ maskPaths s.rf.calMask, s.rfState p = rfTRANSMIT → (s.rfp p).move = .idle → (t.rfp p).move = .fromTransmit) ∧
    ∀ a, a ∉ [0x028048, 0x02801C] → t.reg a = s.reg a := by
  rw [Completes, exec_calBlock_blanked hc hk hb, if_pos h2]
  have hkeep (a : Nat) (ha : a ≠ 0x028048) : (s.finc F.CAL_STAT_DISC).reg a = s.reg a := s.reg_fput_other F.CAL_STAT_DISC _ ha
  obtain ⟨hresult, hbusy, hrise, hdisc, hmove, hregs⟩ := (s.finc F.CAL_STAT_DISC).calFail_holds 2 (by decide)
  refine ⟨_, rfl, hresult, hbusy, hrise.since (hkeep _ (by decide)), hdisc.trans (s.finc_fget F.CAL_STAT_DISC (by decide)),
    fun p hp hs => hmove p hp ((State.fget_congr (hkeep _ ?_)).trans hs), fun a ha => (hregs a ha).trans (hkeep a fun he => ha (he ▸ .head _))⟩
  simp only [F.RF_STAT_STATE]
  omega

end

-- the end (R78, R79)

/-- A time written to three words in a row reads back. -/
theorem State.get96_put96 (s : State) {f : Nat → Fld} {a : Nat} (hf : ∀ i, f i = ⟨a + 4 * i, 0, 32⟩) (v : Nat) :
    (s.put96 f v).get96 f = v % 2 ^ 96 := by
  have hother (t : State) (i j w : Nat) (hij : i ≠ j) : (t.fput (f i) w).fget (f j) = t.fget (f j) := by
    rw [hf i, hf j]
    exact t.fget_fput_other _ _ w (Nat.le_refl 32) (.inl (by dsimp only; omega))
  have hsame (t : State) (i w : Nat) : (t.fput (f i) w).fget (f i) = w % 2 ^ 32 := by
    rw [hf i]
    exact t.fget_fput_same _ w (Nat.le_refl 32)
  unfold State.get96 State.put96
  rw [hother _ 2 0 _ (by decide), hother _ 1 0 _ (by decide), hsame, hother _ 2 1 _ (by decide), hsame, hsame]
  omega

/-- Path `p` holds the result `r` of a calibration at time `now`. -/
structure State.Calibrated (t : State) (p : Nat) (r : Half × Half × Half) (now : Nat) : Prop where
  delay : t.fget (F.RF_CALD_DELAY p) = r.1.toNat
  phase : t.fget (F.RF_CALPG_PHASE p) = r.2.1.toNat
  gain : t.fget (F.RF_CALPG_GAIN p) = r.2.2.toNat
  time : t.get96 (F.RF_CALT p) = now % 2 ^ 96

theorem State.Calibrated.congr {t u : State} {p now : Nat} {r : Half × Half × Half} (h : t.Calibrated p r now)
    (hp : ∀ a, a / 4096 = 0x020 + p → u.reg a = t.reg a) : u.Calibrated p r now where
  delay := (State.fget_congr (hp _ (by simp only [F.RF_CALD_DELAY]; omega))).trans h.delay
  phase := (State.fget_congr (hp _ (by simp only [F.RF_CALPG_PHASE]; omega))).trans h.phase
  gain := (State.fget_congr (hp _ (by simp only [F.RF_CALPG_GAIN]; omega))).trans h.gain
  time := (State.get96_congr fun j hj => hp _ (by simp only [F.RF_CALT]; omega)).trans h.time

/-- The Sky Clock, the paths and the calibration. -/
def calView (s : State) : SkySt × RfComSt := (s.sky, s.rf)

theorem calView_blind : Blind calView := ⟨fun _ _ => rfl, fun _ _ => rfl⟩

/-- The result of path `p` against path `q` is stored. -/
def State.calStore (rs : List (Half × Half × Half)) (q : Nat) (s : State) (p : Nat) : State :=
  (((s.fput (F.RF_CALD_DELAY p) (calRel rs p q).1.toNat).fput (F.RF_CALPG_PHASE p) (calRel rs p q).2.1.toNat).fput
    (F.RF_CALPG_GAIN p) (calRel rs p q).2.2.toNat).put96 (F.RF_CALT p) s.now

section
variable (s : State) (rs : List (Half × Half × Half)) (p q : Nat)

theorem State.reg_put96 (f : Nat → Fld) (v : Nat) {a : Nat} (h : ∀ i < 3, a ≠ (f i).addr) : (s.put96 f v).reg a = s.reg a :=
  (State.reg_fput_other _ _ _ (h 2 (by decide))).trans ((State.reg_fput_other _ _ _ (h 1 (by decide))).trans
    (s.reg_fput_other _ _ (h 0 (by decide))))

theorem State.calStore_keeps : Keeps calView (fun a => a / 4096 ≠ 0x020 + p) s (s.calStore rs q p) := by
  have hpage {a : Nat} (ha : a / 4096 = 0x020 + p) : ¬ a / 4096 ≠ 0x020 + p := not_not_intro ha
  exact ((((Keeps.refl s).fput calView_blind (F.RF_CALD_DELAY p) _ (hpage (by simp only [F.RF_CALD_DELAY]; omega))).fput calView_blind
    (F.RF_CALPG_PHASE p) _ (hpage (by simp only [F.RF_CALPG_PHASE]; omega))).fput calView_blind (F.RF_CALPG_GAIN p) _
    (hpage (by simp only [F.RF_CALPG_GAIN]; omega))).put96 calView_blind (F.RF_CALT p) _ fun i _ => hpage (by simp only [F.RF_CALT]; omega)

theorem State.calStore_calibrated : (s.calStore rs q p).Calibrated p (calRel rs p q) s.now := by
  unfold State.calStore
  generalize calRel rs p q = r
  have htime (t : State) (f : Fld) (hf : f.addr = (0x020 + 1 * p) * 4096 + 0x060 ∨ f.addr = (0x020 + 1 * p) * 4096 + 0x064) :
      (t.put96 (F.RF_CALT p) s.now).fget f = t.fget f :=
    State.fget_congr (t.reg_put96 _ _ fun i _ => by simp only [F.RF_CALT]; omega)
  refine ⟨(htime _ _ (.inl rfl)).trans ?_, (htime _ _ (.inr rfl)).trans ?_, (htime _ _ (.inr rfl)).trans ?_,
    State.get96_put96 _ (a := (0x020 + 1 * p) * 4096 + 0x068) (fun _ => rfl) _⟩
  · rw [State.fget_fput_other _ _ _ _ (Nat.le_of_ble_eq_true rfl) (.inl (by simp only [F.RF_CALD_DELAY, F.RF_CALPG_GAIN]; omega)),
      State.fget_fput_other _ _ _ _ (Nat.le_of_ble_eq_true rfl) (.inl (by simp only [F.RF_CALD_DELAY, F.RF_CALPG_PHASE]; omega)),
      State.fget_fput_same _ _ _ (Nat.le_of_ble_eq_true rfl)]
    exact Nat.mod_eq_of_lt r.1.isLt
  · rw [State.fget_fput_other _ (F.RF_CALPG_GAIN p) (F.RF_CALPG_PHASE p) _ (Nat.le_of_ble_eq_true rfl) (.inr (.inr (Nat.le_refl 16))),
      State.fget_fput_same _ (F.RF_CALPG_PHASE p) _ (Nat.le_refl 32)]
    exact Nat.mod_eq_of_lt r.2.1.isLt
  · rw [State.fget_fput_same _ _ _ (Nat.le_of_ble_eq_true rfl)]
    exact Nat.mod_eq_of_lt r.2.2.isLt

/-- Every path of the list holds its result after the pass, and the other pages stand. -/
theorem State.calStoreAll {l : List Nat} (hl : ∀ p ∈ l, p < 8) :
    (∀ p ∈ l, (l.foldl (State.calStore rs q) s).Calibrated p (calRel rs p q) s.now) ∧
    Keeps calView (fun a => a / 4096 < 0x020 ∨ 0x028 ≤ a / 4096) s (l.foldl (State.calStore rs q) s) := by
  have hnow {t : State} (h : calView t = calView s) : t.now = s.now := congrArg (fun x => x.1.time / 2 ^ 32) h
  refine ⟨fun p hp => ?_, .foldl l (fun t p hp => (t.calStore_keeps rs p q).mono fun a ha => ?_) s⟩
  · refine foldl_brings (I := fun t => calView t = calView s) (Q := fun t => t.Calibrated p (calRel rs p q) s.now)
      (fun r _ t ht => (t.calStore_keeps rs r q).view.trans ht) (fun r _ t ht h => ?_) hp (fun t ht => hnow ht ▸ t.calStore_calibrated rs p q) rfl
    by_cases hr : r = p
    · subst hr
      exact hnow ht ▸ t.calStore_calibrated rs r q
    · exact h.congr fun a ha => (t.calStore_keeps rs r q).regs a (by omega)
  · have := hl p hp
    omega

end

/-- The paths of the mask hold their results. -/
def State.calStored (s : State) (rs : List (Half × Half × Half)) : State :=
  (maskPaths s.rf.calMask).foldl (State.calStore rs (((maskPaths s.rf.calMask).head?).getD 0)) s

/-- The calibration has ended, and its paths return. -/
def State.calClosed (s : State) (rs : List (Half × Half × Half)) : State := ((s.calStored rs).calEnd 0 s.rf.calMask).calRelease

section
variable {s : State} (rs : List (Half × Half × Half)) (hc : s.rf.cal = .blocks) (hk : 10 ≤ s.rf.calOk)

theorem State.calClosed_ended : CalEnded (s.calStored rs) (s.calClosed rs) 0 s.rf.calMask :=
  ((s.calStored rs).calEnd_ended 0 s.rf.calMask).paths (PathsOnly.sendAll _ _)

include hc hk

theorem exec_calDone : exec (.calDone rs) s =
    .next (State.evRise { s.calClosed rs with sieve.calUpd := true } 0x028 12).streamsUpdate :=
  congrArg Host.Outcome.next (if_neg fun h => h.elim (· hc) (by omega))

theorem calDone_holds : Completes (.calDone rs) s fun t =>
    t.fget F.CAL_STAT_DONE = s.rf.calMask % 256 ∧ t.fget F.CAL_STAT_RESULT = 0 ∧ t.flag F.CAL_STAT_BUSY = false ∧
    Rises s t 0x028 12 ∧ ∀ p ∈ maskPaths s.rf.calMask, t.Calibrated p (calRel rs p (((maskPaths s.rf.calMask).head?).getD 0)) s.now := by
  have hlt : ∀ p ∈ maskPaths s.rf.calMask, p < 8 := fun p hp => (mem_maskPaths.mp hp).1
  obtain ⟨hcal, hkeep⟩ := s.calStoreAll rs (((maskPaths s.rf.calMask).head?).getD 0) hlt
  change (∀ p ∈ maskPaths s.rf.calMask, (s.calStored rs).Calibrated p _ s.now) at hcal
  change Keeps calView _ s (s.calStored rs) at hkeep
  have hend := State.calClosed_ended (s := s) rs
  refine .of_exec (exec_calDone rs hc hk) ?_
  generalize s.calStored rs = u at *
  generalize s.calClosed rs = v at *
  have hfollow := (State.evRise { v with sieve.calUpd := true } 0x028 12).streamsUpdate_follows
  have hrise (a : Nat) (ha : a ≠ 0x02801C) : (State.evRise { v with sieve.calUpd := true } 0x028 12).reg a = v.reg a :=
    State.reg_evRise_other _ _ _ ha
  have hrises : Rises s (State.evRise { v with sieve.calUpd := true } 0x028 12) 0x028 12 :=
    .of_evRise (by decide) ((hend.regs _ (by decide)).trans (hkeep.regs _ (.inr (by decide))))
  generalize State.evRise { v with sieve.calUpd := true } 0x028 12 = w at *
  have hstat : w.streamsUpdate.reg 0x028048 = v.reg 0x028048 := (hfollow.keeps.regs _ ⟨by decide, by decide, by decide⟩).trans (hrise _ (by decide))
  refine ⟨(State.fget_congr hstat).trans hend.done, (State.fget_congr hstat).trans hend.result, (State.flag_congr hstat).trans hend.busy,
    hfollow.rises s _ _ (by decide) hrises, fun p hp => (hcal p hp).congr fun a ha => ?_⟩
  have hp8 := hlt p hp
  exact (hfollow.keeps.regs a (by unfold PenAside; omega)).trans ((hrise a (by omega)).trans (hend.regs a (by omega)))

end

-- the calibration of a retuned group (R82)

theorem autocalStart_waits {s : State} {g : Fin 2} (ha : s.rf.auto.contains g.val = true) (hi : s.rf.cal = .idle)
    (hb : s.flag F.CAL_STAT_BUSY = false) (hr : s.CalReady (s.groupMask g.val)) (hfit : ∀ p ∈ maskPaths (s.groupMask g.val), s.badInj p = false)
    (hauto : s.flag F.ARRAY_AUTOCAL.act = true) (hm : s.groupMask g.val ≠ 0) (hq : s.flag F.COEX_REQCAL = true)
    (hw : s.fget F.COEX_GNTWAIT ≠ 0) (hg : s.coexGnt = false) : Completes (.autocalStart g) s fun t =>
      t.flag F.CAL_STAT_BUSY = true ∧ t.rf.cal = .waitGnt ∧ t.rf.calMask = s.groupMask g.val ∧
      g.val ∉ t.rf.auto ∧ ∀ a, a ≠ 0x028048 → t.reg a = s.reg a := by
  have hall : (maskPaths (s.groupMask g.val)).all (fun p => decide (s.rfState p = rfRECEIVE ∧ (s.rfp p).move = .idle)) = true :=
    List.all_eq_true.mpr fun p hp => decide_eq_true (hr p hp)
  have hstart := State.calStart_waits (s := { s with rf.auto := s.rf.auto.filter (· ≠ g.val) }) hb hr hfit hq hw hg
  refine .of_exec (congrArg Host.Outcome.next ((if_pos ⟨ha, hauto, hm, hi, hall⟩).trans hstart)) ⟨(State.calBegun_flag _ _).1, rfl, rfl, ?_,
    fun a ha => State.calBegun_reg _ _ ha⟩
  exact fun hmem => of_decide_eq_true (List.mem_filter.mp hmem).2 rfl

/-- Paths in RECEIVE with a carrier that fits, taken apart. -/
theorem State.CalReady.of_fit {s : State} {mask : Nat}
    (h : ∀ p ∈ maskPaths mask, s.rfState p = rfRECEIVE ∧ (s.rfp p).move = .idle ∧ s.badInj p = false) :
    s.CalReady mask ∧ ∀ p ∈ maskPaths mask, s.badInj p = false :=
  ⟨fun p hp => let ⟨hrx, hidle, _⟩ := h p hp; ⟨hrx, hidle⟩, fun p hp => let ⟨_, _, hfit⟩ := h p hp; hfit⟩

/-- Settles O8: each command by what a start, a move, a block or an end of the calibration leaves. -/
theorem calibrationRunsItsSteps : Obligations.CalibrationRunsItsSteps := by
  unfold Obligations.CalibrationRunsItsSteps
  intro s
  refine ⟨fun via m hj hb => ⟨calGo_notRx hj hb, fun h hq hw hg => ?_, fun h hm hg => ?_, calGo_badInj hj hb⟩, fun hc hne hr => ⟨?_, ?_, ?_⟩,
    fun hc hk => ⟨calBlock_accepted hc hk, calBlock_discarded hc hk, calBlock_fails hc hk⟩, fun rs hc hk => ?_,
    fun g ha hi hb h hauto hm hq hw hg => ?_⟩
  · obtain ⟨hr, hfit⟩ := State.CalReady.of_fit h
    exact calGo_waits hj hb hr hfit hq hw hg
  · obtain ⟨hr, hfit⟩ := State.CalReady.of_fit h
    exact calGo_moves hj hb hr hfit hm hg
  · exact fun level hl => coexGnt_asserted hc hne hr hl
  · exact fun level hl => coexGnt_released hl
  · exact gntwaitTimeout_moves hc hne hr
  · obtain ⟨t, ht, hdone, hresult, hbusy, hrise, hcal⟩ := calDone_holds rs hc hk
    exact ⟨t, ht, hdone, hresult, hbusy, hrise, fun p hp => let ⟨hdelay, hphase, hgain, htime⟩ := hcal p hp; ⟨hdelay, hphase, hgain, htime⟩⟩
  · obtain ⟨hr, hfit⟩ := State.CalReady.of_fit h
    exact autocalStart_waits ha hi hb hr hfit hauto hm hq hw hg

end Sys2Proof.Machine
end

section
/-! Path states (04: R66 to R76): what comes next on a path, and what it leaves. Here and in the sections that follow stand the clauses
of O7 that hold; `not_pathStatesFollowTheirRequests` refutes the one on a lock that falls on the way to RECEIVE. -/

namespace Sys2Proof.Machine

theorem Carries.mono {α : Type} {π : State → α} {R Q : Nat → Prop} {s t : State} (h : Carries π R s t) (hq : ∀ a, Q a → R a) :
    Carries π Q s t := ⟨h.keeps.mono hq, h.rises⟩

-- what comes next on a path

theorem comb_blind : Blind State.comb := ⟨fun _ _ => rfl, fun _ _ => rfl⟩

/-- From `s` to `t` a calibration ended, or paths moved: Comb, the registers but RFCOM's and every rise stand. -/
abbrev CalWork (s t : State) : Prop := Carries State.comb (fun a => a / 4096 ≠ 0x028) s t

namespace CalWork

variable {s t : State}

theorem setRf (s : State) (x : RfComSt) : CalWork s { s with rf := x } := .of_eq rfl rfl rfl

theorem rfMove (s : State) (p : Nat) (m : RfMove) : CalWork s (s.rfMove p m) := setRf s _

theorem paths (h : PathsOnly s t) : CalWork s t := .of_eq (congrArg State.comb h :) h.regs h.cic

theorem calStat (s : State) (f : Fld) (hf : f.addr = 0x028048) (v : Nat) : CalWork s (s.fput f v) :=
  .fput comb_blind f v (fun h => h (by rw [hf])) (by rw [hf]; decide) s

variable (s)

theorem calEnd (result done : Nat) : CalWork s (s.calEnd result done) :=
  (((calStat s F.CAL_STAT_BUSY rfl _).trans (calStat _ F.CAL_STAT_RESULT rfl _)).trans (calStat _ F.CAL_STAT_DONE rfl _)).trans (setRf _ _)

theorem calAbandon (p : Nat) : CalWork s (s.calAbandon p) := by
  unfold State.calAbandon State.calFail
  refine .ite (fun _ => ?_) fun _ => .refl s
  exact ((calEnd s 3 0).trans (paths (PathsOnly.sendAll _ _))).trans (.evRise comb_blind 0x028 13 (fun h => h rfl) _)

end CalWork

/-- A path in STANDBY asked for more, with the reference there, goes on to SYNTH. -/
abbrev State.ToSynth (s : State) (p : Nat) : Prop :=
  s.rfState p = rfSTANDBY ∧ 2 ≤ s.fget (F.RF_CTL_REQ p) ∧ s.flag F.CLK_STAT_REFOK = true

section
variable (s : State) (p : Nat)

/-- What comes next on a path moves it or ends a calibration, but for the start of a retune that waited and the way to SYNTH. -/
theorem State.rfAdvance_steps {P : State → State → Prop} (hrefl : P s s) (htrans : ∀ {x y z}, P x y → P y z → P x z)
    (hcal : P s (s.calAbandon p)) (hmove : ∀ t m, P t (t.rfMove p m)) (htune : (s.rfp p).retunePend = true → P s (s.tune p))
    (hsynth : s.ToSynth p → P s (s.fput (F.RF_STAT_STATE p) rfSYNTH)) : P s (s.rfAdvance p) := by
  have ite {c : Prop} [Decidable c] {x y : State} (h : c → P s x) (h' : ¬ c → P s y) : P s (if c then x else y) := by
    split
    · next hc => exact h hc
    · next hc => exact h' hc
  have hmask : P s (if s.fget (F.RF_CTL_REQ p) < 3 then s.calAbandon p else s) := ite (fun _ => hcal) fun _ => hrefl
  unfold State.rfAdvance
  refine ite (fun _ => ite (fun _ => hrefl) fun _ => htrans hcal (hmove _ _)) fun _ => ite (fun _ => hrefl) fun _ => ?_
  refine ite (fun h => htune h.1) fun _ => ite (fun _ => hmove s _) fun _ => ?_
  refine ite (fun hst => ite (fun h => htrans (hsynth ⟨hst, h⟩) (hmove _ _)) fun _ => hrefl) fun _ => ?_
  refine ite (fun _ => ite (fun _ => ite (fun _ => hmove s _) fun _ => hrefl) fun _ => ite (fun _ => hmove s _) fun _ => hrefl) fun _ => ?_
  refine ite (fun _ => ite (fun _ => htrans hcal (hmove _ _)) fun _ => hrefl) fun _ => ite (fun _ => ?_) fun _ => hrefl
  exact ite (fun _ => htrans hmask (hmove _ _)) fun _ => hmask

theorem State.rfAdvance_carries {R : Nat → Prop} (hR : ∀ a, R a → a / 4096 ≠ 0x028)
    (htune : (s.rfp p).retunePend = true → Carries State.comb R s (s.tune p))
    (hsynth : s.ToSynth p → Carries State.comb R s (s.fput (F.RF_STAT_STATE p) rfSYNTH)) : Carries State.comb R s (s.rfAdvance p) :=
  s.rfAdvance_steps p (.refl s) .trans ((CalWork.calAbandon s p).mono hR) (fun t m => (CalWork.rfMove t p m).mono hR) htune hsynth

/-- No register of the calibration, and not RF_STAT of path `p`. -/
def BesidePath (p a : Nat) : Prop := a / 4096 ≠ 0x028 ∧ a ≠ rfPage p * 4096 + 0x044

theorem BesidePath.fput_stat (t : State) {f : Fld} (hf : f.addr = (0x020 + 1 * p) * 4096 + 0x044) (v : Nat) :
    Carries State.comb (BesidePath p) t (t.fput f v) :=
  .fput comb_blind f v (fun h => h.2 (by rw [hf]; unfold rfPage; omega)) (by rw [hf]; omega) t

theorem State.tune_work : Carries State.comb (BesidePath p) s (s.tune p) := by
  unfold State.tune
  have hcal : Carries State.comb (BesidePath p) s (s.calAbandon p) := (CalWork.calAbandon s p).mono fun a ha => ha.1
  exact ((hcal.trans (BesidePath.fput_stat p _ rfl _)).trans (BesidePath.fput_stat p _ rfl _)).trans
    ((BesidePath.fput_stat p _ rfl _).trans ((CalWork.setRf _ _).mono fun a ha => ha.1))

theorem State.rfAdvance_work : Carries State.comb (BesidePath p) s (s.rfAdvance p) :=
  s.rfAdvance_carries p (fun _ ha => ha.1) (fun _ => s.tune_work p) fun _ => BesidePath.fput_stat p s rfl _

variable {s p}

/-- Without a retune that waits, RF_STAT stands but for the way from STANDBY to SYNTH. -/
theorem State.rfAdvance_calWork (hr : (s.rfp p).retunePend = false) (hs : ¬ s.ToSynth p) : CalWork s (s.rfAdvance p) :=
  s.rfAdvance_carries p (fun _ ha => ha) (fun h => absurd (hr.symm.trans h) Bool.false_ne_true) fun h => absurd h hs

theorem State.rfAdvance_toSynth (hi : (s.rfp p).move = .idle) (hf : (s.rfp p).failed = false) (hr : (s.rfp p).retunePend = false)
    (hs : s.ToSynth p) : s.rfAdvance p = (s.fput (F.RF_STAT_STATE p) rfSYNTH).rfMove p .toLock := by
  obtain ⟨hst, hrq, hok⟩ := hs
  have h0 : s.fget (F.RF_CTL_REQ p) ≠ 0 := by omega
  have hclean : ¬ ((s.rfp p).move ≠ .idle ∨ (s.rfp p).failed = true) := fun h => h.elim (· hi) fun h => Bool.false_ne_true (hf.symm.trans h)
  have hno : ¬ ((s.rfp p).retunePend = true ∧ rfSYNTH ≤ s.rfState p) := fun h => Bool.false_ne_true (hr.symm.trans h.1)
  unfold State.rfAdvance
  dsimp only
  rw [if_neg h0, if_neg hclean, if_neg hno, hst, if_neg (by decide), if_pos rfl, if_pos ⟨hrq, hok⟩]

end

-- a write of REQ (R75)

/-- REQ is stored; the path's STATE event is due, and a failed lock holds it no longer. -/
def State.rfAsked (s : State) (p rq : Nat) : State :=
  (s.fput (F.RF_CTL_REQ p) rq).setRfp p { s.rfp p with evPend := true, failed := false }

section
variable (s : State) (p : Nat) {rq : Nat} (hq : rq ≤ 3)

theorem State.rfReq_over (h : 3 < rq) : s.rfReq p rq = s.fault (rfPage p) 3 := if_pos h

theorem State.rfReq_le (h : rq ≤ 3) : s.rfReq p rq =
    if (s.rfAsked p rq).rfState p = rq ∧ ((s.rfAsked p rq).rfp p).move = .idle then
      ((s.rfAsked p rq).setRfp p { (s.rfAsked p rq).rfp p with evPend := false }).evRise (rfPage p) 0
    else (s.rfAsked p rq).rfAdvance p := by
  unfold State.rfReq
  rw [if_neg (by omega)]
  rfl

theorem rfReq_addr : (F.RF_CTL_REQ p).addr = rfPage p * 4096 + 0x040 := by simp only [F.RF_CTL_REQ, rfPage, Nat.one_mul]

theorem rfStat_addr : (F.RF_STAT_STATE p).addr = rfPage p * 4096 + 0x044 := by simp only [F.RF_STAT_STATE, rfPage, Nat.one_mul]

theorem State.rfAsked_reg {a : Nat} (h : a ≠ rfPage p * 4096 + 0x040) : (s.rfAsked p rq).reg a = s.reg a :=
  s.reg_fput_other (F.RF_CTL_REQ p) rq (by rw [rfReq_addr]; exact h)

theorem State.rfAsked_rfp : (s.rfAsked p rq).rfp p = { s.rfp p with evPend := true, failed := false } := by
  unfold State.rfAsked
  exact State.rfp_setRfp_same _ _ _

theorem State.rfAsked_rfState : (s.rfAsked p rq).rfState p = s.rfState p :=
  State.fget_congr (f := F.RF_STAT_STATE p) (s.rfAsked_reg p (by simp only [F.RF_STAT_STATE]; unfold rfPage; omega))

include hq

theorem State.rfAsked_req : (s.rfAsked p rq).fget (F.RF_CTL_REQ p) = rq :=
  (s.fget_fput_same (F.RF_CTL_REQ p) rq (Nat.le_of_ble_eq_true rfl)).trans (Nat.mod_eq_of_lt (show rq < 8 by omega))

end

section
variable {s : State} {via : Via} {p : Fin 8} {rq : BitVec 3} (hj : s.judge via (rfPage p.val) 0x040 true = .ok)
include hj

theorem exec_rfReq : exec (.rfReq via p rq) s = .next (s.rfReq p.val rq.toNat) := by
  refine congrArg Host.Outcome.next ?_
  unfold State.gated
  rw [hj]
  exact State.guarded_ok hj _

theorem rfReq_badReq (h : 3 < rq.toNat) : Completes (.rfReq via p rq) s fun t =>
    t.flag (PG_FAULT (rfPage p.val) 3) = true ∧ OnlyRegs s t [rfPage p.val * 4096 + 0x020] :=
  .of_exec ((exec_rfReq hj).trans (congrArg Host.Outcome.next (s.rfReq_over p.val h))) ⟨s.flag_fault _ (by decide), s.onlyRegs_fault _ _⟩

variable (hq : rq.toNat ≤ 3)
include hq

theorem rfReq_wakes (h0 : 1 ≤ rq.toNat) (hs : s.rfState p.val = rfSLEEP) (hi : (s.rfp p.val).move = .idle) : Completes (.rfReq via p rq) s fun t =>
    t.fget (F.RF_CTL_REQ p.val) = rq.toNat ∧ (t.rfp p.val).move = .toStandby ∧ t.comb = s.comb ∧
    ∀ a, a ≠ rfPage p.val * 4096 + 0x040 → t.reg a = s.reg a := by
  have hreq := s.rfAsked_req p.val hq
  have hst := (s.rfAsked_rfState p.val (rq := rq.toNat)).trans hs
  have hrfp := s.rfAsked_rfp p.val (rq := rq.toNat)
  have hnot : ¬ ((s.rfAsked p.val rq.toNat).rfState p.val = rq.toNat ∧ ((s.rfAsked p.val rq.toNat).rfp p.val).move = .idle) := by
    rw [hst]
    exact fun h => absurd h.1 (by unfold rfSLEEP; omega)
  have hmove : (s.rfAsked p.val rq.toNat).rfAdvance p.val = (s.rfAsked p.val rq.toNat).rfMove p.val .toStandby := by
    unfold State.rfAdvance
    dsimp only
    rw [hreq, hst, hrfp, if_neg (by omega), if_neg (fun h => h.elim (· hi) Bool.false_ne_true), if_neg (fun h => absurd h.2 (by decide)), if_pos rfl]
  have hcomb : (s.rfAsked p.val rq.toNat).comb = s.comb := rfl
  refine .of_exec ((exec_rfReq hj).trans (congrArg Host.Outcome.next ((s.rfReq_le p.val hq).trans ((if_neg hnot).trans hmove))))
    ⟨hreq, ?_, hcomb, fun a ha => s.rfAsked_reg p.val ha⟩
  exact congrArg RfSt.move (State.rfp_setRfp_same _ _ _)

theorem rfReq_settled (hs : s.rfState p.val = rq.toNat) (hi : (s.rfp p.val).move = .idle) : Completes (.rfReq via p rq) s fun t =>
    t.fget (F.RF_CTL_REQ p.val) = rq.toNat ∧ Rises s t (rfPage p.val) 0 ∧ t.rfState p.val = s.rfState p.val := by
  have hst := s.rfAsked_rfState p.val (rq := rq.toNat)
  have hreq := s.rfAsked_req p.val hq
  have hrfp := s.rfAsked_rfp p.val (rq := rq.toNat)
  have heven := s.rfAsked_reg p.val (rq := rq.toNat) (a := rfPage p.val * 4096 + 0x018) (by omega)
  have hpos : (s.rfAsked p.val rq.toNat).rfState p.val = rq.toNat ∧ ((s.rfAsked p.val rq.toNat).rfp p.val).move = .idle :=
    ⟨hst.trans hs, hrfp ▸ hi⟩
  refine .of_exec ((exec_rfReq hj).trans (congrArg Host.Outcome.next ((s.rfReq_le p.val hq).trans (if_pos hpos)))) ⟨?_, ?_, ?_⟩
  · exact (State.fget_evRise_other _ _ _ _ (by simp only [F.RF_CTL_REQ]; unfold rfPage; omega)).trans hreq
  · exact .of_evRise (by decide) heven
  · exact (State.fget_evRise_other _ _ _ (F.RF_STAT_STATE p.val) (by simp only [F.RF_STAT_STATE]; unfold rfPage; omega)).trans hst

theorem rfReq_stored : Completes (.rfReq via p rq) s fun t => t.fget (F.RF_CTL_REQ p.val) = rq.toNat ∧ t.comb = s.comb := by
  have hp := p.isLt
  refine .of_exec ((exec_rfReq hj).trans (congrArg Host.Outcome.next (s.rfReq_le p.val hq))) ?_
  have hreq := s.rfAsked_req p.val hq
  have hcomb : (s.rfAsked p.val rq.toNat).comb = s.comb := rfl
  split
  · exact ⟨(State.fget_evRise_other _ _ _ _ (by simp only [F.RF_CTL_REQ]; unfold rfPage; omega)).trans hreq, (State.evRise_comb _ _ _).trans hcomb⟩
  · have hwork := (s.rfAsked p.val rq.toNat).rfAdvance_work p.val
    exact ⟨(hwork.fget (by simp only [BesidePath, F.RF_CTL_REQ]; unfold rfPage; omega)).trans hreq, hwork.keeps.view.trans hcomb⟩

end

end Sys2Proof.Machine
end

section
/-! The end of a transition (04: R67, R73 to R76, R81). -/

namespace Sys2Proof.Machine

-- STATE among the fields of RF_STAT

section
variable (s : State) (p : Nat) {f : Fld}

theorem State.rfState_fput_same {k : Nat} (hk : k < 8) : (s.fput (F.RF_STAT_STATE p) k).rfState p = k :=
  (s.fget_fput_same (F.RF_STAT_STATE p) k (Nat.le_of_ble_eq_true rfl)).trans (Nat.mod_eq_of_lt hk)

@[simp] theorem State.fget_setRfp (q : Nat) (x : RfSt) : (s.setRfp q x).fget f = s.fget f := rfl

@[simp] theorem State.flag_setRfp (q : Nat) (x : RfSt) : (s.setRfp q x).flag f = s.flag f := rfl

@[simp] theorem State.rfState_setRfp (q : Nat) (x : RfSt) : (s.setRfp q x).rfState p = s.rfState p := rfl

theorem State.rfState_fputB (hf : 3 ≤ f.lo) (hw : f.w ≤ 32) (b : Bool) : (s.fputB f b).rfState p = s.rfState p :=
  s.fget_fput_other f (F.RF_STAT_STATE p) _ hw (.inr (.inl hf))

theorem State.fget_rfState (hf : 3 ≤ f.lo) (k : Nat) : (s.fput (F.RF_STAT_STATE p) k).fget f = s.fget f :=
  s.fget_fput_other (F.RF_STAT_STATE p) f k (Nat.le_of_ble_eq_true rfl) (.inr (.inr hf))

end

-- what a transition reaches

/-- The STATE in which a transition ends. -/
def RfMove.reaches : RfMove → Nat
  | .idle | .toSleep => rfSLEEP
  | .toStandby | .downStandby => rfSTANDBY
  | .toLock | .downSynth => rfSYNTH
  | .toReceive | .fromTransmit => rfRECEIVE
  | .toTransmit => rfTRANSMIT

/-- A synthesizer that stops: without LOCK and AGCSET, and nothing of it waits. -/
def State.rfStopped (s : State) (p : Nat) : State :=
  ((s.fputB (F.RF_STAT_LOCK p) false).fputB (F.RF_STAT_AGCSET p) false).setRfp p
    { s.rfp p with relock := false, attempts := 0, retune := false, retunePend := false }

def State.rfLocked (s : State) (p : Nat) : State :=
  (s.fputB (F.RF_STAT_LOCK p) true).setRfp p { s.rfp p with relock := false, attempts := 0 }

/-- Entry to RECEIVE: the retune is over, and the AGC starts. -/
def State.rfEntry (s : State) (p : Nat) : State :=
  ((s.fputB (F.RF_STAT_INVALID p) false).setRfp p { s.rfp p with retune := false }).agcStart p

/-- Path `p` at the end of the transition `m`. -/
def State.rfReached (s : State) (p band : Nat) (m : RfMove) : State :=
  let st := s.fput (F.RF_STAT_STATE p) m.reaches
  match m with
  | .idle => s
  | .toStandby | .toTransmit | .downSynth => st
  | .toLock => if (st.rfLocked p).loMaster p = p then (st.rfLocked p).fput (F.RF_STAT_VCOBAND p) band else st.rfLocked p
  | .toReceive => if s.flag (F.RF_STAT_LOCK p) then st.rfEntry p else s
  | .fromTransmit => st.agcStart p
  | .toSleep | .downStandby => st.rfStopped p

/-- The STATE event of path `p`, if it is due. -/
def State.rfTold (s : State) (p : Nat) (ev : Bool) : State :=
  if ev ∧ s.rfState p = s.fget (F.RF_CTL_REQ p) then (s.setRfp p { s.rfp p with evPend := false }).evRise (rfPage p) 0 else s

/-- What follows on path `p`: its STATE event, what comes next on it, the calibration that waited for it, and the streams. -/
def State.rfSettle (s : State) (p : Nat) (ev : Bool) : State :=
  ((s.rfTold p ev).rfAdvance p).calMoved.streamsUpdate

theorem State.rfDone_eq {s : State} {p : Nat} {m : RfMove} (hm : (s.rfp p).move = m) (band : Nat) : s.rfDone p band =
    (if (((s.rfMove p .idle).rfReached p band m).rfp p).failed then ((s.rfMove p .idle).rfReached p band m).rfFail p
      else (s.rfMove p .idle).rfReached p band m).rfSettle p (s.rfp p).evPend := by
  unfold State.rfDone
  simp only [hm]
  cases m <;> rfl

-- what the end of a transition leaves

/-- Nothing holds path `p` where it arrives: no failed lock and no retune that waits; on the way to SLEEP either would end. -/
def State.Free (s : State) (p : Nat) (m : RfMove) : Prop :=
  m = .toSleep ∨ (s.rfp p).failed = false ∧ (s.rfp p).retunePend = false

/-- The transition counts: one there is, and to RECEIVE only with LOCK. -/
def State.Arrives (s : State) (p : Nat) (m : RfMove) : Prop :=
  m ≠ .idle ∧ (m = .toReceive → s.flag (F.RF_STAT_LOCK p) = true)

section
variable (s : State) (p band : Nat) (m : RfMove)

@[simp] theorem State.rfp_fput (f : Fld) (v q : Nat) : (s.fput f v).rfp q = s.rfp q := rfl

theorem State.rfp_ite_fput (c : Prop) [Decidable c] (f : Fld) (v q : Nat) : (if c then s.fput f v else s).rfp q = s.rfp q := by
  split <;> rfl

theorem State.rfp_agcStart : (s.agcStart p).rfp p =
    { s.rfp p with agcBlocks := 0, agcOk := 0, agcSat := false, pow := 0, powN := 0, blk := false } := s.rfp_setRfp_same p _

theorem State.rfp_rfLocked : (s.rfLocked p).rfp p = { s.rfp p with relock := false, attempts := 0 } := State.rfp_setRfp_same _ p _

theorem State.rfp_rfStopped : (s.rfStopped p).rfp p = { s.rfp p with relock := false, attempts := 0, retune := false, retunePend := false } :=
  State.rfp_setRfp_same _ p _

/-- The state of a path beside its registers, after the transition `m` with LOCK as `lock`. -/
def RfMove.settles (lock : Bool) (x : RfSt) : RfMove → RfSt
  | .idle | .toStandby | .toTransmit | .downSynth => x
  | .toLock => { x with relock := false, attempts := 0 }
  | .toReceive =>
    if lock then { x with retune := false, agcBlocks := 0, agcOk := 0, agcSat := false, pow := 0, powN := 0, blk := false } else x
  | .fromTransmit => { x with agcBlocks := 0, agcOk := 0, agcSat := false, pow := 0, powN := 0, blk := false }
  | .toSleep | .downStandby => { x with relock := false, attempts := 0, retune := false, retunePend := false }

theorem State.rfp_rfReached : (s.rfReached p band m).rfp p = m.settles (s.flag (F.RF_STAT_LOCK p)) (s.rfp p) := by
  cases m <;> simp only [State.rfReached, RfMove.settles]
  case toLock => rw [State.rfp_ite_fput, State.rfp_rfLocked, State.rfp_fput]
  case toReceive => split <;> simp only [State.rfEntry, State.rfp_agcStart, State.rfp_setRfp_same, State.rfp_fput]
  all_goals simp only [State.rfp_fput, State.rfp_agcStart, State.rfp_rfStopped]

/-- What stays idle, failed or waiting. -/
theorem RfMove.settles_move (lock : Bool) (x : RfSt) : (m.settles lock x).move = x.move := by
  cases m <;> simp only [RfMove.settles]
  split <;> rfl

theorem RfMove.settles_failed (lock : Bool) (x : RfSt) : (m.settles lock x).failed = x.failed := by
  cases m <;> simp only [RfMove.settles]
  split <;> rfl

theorem RfMove.settles_retunePend {lock : Bool} {x : RfSt} (h : m = .toSleep ∨ x.retunePend = false) : (m.settles lock x).retunePend = false := by
  cases m
  case toSleep => rfl
  case downStandby => rfl
  case toReceive => cases lock <;> exact h.resolve_left RfMove.noConfusion
  all_goals exact h.resolve_left RfMove.noConfusion

/-- Neither RF_STAT nor RF_GAIN of path `p`. -/
def AsideStat (p a : Nat) : Prop := a ≠ rfPage p * 4096 + 0x044 ∧ a ≠ rfPage p * 4096 + 0x054

theorem AsideStat.fput_stat (t : State) {f : Fld} (hf : f.addr = (0x020 + 1 * p) * 4096 + 0x044) (v : Nat) :
    Carries State.comb (AsideStat p) t (t.fput f v) :=
  .fput comb_blind f v (fun h => h.1 (by rw [hf]; unfold rfPage; omega)) (by rw [hf]; omega) t

theorem State.setRfp_carries (R : Nat → Prop) (t : State) (q : Nat) (x : RfSt) : Carries State.comb R t (t.setRfp q x) := .of_eq rfl rfl rfl

theorem AsideStat.agcStart (t : State) : Carries State.comb (AsideStat p) t (t.agcStart p) := by
  unfold State.agcStart
  have hgain : (F.RF_GAIN_GAIN p).addr = rfPage p * 4096 + 0x054 := by simp only [F.RF_GAIN_GAIN, rfPage, Nat.one_mul]
  have hput (u : State) (v : Nat) : Carries State.comb (AsideStat p) u (u.fput (F.RF_GAIN_GAIN p) v) :=
    .fput comb_blind _ v (fun h => h.2 hgain) (by rw [hgain]; omega) u
  exact ((State.setRfp_carries _ t p _).trans (hput _ _)).trans (AsideStat.fput_stat p _ rfl _)

theorem State.rfReached_carries : Carries State.comb (AsideStat p) s (s.rfReached p band m) := by
  have hst : Carries State.comb (AsideStat p) s (s.fput (F.RF_STAT_STATE p) m.reaches) := AsideStat.fput_stat p s rfl _
  have hstopped (t : State) : Carries State.comb (AsideStat p) t (t.rfStopped p) :=
    ((AsideStat.fput_stat p t rfl _).trans (AsideStat.fput_stat p _ rfl _)).trans (State.setRfp_carries _ _ p _)
  have hlocked (t : State) : Carries State.comb (AsideStat p) t (t.rfLocked p) := (AsideStat.fput_stat p t rfl _).trans (State.setRfp_carries _ _ p _)
  cases m
  case idle => exact .refl s
  case toLock => exact hst.trans (.ite (fun _ => (hlocked _).trans (AsideStat.fput_stat p _ rfl _)) fun _ => hlocked _)
  case toReceive =>
    exact .ite (fun _ => ((hst.trans (AsideStat.fput_stat p _ rfl _)).trans (State.setRfp_carries _ _ p _)).trans (AsideStat.agcStart p _)) fun _ => .refl s
  case fromTransmit => exact hst.trans (AsideStat.agcStart p _)
  case toSleep => exact hst.trans (hstopped _)
  case downStandby => exact hst.trans (hstopped _)
  all_goals exact hst

-- STATE and the flags beside it

theorem State.rfState_agcStart : (s.agcStart p).rfState p = s.rfState p := by
  unfold State.agcStart
  rw [State.rfState_fputB _ p (Nat.le_of_ble_eq_true rfl) (Nat.le_of_ble_eq_true rfl)]
  unfold State.rfState
  rw [State.fget_fput_other _ (F.RF_GAIN_GAIN p) _ _ (Nat.le_of_ble_eq_true rfl) (.inl (by simp only [F.RF_GAIN_GAIN, F.RF_STAT_STATE]; omega)),
    State.fget_setRfp]

theorem State.rfState_rfStopped : (s.rfStopped p).rfState p = s.rfState p := by
  unfold State.rfStopped
  rw [State.rfState_setRfp, State.rfState_fputB _ p (Nat.le_of_ble_eq_true rfl) (Nat.le_of_ble_eq_true rfl),
    State.rfState_fputB _ p (Nat.le_of_ble_eq_true rfl) (Nat.le_of_ble_eq_true rfl)]

theorem State.rfState_rfLocked : (s.rfLocked p).rfState p = s.rfState p := by
  unfold State.rfLocked
  rw [State.rfState_setRfp, State.rfState_fputB _ p (Nat.le_of_ble_eq_true rfl) (Nat.le_of_ble_eq_true rfl)]

end

section
variable (s : State) (p band : Nat) {m : RfMove}

theorem RfMove.reaches_lt : m.reaches < 8 := by cases m <;> decide

theorem State.rfState_rfReached (h : s.Arrives p m) : (s.rfReached p band m).rfState p = m.reaches := by
  obtain ⟨hm, hlock⟩ := h
  have hst := s.rfState_fput_same p (RfMove.reaches_lt (m := m))
  cases m
  case idle => exact absurd rfl hm
  case toLock =>
    have hlocked := (State.rfState_rfLocked _ p).trans hst
    unfold State.rfReached
    dsimp only
    split
    · exact (State.fget_fput_other _ (F.RF_STAT_VCOBAND p) (F.RF_STAT_STATE p) band (Nat.le_of_ble_eq_true rfl)
        (.inr (.inl (Nat.le_of_ble_eq_true rfl)))).trans hlocked
    · exact hlocked
  case toReceive =>
    unfold State.rfReached State.rfEntry
    dsimp only
    rw [if_pos (hlock rfl), State.rfState_agcStart, State.rfState_setRfp,
      State.rfState_fputB _ p (Nat.le_of_ble_eq_true rfl) (Nat.le_of_ble_eq_true rfl)]
    exact hst
  case fromTransmit => exact (State.rfState_agcStart _ p).trans hst
  case toSleep => exact (State.rfState_rfStopped _ p).trans hst
  case downStandby => exact (State.rfState_rfStopped _ p).trans hst
  all_goals exact hst

theorem State.agcStart_holds :
    (s.agcStart p).fget (F.RF_GAIN_GAIN p) = s.fget (F.RF_BB_MGAIN p).act ∧ (s.agcStart p).flag (F.RF_STAT_AGCSET p) = false ∧
    (s.agcStart p).flag (F.RF_STAT_INVALID p) = s.flag (F.RF_STAT_INVALID p) := by
  unfold State.agcStart
  generalize hx : s.setRfp p _ = x
  have hfget (f : Fld) : x.fget f = s.fget f := hx ▸ rfl
  have hgain (f : Fld) (hf : f.addr = (0x020 + 1 * p) * 4096 + 0x044) (v : Nat) : (x.fput (F.RF_GAIN_GAIN p) v).fget f = s.fget f :=
    (x.fget_fput_other _ f v (Nat.le_of_ble_eq_true rfl) (.inl (by rw [hf]; simp only [F.RF_GAIN_GAIN]; omega))).trans (hfget f)
  refine ⟨?_, State.flag_fputB_same _ _ false (Nat.le_of_ble_eq_true rfl) (Nat.le_of_ble_eq_true rfl), ?_⟩
  · unfold State.fputB
    rw [State.fget_fput_other _ _ _ _ (Nat.le_of_ble_eq_true rfl) (.inl (by simp only [F.RF_GAIN_GAIN, F.RF_STAT_AGCSET]; omega)),
      State.fget_fput_same _ _ _ (Nat.le_of_ble_eq_true rfl)]
    exact Nat.mod_eq_of_lt (State.fget_lt _ _)
  · rw [State.flag_fputB_other _ _ _ _ (Nat.le_of_ble_eq_true rfl) (.inr (.inl (Nat.le_of_ble_eq_true rfl)))]
    exact congrArg (fun n : Nat => decide (n ≠ 0)) (hgain _ rfl _)

theorem State.rfLocked_holds : (s.rfLocked p).flag (F.RF_STAT_LOCK p) = true ∧
    (s.rfLocked p).fget (F.RF_STAT_VCOBAND p) = s.fget (F.RF_STAT_VCOBAND p) := by
  unfold State.rfLocked
  rw [State.flag_setRfp, State.fget_setRfp]
  exact ⟨s.flag_fputB_same _ true (Nat.le_of_ble_eq_true rfl) (Nat.le_of_ble_eq_true rfl),
    s.fget_fput_other (F.RF_STAT_LOCK p) (F.RF_STAT_VCOBAND p) _ (Nat.le_of_ble_eq_true rfl) (.inr (.inr (Nat.le_of_ble_eq_true rfl)))⟩

theorem State.rfStopped_holds : (s.rfStopped p).flag (F.RF_STAT_LOCK p) = false ∧ (s.rfStopped p).flag (F.RF_STAT_AGCSET p) = false := by
  unfold State.rfStopped
  rw [State.flag_setRfp, State.flag_setRfp,
    State.flag_fputB_other _ (F.RF_STAT_AGCSET p) (F.RF_STAT_LOCK p) _ (Nat.le_of_ble_eq_true rfl) (.inr (.inl (Nat.le_of_ble_eq_true rfl)))]
  exact ⟨s.flag_fputB_same _ false (Nat.le_of_ble_eq_true rfl) (Nat.le_of_ble_eq_true rfl),
    State.flag_fputB_same _ _ false (Nat.le_of_ble_eq_true rfl) (Nat.le_of_ble_eq_true rfl)⟩

end

-- what follows on the path

theorem State.streamsUpdate_carries {α : Type} {π : State → α} (hπ : Blind π) (s : State) :
    Carries π (fun a => a / 4096 ≠ 0x038) s s.streamsUpdate := by
  unfold State.streamsUpdate
  extract_lets run inv was bits u
  have hu : Carries π (fun a => a / 4096 ≠ 0x038) s u :=
    (Carries.fput hπ F.SX_RUN_S _ (fun h => h rfl) (by decide) s).trans (.fput hπ F.SX_INV_S _ (fun h => h rfl) (by decide) _)
  exact hu.trans (.when fun _ => .evRise hπ 0x038 2 (fun h => h rfl) u)

theorem rf_blind : Blind State.rf := ⟨fun _ _ => rfl, fun _ _ => rfl⟩

section
variable (s : State) (p : Nat) (ev : Bool)

theorem State.calMoved_carries (R : Nat → Prop) : Carries State.comb R s s.calMoved := .ite (fun _ => .of_eq rfl rfl rfl) fun _ => .refl s

theorem State.rfp_calMoved : s.calMoved.rfp p = s.rfp p := by
  unfold State.calMoved
  split <;> rfl

theorem State.rfTold_carries : Carries State.comb (fun a => a ≠ rfPage p * 4096 + 0x01C) s (s.rfTold p ev) :=
  .ite (fun _ => (State.setRfp_carries _ s p _).trans (.evRise comb_blind _ 0 (fun h => h rfl) _)) fun _ => .refl s

theorem State.rfTold_rfp : ∃ b, (s.rfTold p ev).rfp p = { s.rfp p with evPend := b } := by
  unfold State.rfTold
  split
  · exact ⟨false, (State.rfp_congr (State.evRise_rf _ _ _) p).trans (s.rfp_setRfp_same p _)⟩
  · exact ⟨_, rfl⟩

theorem State.rfTold_rises (h : s.rfState p = s.fget (F.RF_CTL_REQ p)) : Rises s (s.rfTold p true) (rfPage p) 0 := by
  unfold State.rfTold
  rw [if_pos ⟨rfl, h⟩]
  exact .of_evRise (by decide) rfl

theorem State.rfTold_rfState : (s.rfTold p ev).rfState p = s.rfState p :=
  (s.rfTold_carries p ev).fget (f := F.RF_STAT_STATE p) (by rw [rfStat_addr]; omega)

theorem State.rfTold_toSynth : (s.rfTold p ev).ToSynth p ↔ s.ToSynth p := by
  have hreq : (s.rfTold p ev).fget (F.RF_CTL_REQ p) = s.fget (F.RF_CTL_REQ p) := (s.rfTold_carries p ev).fget (by rw [rfReq_addr]; omega)
  have hok : (s.rfTold p ev).flag F.CLK_STAT_REFOK = s.flag F.CLK_STAT_REFOK :=
    (s.rfTold_carries p ev).flag (by simp only [F.CLK_STAT_REFOK]; omega)
  unfold State.ToSynth
  rw [s.rfTold_rfState, hreq, hok]

/-- No register of the calibrations or the streams, and not PG_EVPEND of path `p`. -/
def Settled (p a : Nat) : Prop := a / 4096 ≠ 0x028 ∧ a / 4096 ≠ 0x038 ∧ a ≠ rfPage p * 4096 + 0x01C

theorem Settled.stat (hp : p < 8) : Settled p (rfPage p * 4096 + 0x044) := by
  unfold Settled rfPage
  omega

theorem State.rfSettle_carries (hr : (s.rfp p).retunePend = false) (hs : ¬ s.ToSynth p) :
    Carries State.comb (Settled p) (s.rfTold p ev) (s.rfSettle p ev) := by
  obtain ⟨b, hrfp⟩ := s.rfTold_rfp p ev
  have hadv := State.rfAdvance_calWork (s := s.rfTold p ev) (p := p) (by rw [hrfp]; exact hr) (fun h => hs ((s.rfTold_toSynth p ev).mp h))
  exact ((hadv.mono fun _ ha => ha.1).trans (State.calMoved_carries _ _)).trans
    ((State.streamsUpdate_carries comb_blind _).mono fun _ ha => ha.2.1)

theorem State.rfSettle_toSynth (hi : (s.rfp p).move = .idle) (hf : (s.rfp p).failed = false) (hr : (s.rfp p).retunePend = false)
    (hs : s.ToSynth p) (hp : p < 8) : (s.rfSettle p ev).rfState p = rfSYNTH := by
  obtain ⟨b, hrfp⟩ := s.rfTold_rfp p ev
  have hadv := State.rfAdvance_toSynth (s := s.rfTold p ev) (p := p) (by rw [hrfp]; exact hi) (by rw [hrfp]; exact hf) (by rw [hrfp]; exact hr)
    ((s.rfTold_toSynth p ev).mpr hs)
  unfold State.rfSettle
  rw [hadv]
  refine ((State.streamsUpdate_carries comb_blind _).fget (f := F.RF_STAT_STATE p) ?_).trans
    (((State.calMoved_carries _ (fun _ => True)).fget (f := F.RF_STAT_STATE p) trivial).trans ?_)
  · simp only [F.RF_STAT_STATE]
    omega
  · exact (State.rfState_setRfp _ p p _).trans (State.rfState_fput_same _ p (by decide))

/-- STATE after what follows. -/
theorem State.rfState_rfSettle (hp : p < 8) (hr : (s.rfp p).retunePend = false)
    (hc : s.ToSynth p → (s.rfp p).move = .idle ∧ (s.rfp p).failed = false) [Decidable (s.ToSynth p)] :
    (s.rfSettle p ev).rfState p = if s.ToSynth p then rfSYNTH else s.rfState p := by
  split
  · next hs => exact s.rfSettle_toSynth p ev (hc hs).1 (hc hs).2 hr hs hp
  · next hs =>
    exact ((s.rfSettle_carries p ev hr hs).fget (f := F.RF_STAT_STATE p) (by rw [rfStat_addr]; exact Settled.stat p hp)).trans (s.rfTold_rfState p ev)

/-- Nothing comes next on a path that is where its REQ has it. -/
def State.Rests (s : State) (p : Nat) : Prop :=
  s.fget (F.RF_CTL_REQ p) = 0 ∧ s.rfState p = rfSLEEP ∨
  s.fget (F.RF_CTL_REQ p) = 3 ∧ (s.rfState p = rfRECEIVE ∨ s.rfState p = rfSYNTH ∧ s.flag (F.RF_STAT_LOCK p) = false) ∧
    (s.rfp p).retunePend = false

variable {s p}

theorem State.Rests.rfAdvance (h : s.Rests p) (hi : (s.rfp p).move = .idle) : s.rfAdvance p = s := by
  unfold State.rfAdvance
  dsimp only
  obtain ⟨hrq, hst⟩ | ⟨hrq, hst, hr⟩ := h
  · rw [if_pos hrq, if_pos (.inr ⟨hst, hi⟩)]
  · rw [if_neg (by omega)]
    split
    · rfl
    · rw [if_neg (fun h => Bool.false_ne_true (hr.symm.trans h.1)), hrq]
      obtain hst | ⟨hst, hlock⟩ := hst
      · rw [hst, if_neg (by decide), if_neg (by decide), if_neg (by decide), if_pos rfl, if_neg (by decide)]
      · rw [hst, hlock, if_neg (by decide), if_neg (by decide), if_pos rfl, if_neg Bool.false_ne_true]

theorem State.Rests.rfSettle_move (h : s.Rests p) (hi : (s.rfp p).move = .idle) : ((s.rfSettle p ev).rfp p).move = .idle := by
  obtain ⟨b, hrfp⟩ := s.rfTold_rfp p ev
  have hrq : (s.rfTold p ev).fget (F.RF_CTL_REQ p) = s.fget (F.RF_CTL_REQ p) := (s.rfTold_carries p ev).fget (by rw [rfReq_addr]; omega)
  have hlock : (s.rfTold p ev).flag (F.RF_STAT_LOCK p) = s.flag (F.RF_STAT_LOCK p) :=
    (s.rfTold_carries p ev).flag (by simp only [F.RF_STAT_LOCK, rfPage]; omega)
  have hrests : (s.rfTold p ev).Rests p := by
    unfold State.Rests
    rw [hrq, s.rfTold_rfState, hlock, hrfp]
    exact h
  unfold State.rfSettle
  rw [hrests.rfAdvance (by rw [hrfp]; exact hi), State.rfp_congr (State.streamsUpdate_carries rf_blind _).keeps.view, State.rfp_calMoved, hrfp]
  exact hi

end

-- PATH_TRANSITION_DONE

/-- Path `p` where the transition `m` has brought it, on no transition any more. -/
def State.rfEnd (s : State) (p band : Nat) (m : RfMove) : State := (s.rfMove p .idle).rfReached p band m

section
variable (s : State) (p band : Nat) (m : RfMove)

theorem State.rfMove_idle : (s.rfMove p .idle).rfp p = { s.rfp p with move := .idle } := s.rfp_setRfp_same p _

theorem State.rfEnd_carries : Carries State.comb (AsideStat p) s (s.rfEnd p band m) :=
  (State.setRfp_carries _ s p _).trans (State.rfReached_carries _ p band m)

theorem State.rfEnd_move : ((s.rfEnd p band m).rfp p).move = .idle := by
  unfold State.rfEnd
  rw [State.rfp_rfReached, RfMove.settles_move, State.rfMove_idle]

theorem State.rfEnd_failed : ((s.rfEnd p band m).rfp p).failed = (s.rfp p).failed := by
  unfold State.rfEnd
  rw [State.rfp_rfReached, RfMove.settles_failed, State.rfMove_idle]

theorem State.rfEnd_req : (s.rfEnd p band m).fget (F.RF_CTL_REQ p) = s.fget (F.RF_CTL_REQ p) :=
  (s.rfEnd_carries p band m).fget (by rw [rfReq_addr]; unfold AsideStat; omega)

variable {s p m}

theorem State.Free.rfEnd_retunePend (h : s.Free p m) : ((s.rfEnd p band m).rfp p).retunePend = false := by
  unfold State.rfEnd
  rw [State.rfp_rfReached, State.rfMove_idle]
  exact RfMove.settles_retunePend m (h.imp_right And.right)

theorem State.Arrives.rfEnd_rfState (h : s.Arrives p m) : (s.rfEnd p band m).rfState p = m.reaches :=
  State.rfState_rfReached (s.rfMove p .idle) p band h

end

section
variable (s : State) (p band : Nat)

theorem SameActive.fput_stat {s t : State} (h : SameActive s t) {f : Fld} (hf : f.addr = (0x020 + 1 * p) * 4096 + 0x044) (v : Nat) :
    SameActive s (t.fput f v) := h.fput f v (by rw [hf]; unfold CommitKept; omega)

theorem SameActive.rfLocked {s t : State} (h : SameActive s t) : SameActive s (t.rfLocked p) := (h.fput_stat p rfl _).setRfp p _

theorem State.rfLocked_band (c : Prop) [Decidable c] :
    (if c then (s.rfLocked p).fput (F.RF_STAT_VCOBAND p) band else s.rfLocked p).flag (F.RF_STAT_LOCK p) = true ∧
    (if c then (s.rfLocked p).fput (F.RF_STAT_VCOBAND p) band else s.rfLocked p).fget (F.RF_STAT_VCOBAND p) =
      if c then band % 2 ^ 5 else s.fget (F.RF_STAT_VCOBAND p) := by
  obtain ⟨hlock, hold⟩ := s.rfLocked_holds p
  by_cases hc : c
  · rw [if_pos hc, if_pos hc]
    refine ⟨(congrArg (fun n : Nat => decide (n ≠ 0)) ?_).trans hlock, State.fget_fput_same _ _ _ (Nat.le_of_ble_eq_true rfl)⟩
    exact State.fget_fput_other _ _ _ _ (Nat.le_of_ble_eq_true rfl) (.inr (.inl (Nat.le_of_ble_eq_true rfl)))
  · rw [if_neg hc, if_neg hc]
    exact ⟨hlock, hold⟩

theorem State.rfReached_toLock : s.rfReached p band .toLock =
    if ((s.fput (F.RF_STAT_STATE p) RfMove.toLock.reaches).rfLocked p).loMaster p = p then
      ((s.fput (F.RF_STAT_STATE p) RfMove.toLock.reaches).rfLocked p).fput (F.RF_STAT_VCOBAND p) band
    else (s.fput (F.RF_STAT_STATE p) RfMove.toLock.reaches).rfLocked p := rfl

/-- Where the way to SYNTH ends, before LOCK is set. -/
def State.rfSynth (s : State) (p : Nat) : State := (s.rfMove p .idle).fput (F.RF_STAT_STATE p) RfMove.toLock.reaches

theorem State.sameActive_rfSynth : SameActive s (s.rfSynth p) := ((SameActive.refl s).setRfp p _).fput_stat p rfl _

theorem State.rfSynth_band : (s.rfSynth p).fget (F.RF_STAT_VCOBAND p) = s.fget (F.RF_STAT_VCOBAND p) :=
  (State.fget_rfState (s.rfMove p .idle) p (f := F.RF_STAT_VCOBAND p) (Nat.le_of_ble_eq_true rfl) _).trans (s.fget_setRfp p _)

theorem State.rfEnd_toLock : s.rfEnd p band .toLock =
    if s.loMaster p = p then ((s.rfSynth p).rfLocked p).fput (F.RF_STAT_VCOBAND p) band else (s.rfSynth p).rfLocked p := by
  rw [← ((s.sameActive_rfSynth p).rfLocked p).loMaster]
  exact State.rfReached_toLock _ p band

theorem State.rfEnd_lock : (s.rfEnd p band .toLock).flag (F.RF_STAT_LOCK p) = true ∧ (s.rfEnd p band .toLock).fget (F.RF_STAT_VCOBAND p) =
    if s.loMaster p = p then band % 2 ^ 5 else s.fget (F.RF_STAT_VCOBAND p) := by
  rw [s.rfEnd_toLock, ← s.rfSynth_band]
  exact (s.rfSynth p).rfLocked_band p band _

theorem State.rfReached_toReceive (hl : s.flag (F.RF_STAT_LOCK p) = true) :
    s.rfReached p band .toReceive = (s.fput (F.RF_STAT_STATE p) RfMove.toReceive.reaches).rfEntry p := if_pos hl

theorem SameActive.rfEntry_holds {s x : State} (h : SameActive s x) :
    (x.rfEntry p).fget (F.RF_GAIN_GAIN p) = s.fget (F.RF_BB_MGAIN p).act ∧ (x.rfEntry p).flag (F.RF_STAT_AGCSET p) = false ∧
    (x.rfEntry p).flag (F.RF_STAT_INVALID p) = false := by
  have hinv := x.flag_fputB_same (F.RF_STAT_INVALID p) false (Nat.le_of_ble_eq_true rfl) (Nat.le_of_ble_eq_true rfl)
  have hact : SameActive s (x.fputB (F.RF_STAT_INVALID p) false) := h.fput_stat p rfl _
  obtain ⟨hgain, hagc, hkept⟩ := State.agcStart_holds ((x.fputB (F.RF_STAT_INVALID p) false).setRfp p { x.rfp p with retune := false }) p
  exact ⟨hgain.trans (hact.fget (F.RF_BB_MGAIN p).act (.inr (by simp only [Fld.act, F.RF_BB_MGAIN]; omega))), hagc, hkept.trans hinv⟩

theorem State.rfEnd_receive (hl : s.flag (F.RF_STAT_LOCK p) = true) :
    (s.rfEnd p band .toReceive).fget (F.RF_GAIN_GAIN p) = s.fget (F.RF_BB_MGAIN p).act ∧
    (s.rfEnd p band .toReceive).flag (F.RF_STAT_AGCSET p) = false ∧ (s.rfEnd p band .toReceive).flag (F.RF_STAT_INVALID p) = false := by
  have hact : SameActive s ((s.rfMove p .idle).fput (F.RF_STAT_STATE p) RfMove.toReceive.reaches) :=
    ((SameActive.refl s).setRfp p _).fput_stat p rfl _
  unfold State.rfEnd
  rw [State.rfReached_toReceive (s.rfMove p .idle) p band hl]
  exact hact.rfEntry_holds p

end

section
variable {s : State} {p : Nat} {m : RfMove} (hp : p < 8) (hm : (s.rfp p).move = m) (hfree : s.Free p m) (band : Nat)
include hm hfree

theorem State.rfDone_settles : s.rfDone p band = (s.rfEnd p band m).rfSettle p (s.rfp p).evPend := by
  have hfailed := s.rfEnd_failed p band m
  rw [State.rfDone_eq hm]
  change State.rfSettle (if ((s.rfEnd p band m).rfp p).failed = true then (s.rfEnd p band m).rfFail p else s.rfEnd p band m) _ _ = _
  obtain rfl | ⟨hf, -⟩ := hfree
  · have hsleep : (s.rfEnd p band .toSleep).rfState p = rfSLEEP :=
      State.Arrives.rfEnd_rfState band ⟨RfMove.noConfusion, RfMove.noConfusion⟩
    have hstays : (s.rfEnd p band .toSleep).rfFail p = s.rfEnd p band .toSleep := if_neg fun h => absurd h.1 (by rw [hsleep]; decide)
    rw [hstays, ite_self]
  · rw [hfailed, hf, if_neg Bool.false_ne_true]

/-- The path's registers are those the end of the transition left, unless STANDBY leads on to SYNTH. -/
theorem State.rfDone_reg (hs : (s.rfEnd p band m).rfState p ≠ rfSTANDBY) {a : Nat} (ha : Settled p a) : (s.rfDone p band).reg a = (s.rfEnd p band m).reg a := by
  rw [State.rfDone_settles hm hfree band]
  exact ((State.rfSettle_carries _ p _ (hfree.rfEnd_retunePend band) fun h => hs h.1).keeps.regs a ha).trans
    ((State.rfTold_carries _ p _).keeps.regs a ha.2.2)

include hp

/-- The path goes on from STANDBY to SYNTH when more is asked and the reference is there; else it stays where the transition ends. -/
theorem State.rfDone_rfState (ha : s.Arrives p m) : (s.rfDone p band).rfState p =
    if m.reaches = rfSTANDBY ∧ 2 ≤ s.fget (F.RF_CTL_REQ p) ∧ s.flag F.CLK_STAT_REFOK = true then rfSYNTH else m.reaches := by
  have hok : (s.rfEnd p band m).flag F.CLK_STAT_REFOK = s.flag F.CLK_STAT_REFOK :=
    (s.rfEnd_carries p band m).flag (by simp only [F.CLK_STAT_REFOK, AsideStat, rfPage]; omega)
  have hto : (s.rfEnd p band m).ToSynth p ↔
      m.reaches = rfSTANDBY ∧ 2 ≤ s.fget (F.RF_CTL_REQ p) ∧ s.flag F.CLK_STAT_REFOK = true := by
    unfold State.ToSynth
    rw [ha.rfEnd_rfState, s.rfEnd_req, hok]
  have hclean (h : (s.rfEnd p band m).ToSynth p) : ((s.rfEnd p band m).rfp p).move = .idle ∧ ((s.rfEnd p band m).rfp p).failed = false := by
    refine ⟨s.rfEnd_move p band m, (s.rfEnd_failed p band m).trans ?_⟩
    obtain rfl | ⟨hf, -⟩ := hfree
    · exact absurd (hto.mp h).1 (by decide)
    · exact hf
  rw [State.rfDone_settles hm hfree band, State.rfState_rfSettle _ p _ hp (hfree.rfEnd_retunePend band) hclean]
  exact if_congr hto rfl (ha.rfEnd_rfState band)

theorem State.rfDone_flag (hs : (s.rfEnd p band m).rfState p ≠ rfSTANDBY) {f : Fld} (hf : f.addr = (0x020 + 1 * p) * 4096 + 0x044) :
    (s.rfDone p band).flag f = (s.rfEnd p band m).flag f :=
  State.flag_congr (State.rfDone_reg hm hfree band hs (by rw [hf]; unfold Settled rfPage; omega))

end

theorem exec_pathTransitionDone {s : State} {p : Fin 8} {band : BitVec 5} (h : s.rfMayEnd p.val = true) :
    exec (.pathTransitionDone p band) s = .next (s.rfDone p.val band.toNat) := congrArg Host.Outcome.next (if_pos h)

theorem exec_pathTransitionDone_not {s : State} {p : Fin 8} {band : BitVec 5} (h : s.rfMayEnd p.val = false) :
    exec (.pathTransitionDone p band) s = .next s := congrArg Host.Outcome.next (if_neg (by rw [h]; exact Bool.false_ne_true))

theorem State.rfMayEnd_of {s : State} {p : Nat} {m : RfMove} (hm : (s.rfp p).move = m) (hi : m ≠ .idle) (hl : m ≠ .toLock) :
    s.rfMayEnd p = true := by
  unfold State.rfMayEnd
  rw [hm]
  cases m
  case idle => exact absurd rfl hi
  case toLock => exact absurd rfl hl
  all_goals rfl

section
variable {s : State} {p : Fin 8} (band : BitVec 5)

theorem pathDone_idle (hm : (s.rfp p.val).move = .idle) : exec (.pathTransitionDone p band) s = .next s :=
  exec_pathTransitionDone_not (by unfold State.rfMayEnd; rw [hm])

theorem pathDone_unlocked (hm : (s.rfp p.val).move = .toLock) (hok : s.flag F.CLK_STAT_REFOK = false) :
    exec (.pathTransitionDone p band) s = .next s :=
  exec_pathTransitionDone_not (by unfold State.rfMayEnd; rw [hm, hok]; rfl)

section
variable (hf : (s.rfp p.val).failed = false) (hr : (s.rfp p.val).retunePend = false)
include hf hr

theorem pathDone_standby (hm : (s.rfp p.val).move = .toStandby ∨ (s.rfp p.val).move = .downStandby) :
    Completes (.pathTransitionDone p band) s fun t =>
      t.rfState p.val = if 2 ≤ s.fget (F.RF_CTL_REQ p.val) ∧ s.flag F.CLK_STAT_REFOK = true then rfSYNTH else rfSTANDBY := by
  have hdone {m : RfMove} (hm : (s.rfp p.val).move = m) (hi : m ≠ .idle) (hl : m ≠ .toLock) (hx : m ≠ .toReceive) (hst : m.reaches = rfSTANDBY) :
      Completes (.pathTransitionDone p band) s fun t =>
        t.rfState p.val = if 2 ≤ s.fget (F.RF_CTL_REQ p.val) ∧ s.flag F.CLK_STAT_REFOK = true then rfSYNTH else rfSTANDBY := by
    refine .of_exec (exec_pathTransitionDone (State.rfMayEnd_of hm hi hl))
      ((State.rfDone_rfState p.isLt hm (.inr ⟨hf, hr⟩) _ ⟨hi, (absurd · hx)⟩).trans ?_)
    rw [hst]
    exact if_congr (and_iff_right rfl) rfl rfl
  obtain hm | hm := hm
  · exact hdone hm RfMove.noConfusion RfMove.noConfusion RfMove.noConfusion rfl
  · exact hdone hm RfMove.noConfusion RfMove.noConfusion RfMove.noConfusion rfl

/-- To TRANSMIT, back from it, and down to SYNTH. -/
theorem pathDone_state {m : RfMove} (hm : (s.rfp p.val).move = m) (h : m = .toTransmit ∨ m = .fromTransmit ∨ m = .downSynth) :
    Completes (.pathTransitionDone p band) s fun t => t.rfState p.val = m.reaches := by
  have hne : m ≠ .idle ∧ m ≠ .toLock ∧ m ≠ .toReceive ∧ m.reaches ≠ rfSTANDBY := by
    obtain rfl | rfl | rfl := h <;> decide
  obtain ⟨hi, hl, hx, hst⟩ := hne
  exact .of_exec (exec_pathTransitionDone (State.rfMayEnd_of hm hi hl))
    ((State.rfDone_rfState p.isLt hm (.inr ⟨hf, hr⟩) _ ⟨hi, (absurd · hx)⟩).trans (if_neg fun h => hst h.1))

/-- LOCK at the end of the way to SYNTH, and the VCO band found by the path whose synthesizer drives it. -/
theorem pathDone_lock (hm : (s.rfp p.val).move = .toLock) (hok : s.flag F.CLK_STAT_REFOK = true)
    (hw : s.loMaster p.val = p.val ∨ s.flag (F.RF_STAT_LOCK (s.loMaster p.val)) = true) :
    Completes (.pathTransitionDone p band) s fun t => t.rfState p.val = rfSYNTH ∧ t.flag (F.RF_STAT_LOCK p.val) = true ∧
      t.fget (F.RF_STAT_VCOBAND p.val) = if s.loMaster p.val = p.val then band.toNat else s.fget (F.RF_STAT_VCOBAND p.val) := by
  have ha : s.Arrives p.val .toLock := ⟨RfMove.noConfusion, RfMove.noConfusion⟩
  have hfree : s.Free p.val .toLock := .inr ⟨hf, hr⟩
  have hst : (s.rfEnd p.val band.toNat .toLock).rfState p.val ≠ rfSTANDBY := by rw [ha.rfEnd_rfState]; decide
  have hmay : s.rfMayEnd p.val = true := by
    unfold State.rfMayEnd
    rw [hm]
    dsimp only
    rw [hok, Bool.true_and, Bool.or_eq_true, decide_eq_true_iff]
    exact hw
  obtain ⟨hlock, hband⟩ := State.rfEnd_lock s p.val band.toNat
  refine .of_exec (exec_pathTransitionDone hmay) ⟨?_, (State.rfDone_flag p.isLt hm hfree _ hst rfl).trans hlock, ?_⟩
  · exact (State.rfDone_rfState p.isLt hm hfree _ ha).trans (if_neg fun h => absurd h.1 (by decide))
  · refine (State.fget_congr (State.rfDone_reg hm hfree _ hst ?_)).trans (hband.trans ?_)
    · exact rfStat_addr p.val ▸ Settled.stat p.val p.isLt
    · rw [Nat.mod_eq_of_lt band.isLt]

theorem pathDone_receive (hm : (s.rfp p.val).move = .toReceive) (hq : s.fget (F.RF_CTL_REQ p.val) = 3)
    (hlock : s.flag (F.RF_STAT_LOCK p.val) = true) : Completes (.pathTransitionDone p band) s fun t =>
      t.rfState p.val = rfRECEIVE ∧ t.flag (F.RF_STAT_INVALID p.val) = false ∧ t.flag (F.RF_STAT_AGCSET p.val) = false ∧
      t.fget (F.RF_GAIN_GAIN p.val) = s.fget (F.RF_BB_MGAIN p.val).act ∧ (t.rfp p.val).move = .idle ∧
      ((s.rfp p.val).evPend = true → Rises s t (rfPage p.val) 0) := by
  have ha : s.Arrives p.val .toReceive := ⟨RfMove.noConfusion, fun _ => hlock⟩
  have hfree : s.Free p.val .toReceive := .inr ⟨hf, hr⟩
  have hend := ha.rfEnd_rfState band.toNat
  have hst : (s.rfEnd p.val band.toNat .toReceive).rfState p.val ≠ rfSTANDBY := by rw [hend]; decide
  have hreq := s.rfEnd_req p.val band.toNat .toReceive
  have hrests : (s.rfEnd p.val band.toNat .toReceive).Rests p.val :=
    .inr ⟨hreq.trans hq, .inl hend, hfree.rfEnd_retunePend _⟩
  obtain ⟨hgain, hagc, hinv⟩ := State.rfEnd_receive s p.val band.toNat hlock
  refine .of_exec (exec_pathTransitionDone (State.rfMayEnd_of hm RfMove.noConfusion RfMove.noConfusion)) ⟨?_, ?_, ?_, ?_, ?_, fun hev => ?_⟩
  · exact (State.rfDone_rfState p.isLt hm hfree _ ha).trans (if_neg fun h => absurd h.1 (by decide))
  · exact (State.rfDone_flag p.isLt hm hfree _ hst rfl).trans hinv
  · exact (State.rfDone_flag p.isLt hm hfree _ hst rfl).trans hagc
  · refine (State.fget_congr (State.rfDone_reg hm hfree _ hst ?_)).trans hgain
    simp only [F.RF_GAIN_GAIN, Settled, rfPage]
    omega
  · rw [State.rfDone_settles hm hfree]
    exact hrests.rfSettle_move _ (s.rfEnd_move _ _ _)
  · rw [State.rfDone_settles hm hfree, hev]
    have htold : Rises s ((s.rfEnd p.val band.toNat .toReceive).rfTold p.val true) (rfPage p.val) 0 :=
      (State.rfTold_rises _ p.val (hend.trans (hreq.trans hq).symm)).since
        ((s.rfEnd_carries p.val band.toNat .toReceive).keeps.regs _ (by unfold AsideStat; omega))
    exact (State.rfSettle_carries _ p.val true (hfree.rfEnd_retunePend _) fun h => hst h.1).rises _ _ _ (by decide) htold

/-- A lock that falls on the way from SYNTH to RECEIVE: the path stays. -/
theorem pathDone_lostLock (hm : (s.rfp p.val).move = .toReceive) (hq : s.fget (F.RF_CTL_REQ p.val) = 3)
    (hlock : s.flag (F.RF_STAT_LOCK p.val) = false) (hst : s.rfState p.val = rfSYNTH) : Completes (.pathTransitionDone p band) s fun t =>
      t.rfState p.val = s.rfState p.val ∧ (t.rfp p.val).move = .idle := by
  have hfree : s.Free p.val .toReceive := .inr ⟨hf, hr⟩
  have hend : s.rfEnd p.val band.toNat .toReceive = s.rfMove p.val .idle :=
    if_neg (by rw [show (s.rfMove p.val .idle).flag (F.RF_STAT_LOCK p.val) = false from hlock]; exact Bool.false_ne_true)
  have hpend : ((s.rfMove p.val .idle).rfp p.val).retunePend = false := hend ▸ hfree.rfEnd_retunePend band.toNat
  have hsynth : (s.rfMove p.val .idle).rfState p.val = rfSYNTH := hst
  have hrests : (s.rfMove p.val .idle).Rests p.val := .inr ⟨hq, .inr ⟨hsynth, hlock⟩, hpend⟩
  refine .of_exec (exec_pathTransitionDone (State.rfMayEnd_of hm RfMove.noConfusion RfMove.noConfusion)) ?_
  rw [State.rfDone_settles hm hfree, hend]
  refine ⟨(State.rfState_rfSettle _ p.val _ p.isLt hpend fun h => ?_).trans (if_neg fun h => ?_), hrests.rfSettle_move _ ?_⟩
  · exact absurd (hsynth.symm.trans h.1) (by decide)
  · exact absurd (hsynth.symm.trans h.1) (by decide)
  · exact congrArg RfSt.move (s.rfMove_idle p.val)

end

theorem pathDone_sleep (hm : (s.rfp p.val).move = .toSleep) (hq : s.fget (F.RF_CTL_REQ p.val) = 0) :
    Completes (.pathTransitionDone p band) s fun t =>
      t.rfState p.val = rfSLEEP ∧ t.flag (F.RF_STAT_LOCK p.val) = false ∧ t.flag (F.RF_STAT_AGCSET p.val) = false ∧
      (t.rfp p.val).move = .idle := by
  have ha : s.Arrives p.val .toSleep := ⟨RfMove.noConfusion, RfMove.noConfusion⟩
  have hfree : s.Free p.val .toSleep := .inl rfl
  have hend := ha.rfEnd_rfState band.toNat
  have hst : (s.rfEnd p.val band.toNat .toSleep).rfState p.val ≠ rfSTANDBY := by rw [hend]; decide
  obtain ⟨hlock, hagc⟩ := State.rfStopped_holds (((s.rfMove p.val .idle).fput (F.RF_STAT_STATE p.val) RfMove.toSleep.reaches)) p.val
  have hrests : (s.rfEnd p.val band.toNat .toSleep).Rests p.val := .inl ⟨(s.rfEnd_req _ _ _).trans hq, hend⟩
  refine .of_exec (exec_pathTransitionDone (State.rfMayEnd_of hm RfMove.noConfusion RfMove.noConfusion)) ⟨?_, ?_, ?_, ?_⟩
  · exact (State.rfDone_rfState p.isLt hm hfree _ ha).trans (if_neg fun h => absurd h.1 (by decide))
  · exact (State.rfDone_flag p.isLt hm hfree _ hst rfl).trans hlock
  · exact (State.rfDone_flag p.isLt hm hfree _ hst rfl).trans hagc
  · rw [State.rfDone_settles hm hfree]
    exact hrests.rfSettle_move _ (s.rfEnd_move _ _ _)

end

end Sys2Proof.Machine
end

section
/-! Locks lost and found again (04: R73, R74). -/

namespace Sys2Proof.Machine

-- one path after the other

/-- Over a list without repetition: what holds before its one step for `x` brings `Q`, and no other step loses either. -/
theorem foldl_once {α β : Type} {f : β → α → β} {I Q : β → Prop} {l : List α} {x : α} (hl : l.Nodup) (hx : x ∈ l)
    (hI : ∀ y ∈ l, y ≠ x → ∀ b, I b → I (f b y)) (hQ : ∀ y ∈ l, y ≠ x → ∀ b, Q b → Q (f b y)) (hb : ∀ b, I b → Q (f b x)) {b : β}
    (h : I b) : Q (l.foldl f b) := by
  obtain ⟨l₁, l₂, rfl⟩ := List.append_of_mem hx
  simp only [List.mem_append, List.mem_cons] at hI hQ
  rw [List.nodup_middle, List.nodup_cons, List.mem_append, not_or] at hl
  obtain ⟨⟨hx₁, hx₂⟩, -⟩ := hl
  rw [List.foldl_append, List.foldl_cons]
  have h₁ : I (l₁.foldl f b) := List.foldlRecOn l₁ f h fun b hb y hy => hI y (.inl hy) (fun e => hx₁ (e ▸ hy)) b hb
  exact List.foldlRecOn l₂ f (hb _ h₁) fun b hb y hy => hQ y (.inr (.inr hy)) (fun e => hx₂ (e ▸ hy)) b hb

theorem maskPaths_nodup (m : Nat) : (maskPaths m).Nodup := List.nodup_range.filter _

section
variable (s : State) (p : Nat)

theorem State.driven_nodup : (s.driven p).Nodup := by
  unfold State.driven
  split
  · exact maskPaths_nodup _
  · exact List.nodup_nil

variable {s p}

theorem State.lt_of_driven {q : Nat} (h : q ∈ s.driven p) : q < 8 := by
  unfold State.driven at h
  split at h
  · exact (mem_maskPaths.mp h).1
  · exact absurd h List.not_mem_nil

theorem State.mem_driven (hp : p < 8) (h : s.loMaster p = p) : p ∈ s.driven p := by
  unfold State.driven State.groupOf
  rw [if_pos h]
  dsimp only
  split
  · next ht => exact mem_maskPaths.mpr ⟨hp, ht⟩
  · exact mem_maskPaths.mpr ⟨hp, Nat.testBit_two_pow_self⟩

end

-- from one path's point of view

/-- From `s` to `t` another path than `q` has changed, or a calibration: RF_STAT and PG_EVEN of `q` stand, rises too, and of `q` itself
no more than its transition differs. -/
structure Beside (q : Nat) (s t : State) : Prop where
  stat : t.reg (rfPage q * 4096 + 0x044) = s.reg (rfPage q * 4096 + 0x044)
  even : t.reg (rfPage q * 4096 + 0x018) = s.reg (rfPage q * 4096 + 0x018)
  rises : ∀ r b, b < 32 → Rises r s (rfPage q) b → Rises r t (rfPage q) b
  rfp : ∃ m, t.rfp q = { s.rfp q with move := m }

namespace Beside

variable {q : Nat} {s t u : State}

theorem refl (s : State) : Beside q s s := ⟨rfl, rfl, fun _ _ _ h => h, _, rfl⟩

theorem trans (h : Beside q s t) (h' : Beside q t u) : Beside q s u := by
  obtain ⟨m, hm⟩ := h.rfp
  obtain ⟨m', hm'⟩ := h'.rfp
  exact ⟨h'.stat.trans h.stat, h'.even.trans h.even, fun r b hb hr => h'.rises r b hb (h.rises r b hb hr), m', by rw [hm', hm]⟩

theorem of_carries {R : Nat → Prop} (h : Carries State.comb R s t) (h44 : R (rfPage q * 4096 + 0x044)) (h18 : R (rfPage q * 4096 + 0x018))
    (hm : ∃ m, t.rfp q = { s.rfp q with move := m }) : Beside q s t :=
  ⟨h.keeps.regs _ h44, h.keeps.regs _ h18, fun r b hb hr => h.rises r _ b hb hr, hm⟩

theorem rfState (h : Beside q s t) : t.rfState q = s.rfState q := State.fget_congr (by rw [rfStat_addr]; exact h.stat)

theorem flag (h : Beside q s t) {f : Fld} (hf : f.addr = (0x020 + 1 * q) * 4096 + 0x044) : t.flag f = s.flag f :=
  State.flag_congr (by rw [hf]; have := h.stat; unfold rfPage at this; rwa [Nat.one_mul])

theorem of_rfp {R : Nat → Prop} (h : Carries State.comb R s t) (h44 : R (rfPage q * 4096 + 0x044)) (h18 : R (rfPage q * 4096 + 0x018))
    (hrf : t.rf = s.rf) : Beside q s t := of_carries h h44 h18 ⟨_, State.rfp_congr hrf q⟩

theorem ite {c : Prop} [Decidable c] (h : c → Beside q s t) (h' : ¬ c → Beside q s u) : Beside q s (if c then t else u) := by
  split
  · next hc => exact h hc
  · next hc => exact h' hc

variable (s)

theorem setRfp {p : Nat} (h : q ≠ p) (x : RfSt) : Beside q s (s.setRfp p x) :=
  of_carries (State.setRfp_carries (fun _ => True) s p x) trivial trivial ⟨_, s.rfp_setRfp_other x h⟩

theorem rfMove (p : Nat) (m : RfMove) : Beside q s (s.rfMove p m) := by
  by_cases h : q = p
  · subst h
    exact of_carries (State.setRfp_carries (fun _ => True) s q _) trivial trivial ⟨m, s.rfp_setRfp_same q _⟩
  · exact setRfp s h _

theorem fput {f : Fld} (hf : f.addr / 4096 ≠ rfPage q) (h1c : f.addr % 4096 ≠ 0x01C) (v : Nat) : Beside q s (s.fput f v) :=
  of_rfp (R := fun a => a / 4096 = rfPage q) (.fput comb_blind f v hf h1c s) (by omega) (by omega) rfl

theorem fputB {f : Fld} (hf : f.addr / 4096 ≠ rfPage q) (h1c : f.addr % 4096 ≠ 0x01C) (b : Bool) : Beside q s (s.fputB f b) := fput s hf h1c _

theorem evRise (p b : Nat) : Beside q s (s.evRise p b) :=
  of_rfp (R := fun a => a % 4096 ≠ 0x01C) (.evRise comb_blind p b (by omega) s) (by omega) (by omega) (s.evRise_rf p b)

/-- RF_STAT of another path. -/
theorem stat_other {p : Nat} (h : q ≠ p) {f : Fld} (hf : f.addr = (0x020 + 1 * p) * 4096 + 0x044) (v : Nat) : Beside q s (s.fput f v) :=
  fput s (by rw [hf]; unfold rfPage; omega) (by rw [hf]; omega) v

theorem setCal (c : CalStep) : Beside q s { s with rf.cal := c } :=
  of_carries (.of_eq (R := fun _ => True) rfl rfl rfl) trivial trivial ⟨(s.rfp q).move, rfl⟩

theorem sendAll (l : List Nat) (k : Nat) (m : RfMove) : Beside q s (l.foldl (State.send k m) s) :=
  List.foldlRecOn l _ (refl s) fun t ht p _ => ht.trans (ite (fun _ => rfMove t p m) fun _ => refl t)

variable (hq : q < 8)
include hq

theorem calStat {f : Fld} (hf : f.addr = 0x028048) (v : Nat) : Beside q s (s.fput f v) :=
  fput s (by rw [hf]; unfold rfPage; omega) (by rw [hf]; decide) v

theorem calAbandon (p : Nat) : Beside q s (s.calAbandon p) := by
  unfold State.calAbandon State.calFail
  refine ite (fun _ => ?_) fun _ => refl s
  have hend : Beside q s (s.calEnd 3 0) :=
    (((calStat s hq (f := F.CAL_STAT_BUSY) rfl _).trans (calStat _ hq (f := F.CAL_STAT_RESULT) rfl _)).trans
      (calStat _ hq (f := F.CAL_STAT_DONE) rfl _)).trans (setCal _ .idle)
  exact (hend.trans (sendAll _ _ _ _)).trans (evRise _ _ _)

theorem streamsUpdate : Beside q s s.streamsUpdate :=
  of_rfp ((State.streamsUpdate_carries comb_blind s)) (by unfold rfPage; omega) (by unfold rfPage; omega)
    (State.streamsUpdate_carries rf_blind s).keeps.view

variable {p : Nat} (h : q ≠ p)
include h

theorem tune : Beside q s (s.tune p) := by
  unfold State.tune
  exact (((calAbandon s hq p).trans (stat_other _ h rfl _)).trans ((stat_other _ h rfl _).trans (stat_other _ h rfl _))).trans (setRfp _ h _)

theorem rfAdvance : Beside q s (s.rfAdvance p) :=
  s.rfAdvance_steps p (refl s) .trans (calAbandon s hq p) (fun t m => rfMove t p m) (fun _ => tune s hq h) fun _ => stat_other s h rfl _

theorem rfFail : Beside q s (s.rfFail p) := by
  unfold State.rfFail
  exact ite (fun _ => (((calAbandon s hq p).trans (stat_other _ h rfl _)).trans (stat_other _ h rfl _)).trans (setRfp _ h _)) fun _ => refl s

end Beside

-- SYNTH_UNLOCK (R74)

/-- The lock of path `q` is lost since `s`: it relocks, with `n` attempts counted. -/
structure Unlocked (s : State) (n q : Nat) (t : State) : Prop where
  lock : t.flag (F.RF_STAT_LOCK q) = false
  invalid : t.flag (F.RF_STAT_INVALID q) = true
  state : t.rfState q = s.rfState q
  rises : Rises s t (rfPage q) 1
  relock : (t.rfp q).relock = true
  attempts : (t.rfp q).attempts = n

theorem Unlocked.beside {s t u : State} {n q : Nat} (h : Unlocked s n q t) (hb : Beside q t u) : Unlocked s n q u := by
  obtain ⟨m, hm⟩ := hb.rfp
  exact ⟨(hb.flag rfl).trans h.lock, (hb.flag rfl).trans h.invalid, hb.rfState.trans h.state, hb.rises _ _ (by decide) h.rises,
    by rw [hm]; exact h.relock, by rw [hm]; exact h.attempts⟩

/-- Path `q` without its lock: LOCK = 0, INVALID, and the attempts begin. -/
def State.lockLost (s : State) (n q : Nat) : State :=
  ((s.fputB (F.RF_STAT_LOCK q) false).fputB (F.RF_STAT_INVALID q) true).setRfp q { s.rfp q with relock := true, attempts := n }

/-- What the loss does to one path that the synthesizer drives. -/
def State.unlockStep (n : Nat) (s : State) (q : Nat) : State :=
  if rfSYNTH ≤ s.rfState q ∧ s.flag (F.RF_STAT_LOCK q) then (s.lockLost n q).evRise (rfPage q) 1 else s

section
variable (s : State) (n q : Nat)

theorem State.lockLost_lock : (s.lockLost n q).flag (F.RF_STAT_LOCK q) = false := by
  unfold State.lockLost
  rw [State.flag_setRfp, State.flag_fputB_other _ _ _ _ (Nat.le_of_ble_eq_true rfl) (.inr (.inl (Nat.le_of_ble_eq_true rfl)))]
  exact s.flag_fputB_same _ false (Nat.le_of_ble_eq_true rfl) (Nat.le_of_ble_eq_true rfl)

theorem State.lockLost_invalid : (s.lockLost n q).flag (F.RF_STAT_INVALID q) = true := by
  unfold State.lockLost
  rw [State.flag_setRfp]
  exact State.flag_fputB_same _ _ true (Nat.le_of_ble_eq_true rfl) (Nat.le_of_ble_eq_true rfl)

theorem State.lockLost_rfState : (s.lockLost n q).rfState q = s.rfState q := by
  unfold State.lockLost
  rw [State.rfState_setRfp, State.rfState_fputB _ q (Nat.le_of_ble_eq_true rfl) (Nat.le_of_ble_eq_true rfl),
    State.rfState_fputB _ q (Nat.le_of_ble_eq_true rfl) (Nat.le_of_ble_eq_true rfl)]

theorem State.lockLost_rfp : (s.lockLost n q).rfp q = { s.rfp q with relock := true, attempts := n } := State.rfp_setRfp_same _ q _

theorem State.lockLost_reg {a : Nat} (ha : a ≠ rfPage q * 4096 + 0x044) : (s.lockLost n q).reg a = s.reg a := by
  have hother {f : Fld} (hf : f.addr = (0x020 + 1 * q) * 4096 + 0x044) (t : State) (b : Bool) : (t.fputB f b).reg a = t.reg a :=
    t.reg_fput_other f _ (by rw [hf]; unfold rfPage at ha; rwa [Nat.one_mul])
  exact (((PathsOnly.refl _).setRfp q _).reg a).trans
    ((hother (f := F.RF_STAT_INVALID q) rfl _ _).trans (hother (f := F.RF_STAT_LOCK q) rfl _ _))

variable {s n q} {t : State}

theorem Beside.unlockStep (s : State) {p : Nat} (h : q ≠ p) : Beside q s (s.unlockStep n p) :=
  .ite (fun _ => (((Beside.stat_other s h rfl _).trans (.stat_other _ h rfl _)).trans (.setRfp _ h _)).trans (.evRise _ _ _)) fun _ => .refl s

theorem Unlocked.of_step (hb : Beside q s t) (hs : rfSYNTH ≤ s.rfState q) (hl : s.flag (F.RF_STAT_LOCK q) = true) :
    Unlocked s n q (t.unlockStep n q) := by
  have hif : rfSYNTH ≤ t.rfState q ∧ t.flag (F.RF_STAT_LOCK q) = true := ⟨hb.rfState ▸ hs, (hb.flag rfl).trans hl⟩
  have hrise : Beside q (t.lockLost n q) ((t.lockLost n q).evRise (rfPage q) 1) := .evRise _ _ _
  obtain ⟨m, hrfp⟩ := hrise.rfp
  have heven : (t.lockLost n q).reg (rfPage q * 4096 + 0x018) = s.reg (rfPage q * 4096 + 0x018) :=
    (t.lockLost_reg n q (by omega)).trans hb.even
  unfold State.unlockStep
  rw [if_pos hif]
  exact ⟨(hrise.flag rfl).trans (t.lockLost_lock n q), (hrise.flag rfl).trans (t.lockLost_invalid n q),
    hrise.rfState.trans ((t.lockLost_rfState n q).trans hb.rfState), .of_evRise (by decide) heven,
    by rw [hrfp, t.lockLost_rfp], by rw [hrfp, t.lockLost_rfp]⟩

theorem synthUnlock_holds {p : Fin 8} : Completes (.synthUnlock p) s fun t => ∀ q ∈ s.driven p.val, rfSYNTH ≤ s.rfState q →
    s.flag (F.RF_STAT_LOCK q) = true → t.flag (F.RF_STAT_LOCK q) = false ∧ t.flag (F.RF_STAT_INVALID q) = true ∧
      t.rfState q = s.rfState q ∧ Rises s t (rfPage q) 1 ∧ (t.rfp q).relock = true ∧ (t.rfp q).attempts = 1 := by
  refine .of_exec (t := (s.rfUnlock 1 p.val).streamsUpdate) rfl fun q hq hs hl => ?_
  have hlost : Unlocked s 1 q (s.rfUnlock 1 p.val) :=
    foldl_once (I := Beside q s) (s.driven_nodup p.val) hq (fun y _ hy b hb => hb.trans (.unlockStep b hy.symm))
      (fun y _ hy b hb => hb.beside (.unlockStep b hy.symm)) (fun b hb => .of_step hb hs hl) (.refl s)
  obtain ⟨hlock, hinv, hstate, hrise, hrelock, hattempts⟩ := hlost.beside (.streamsUpdate _ (State.lt_of_driven hq))
  exact ⟨hlock, hinv, hstate, hrise, hrelock, hattempts⟩

end

-- RELOCK_ATTEMPT_TIMEOUT (R74)

/-- What the end of an attempt does to one path that waits for the synthesizer. -/
def State.attemptStep (s : State) (q : Nat) : State :=
  if ¬ (s.rfp q).relock then s
  else if (s.rfp q).attempts < 3 then s.setRfp q { s.rfp q with attempts := (s.rfp q).attempts + 1 }
  else ((((s.setRfp q { s.rfp q with relock := false, attempts := 0, failed := true }).rfFail q).fault (rfPage q) 2).evRise (rfPage q) 2)

theorem Beside.attemptStep (s : State) {p q : Nat} (hq : q < 8) (h : q ≠ p) : Beside q s (s.attemptStep p) := by
  have hfault (t : State) : Beside q t (t.fault (rfPage p) 2) :=
    .fputB t (by simp only [PG_FAULT, rfPage]; omega) (by simp only [PG_FAULT, rfPage]; omega) true
  exact .ite (fun _ => .refl s) fun _ => .ite (fun _ => .setRfp s h _) fun _ =>
    (((Beside.setRfp s h _).trans (.rfFail _ hq h)).trans (hfault _)).trans (.evRise _ _ _)

theorem State.reg_fault_other (s : State) (p b : Nat) {a : Nat} (h : a ≠ p * 4096 + 0x020) : (s.fault p b).reg a = s.reg a :=
  s.reg_fput_other (PG_FAULT p b) _ h

/-- A lock that has failed takes the path to STANDBY. -/
def State.lockFailed (s : State) (q : Nat) : State :=
  ((s.fput (F.RF_STAT_STATE q) rfSTANDBY).fputB (F.RF_STAT_AGCSET q) false).setRfp q
    { s.rfp q with move := .idle, retune := false, retunePend := false }

section
variable {s : State} (q : Nat)

theorem State.calAbandon_idle (hc : s.rf.cal = .idle) : s.calAbandon q = s := by
  unfold State.calAbandon State.calHolds
  rw [hc]
  exact if_neg Bool.false_ne_true

theorem State.rfFail_eq (hc : s.rf.cal = .idle) (hs : rfSYNTH ≤ s.rfState q) (hi : (s.rfp q).move = .idle) : s.rfFail q = s.lockFailed q := by
  unfold State.rfFail
  rw [if_pos ⟨hs, hi⟩, s.calAbandon_idle q hc]
  rfl

theorem State.attemptStep_fails (hw : (s.rfp q).relock = true) (hn : 3 ≤ (s.rfp q).attempts) (hc : s.rf.cal = .idle)
    (hs : rfSYNTH ≤ s.rfState q) (hi : (s.rfp q).move = .idle) : s.attemptStep q =
      (((s.setRfp q { s.rfp q with relock := false, attempts := 0, failed := true }).lockFailed q).fault (rfPage q) 2).evRise (rfPage q) 2 := by
  unfold State.attemptStep
  rw [if_neg (fun h => h hw), if_neg (by omega)]
  exact congrArg (fun t : State => (t.fault (rfPage q) 2).evRise (rfPage q) 2)
    (State.rfFail_eq q hc hs ((congrArg RfSt.move (s.rfp_setRfp_same q _)).trans hi))

theorem State.lockFailed_rfState : (s.lockFailed q).rfState q = rfSTANDBY := by
  unfold State.lockFailed
  rw [State.rfState_setRfp, State.rfState_fputB _ q (Nat.le_of_ble_eq_true rfl) (Nat.le_of_ble_eq_true rfl)]
  exact State.rfState_fput_same _ q (by decide)

theorem State.lockFailed_reg {a : Nat} (ha : a ≠ rfPage q * 4096 + 0x044) : (s.lockFailed q).reg a = s.reg a := by
  have hother {f : Fld} (hf : f.addr = (0x020 + 1 * q) * 4096 + 0x044) (t : State) (v : Nat) : (t.fput f v).reg a = t.reg a :=
    t.reg_fput_other f _ (by rw [hf]; unfold rfPage at ha; rwa [Nat.one_mul])
  exact (((PathsOnly.refl _).setRfp q _).reg a).trans
    ((hother (f := F.RF_STAT_AGCSET q) rfl _ _).trans (hother (f := F.RF_STAT_STATE q) rfl _ _))

end

section
variable {s : State} {p : Fin 8} (hw : (s.rfp p.val).relock = true) (hok : s.flag F.CLK_STAT_REFOK = true)
include hw hok

theorem exec_relockAttemptTimeout :
    exec (.relockAttemptTimeout p) s = .next ((s.driven p.val).foldl State.attemptStep s).streamsUpdate :=
  congrArg Host.Outcome.next (if_neg fun h => h.elim (fun h => h hw) fun h => h hok)

theorem relockAttempt_counts (hlo : s.loMaster p.val = p.val) (hn : (s.rfp p.val).attempts < 3) :
    Completes (.relockAttemptTimeout p) s fun t => (t.rfp p.val).attempts = (s.rfp p.val).attempts + 1 ∧
      t.reg (F.RF_STAT_LOCK p.val).addr = s.reg (F.RF_STAT_LOCK p.val).addr := by
  have hcounted : Beside p.val (s.setRfp p.val { s.rfp p.val with attempts := (s.rfp p.val).attempts + 1 })
      ((s.driven p.val).foldl State.attemptStep s) := by
    refine foldl_once (I := Beside p.val s) (s.driven_nodup p.val) (State.mem_driven p.isLt hlo)
      (fun y _ hy b hb => hb.trans (.attemptStep b p.isLt hy.symm)) (fun y _ hy b hb => hb.trans (.attemptStep b p.isLt hy.symm))
      (fun b hb => ?_) (.refl s)
    obtain ⟨m, hm⟩ := hb.rfp
    have hstep : b.attemptStep p.val = b.setRfp p.val { b.rfp p.val with attempts := (b.rfp p.val).attempts + 1 } := by
      unfold State.attemptStep
      rw [hm, if_neg (fun h => h hw), if_pos hn]
    rw [hstep]
    exact ⟨hb.stat, hb.even, hb.rises, m, by rw [State.rfp_setRfp_same, State.rfp_setRfp_same, hm]⟩
  have hall := hcounted.trans (.streamsUpdate _ p.isLt)
  obtain ⟨m, hm⟩ := hall.rfp
  refine .of_exec (exec_relockAttemptTimeout hw hok) ⟨by rw [hm, State.rfp_setRfp_same], ?_⟩
  have hreg := hall.stat.trans (((PathsOnly.refl s).setRfp p.val _).reg _)
  simpa only [rfPage, F.RF_STAT_LOCK, Nat.one_mul] using hreg

theorem relockAttempt_fails (hd : s.driven p.val = [p.val]) (hn : 3 ≤ (s.rfp p.val).attempts) (hc : s.rf.cal = .idle)
    (hs : rfSYNTH ≤ s.rfState p.val) (hi : (s.rfp p.val).move = .idle) : Completes (.relockAttemptTimeout p) s fun t =>
      t.rfState p.val = rfSTANDBY ∧ t.flag (PG_FAULT (rfPage p.val) 2) = true ∧ Rises s t (rfPage p.val) 2 ∧
      ∀ a, a / 4096 ≠ 0x038 → a ∉ [rfPage p.val * 4096 + 0x01C, rfPage p.val * 4096 + 0x020, rfPage p.val * 4096 + 0x044] →
        t.reg a = s.reg a := by
  have hp := p.isLt
  refine .of_exec (exec_relockAttemptTimeout hw hok) ?_
  rw [hd, List.foldl_cons, List.foldl_nil, State.attemptStep_fails p.val hw hn hc hs hi]
  generalize hx : s.setRfp p.val _ = x
  have hregs (a : Nat) : x.reg a = s.reg a := hx ▸ rfl
  have hstate := x.lockFailed_rfState p.val
  have hfailed {a : Nat} (ha : a ≠ rfPage p.val * 4096 + 0x044) := (x.lockFailed_reg p.val ha).trans (hregs a)
  generalize x.lockFailed p.val = y at *
  have hrise := Rises.of_evRise (s := s) (t := y.fault (rfPage p.val) 2) (p := rfPage p.val) (b := 2) (by decide)
    ((y.reg_fault_other _ _ (by omega)).trans (hfailed (by omega)))
  have hup : Carries State.comb (fun a => a / 4096 ≠ 0x038) ((y.fault (rfPage p.val) 2).evRise (rfPage p.val) 2) _ :=
    State.streamsUpdate_carries comb_blind _
  have hreg {a : Nat} (h38 : a / 4096 ≠ 0x038) (h1c : a ≠ rfPage p.val * 4096 + 0x01C) (h20 : a ≠ rfPage p.val * 4096 + 0x020) :
      ((y.fault (rfPage p.val) 2).evRise (rfPage p.val) 2).streamsUpdate.reg a = y.reg a :=
    (hup.keeps.regs a h38).trans ((State.reg_evRise_other _ _ _ h1c).trans (y.reg_fault_other _ _ h20))
  refine ⟨?_, ?_, hup.rises _ _ _ (by decide) hrise, fun a h38 ha => ?_⟩
  · refine Eq.trans (State.fget_congr ?_) hstate
    rw [rfStat_addr]
    exact hreg (by unfold rfPage; omega) (by omega) (by omega)
  · refine (hup.flag (by simp only [PG_FAULT, rfPage]; omega)).trans ?_
    exact (State.flag_evRise_other _ _ _ _ (by simp only [PG_FAULT]; omega)).trans (y.flag_fault _ (by decide))
  · simp only [List.mem_cons, List.not_mem_nil, or_false, not_or] at ha
    obtain ⟨h1c, h20, h44⟩ := ha
    exact (hreg h38 h1c h20).trans (hfailed h44)

end

-- SYNTH_RELOCK (R73, R74)

/-- From `s` to `t` path `q` took up what comes next: its transition apart, and in RF_STAT STATE apart, it stands. -/
structure Advanced (q : Nat) (s t : State) : Prop where
  stat : ∀ f : Fld, f.addr = (0x020 + 1 * q) * 4096 + 0x044 → 3 ≤ f.lo → t.fget f = s.fget f
  rfp : ∃ m, t.rfp q = { s.rfp q with move := m }

namespace Advanced

variable {q : Nat} {s t u : State}

theorem refl (s : State) : Advanced q s s := ⟨fun _ _ _ => rfl, _, rfl⟩

theorem trans (h : Advanced q s t) (h' : Advanced q t u) : Advanced q s u := by
  obtain ⟨m, hm⟩ := h.rfp
  obtain ⟨m', hm'⟩ := h'.rfp
  exact ⟨fun f ha hf => (h'.stat f ha hf).trans (h.stat f ha hf), m', by rw [hm', hm]⟩

theorem of_beside (h : Beside q s t) : Advanced q s t :=
  ⟨fun _ hf _ => State.fget_congr (by rw [hf]; have := h.stat; unfold rfPage at this; rwa [Nat.one_mul]), h.rfp⟩

theorem of_rfAdvance (hq : q < 8) (hr : (s.rfp q).retunePend = false) : Advanced q s (s.rfAdvance q) :=
  s.rfAdvance_steps q (refl s) .trans (of_beside (.calAbandon s hq q)) (fun t m => of_beside (.rfMove t q m))
    (fun h => absurd (hr.symm.trans h) Bool.false_ne_true) fun _ => ⟨fun _ _ hf => State.fget_rfState s q hf _, _, rfl⟩

end Advanced

/-- Path `q` with its lock back. -/
def State.lockBack (s : State) (q : Nat) : State :=
  ((s.fputB (F.RF_STAT_LOCK q) true).fputB (F.RF_STAT_INVALID q) (s.rfp q).retune).setRfp q { s.rfp q with relock := false, attempts := 0 }

def State.relockStep (s : State) (q : Nat) : State := if (s.rfp q).relock then (s.lockBack q).rfAdvance q else s

/-- Path `q` has its lock back in the band `v`; INVALID is that of a retune alone. -/
structure Relocked (q : Nat) (retune : Bool) (v : Nat) (t : State) : Prop where
  lock : t.flag (F.RF_STAT_LOCK q) = true
  invalid : t.flag (F.RF_STAT_INVALID q) = retune
  band : t.fget (F.RF_STAT_VCOBAND q) = v
  relock : (t.rfp q).relock = false

section
variable {s t : State} {p q v : Nat} {b : Bool}

theorem Relocked.advanced (h : Relocked q b v s) (ha : Advanced q s t) : Relocked q b v t := by
  obtain ⟨m, hm⟩ := ha.rfp
  have hflag (f : Fld) (hf : f.addr = (0x020 + 1 * q) * 4096 + 0x044) (hlo : 3 ≤ f.lo) : t.flag f = s.flag f :=
    congrArg (fun n : Nat => decide (n ≠ 0)) (ha.stat f hf hlo)
  exact ⟨(hflag _ rfl (Nat.le_of_ble_eq_true rfl)).trans h.lock, (hflag _ rfl (Nat.le_of_ble_eq_true rfl)).trans h.invalid,
    (ha.stat _ rfl (Nat.le_of_ble_eq_true rfl)).trans h.band, by rw [hm]; exact h.relock⟩

theorem State.lockBack_relocked (s : State) (q : Nat) : Relocked q (s.rfp q).retune (s.fget (F.RF_STAT_VCOBAND q)) (s.lockBack q) := by
  have hrfp : (s.lockBack q).rfp q = { s.rfp q with relock := false, attempts := 0 } := State.rfp_setRfp_same _ q _
  refine ⟨?_, ?_, ?_, by rw [hrfp]⟩
  · unfold State.lockBack
    rw [State.flag_setRfp, State.flag_fputB_other _ _ _ _ (Nat.le_of_ble_eq_true rfl) (.inr (.inl (Nat.le_of_ble_eq_true rfl)))]
    exact s.flag_fputB_same _ true (Nat.le_of_ble_eq_true rfl) (Nat.le_of_ble_eq_true rfl)
  · unfold State.lockBack
    rw [State.flag_setRfp]
    exact State.flag_fputB_same _ _ _ (Nat.le_of_ble_eq_true rfl) (Nat.le_of_ble_eq_true rfl)
  · unfold State.lockBack State.fputB
    rw [State.fget_setRfp, State.fget_fput_other _ _ _ _ (Nat.le_of_ble_eq_true rfl) (.inr (.inr (Nat.le_of_ble_eq_true rfl))),
      State.fget_fput_other _ _ _ _ (Nat.le_of_ble_eq_true rfl) (.inr (.inr (Nat.le_of_ble_eq_true rfl)))]

theorem Beside.relockStep (s : State) (hq : q < 8) (h : q ≠ p) : Beside q s (s.relockStep p) :=
  .ite (fun _ => (((Beside.stat_other s h (f := F.RF_STAT_LOCK p) rfl _).trans (.stat_other _ h (f := F.RF_STAT_INVALID p) rfl _)).trans
    (.setRfp _ h _)).trans (.rfAdvance _ hq h)) fun _ => .refl s

theorem Relocked.of_step (hq : q < 8) (hb : Beside q s t) (hw : (s.rfp q).relock = true) (hr : (s.rfp q).retunePend = false) :
    Relocked q (s.rfp q).retune (s.fget (F.RF_STAT_VCOBAND q)) (t.relockStep q) := by
  obtain ⟨m, hm⟩ := hb.rfp
  have hback := t.lockBack_relocked q
  have hpend : ((t.lockBack q).rfp q).retunePend = false := by
    rw [show (t.lockBack q).rfp q = { t.rfp q with relock := false, attempts := 0 } from State.rfp_setRfp_same _ q _, hm]
    exact hr
  rw [(Advanced.of_beside hb).stat _ rfl (Nat.le_of_ble_eq_true rfl), hm] at hback
  unfold State.relockStep
  rw [if_pos (show (t.rfp q).relock = true by rw [hm]; exact hw)]
  exact hback.advanced (.of_rfAdvance hq hpend)

theorem synthRelock_holds {p : Fin 8} (band : BitVec 5) (hw : (s.rfp p.val).relock = true) (hok : s.flag F.CLK_STAT_REFOK = true)
    (hlo : s.loMaster p.val = p.val) (hr : (s.rfp p.val).retunePend = false) : Completes (.synthRelock p band) s fun t =>
      t.flag (F.RF_STAT_LOCK p.val) = true ∧ t.flag (F.RF_STAT_INVALID p.val) = (s.rfp p.val).retune ∧
      t.fget (F.RF_STAT_VCOBAND p.val) = band.toNat ∧ (t.rfp p.val).relock = false := by
  have hexec : exec (.synthRelock p band) s =
      .next ((s.driven p.val).foldl State.relockStep (s.fput (F.RF_STAT_VCOBAND p.val) band.toNat)).streamsUpdate :=
    congrArg Host.Outcome.next (if_pos ⟨hw, hok, hlo⟩)
  have hput : (s.fput (F.RF_STAT_VCOBAND p.val) band.toNat).fget (F.RF_STAT_VCOBAND p.val) = band.toNat :=
    (s.fget_fput_same _ _ (Nat.le_of_ble_eq_true rfl)).trans (Nat.mod_eq_of_lt band.isLt)
  have hback : Relocked p.val (s.rfp p.val).retune band.toNat
      ((s.driven p.val).foldl State.relockStep (s.fput (F.RF_STAT_VCOBAND p.val) band.toNat)) := by
    refine foldl_once (I := Beside p.val (s.fput (F.RF_STAT_VCOBAND p.val) band.toNat)) (s.driven_nodup p.val) (State.mem_driven p.isLt hlo)
      (fun y _ hy b hb => hb.trans (.relockStep b p.isLt hy.symm))
      (fun y _ hy b hb => hb.advanced (.of_beside (.relockStep b p.isLt hy.symm))) (fun b hb => ?_) (.refl _)
    have hstep := Relocked.of_step p.isLt hb hw hr
    rwa [hput] at hstep
  obtain ⟨hlock, hinv, hband, hrelock⟩ := hback.advanced (.of_beside (.streamsUpdate _ p.isLt))
  exact .of_exec hexec ⟨hlock, hinv, hband, hrelock⟩

end

end Sys2Proof.Machine
end

section
/-! AGC blocks (04: R67, R68). -/

namespace Sys2Proof.Machine

section
variable {s : State} {p : Fin 8}

/-- The block is over: counted among the first ten, and the next one open. -/
def State.blockOver (s : State) (p : Nat) : RfSt :=
  { s.rfp p with agcBlocks := min 10 ((s.rfp p).agcBlocks + 1), pow := 0, powN := 0, blk := s.blanked p }

/-- A block that steps the gain: the blocks in a row within 1 dB, whether the gain is at a limit, and the gain and AGCSET that follow. -/
def State.agcStepped (s : State) (p ok g : Nat) (stuck : Bool) : State :=
  (((s.setRfp p { s.blockOver p with agcOk := ok, agcSat := stuck }).fput (F.RF_GAIN_GAIN p) g).fputB (F.RF_STAT_AGCSET p)
    (decide (5 ≤ ok))).when (stuck && !(s.rfp p).agcSat) (·.evRise (rfPage p) 3)

theorem State.agcStepped_holds (s : State) (p ok : Nat) {g : Nat} (hg : g < 64) (stuck : Bool) :
    (s.agcStepped p ok g stuck).fget (F.RF_GAIN_GAIN p) = g ∧ (s.agcStepped p ok g stuck).flag (F.RF_STAT_AGCSET p) = decide (5 ≤ ok) ∧
    (stuck = true → (s.rfp p).agcSat = false → Rises s (s.agcStepped p ok g stuck) (rfPage p) 3) := by
  have hgain : (F.RF_GAIN_GAIN p).addr = rfPage p * 4096 + 0x054 := by simp only [F.RF_GAIN_GAIN, rfPage, Nat.one_mul]
  have hset : (F.RF_STAT_AGCSET p).addr = rfPage p * 4096 + 0x044 := by simp only [F.RF_STAT_AGCSET, rfPage, Nat.one_mul]
  unfold State.agcStepped
  generalize hx : s.setRfp p _ = x
  have hregs (a : Nat) : x.reg a = s.reg a := hx ▸ rfl
  generalize hy : (x.fput (F.RF_GAIN_GAIN p) g).fputB (F.RF_STAT_AGCSET p) (decide (5 ≤ ok)) = y
  have hyg : y.fget (F.RF_GAIN_GAIN p) = g := by
    rw [← hy]
    unfold State.fputB
    rw [State.fget_fput_other _ _ _ _ (Nat.le_of_ble_eq_true rfl) (.inl (by rw [hgain, hset]; omega)),
      x.fget_fput_same _ _ (Nat.le_of_ble_eq_true rfl)]
    exact Nat.mod_eq_of_lt hg
  have hys : y.flag (F.RF_STAT_AGCSET p) = decide (5 ≤ ok) := by
    rw [← hy]
    exact State.flag_fputB_same _ _ _ (Nat.le_of_ble_eq_true rfl) (Nat.le_of_ble_eq_true rfl)
  have heven : y.reg (rfPage p * 4096 + 0x018) = s.reg (rfPage p * 4096 + 0x018) := by
    rw [← hy]
    unfold State.fputB
    rw [State.reg_fput_other _ _ _ (by rw [hset]; omega), State.reg_fput_other _ _ _ (by rw [hgain]; omega), hregs]
  have hreg {a : Nat} (ha : a ≠ rfPage p * 4096 + 0x01C) := y.reg_when_evRise (stuck && !(s.rfp p).agcSat) (rfPage p) 3 ha
  refine ⟨(State.fget_congr (hreg (by rw [hgain]; omega))).trans hyg, (State.flag_congr (hreg (by rw [hset]; omega))).trans hys, fun h hs => ?_⟩
  rw [h, hs]
  exact .of_evRise (by decide) heven

variable (hs : s.rfState p.val = rfRECEIVE) (hn : (s.rfp p.val).powN ≠ 0)
include hs hn

/-- What a block of a path in RECEIVE does, by whether it counts. -/
theorem exec_agcBlock : exec (.agcBlock p) s = .next (
    let x := s.rfp p.val
    let g := s.fget (F.RF_GAIN_GAIN p.val)
    let step := if x.agcBlocks < 10 then 4 else 1
    let within := x.within (s.fget (F.RF_AGC_TARGET p.val))
    let g' := if within then g else if x.above (s.fget (F.RF_AGC_TARGET p.val)) then g - step else min 63 (g + step)
    if ¬ s.flag (F.RF_CTL_AGCEN p.val) then (s.setRfp p.val (s.blockOver p.val)).fput (F.RF_GAIN_GAIN p.val) (s.fget (F.RF_BB_MGAIN p.val).act)
    else if x.blk then s.setRfp p.val (s.blockOver p.val)
    else s.agcStepped p.val (if within then min 5 (x.agcOk + 1) else 0) g' (!within && decide (g' = g))) :=
  congrArg Host.Outcome.next (if_neg fun h => h.elim (· hs) hn)

theorem agcBlock_manual (hon : s.flag (F.RF_CTL_AGCEN p.val) = false) : Completes (.agcBlock p) s fun t =>
    t.fget (F.RF_GAIN_GAIN p.val) = s.fget (F.RF_BB_MGAIN p.val).act ∧ ∀ a, a ≠ (F.RF_GAIN_GAIN p.val).addr → t.reg a = s.reg a := by
  refine .of_exec ((exec_agcBlock hs hn).trans (congrArg Host.Outcome.next (if_pos (by rw [hon]; exact Bool.false_ne_true)))) ⟨?_, fun a ha => ?_⟩
  · exact (State.fget_fput_same _ _ _ (Nat.le_of_ble_eq_true rfl)).trans (Nat.mod_eq_of_lt (s.fget_lt _))
  · exact (State.reg_fput_other _ _ _ ha).trans (((PathsOnly.refl s).setRfp p.val _).reg a)

variable (hon : s.flag (F.RF_CTL_AGCEN p.val) = true)
include hon

theorem agcBlock_blanked (hb : (s.rfp p.val).blk = true) : Completes (.agcBlock p) s fun t => t.regs = s.regs ∧ (t.rfp p.val).powN = 0 :=
  .of_exec ((exec_agcBlock hs hn).trans (congrArg Host.Outcome.next ((if_neg fun h => h hon).trans (if_pos hb))))
    ⟨rfl, congrArg RfSt.powN (s.rfp_setRfp_same p.val _)⟩

variable (hb : (s.rfp p.val).blk = false)
include hb

/-- A counted block steps the gain. -/
theorem exec_agcBlock_steps {ok g : Nat} {stuck : Bool}
    (hok : (if (s.rfp p.val).within (s.fget (F.RF_AGC_TARGET p.val)) then min 5 ((s.rfp p.val).agcOk + 1) else 0) = ok)
    (hg : (if (s.rfp p.val).within (s.fget (F.RF_AGC_TARGET p.val)) then s.fget (F.RF_GAIN_GAIN p.val)
      else if (s.rfp p.val).above (s.fget (F.RF_AGC_TARGET p.val)) then
        s.fget (F.RF_GAIN_GAIN p.val) - (if (s.rfp p.val).agcBlocks < 10 then 4 else 1)
      else min 63 (s.fget (F.RF_GAIN_GAIN p.val) + if (s.rfp p.val).agcBlocks < 10 then 4 else 1)) = g)
    (hstuck : (!(s.rfp p.val).within (s.fget (F.RF_AGC_TARGET p.val)) && decide (g = s.fget (F.RF_GAIN_GAIN p.val))) = stuck) :
    exec (.agcBlock p) s = .next (s.agcStepped p.val ok g stuck) := by
  refine (exec_agcBlock hs hn).trans (congrArg Host.Outcome.next ((if_neg fun h => h hon).trans ((if_neg ?_).trans ?_)))
  · rw [hb]
    exact Bool.false_ne_true
  · subst hok hg hstuck
    rfl

theorem agcBlock_within (hw : (s.rfp p.val).within (s.fget (F.RF_AGC_TARGET p.val)) = true) : Completes (.agcBlock p) s fun t =>
    t.fget (F.RF_GAIN_GAIN p.val) = s.fget (F.RF_GAIN_GAIN p.val) ∧
    t.flag (F.RF_STAT_AGCSET p.val) = decide (4 ≤ (s.rfp p.val).agcOk) := by
  obtain ⟨hgain, hset, -⟩ := s.agcStepped_holds p.val (min 5 ((s.rfp p.val).agcOk + 1)) (s.fget_lt (F.RF_GAIN_GAIN p.val)) false
  refine .of_exec (exec_agcBlock_steps hs hn hon hb (if_pos hw) (if_pos hw) (by rw [hw]; rfl)) ⟨hgain, hset.trans (decide_eq_decide.mpr ?_)⟩
  omega

/-- A block outside 1 dB steps the gain and clears AGCSET; at a limit it raises AGCSAT. -/
theorem agcBlock_outside (hw : (s.rfp p.val).within (s.fget (F.RF_AGC_TARGET p.val)) = false) {g : Nat} (hlt : g < 64)
    (hg : (if (s.rfp p.val).above (s.fget (F.RF_AGC_TARGET p.val)) then
        s.fget (F.RF_GAIN_GAIN p.val) - (if (s.rfp p.val).agcBlocks < 10 then 4 else 1)
      else min 63 (s.fget (F.RF_GAIN_GAIN p.val) + if (s.rfp p.val).agcBlocks < 10 then 4 else 1)) = g) : Completes (.agcBlock p) s fun t =>
    t.fget (F.RF_GAIN_GAIN p.val) = g ∧ t.flag (F.RF_STAT_AGCSET p.val) = false ∧
    (g = s.fget (F.RF_GAIN_GAIN p.val) → (s.rfp p.val).agcSat = false → Rises s t (rfPage p.val) 3) := by
  have hno : ¬ (s.rfp p.val).within (s.fget (F.RF_AGC_TARGET p.val)) = true := by rw [hw]; exact Bool.false_ne_true
  obtain ⟨hgain, hset, hrise⟩ := s.agcStepped_holds p.val 0 hlt (decide (g = s.fget (F.RF_GAIN_GAIN p.val)))
  exact .of_exec (exec_agcBlock_steps hs hn hon hb (if_neg hno) ((if_neg hno).trans hg) (by rw [hw]; rfl))
    ⟨hgain, hset, fun heq => hrise (decide_eq_true heq)⟩

theorem agcBlock_above (hw : (s.rfp p.val).within (s.fget (F.RF_AGC_TARGET p.val)) = false)
    (ha : (s.rfp p.val).above (s.fget (F.RF_AGC_TARGET p.val)) = true) : Completes (.agcBlock p) s fun t =>
      t.fget (F.RF_GAIN_GAIN p.val) = s.fget (F.RF_GAIN_GAIN p.val) - (if (s.rfp p.val).agcBlocks < 10 then 4 else 1) ∧
      t.flag (F.RF_STAT_AGCSET p.val) = false ∧
      (s.fget (F.RF_GAIN_GAIN p.val) = 0 → (s.rfp p.val).agcSat = false → Rises s t (rfPage p.val) 3) := by
  have hlt := s.fget_lt (F.RF_GAIN_GAIN p.val)
  obtain ⟨t, ht, hgain, hset, hrise⟩ := agcBlock_outside hs hn hon hb hw (Nat.lt_of_le_of_lt (Nat.sub_le _ _) hlt) (if_pos ha)
  exact ⟨t, ht, hgain, hset, fun h0 => hrise (by omega)⟩

theorem agcBlock_below (hw : (s.rfp p.val).within (s.fget (F.RF_AGC_TARGET p.val)) = false)
    (ha : (s.rfp p.val).above (s.fget (F.RF_AGC_TARGET p.val)) = false) : Completes (.agcBlock p) s fun t =>
      t.fget (F.RF_GAIN_GAIN p.val) = min 63 (s.fget (F.RF_GAIN_GAIN p.val) + if (s.rfp p.val).agcBlocks < 10 then 4 else 1) ∧
      t.flag (F.RF_STAT_AGCSET p.val) = false ∧
      (s.fget (F.RF_GAIN_GAIN p.val) = 63 → (s.rfp p.val).agcSat = false → Rises s t (rfPage p.val) 3) := by
  obtain ⟨t, ht, hgain, hset, hrise⟩ := agcBlock_outside hs hn hon hb hw (Nat.lt_of_le_of_lt (Nat.min_le_left _ _) (by decide))
    (if_neg (by rw [ha]; exact Bool.false_ne_true))
  exact ⟨t, ht, hgain, hset, fun h63 => hrise (by omega)⟩

end

end Sys2Proof.Machine
end

section
/-! A lock that falls on the way to RECEIVE (04: R76). The statement has the path keep its STATE, whatever that is; the model lets a path in
STANDBY whose transition to RECEIVE ends so go on to SYNTH, because its REQ asks for more than STANDBY. -/

namespace Sys2Proof.Machine

/-- Path 0 in STANDBY with REQ = 3, LOCK = 0 and the reference there, and a transition to RECEIVE recorded for it. -/
def astrayPath : State :=
  { regs := [(F.CLK_STAT_REFOK.addr, F.CLK_STAT_REFOK.put 0 1), ((F.RF_CTL_REQ 0).addr, (F.RF_CTL_REQ 0).put 0 3),
      ((F.RF_STAT_STATE 0).addr, (F.RF_STAT_STATE 0).put 0 rfSTANDBY)],
    rf.paths := [(0, { move := .toReceive })] }

theorem exec_pathTransitionDone_astrayPath : exec (.pathTransitionDone 0 0) astrayPath = .next (astrayPath.rfDone 0 0) :=
  congrArg Host.Outcome.next (if_pos (by decide))

theorem astrayPath_standby : astrayPath.rfState 0 = rfSTANDBY := by decide

theorem astrayPath_synth : (astrayPath.rfDone 0 0).rfState 0 = rfSYNTH := by decide +kernel

/-- Refutes O7: a path in STANDBY whose transition to RECEIVE ends without LOCK goes on to SYNTH, where the clause has it keep its STATE.
The clause asks nothing of the STATE before; its words speak of the way from SYNTH to RECEIVE. -/
theorem not_pathStatesFollowTheirRequests : ¬ Obligations.PathStatesFollowTheirRequests := by
  unfold Obligations.PathStatesFollowTheirRequests
  intro h
  obtain ⟨-, -, -, -, hdone, -⟩ := h astrayPath 0
  obtain ⟨-, -, hclean, -⟩ := hdone 0
  obtain ⟨-, -, -, -, hlost, -⟩ := hclean (by decide) (by decide)
  obtain ⟨t, ht, hstate, -⟩ := hlost (by decide) (by decide) (by decide)
  cases exec_pathTransitionDone_astrayPath.symm.trans ht
  exact absurd (astrayPath_synth.symm.trans (hstate.trans astrayPath_standby)) (by decide)

end Sys2Proof.Machine
end
